-- ==== Sys2Proof/Word.lean ====
section
/-! DEFINITION. The word types of the KB-M1000 and the plainest arithmetic on them. -/

namespace Sys2Proof

/-- One byte of scratch or global memory (R7). -/
abbrev Byte := BitVec 8
/-- A 64-bit scalar register or syllable (R31, R42). -/
abbrev Word := BitVec 64
/-- A 1,024-bit vector register of 32 lanes of 32 bits (R42, R116). -/
abbrev VReg := BitVec 1024

end Sys2Proof
end

