-- ==== Sys2Proof/Config.lean ====
section
/-! DEFINITION. The free values of the model: constants with no body, so that nothing is known of what
they answer (log 1). Each is applied to the counter `tick` of State, or to the operands where the spec
makes the value a fixed function of them. -/

namespace Sys2Proof.Config

/-- A free 64-bit value: the n-th draw, k its place in a step (R5 'undefined value', log 1). -/
opaque freeWord : Nat → Nat → BitVec 64
/-- A free 1,024-bit value (R5, log 1). -/
opaque freeVec : Nat → Nat → BitVec 1024
/-- A free accumulator row of 64 F32 (R162, log 1). -/
opaque freeRow : Nat → Nat → BitVec 2048
/-- A free byte (R137, R146, R150, log 1). -/
opaque freeByte : Nat → Nat → BitVec 8
/-- A free choice among finitely many: which enabled event acts next, which of two allowed values a read
in a shadow returns, whether a dirty line goes now (R51, R352, R359, log 1, log 6). -/
opaque pick : Nat → Nat → Nat
/-- Errors that strike storage between two steps: field 0 says of what, the others where; most values strike nothing (R139, R145, R169, R205,
R336, R337, log 48). -/
opaque upset : Nat → Nat → Nat
/-- Nanoseconds that pass during a step, beyond what a rule fixes (log 1, log 8). -/
opaque elapse : Nat → Nat
/-- Stall cycles of a bundle beyond the one cycle it takes (R53, R138, log 1, log 8). -/
opaque stall : Nat → Nat
/-- The values of the four approximate special functions, one fixed value for each input; the machine holds
them to the bounds of R85 (log 1). -/
opaque vexp2 : BitVec 32 → BitVec 32
opaque vlog2 : BitVec 32 → BitVec 32
opaque vrcpa : BitVec 32 → BitVec 32
opaque vrsqa : BitVec 32 → BitVec 32
/-- Telemetry: mean power in W of domain d over the interval (R288), of the rest of the module, and of one
tile that ran a member of a step (log 1). -/
opaque domainPower : Nat → Nat → Nat
opaque restPower : Nat → Nat
opaque tilePower : Nat → Nat → Nat
/-- Does the management controller bifurcate a PCIe port at a boot (R382, log 20)? -/
opaque bifurcates : Nat → Nat → Bool
/-- The signature by the device identity key, which never leaves the controller (R395, log 5). -/
opaque ecdsaSign : List (BitVec 8) → List (BitVec 8)
/-- Whether the ECDSA of R394 hashes the 48 bytes of the digest once more, as a message, or takes them as the hash (log 5). -/
opaque ecdsaRehash : Bool
/-- The firmware images as delivered in slots A (0) and B (1), and the fused digests of the two public keys (R393, log 5). -/
opaque factoryImage : Nat → List (BitVec 8)
opaque fusedEcdsa : BitVec 384
opaque fusedLms : BitVec 384
/-- What a write to LINKCMD asks: a link and 0 enable, 1 quarantine, 2 release (R396, log 5). -/
opaque linkCmd : BitVec 64 → Option (Nat × Nat)
/-- The PTP settings (domain number, priority1, priority2) that a write to the mailbox makes (R380, R396, log 5). -/
opaque ptpSetting : Nat → BitVec 64 → Option (Nat × Nat × Nat)
/-- The registered EtherType of the maker (R380, log 5). -/
opaque etherType : BitVec 16
/-- The identity data of the module that a report holds: the serial (R395, log 5). -/
opaque moduleSerial : BitVec 64
/-- The IEEE 1588 servo: the time base after a message, from the time base and the message (R380, log 5). -/
opaque ptpAdjust : Nat → List (BitVec 8) → Nat
/-- The port that the best master clock algorithm places in the SLAVE state, after a message at a port: from the port before, the domain number and the
priorities (R380, log 5). -/
opaque ptpSlave : Option Nat → Nat × Nat × Nat → Nat → List (BitVec 8) → Option Nat
/-- What a port that serves as a master sends on a message: from the time base, the domain number and the priorities (R380, log 5). -/
opaque ptpAnswer : Nat → Nat × Nat × Nat → List (BitVec 8) → List (List (BitVec 8))

end Sys2Proof.Config
end

