-- ==== Sys2Proof/Machine/KMap.lean ====
section
/-! DEFINITION. Finite maps keyed by natural numbers: association lists with strictly rising keys. They hold what the
spec numbers sparsely (tiles, slots, contexts, names at home, bytes of memory). -/

namespace Sys2Proof.Machine

/-- A finite map, in rising order of keys. -/
abbrev KMap (α : Type) := List (Nat × α)

/-- The value at key `k`, if it is listed. -/
def KMap.get? {α : Type} : KMap α → Nat → Option α
  | [], _ => none
  | (j, x) :: m, k => if j = k then some x else KMap.get? m k

/-- The value at key `k`, or `d` where it is not listed. -/
def KMap.getD {α : Type} (m : KMap α) (k : Nat) (d : α) : α := (KMap.get? m k).getD d

/-- Lists `x` at key `k`, in its place. -/
def KMap.set {α : Type} : KMap α → Nat → α → KMap α
  | [], k, x => [(k, x)]
  | (j, y) :: m, k, x =>
    if k < j then (k, x) :: (j, y) :: m else if k = j then (k, x) :: m else (j, y) :: KMap.set m k x

/-- Takes key `k` out. -/
def KMap.del {α : Type} : KMap α → Nat → KMap α
  | [], _ => []
  | (j, y) :: m, k => if j = k then KMap.del m k else (j, y) :: KMap.del m k

/-- Every key stands above `lo` and the keys rise strictly. -/
def KMap.risesFrom {α : Type} : Nat → KMap α → Bool
  | _, [] => true
  | lo, (j, _) :: m => decide (lo ≤ j) && KMap.risesFrom (j + 1) m

/-- The first key from 0 on, among the first `fuel` numbers from `k`, that is not listed. -/
def KMap.freshFrom {α : Type} (m : KMap α) : Nat → Nat → Nat
  | 0, k => k
  | fuel + 1, k => if (KMap.get? m k).isNone then k else KMap.freshFrom m fuel (k + 1)

/-- A key that is not listed. -/
def KMap.fresh {α : Type} (m : KMap α) : Nat := KMap.freshFrom m (m.length + 1) 0

/-- Changes the value at key `k`, where it is listed. -/
def KMap.upd {α : Type} (m : KMap α) (k : Nat) (f : α → α) : KMap α :=
  match KMap.get? m k with
  | some x => KMap.set m k (f x)
  | none => m

end Sys2Proof.Machine
end

