-- ==== Sys2Proof/Syntax.lean ====
section
/-! DEFINITION. Syntax: instruction formats, messages between agents, and the one inductive Instr with a constructor for
every row of the opcode table. A row that is a syllable carries its header and its body fields; a row that is an event of
another agent carries what the event is about (95_what_each_step_holds). -/

namespace Sys2Proof

/-- Kinds of fault, class by class (R340). -/
inductive FKind where
  | class7 | badop | rsvfield | badguard | slotdup | slotorder | xorphan | wawreg | wawpred | ports | badspec | longbundle
  | fetchrange | priv | badhref | trapins
  | divzero | iovf | badconv | finv | fdivz | fovf | funf | finx | badshape | badfmt | badcb | accbusy | laneidx | badrnd
  | rngstate | shiftamt
  | sprange | spalign | bankconf | banksame | codewrite | landwrite | chuncfg | chbusy | chshape | chidle | waybusy | lockfull
  | ecclocal | eccl1 | poisonld | atomalign
  | nomap | permr | permw | ptebad | walkecc | poisonpg | noncanon | aligng | remotedown | remotetmo | hbmue | checkmiss
  | savecheck | saveue | atomunsup | discardro
  | nameSpace | subfull | landsmall | pubsize | pubcheck | reducemix | reducecount | dupsub | lingermax | nohome | backmiss
  | linkdown | ageout | sendrej | ovflfull | netecc
  | badkernel | nokernel | qfull | qclosed | groupmax | groupfree | barphase | barcount | stepnest | deadline | ctxstate
  | incstale | resident | evictfail | watchdog | cancelled
  deriving DecidableEq, Repr

/-- Type codes of R56. -/
inductive Ty where
  | i8 | i16 | i32 | i64 | n8 | n16 | n32 | n64 | f16 | bf16 | f32 | e4m3 | e5m2 | k4 | x19 | rsv
  deriving DecidableEq, Repr

/-- What a fault reports (R339, R342): kind, origin 0 to 3, EVAL. -/
structure TrapInfo where
  kind : FKind
  origin : Nat
  eval : Word
  deriving DecidableEq, Repr

/-- Syllable header (R32): E, GN, G; the class and the opcode are the constructor. -/
structure Hdr where
  last : Bool
  neg : Bool
  pred : BitVec 3
  deriving DecidableEq, Repr

/-- F-RRR (R34). -/
structure RRR where
  d : BitVec 8
  a : BitVec 8
  b : BitVec 8
  c : BitVec 8
  t : BitVec 8
  m : BitVec 8
  deriving DecidableEq, Repr

/-- The X syllable of an F-RRI owner (R37): its E bit and its 60 value bits. -/
structure XExt where
  last : Bool
  xv : BitVec 60
  deriving DecidableEq, Repr

/-- F-RRI with its optional X (R34, R37). -/
structure RRI where
  d : BitVec 8
  a : BitVec 8
  imm : BitVec 32
  x : Option XExt
  deriving DecidableEq, Repr

/-- F-MEM (R34, R35). -/
structure MemF where
  d : BitVec 8
  base : BitVec 8
  idx : BitVec 8
  sc : BitVec 2
  t : BitVec 4
  ordk : BitVec 2
  ords : BitVec 2
  disp : BitVec 14
  deriving DecidableEq, Repr

/-- F-BR (R34, R36). -/
structure BrF where
  a : BitVec 8
  f : BitVec 8
  off : BitVec 32
  deriving DecidableEq, Repr

/-- F-NAM (R34). -/
structure NamF where
  n : BitVec 8
  a : BitVec 8
  b : BitVec 8
  s : BitVec 4
  t : BitVec 4
  f : BitVec 8
  i8 : BitVec 8
  deriving DecidableEq, Repr

/-- A destination of a result in flight (R42, R51, R54); `dead` is one that a later-issued write has overtaken (R52). -/
inductive Reg where
  | a (i : Nat) | o (i : Nat) | v (i : Nat) | w (i : Nat) | p (i : Nat) | acc (i : Nat) | kb (i : Nat) | dead
  deriving DecidableEq, Repr

/-- Ports of a router (R184). -/
inductive Port where
  | tile | north | east | south | west
  deriving DecidableEq, Repr

/-- Scopes (R357). -/
inductive Scope where
  | tile | wafer | domain | system | field
  deriving DecidableEq, Repr

/-- Publisher tag (R189): site and serial; the slot is kept so that the order notice finds its count (R190). -/
structure Tag where
  site : Nat
  slot : Nat
  serial : Nat
  deriving DecidableEq, Repr

/-- Fields of a reduction contribution (R196): operation 0 addf, 1 addi, 2 max, 3 min. -/
structure RedHdr where
  op : Nat
  n : Nat
  idx : Nat
  det : Bool
  mult : Nat
  deriving DecidableEq, Repr

/-- One segment of a publication, of a contribution or of a copy (R189, R190): `checks` are the check values that travel with its granules, `poison`
the granules that an uncorrectable error has poisoned (R205). -/
structure Seg where
  ctx : Nat
  inc : Nat
  name : Word
  tags : List Tag
  idx : Nat
  size : Nat
  linger : Nat
  bytes : List Byte
  checks : List (BitVec 32)
  poison : List Nat
  red : Option RedHdr
  seq : Option Nat
  sysPins : Nat
  deriving DecidableEq, Repr

/-- A subscription, install notice, withdrawal or reinstall (R185, R186, R227); `uid` is the instance's number plus 1, or 0. -/
structure SubMsg where
  ctx : Nat
  inc : Nat
  name : Word
  site : Nat
  slot : Nat
  sub : Nat
  persist : Bool
  size : Nat
  count : Nat
  u : Bool
  waiter : Bool
  moving : Bool
  q : Option Nat
  lastAck : Option Nat
  uid : Nat
  deriving DecidableEq, Repr

/-- A landing acknowledgement, pull or next request of one slot (R187, R190). -/
structure SlotMsg where
  ctx : Nat
  inc : Nat
  name : Word
  site : Nat
  slot : Nat
  sub : Nat
  tag : Option Tag
  seq : Option Nat
  waiter : Bool
  deriving DecidableEq, Repr

/-- Data that answers a memory request, or the fault that it met, with the granules of its home that did not read well (R336 to R338, R378). -/
structure MemReply where
  data : List Byte
  poison : Bool
  err : Option FKind
  bads : List (Nat × FKind) := []
  deriving DecidableEq, Repr

/-- What is done at a memory home (R338, R354, R366). -/
inductive MemOp where
  | read (n : Nat)
  /-- what is left of the read of an L1 line, one half of which has been read: the upper one where `hi` (R355) -/
  | rest (hi : Bool) (first : MemReply)
  | write (bytes : List Byte) (poison : Bool)
  /-- the write-back of an L1 line, or of what is left of it: of the bytes those that the mask names (R145, R354, R355) -/
  | line (bytes : List Byte) (mask : BitVec 128) (poison : Bool)
  | atomic (aop : Nat) (ty : Ty) (v : Word) (cmp : Word)
  deriving DecidableEq, Repr

/-- A row of B that a held MMAG asks for: its k, and which run of the MMAG asks (R175). -/
structure RowRef where
  k : Nat
  run : Nat
  deriving DecidableEq, Repr

/-- A backed name and its entry of the backing table, doublewords 0 and 1, as it stood when the fall-through began (R194, R195), and the bytes of the
granule that the hedge agent has so far (R379). -/
structure Backed where
  name : Word
  d0 : Word
  d1 : Word
  got : List Byte := []
  deriving DecidableEq, Repr

/-- Who gets the answer of a memory request. -/
inductive Requester where
  | fill (site ctx inc vline : Nat)
  | chan (site slot ch seq : Nat)
  | row (site slot : Nat) (k : RowRef) (off : Nat)
  | atom (site slot : Nat) (dst : Reg) (ty : Ty) (ea : Word) (acq : Option Scope) (far : Bool)
  | ackC (site slot : Nat) (far : Bool)
  | ackS (site slot ch wp : Nat) (far : Bool) (seq : Nat)
  /-- as ackS, for a write that failed on its way, with the fault and the address (R159, R378) -/
  | ackBad (site slot ch wp : Nat) (far : Bool) (seq : Nat) (k : FKind) (va : Nat)
  /-- the hedge agent of a fall-through, a part of whose granule lies in another module (R379) -/
  | ft (hedge : Nat) (b : Backed)
  | peer (link tag src age : Nat)
  | none
  deriving DecidableEq, Repr

/-- A memory request with its context and physical address (R354, R376). -/
structure MemReq where
  ctx : Nat
  inc : Nat
  va : Nat
  pa : Nat
  op : MemOp
  who : Requester
  deriving DecidableEq, Repr

/-- What the landing of a reply does beside writing its register (R265, R267, R276, R142, R147). -/
inductive Reply where
  | plain
  | load (mark : Option FKind) (ea : Word) (acq : Option Scope) (atom : Option Bool) (far : Bool)
  | joined (idx g : Nat)
  | left (g : Nat)
  | gwait (g : Nat) (sub : Nat) (land : Word) (use : Nat) (registered : Bool)
  | bwait (id : Nat) (sub : Nat) (land : Word) (phase : Nat) (refused : Option FKind) (completed : Bool) (orig : Word)
  deriving DecidableEq, Repr

/-- Group operations (R265 to R267). -/
inductive GOp where
  | join | leave | cancel | prio (lvl : Nat) | cap (c : Nat) | cut (base size : Nat) | restore (base size : Nat) | query
  | wait (sub : Nat) (land : Word) | unwait (use : Nat)
  deriving DecidableEq, Repr

/-- Queue operations (R250). -/
inductive QOp where
  | create (ring lg lvl : Nat) (fixed : Bool) | drain | close | level (lvl : Nat) (fixed : Bool) | query
  deriving DecidableEq, Repr

/-- Step requests (R295 to R297). -/
inductive StepOp where
  | open_ (g : Nat) (t0 dl : Nat) | close (id seq : Nat) | slack (id seq : Nat)
  deriving DecidableEq, Repr

/-- Where a launch record comes from (R241). -/
inductive RecSrc where
  | launch (site slot : Nat) (dst : Reg) | qpost (site slot : Nat) (dst : Reg) | host (port off : Nat)
  deriving DecidableEq, Repr

/-- Who asked for a reply: the slot and the register. -/
structure Asker where
  site : Nat
  slot : Nat
  dst : Reg
  deriving DecidableEq, Repr

/-- A barrier request (R269). -/
structure BarReq where
  ctx : Nat
  inc : Nat
  id : Nat
  phase : Nat
  orig : Word
  who : Asker
  deriving DecidableEq, Repr

/-- Requests that the router of a failed rick answers or drops (R182). -/
inductive StandIn where
  | sub (m : SubMsg)
  | pin (ctx inc : Nat) (name : Word) (who : Asker)
  | barrier (r : BarReq) (isWait : Bool) (sub : Nat) (land : Word) (arrival : Bool)
  | drop (ctx inc : Nat) (name : Word)
  deriving DecidableEq, Repr

/-- A page walk to do: the requester's slot, the address and the kind 0 read, 1 write, 2 atomic (R329). -/
structure WalkReq where
  site : Nat
  slot : Nat
  ctx : Nat
  inc : Nat
  va : Nat
  kind : Nat
  ch : Option Nat
  deriving DecidableEq, Repr

/-- Why an instance is saved (R306, R307). -/
inductive SaveWhy where
  | evict | cut | move (site slot : Nat)
  deriving DecidableEq, Repr

/-- An LSEND segment on its way between modules, or for a Quinholt link a part of it from granule `part` on, with the check values of its granules
(R189, R373, R380, R388). -/
structure LFrame where
  srcDomain : Nat
  srcModule : Nat
  srcCtx : Nat
  dstCtx : Nat
  name : Word
  linger : Nat
  seq : Nat
  id : Nat
  age : Nat
  idx : Nat
  size : Nat
  bytes : List Byte
  checks : List (BitVec 32)
  part : Nat := 0
  dstDomain : Nat := 0
  dstModule : Nat := 0
  srcInc : Nat := 0
  deriving DecidableEq, Repr

/-- A Quinholt flit (R373): `ack` is ACKSEQ, `nak` is set in a link-control flit that asks for a replay, `lcrc` is the link check that it carries
(R374). -/
structure Flit where
  ty : Nat
  ctx : Nat
  inc : Nat
  age : Nat
  src : Nat
  dst : Nat
  seq : Nat
  ack : Nat
  nak : Bool
  lcrc : BitVec 32
  tag : Nat
  req : Option MemReq
  reply : Option MemReply
  seg : Option LFrame
  accept : Bool
  deriving DecidableEq, Repr

/-- A context in an incarnation (R298): whose a message is. -/
structure CtxInc where
  ctx : Nat
  inc : Nat
  deriving DecidableEq, Repr

/-- The group of a cut and its USE, which tells one cut from the next (R252, R260). -/
structure CutRef where
  g : Nat
  use : Nat
  deriving DecidableEq, Repr

/-- The instance that a placement message is about, and whether the message travels on the mesh (R222). -/
structure Placing where
  uid : Nat
  mesh : Bool
  deriving DecidableEq, Repr

/-- The record at the head of a queue: the queue, its CSEQ and the record's sequence (R236, R240, R253). -/
structure HeadRef where
  q : Nat
  cseq : Nat
  seq : Nat
  deriving DecidableEq, Repr

/-- An offset in the append window of a PCIe port (R242). -/
structure WindowAt where
  port : Nat
  off : Nat
  deriving DecidableEq, Repr

/-- A physical address of a host write; `rest` says that a part of the write has been performed already (R355, R384). -/
structure HostAt where
  pa : Nat
  rest : Bool
  deriving DecidableEq, Repr

/-- An offset in a BAR of a PCIe function (R383). -/
structure BarAt where
  bar : Nat
  off : Nat
  deriving DecidableEq, Repr

/-- One constructor per row of spec/opcode_table.json: the syllables first, then the events that agents send one another, then
the events that follow from the state and those that come from outside. -/
inductive Instr where
  /-- ADD, R93. -/
  | add (h : Hdr) (f : RRR)
  /-- SUB, R93. -/
  | sub (h : Hdr) (f : RRR)
  /-- MUL, R93. -/
  | mul (h : Hdr) (f : RRR)
  /-- MULH, R93. -/
  | mulh (h : Hdr) (f : RRR)
  /-- MULHN, R93. -/
  | mulhn (h : Hdr) (f : RRR)
  /-- DIV, R94. -/
  | div (h : Hdr) (f : RRR)
  /-- DIVN, R94. -/
  | divn (h : Hdr) (f : RRR)
  /-- REM, R94. -/
  | remS (h : Hdr) (f : RRR)
  /-- REMN, R94. -/
  | remn (h : Hdr) (f : RRR)
  /-- AND, R93. -/
  | andS (h : Hdr) (f : RRR)
  /-- OR, R93. -/
  | orS (h : Hdr) (f : RRR)
  /-- XOR, R93. -/
  | xorS (h : Hdr) (f : RRR)
  /-- ANDN, R93. -/
  | andn (h : Hdr) (f : RRR)
  /-- SHL, R95. -/
  | shl (h : Hdr) (f : RRR)
  /-- SHR, R95. -/
  | shr (h : Hdr) (f : RRR)
  /-- SAR, R95. -/
  | sar (h : Hdr) (f : RRR)
  /-- ROTR, R95. -/
  | rotr (h : Hdr) (f : RRR)
  /-- MIN, R93. -/
  | min (h : Hdr) (f : RRR)
  /-- MAX, R93. -/
  | max (h : Hdr) (f : RRR)
  /-- MINN, R93. -/
  | minn (h : Hdr) (f : RRR)
  /-- MAXN, R93. -/
  | maxn (h : Hdr) (f : RRR)
  /-- CLZ, R93. -/
  | clz (h : Hdr) (f : RRR)
  /-- POPC, R93. -/
  | popc (h : Hdr) (f : RRR)
  /-- BFX, R96. -/
  | bfx (h : Hdr) (f : RRR)
  /-- BFXS, R96. -/
  | bfxs (h : Hdr) (f : RRR)
  /-- BFI, R96. -/
  | bfi (h : Hdr) (f : RRR)
  /-- SEL, R97. -/
  | sel (h : Hdr) (f : RRR)
  /-- MOV, R93. -/
  | mov (h : Hdr) (f : RRR)
  /-- LI, R93. -/
  | li (h : Hdr) (f : RRI)
  /-- LEA, R98. -/
  | lea (h : Hdr) (f : RRR)
  /-- SXT, R93. -/
  | sxt (h : Hdr) (f : RRR)
  /-- ZXT, R93. -/
  | zxt (h : Hdr) (f : RRR)
  /-- BSWAP, R93. -/
  | bswap (h : Hdr) (f : RRR)
  /-- CRCS, R100. -/
  | crcs (h : Hdr) (f : RRR)
  /-- NMAKE, R99. -/
  | nmake (h : Hdr) (f : RRR)
  /-- CMP, R101. -/
  | cmp (h : Hdr) (f : RRR)
  /-- PAND, R102. -/
  | pand (h : Hdr) (f : RRR)
  /-- POR, R102. -/
  | por (h : Hdr) (f : RRR)
  /-- PXOR, R102. -/
  | pxor (h : Hdr) (f : RRR)
  /-- PNOT, R102. -/
  | pnot (h : Hdr) (f : RRR)
  /-- PSET, R102. -/
  | pset (h : Hdr) (f : RRR)
  /-- PGET, R102. -/
  | pget (h : Hdr) (f : RRR)
  /-- NOP, R106. -/
  | nop (h : Hdr) (f : RRR)
  /-- BR, R103. -/
  | br (h : Hdr) (f : BrF)
  /-- BRI, R103. -/
  | bri (h : Hdr) (f : BrF)
  /-- CALL, R103. -/
  | callS (h : Hdr) (f : BrF)
  /-- CALL_IND, R103. -/
  | callInd (h : Hdr) (f : BrF)
  /-- RET, R103. -/
  | ret (h : Hdr) (f : BrF)
  /-- LOOP, R103. -/
  | loopS (h : Hdr) (f : BrF)
  /-- IDLE, R107. -/
  | idle (h : Hdr) (f : RRR)
  /-- BRK, R108. -/
  | brk (h : Hdr) (f : RRR)
  /-- SYSR, R109. -/
  | sysr (h : Hdr) (f : RRI)
  /-- SYSW, R110. -/
  | sysw (h : Hdr) (f : RRI)
  /-- SYSW_PGROOT, R333. -/
  | syswPgroot (h : Hdr) (f : RRI)
  /-- SYSW_BACKBASE, R194. -/
  | syswBackbase (h : Hdr) (f : RRI)
  /-- VADD, R121. -/
  | vadd (h : Hdr) (f : RRR)
  /-- VSUB, R121. -/
  | vsub (h : Hdr) (f : RRR)
  /-- VMUL, R121. -/
  | vmul (h : Hdr) (f : RRR)
  /-- VFMA, R121. -/
  | vfma (h : Hdr) (f : RRR)
  /-- VFMS, R121. -/
  | vfms (h : Hdr) (f : RRR)
  /-- VMAX, R122. -/
  | vmax (h : Hdr) (f : RRR)
  /-- VMIN, R122. -/
  | vmin (h : Hdr) (f : RRR)
  /-- VABS, R121. -/
  | vabs (h : Hdr) (f : RRR)
  /-- VNEG, R121. -/
  | vneg (h : Hdr) (f : RRR)
  /-- VCMP, R123. -/
  | vcmp (h : Hdr) (f : RRR)
  /-- VSEL, R124. -/
  | vsel (h : Hdr) (f : RRR)
  /-- VAND, R125. -/
  | vand (h : Hdr) (f : RRR)
  /-- VOR, R125. -/
  | vor (h : Hdr) (f : RRR)
  /-- VXOR, R125. -/
  | vxor (h : Hdr) (f : RRR)
  /-- VSHL, R125. -/
  | vshl (h : Hdr) (f : RRR)
  /-- VSHR, R125. -/
  | vshr (h : Hdr) (f : RRR)
  /-- VSAR, R125. -/
  | vsar (h : Hdr) (f : RRR)
  /-- VMOV, R125. -/
  | vmov (h : Hdr) (f : RRR)
  /-- VSPLAT, R126. -/
  | vsplat (h : Hdr) (f : RRR)
  /-- VEXT, R126. -/
  | vext (h : Hdr) (f : RRR)
  /-- VINS, R126. -/
  | vins (h : Hdr) (f : RRR)
  /-- VPERM, R126. -/
  | vperm (h : Hdr) (f : RRR)
  /-- VROT, R126. -/
  | vrot (h : Hdr) (f : RRR)
  /-- VREDADD, R127. -/
  | vredadd (h : Hdr) (f : RRR)
  /-- VREDMAX, R127. -/
  | vredmax (h : Hdr) (f : RRR)
  /-- VREDMIN, R127. -/
  | vredmin (h : Hdr) (f : RRR)
  /-- VSCAN, R88. -/
  | vscan (h : Hdr) (f : RRR)
  /-- VCVT, R128. -/
  | vcvt (h : Hdr) (f : RRR)
  /-- VPACK, R129. -/
  | vpack (h : Hdr) (f : RRR)
  /-- VUNPK, R129. -/
  | vunpk (h : Hdr) (f : RRR)
  /-- VEXP2, R130. -/
  | vexp2 (h : Hdr) (f : RRR)
  /-- VLOG2, R130. -/
  | vlog2 (h : Hdr) (f : RRR)
  /-- VRCPA, R130. -/
  | vrcpa (h : Hdr) (f : RRR)
  /-- VRSQA, R130. -/
  | vrsqa (h : Hdr) (f : RRR)
  /-- VSQRT, R121. -/
  | vsqrt (h : Hdr) (f : RRR)
  /-- VDIV, R121. -/
  | vdiv (h : Hdr) (f : RRR)
  /-- VCLASS, R131. -/
  | vclass (h : Hdr) (f : RRR)
  /-- VSCALE, R121. -/
  | vscale (h : Hdr) (f : RRR)
  /-- VRINT, R121. -/
  | vrint (h : Hdr) (f : RRR)
  /-- VIMUL, R121. -/
  | vimul (h : Hdr) (f : RRR)
  /-- VIMULH, R121. -/
  | vimulh (h : Hdr) (f : RRR)
  /-- VRAND, R132. -/
  | vrand (h : Hdr) (f : RRR)
  /-- VMCNT, R124. -/
  | vmcnt (h : Hdr) (f : RRR)
  /-- VJOIN, R133. -/
  | vjoin (h : Hdr) (f : RRR)
  /-- MSHAPE, R173. -/
  | mshape (h : Hdr) (f : RRR)
  /-- MZERO, R177. -/
  | mzero (h : Hdr) (f : RRR)
  /-- MMA, R174. -/
  | mma (h : Hdr) (f : RRR)
  /-- MMAT, R174. -/
  | mmat (h : Hdr) (f : RRR)
  /-- MMAG, R175. -/
  | mmag (h : Hdr) (f : RRR)
  /-- MCB, R176. -/
  | mcb (h : Hdr) (f : RRR)
  /-- MACLD, R177. -/
  | macld (h : Hdr) (f : RRR)
  /-- MACST, R178. -/
  | macst (h : Hdr) (f : RRR)
  /-- MACADD, R177. -/
  | macadd (h : Hdr) (f : RRR)
  /-- MWAIT, R179. -/
  | mwait (h : Hdr) (f : RRR)
  /-- LD, R141. -/
  | ld (h : Hdr) (f : MemF)
  /-- ST, R141. -/
  | st (h : Hdr) (f : MemF)
  /-- VLD, R141. -/
  | vld (h : Hdr) (f : MemF)
  /-- VST, R141. -/
  | vst (h : Hdr) (f : MemF)
  /-- VGATH, R141. -/
  | vgath (h : Hdr) (f : MemF)
  /-- VSCAT, R141. -/
  | vscat (h : Hdr) (f : MemF)
  /-- LDG, R142. -/
  | ldg (h : Hdr) (f : MemF)
  /-- STG, R142. -/
  | stg (h : Hdr) (f : MemF)
  /-- VLDG, R142. -/
  | vldg (h : Hdr) (f : MemF)
  /-- VSTG, R142. -/
  | vstg (h : Hdr) (f : MemF)
  /-- ATOMS, R143. -/
  | atoms (h : Hdr) (f : MemF)
  /-- ATOMG, R143. -/
  | atomg (h : Hdr) (f : MemF)
  /-- PREF, R144. -/
  | pref (h : Hdr) (f : MemF)
  /-- CLEAN, R150. -/
  | clean (h : Hdr) (f : RRR)
  /-- INVAL, R150. -/
  | inval (h : Hdr) (f : RRR)
  /-- DISCARD, R150. -/
  | discard (h : Hdr) (f : RRR)
  /-- WAYMASK, R147. -/
  | waymask (h : Hdr) (f : RRR)
  /-- WAYGATE, R148. -/
  | waygate (h : Hdr) (f : RRR)
  /-- LLOCK, R149. -/
  | llock (h : Hdr) (f : RRR)
  /-- LUNLK, R149. -/
  | lunlk (h : Hdr) (f : RRR)
  /-- FENCE, R361. -/
  | fence (h : Hdr) (f : RRR)
  /-- XFENCE, R361. -/
  | xfence (h : Hdr) (f : RRR)
  /-- CHKV, R152. -/
  | chkv (h : Hdr) (f : RRR)
  /-- SCFG, R160. -/
  | scfg (h : Hdr) (f : NamF)
  /-- SGO, R158. -/
  | sgo (h : Hdr) (f : NamF)
  /-- SSTOP, R160. -/
  | sstop (h : Hdr) (f : NamF)
  /-- SPARM, R160. -/
  | sparm (h : Hdr) (f : NamF)
  /-- SFENCE, R160. -/
  | sfence (h : Hdr) (f : NamF)
  /-- WAITWP, R161. -/
  | waitwp (h : Hdr) (f : RRR)
  /-- SUBSCRIBE, R208. -/
  | subscribe (h : Hdr) (f : NamF)
  /-- UNSUB, R187. -/
  | unsub (h : Hdr) (f : NamF)
  /-- PUB, R209. -/
  | pub (h : Hdr) (f : NamF)
  /-- PUBR, R210. -/
  | pubr (h : Hdr) (f : NamF)
  /-- NHOLD, R211. -/
  | nhold (h : Hdr) (f : NamF)
  /-- NRELS, R211. -/
  | nrels (h : Hdr) (f : NamF)
  /-- NPOLL, R212. -/
  | npoll (h : Hdr) (f : NamF)
  /-- NPOLL_ACK, R212. -/
  | npollAck (h : Hdr) (f : NamF)
  /-- NPOLL_INJ, R212. -/
  | npollInj (h : Hdr) (f : NamF)
  /-- LSEND, R387. -/
  | lsend (h : Hdr) (f : NamF)
  /-- EXIT, R233. -/
  | exitS (h : Hdr) (f : RRR)
  /-- YIELD_SLOT, R231. -/
  | yieldSlot (h : Hdr) (f : RRR)
  /-- YIELD_WP, R231. -/
  | yieldWp (h : Hdr) (f : RRR)
  /-- YIELD_ANY, R231. -/
  | yieldAny (h : Hdr) (f : RRR)
  /-- YIELD_TIME, R231. -/
  | yieldTime (h : Hdr) (f : RRR)
  /-- LAUNCH, R230. -/
  | launch (h : Hdr) (f : RRR)
  /-- QPOST, R249. -/
  | qpost (h : Hdr) (f : RRR)
  /-- QCTL_CREATE, R250. -/
  | qctlCreate (h : Hdr) (f : RRR)
  /-- QCTL_DRAIN, R250. -/
  | qctlDrain (h : Hdr) (f : RRR)
  /-- QCTL_CLOSE, R250. -/
  | qctlClose (h : Hdr) (f : RRR)
  /-- QCTL_LEVEL, R250. -/
  | qctlLevel (h : Hdr) (f : RRR)
  /-- QCTL_QUERY, R250. -/
  | qctlQuery (h : Hdr) (f : RRR)
  /-- GJOIN, R265. -/
  | gjoin (h : Hdr) (f : RRR)
  /-- GLEAVE, R265. -/
  | gleave (h : Hdr) (f : RRR)
  /-- GCTL_CANCEL, R259. -/
  | gctlCancel (h : Hdr) (f : RRR)
  /-- GCTL_PRIO, R258. -/
  | gctlPrio (h : Hdr) (f : RRR)
  /-- GCTL_CAP, R257. -/
  | gctlCap (h : Hdr) (f : RRR)
  /-- GCTL_CUT, R260. -/
  | gctlCut (h : Hdr) (f : RRR)
  /-- GCTL_RESTORE, R263. -/
  | gctlRestore (h : Hdr) (f : RRR)
  /-- GCTL_QUERY, R266. -/
  | gctlQuery (h : Hdr) (f : RRR)
  /-- GWAIT, R267. -/
  | gwait (h : Hdr) (f : RRR)
  /-- BINIT, R274. -/
  | binit (h : Hdr) (f : RRR)
  /-- BARV, R275. -/
  | barv (h : Hdr) (f : RRR)
  /-- BWAIT, R276. -/
  | bwait (h : Hdr) (f : RRR)
  /-- STEPO, R295. -/
  | stepo (h : Hdr) (f : RRR)
  /-- STEPC, R296. -/
  | stepc (h : Hdr) (f : RRR)
  /-- SLACK, R297. -/
  | slack (h : Hdr) (f : RRR)
  /-- TRAP, R346. -/
  | trapS (h : Hdr) (f : RRI)
  /-- RFT, R347. -/
  | rft (h : Hdr) (f : RRR)
  /-- CTXK, R320. -/
  | ctxk (h : Hdr) (f : RRR)
  /-- RECLM, R321. -/
  | reclm (h : Hdr) (f : RRR)
  /-- CTXR_START, R322. -/
  | ctxrStart (h : Hdr) (f : RRR)
  /-- CTXR_FREE, R322. -/
  | ctxrFree (h : Hdr) (f : RRR)
  /-- EVICT, R323. -/
  | evict (h : Hdr) (f : RRR)
  /-- EVICT_UNBIND, R323. -/
  | evictUnbind (h : Hdr) (f : RRR)
  /-- CHKP_NOW, R324. -/
  | chkpNow (h : Hdr) (f : RRR)
  /-- CHKP_BGON, R324. -/
  | chkpBgon (h : Hdr) (f : RRR)
  /-- CHKP_BGOFF, R324. -/
  | chkpBgoff (h : Hdr) (f : RRR)
  /-- INTERLOCKED_RESULT_LAND, R54. -/
  | interlockedResultLand (site slot ctx inc : Nat) (dst : Reg) (val : VReg) (then_ : Reply)
  /-- MMAG_ROW_ARRIVE, R175. -/
  | mmagRowArrive (site slot ctx inc : Nat) (k : RowRef) (off : Nat) (r : MemReply)
  /-- L1_FILL, R145. -/
  | l1Fill (site ctx inc vline : Nat) (r : MemReply)
  /-- CHANNEL_DATA_ARRIVE, R156. -/
  | channelDataArrive (site slot ch ctx inc seq : Nat) (r : MemReply)
  /-- SUB_AT_ROUTER, R185. -/
  | subAtRouter (site : Nat) (port : Port) (m : SubMsg)
  /-- SUB_AT_HOME, R185. -/
  | subAtHome (m : SubMsg)
  /-- INSTALL_NOTICE, R186. -/
  | installNotice (m : SubMsg) (nh : Bool)
  /-- WITHDRAWAL, R186. -/
  | withdrawal (site : Nat) (port : Port) (m : SubMsg)
  /-- SEGMENT_AT_ROUTER, R24. -/
  | segmentAtRouter (site : Nat) (port : Port) (toHome : Bool) (g : Seg)
  /-- SEGMENT_AT_HOME, R190. -/
  | segmentAtHome (port : Option Port) (g : Seg)
  /-- ORDER_NOTICE, R190. -/
  | orderNotice (ctx inc : Nat) (tag : Tag)
  /-- CONTRIBUTION_AT_HOME, R196. -/
  | contributionAtHome (g : Seg)
  /-- COPY_AT_TILE_PORT, R199. -/
  | copyAtTilePort (site : Nat) (target : Option (Nat × Nat)) (g : Seg)
  /-- LANDING_ACK_AT_HOME, R191. -/
  | landingAckAtHome (m : SlotMsg)
  /-- DIVERTED_COPY_AT_HOME, R199. -/
  | divertedCopyAtHome (m : SlotMsg) (g : Seg)
  /-- PULL_AT_HOME, R187. -/
  | pullAtHome (m : SlotMsg)
  /-- NEXT_REQUEST_AT_HOME, R188. -/
  | nextRequestAtHome (m : SlotMsg)
  /-- NHOLD_AT_HOME, R192. -/
  | nholdAtHome (ctx inc : Nat) (name : Word) (who : Asker)
  /-- NRELS_AT_HOME, R192. -/
  | nrelsAtHome (ctx inc : Nat) (name : Word) (who : Asker)
  /-- OVERFLOW_STALL_NOTICE, R201. -/
  | overflowStallNotice (site : Nat) (o : CtxInc)
  /-- OVERFLOW_SPACE_NOTICE, R201. -/
  | overflowSpaceNotice (site : Nat) (o : CtxInc)
  /-- FALLTHROUGH_REQUEST, R195. -/
  | fallthroughRequest (hedge ctx inc : Nat) (b : Backed)
  /-- FALLTHROUGH_DATA, R195. -/
  | fallthroughData (ctx inc : Nat) (name : Word) (linger : Nat) (r : MemReply)
  /-- BACKING_TABLE_REREAD, R194. -/
  | backingTableReread (ctx inc : Nat)
  /-- STAND_IN_REPLY, R182. -/
  | standInReply (r : StandIn)
  /-- REINSTALL_AT_HOME, R227. -/
  | reinstallAtHome (m : SubMsg)
  /-- RECORD_APPEND, R241. -/
  | recordAppend (ctx inc q : Nat) (rec : List Word) (src : RecSrc)
  /-- PLACEMENT_MESSAGE, R222. -/
  | placementMessage (p : Placing) (ctx inc : Nat)
  /-- LOAD_DONE, R223. -/
  | loadDone (uid : Nat)
  /-- MEMBER_TERMINAL_UPDATE, R253. -/
  | memberTerminalUpdate (ctx inc g : Nat) (how : Nat) (cause : Nat)
  /-- CANCEL_AT_TILE, R28. -/
  | cancelAtTile (uid g : Nat)
  /-- CUT_MARK_AT_HOME, R261. -/
  | cutMarkAtHome (o : CtxInc) (c : CutRef) (name : Word) (uid sub : Nat)
  /-- CUT_RECORD_WRITE, R262. -/
  | cutRecordWrite (o : CtxInc) (c : CutRef) (name : Word) (uid sub : Nat)
  /-- BINIT_AT_HOME, R270. -/
  | binitAtHome (r : BarReq) (n : Nat)
  /-- ARRIVAL_AT_HOME, R270. -/
  | arrivalAtHome (r : BarReq)
  /-- BWAIT_AT_HOME, R270. -/
  | bwaitAtHome (r : BarReq) (sub : Nat) (land : Word)
  /-- PIN_RELEASE_MESSAGE, R276. -/
  | pinReleaseMessage (ctx inc : Nat) (name : Word)
  /-- COMPLETION_NOTICE, R282. -/
  | completionNotice (ctx inc g stamp : Nat)
  /-- COPY_DELIVERED_REPORT, R286. -/
  | copyDeliveredReport (ctx inc : Nat) (name : Word)
  /-- DESCRIPTOR_READ_DONE, R300. -/
  | descriptorReadDone (ctx : Nat) (who : Asker) (issuer issuerInc : Nat) (va : Nat)
  /-- PAGE_WALK, R329. -/
  | pageWalk (w : WalkReq)
  /-- MIG_REWALK, R335. -/
  | migRewalk (w : WalkReq)
  /-- MEMORY_REQUEST_AT_HOME, R354. -/
  | memoryRequestAtHome (r : MemReq)
  /-- GROUP_REQUEST_AT_SCHEDULER, R252. -/
  | groupRequestAtScheduler (ctx inc g : Nat) (op : GOp) (who : Asker) (midx : Nat)
  /-- QUEUE_OPERATION_AT_SCHEDULER, R237. -/
  | queueOperationAtScheduler (ctx inc q : Nat) (op : QOp) (who : Asker)
  /-- STEP_REQUEST_AT_GOVERNOR, R284. -/
  | stepRequestAtGovernor (ctx inc : Nat) (op : StepOp) (who : Asker)
  /-- SAVE_ORDER_AT_TILE, R306. -/
  | saveOrderAtTile (uid : Nat) (why : SaveWhy)
  /-- MEMORY_WRITE_ACKNOWLEDGEMENT, R358. -/
  | memoryWriteAcknowledgement (ctx inc : Nat) (who : Requester)
  /-- PLACEMENT_ACKNOWLEDGEMENT, R222. -/
  | placementAcknowledgement (field site : Nat)
  /-- GATE_SATISFIED, R240. -/
  | gateSatisfied (ctx inc : Nat) (r : HeadRef) (name : Word)
  /-- MEMBERSHIP_RESERVE, R253. -/
  | membershipReserve (o : CtxInc) (r : HeadRef) (g n : Nat)
  /-- HOST_EVENT_LANDING, R385. -/
  | hostEventLanding (sub : Nat) (payload : List Byte)
  /-- SPILL_READ_BACK, R193. -/
  | spillReadBack (ctx : Nat) (name : Word) (seq : Nat)
  /-- COPY_LANDED, R187. -/
  | copyLanded (site slot sub : Nat)
  /-- SWEEP_DONE, R310. -/
  | sweepDone (agent ctx drops : Nat)
  /-- CUT_MARKS_CONFIRMED, R260. -/
  | cutMarksConfirmed (o : CtxInc) (c : CutRef)
  /-- HOST_WRITE, R384. -/
  | hostWrite (port : Nat) (w : HostAt) (bytes : List Byte)
  /-- HOST_READ, R384. -/
  | hostRead (port : Nat) (r : BarAt) (n : Nat)
  /-- BUNDLE_ISSUE, R40. -/
  | bundleIssue (site slot : Nat)
  /-- AGEOUT, R375. -/
  | ageout (f : Flit)
  /-- RECLAIM, R313. -/
  | reclaim (ctx : Nat)
  /-- RESULT_LAND, R51. -/
  | resultLand (site slot idx : Nat)
  /-- QUANTUM_GRANT, R247. -/
  | quantumGrant (site slot : Nat)
  /-- QUANTUM_END, R247. -/
  | quantumEnd (site : Nat)
  /-- WATCHDOG, R341. -/
  | watchdog (site slot : Nat)
  /-- IDLE_WAKE, R107. -/
  | idleWake (site slot : Nat)
  /-- BRK_RESUME, R108. -/
  | brkResume (site slot : Nat) (pc : Option Word)
  /-- MATRIX_START, R166. -/
  | matrixStart (site : Nat)
  /-- MATRIX_COMPLETE, R167. -/
  | matrixComplete (site : Nat)
  /-- SLEW_REFILL, R292. -/
  | slewRefill (dom : Nat)
  /-- WAY_CHANGE_COMPLETE, R147. -/
  | wayChangeComplete (site slot : Nat)
  /-- WAY_POWER_UP, R146. -/
  | wayPowerUp (site way : Nat)
  /-- L1_WRITEBACK, R145. -/
  | l1Writeback (site ctx vline : Nat)
  /-- MAINT_WALK, R150. -/
  | maintWalk (site : Nat)
  /-- CHANNEL_BEAT, R153. -/
  | channelBeat (site slot ch : Nat)
  /-- PUB_INJECT, R209. -/
  | pubInject (site slot : Nat)
  /-- ROUTER_MERGE, R197. -/
  | routerMerge (i j : Nat)
  /-- LINGER_EXPIRE, R191. -/
  | lingerExpire (ctx : Nat) (name : Word) (seq : Nat)
  /-- OVERFLOW_STALL_TIMEOUT, R201. -/
  | overflowStallTimeout (ctx : Nat)
  /-- MATCH_ENTRY_ECC, R205. -/
  | matchEntryEcc (site ctx : Nat) (name : Word)
  /-- MESH_ECC, R205. -/
  | meshEcc (i : Nat)
  /-- RICK_FAILED_MARK, R182. -/
  | rickFailedMark (site : Nat)
  /-- RETIRE, R235. -/
  | retire (site slot : Nat)
  /-- PARK_COMPLETE, R232. -/
  | parkComplete (site slot : Nat)
  /-- PARK_WAKE, R232. -/
  | parkWake (site slot : Nat)
  /-- PARK_RESTORE, R232. -/
  | parkRestore (site slot : Nat)
  /-- HOST_APPEND_WRITE, R242. -/
  | hostAppendWrite (w : WindowAt) (bytes : List Byte)
  /-- RECORD_EXPAND, R243. -/
  | recordExpand (ctx q : Nat)
  /-- INSTANCE_PLACE, R221. -/
  | instancePlace (uid site slot : Nat)
  /-- MIGRATE, R225. -/
  | migrate (uid site slot : Nat)
  /-- CUT_COMPLETE, R260. -/
  | cutComplete (ctx g : Nat)
  /-- GOVERNOR_DECISION, R287. -/
  | governorDecision (b : Nat)
  /-- OP_CHANGE_COMPLETE, R279. -/
  | opChangeComplete (dom : Nat)
  /-- DEADLINE_CHECK, R285. -/
  | deadlineCheck (ctx id b : Nat)
  /-- FAULT_WINDOW_CLOSE, R350. -/
  | faultWindowClose (i : Nat)
  /-- FREEZE_ON_FAULT, R353. -/
  | freezeOnFault (site : Nat)
  /-- BINDING_INSTALL, R300. -/
  | bindingInstall (site ctx : Nat)
  /-- BINDINGS_ACKNOWLEDGED, R298. -/
  | bindingsAcknowledged (ctx : Nat)
  /-- INCARNATION_BROADCAST, R312. -/
  | incarnationBroadcast (agent ctx : Nat)
  /-- LINK_FENCE_EXPIRE, R313. -/
  | linkFenceExpire (ctx : Nat)
  /-- EVICTION_COMPLETE, R306. -/
  | evictionComplete (uid : Nat)
  /-- RESTORE, R306. -/
  | restore (uid site slot : Nat)
  /-- BACKGROUND_WRITE, R305. -/
  | backgroundWrite (site slot : Nat)
  /-- TOKEN_REFILL, R317. -/
  | tokenRefill (site : Nat)
  /-- INVALIDATION_AT_AGENT, R333. -/
  | invalidationAtAgent (agent ctx : Nat)
  /-- INVP_CLEAR, R333. -/
  | invpClear (ctx : Nat)
  /-- LINK_ENABLE, R370. -/
  | linkEnable (l : Nat)
  /-- LINK_QUARANTINE, R370. -/
  | linkQuarantine (l : Nat)
  /-- LINK_RELEASE, R370. -/
  | linkRelease (l : Nat)
  /-- LINK_TRAINED_FULL, R370. -/
  | linkTrainedFull (l : Nat)
  /-- LINK_TRAINED_REDUCED, R370. -/
  | linkTrainedReduced (l : Nat)
  /-- LINK_TRAINING_TIMEOUT, R370. -/
  | linkTrainingTimeout (l : Nat)
  /-- LINK_RETRY, R370. -/
  | linkRetry (l : Nat)
  /-- ERROR_BURST, R370. -/
  | errorBurst (l : Nat)
  /-- LINK_LOSS, R370. -/
  | linkLoss (l : Nat)
  /-- FLIT_RECEIVE, R374. -/
  | flitReceive (l : Nat) (f : Flit)
  /-- REMOTE_REQUEST, R376. -/
  | remoteRequest (l : Nat) (f : Flit)
  /-- REMOTE_RESPONSE, R378. -/
  | remoteResponse (tag : Nat) (r : MemReply)
  /-- REMOTETMO, R378. -/
  | remotetmo (tag : Nat)
  /-- LSEND_SEGMENT_RECEIVE, R388. -/
  | lsendSegmentReceive (f : LFrame)
  /-- LSEND_VERDICT, R388. -/
  | lsendVerdict (id : Nat) (accept : Bool)
  /-- LSEND_VERDICT_TIMEOUT, R388. -/
  | lsendVerdictTimeout (id : Nat)
  /-- FRAME_RESEND, R380. -/
  | frameResend (port id : Nat)
  /-- PTP_MESSAGE, R380. -/
  | ptpMessage (port : Nat) (msg : List Byte)
  /-- MODCAP_WRITE, R397. -/
  | modcapWrite (v : Word)
  /-- DEFOP_WRITE, R397. -/
  | defopWrite (v : Word)
  /-- MODNUM_WRITE, R397. -/
  | modnumWrite (v : Word)
  /-- TILEMAP_READ, R396. -/
  | tilemapRead (port : Nat)
  /-- TILECMD_CLEAR, R391. -/
  | tilecmdClear (site : Nat)
  /-- TILECMD_SET, R391. -/
  | tilecmdSet (site : Nat)
  /-- FREEZE_WRITE, R397. -/
  | freezeWrite (off : Nat) (v : Word)
  /-- DBG_WRITE, R397. -/
  | dbgWrite (off : Nat) (v : Word)
  /-- ATTESTATION, R395. -/
  | attestation (nonce : List Byte)
  /-- ROLLUP, R393. -/
  | rollup
  /-- ADMISSION_TABLE_WRITE, R381. -/
  | admissionTableWrite (i srcDomain srcModule srcCtx dstCtx : Nat) (valid : Bool)
  /-- HOST_SUBSCRIPTION_REGISTER, R385. -/
  | hostSubscriptionRegister (port ctx : Nat) (name : Word) (ring vector : Nat)
  /-- FIRMWARE_WRITE, R393. -/
  | firmwareWrite (image : List Byte)
  /-- MGMT_REGISTER_WRITE, R396. -/
  | mgmtRegisterWrite (off : Nat) (v : Word)
  /-- MODULE_RESET, R392. -/
  | moduleReset
  /-- LOW_INPUT, R390. -/
  | lowInput
  /-- INPUT_RESTORED, R390. -/
  | inputRestored
  /-- SUPPLY_LOSS, R390. -/
  | supplyLoss
  /-- HOT_TILE, R390. -/
  | hotTile (site : Nat)
  /-- HOT_TILE_CLEAR, R390. -/
  | hotTileClear (site : Nat)
  /-- HOT_DOMAIN_HOLD, R390. -/
  | hotDomainHold (dom : Nat)
  /-- HOT_DOMAIN_RELEASE, R390. -/
  | hotDomainRelease (dom : Nat)
  /-- OVERTEMP_TRIP, R390. -/
  | overtempTrip (site : Nat)
  /-- DEFECTIVE_ERRORS, R391. -/
  | defectiveErrors (site : Nat)
  /-- SWITCH_LINK_REPORT, R377. -/
  | switchLinkReport (k module : Nat) (usable : Bool)
  deriving DecidableEq, Repr

end Sys2Proof
end

