-- ==== Sys2Proof/Machine/OpTable.lean ====
section
/-! DEFINITION. The opcode map of R58 as a table, with what each home chapter says of every body field of each
opcode: which role it plays, what is reserved, which types and modifiers are accepted. The decode checks of R40 read it. -/

namespace Sys2Proof.Machine

/-- The formats of R34. -/
inductive Fmt where
  | rrr | rri | mem | br | nam
  deriving DecidableEq, Repr

/-- What a body field of eight bits names (R43 to R45 and the home chapters). -/
inductive Role where
  /-- reserved, R38 -/
  | rsv
  /-- the home chapter gives it a meaning of its own -/
  | own
  /-- scalar source, R43 -/
  | ss
  /-- scalar destination a0-a63, o0-o7, R43 -/
  | sd
  /-- scalar destination a1-a63, o0-o7 (R103, R230, R249, R264, R272, R294, R318) -/
  | sl
  /-- scalar source and destination a1-a63, o0-o7 (R103, R230) -/
  | sx
  /-- scalar source and destination, a0 allowed (CAS, R143) -/
  | sc
  /-- vector source, R44 -/
  | vs
  /-- vector destination, R44 -/
  | vd
  /-- predicate read, R45 -/
  | ps
  /-- predicate written, R45 -/
  | pd
  /-- accumulator read, written, R45 -/
  | accR | accW
  /-- shape register read, written, R45 -/
  | shpR | shpW
  /-- codebook written, R45 -/
  | cbW
  deriving DecidableEq, Repr

/-- What the home chapter says of one opcode's body. -/
structure OpSpec where
  fmt : Fmt
  /-- D (F-RRR, F-RRI, F-MEM), N (F-NAM) -/
  d : Role := .rsv
  /-- A, BASE -/
  a : Role := .rsv
  /-- B, IDX -/
  b : Role := .rsv
  /-- C of F-RRR -/
  c : Role := .rsv
  /-- accepted type codes, where T is a type -/
  types : Option (List Nat) := none
  /-- reserved bits of T where T is no type -/
  tRsv : Nat := 0xFF
  /-- M accepts a rounding, and SR among them -/
  rnd : Bool := false
  sr : Bool := true
  sat : Bool := false
  ck : Bool := false
  /-- accepted ordering kinds of F-MEM -/
  ordk : List Nat := [0]
  /-- SC is reserved -/
  scRsv : Bool := false
  /-- reserved bits of F and I8 of F-NAM, and of F of F-BR; S reserved -/
  fRsv : Nat := 0xFF
  iRsv : Nat := 0xFF
  sRsv : Bool := false
  /-- OFF32 is reserved (RET) -/
  offRsv : Bool := false
  /-- a field holds a reserved value -/
  badVal : Bool := false
  /-- a second type field holds a code that is not accepted (R128, R143) -/
  badFmt2 : Bool := false
  /-- privileged, R40 check 12 -/
  priv : Bool := false

/-- Byte fields of a body: `fld b 40` is D, 32 A, 24 B, 16 C, 8 T, 0 M. -/
def fld (b : BitVec 48) (pos : Nat) : Nat := (b.extractLsb' pos 8).toNat

/-- n bits of a body from bit `pos`. -/
def bitsAt (b : BitVec 48) (pos n : Nat) : Nat := (b.extractLsb' pos n).toNat

/-- Type code sets. -/
def tInt : List Nat := [0, 1, 2, 3, 4, 5, 6, 7]
def tSInt : List Nat := [0, 1, 2, 3]
def tNInt : List Nat := [4, 5, 6, 7]
def tMem : List Nat := [0, 1, 2, 3, 4, 5, 6, 7, 8, 9, 10, 11, 12]
def tVec : List Nat := [10, 2, 6]
def tPack : List Nat := [0, 1, 4, 5, 8, 9, 11, 12, 13]
def tSplat : List Nat := [0, 1, 2, 4, 5, 6, 8, 9, 10, 11, 12]
def tCvtSrc : List Nat := [0, 1, 2, 4, 5, 6, 8, 9, 10, 11, 12, 13]

/-- A row of the table: the opcode and its body's rules. -/
abbrev OpRow := Nat × (BitVec 48 → OpSpec)

/-- S syllables of two sources with integer types (R93). -/
def sArith (types : List Nat) (sat : Bool) : BitVec 48 → OpSpec := fun _ =>
  { fmt := .rrr, d := .sd, a := .ss, b := .ss, types := some types, sat := sat, ck := sat }
/-- S syllables of two sources without a type. -/
def sLogic : BitVec 48 → OpSpec := fun _ => { fmt := .rrr, d := .sd, a := .ss, b := .ss }
/-- S syllables of one source. -/
def sUnary (types : List Nat) : BitVec 48 → OpSpec := fun _ =>
  { fmt := .rrr, d := .sd, a := .ss, types := some types }
/-- Shifts (R95): CK but not SAT. -/
def sShift : BitVec 48 → OpSpec := fun _ =>
  { fmt := .rrr, d := .sd, a := .ss, b := .ss, types := some tInt, ck := true }
/-- Predicate syllables of two sources (R102). -/
def sPred : BitVec 48 → OpSpec := fun _ => { fmt := .rrr, d := .pd, a := .ps, b := .ps }

/-- S class, K = 0 (R58, R91 to R102). -/
def opsS : List OpRow := [
  (0x01, sArith tInt true), (0x02, sArith tInt true), (0x03, sArith tInt true),
  (0x04, sArith tSInt false), (0x05, sArith tNInt false),
  (0x06, sArith tSInt true), (0x07, sArith tNInt false), (0x08, sArith tSInt false), (0x09, sArith tNInt false),
  (0x0A, sLogic), (0x0B, sLogic), (0x0C, sLogic), (0x0D, sLogic),
  (0x0E, sShift), (0x0F, sShift), (0x10, sShift), (0x11, sShift),
  (0x12, sArith tSInt false), (0x13, sArith tSInt false), (0x14, sArith tNInt false), (0x15, sArith tNInt false),
  (0x16, sUnary tInt), (0x17, sUnary tInt),
  (0x18, fun _ => { fmt := .rrr, d := .sd, a := .ss, c := .ss }),
  (0x19, fun _ => { fmt := .rrr, d := .sd, a := .ss, c := .ss }),
  (0x1A, fun _ => { fmt := .rrr, d := .sd, a := .ss, b := .ss, c := .ss }),
  (0x1B, fun _ => { fmt := .rrr, d := .sd, a := .ss, b := .ss, c := .ps }),
  (0x1C, fun _ => { fmt := .rrr, d := .sd, a := .ss }),
  (0x1D, fun _ => { fmt := .rri, d := .sd }),
  (0x1E, fun _ => { fmt := .rrr, d := .sd, a := .ss, b := .ss, c := .ss, types := some tMem }),
  (0x1F, sUnary tInt), (0x20, sUnary tInt), (0x21, sUnary [1, 2, 3, 5, 6, 7]),
  (0x22, sArith tInt false),
  (0x23, fun _ => { fmt := .rrr, d := .sd, a := .ss, b := .ss, c := .ss }),
  (0x28, fun b => { fmt := .rrr, d := .pd, a := .ss, b := .ss, c := .own, types := some tInt,
                    badVal := decide (8 ≤ fld b 16) }),
  (0x30, sPred), (0x31, sPred), (0x32, sPred),
  (0x33, fun _ => { fmt := .rrr, d := .pd, a := .ps }),
  (0x34, fun b => { fmt := .rrr, a := .ss, c := .own, badVal := decide (bitsAt b 16 1 = 1) }),
  (0x35, fun _ => { fmt := .rrr, d := .sd })]

/-- What M accepts in a V syllable that takes f32 and integer types; with a type code of neither kind, nothing (R117, R120; DEDUCED: log 15). -/
def vMod (b : BitVec 48) (s : OpSpec) (f i : Bool) (sr : Bool := true) : OpSpec :=
  if bitsAt b 8 4 = 10 then { s with rnd := f, sat := f, sr := sr }
  else if bitsAt b 8 4 < 8 then { s with sat := i, ck := i } else s

def v2 (types : Option (List Nat)) : OpSpec := { fmt := .rrr, d := .vd, a := .vs, b := .vs, types := types }
def v1 (types : Option (List Nat)) : OpSpec := { fmt := .rrr, d := .vd, a := .vs, types := types }
/-- Bits of T reserved where there is no type: all. -/
def v2n : OpSpec := v2 none

/-- V class, K = 1 (R58, R117, R120). -/
def opsV : List OpRow := [
  (0x01, fun b => vMod b (v2 (some tVec)) true true), (0x02, fun b => vMod b (v2 (some tVec)) true true),
  (0x03, fun _ => { v2 (some [10]) with rnd := true, sat := true }),
  (0x04, fun _ => { v2 (some [10]) with c := .vs, rnd := true, sat := true }),
  (0x05, fun _ => { v2 (some [10]) with c := .vs, rnd := true, sat := true }),
  (0x06, fun _ => v2 (some tVec)), (0x07, fun _ => v2 (some tVec)),
  (0x08, fun b => vMod b (v1 (some [10, 2])) false true), (0x09, fun b => vMod b (v1 (some [10, 2])) false true),
  (0x0A, fun b => { v2 (some tVec) with c := .own, badVal := decide (8 ≤ fld b 16) }),
  (0x0B, fun _ => { v2n with c := .vs }),
  (0x0C, fun _ => v2n), (0x0D, fun _ => v2n), (0x0E, fun _ => v2n),
  (0x0F, fun _ => { v2n with ck := true }), (0x10, fun _ => { v2n with ck := true }),
  (0x11, fun _ => { v2n with ck := true }),
  (0x12, fun _ => v1 none),
  (0x13, fun _ => { fmt := .rrr, d := .vd, a := .ss, types := some tSplat }),
  (0x14, fun _ => { fmt := .rrr, d := .sd, a := .vs, b := .ss, types := some tVec }),
  (0x15, fun _ => { fmt := .rrr, d := .vd, a := .vs, b := .ss, c := .ss }),
  (0x16, fun _ => v2n),
  (0x17, fun _ => { fmt := .rrr, d := .vd, a := .vs, b := .ss }),
  (0x18, fun b => vMod b (v1 (some tVec)) true true false),
  (0x19, fun _ => v1 (some tVec)), (0x1A, fun _ => v1 (some tVec)),
  (0x1B, fun b => vMod b (v1 (some tVec)) true true false),
  (0x1C, fun b => { v1 (some tSplat) with
      c := .own, rnd := true, sat := true, ck := true
      badVal := decide (bitsAt b 22 2 ≠ 0) || (decide (bitsAt b 20 2 ≠ 0) && decide (bitsAt b 16 4 ≠ 13))
      badFmt2 := !(tCvtSrc.contains (bitsAt b 16 4)) }),
  (0x1D, fun _ => v2 (some tPack)),
  (0x1E, fun b => { v1 (some tPack) with c := .own, badVal := decide (2 ≤ fld b 16) }),
  (0x1F, fun _ => v1 (some [10])), (0x20, fun _ => v1 (some [10])), (0x21, fun _ => v1 (some [10])),
  (0x22, fun _ => v1 (some [10])),
  (0x23, fun _ => { v1 (some [10]) with rnd := true }),
  (0x24, fun _ => { v2 (some [10]) with rnd := true, sat := true }),
  (0x25, fun _ => v1 (some [10])),
  (0x26, fun _ => { v2 (some [10]) with rnd := true, sat := true }),
  (0x27, fun _ => { v1 (some [10]) with rnd := true }),
  (0x28, fun _ => { v2 (some [2, 6]) with sat := true, ck := true }),
  (0x29, fun _ => v2 (some [2, 6])),
  (0x2A, fun _ => { fmt := .rrr, d := .vd }),
  (0x2B, fun _ => { fmt := .rrr, d := .sd, a := .vs }),
  (0x2C, fun _ => v2n)]

/-- Multiplies of the matrix unit (R172). -/
def mMul : BitVec 48 → OpSpec := fun _ =>
  { fmt := .rrr, d := .accW, a := .ss, b := .ss, c := .shpR, tRsv := 0xF0 }

/-- M class, K = 2 (R58, R172). -/
def opsM : List OpRow := [
  (0x01, fun _ => { fmt := .rrr, d := .shpW, a := .ss }),
  (0x02, fun _ => { fmt := .rrr, d := .accW }),
  (0x03, mMul), (0x04, mMul), (0x05, mMul),
  (0x06, fun _ => { fmt := .rrr, d := .cbW, a := .ss }),
  (0x07, fun _ => { fmt := .rrr, d := .accW, a := .ss }),
  (0x08, fun _ => { fmt := .rrr, a := .ss, c := .accR, types := some [8, 9, 10] }),
  (0x09, fun _ => { fmt := .rrr, d := .accW, a := .ss }),
  (0x0A, fun _ => { fmt := .rrr })]

/-- Types that an atomic operation accepts (R143). -/
def atomTypes (aop : Nat) : List Nat :=
  if aop = 8 then [10] else if aop = 6 ∨ aop = 7 then [2, 6, 3, 7, 10] else [2, 6, 3, 7]

/-- ATOMS and ATOMG (R143). -/
def lAtom (ordk : List Nat) : BitVec 48 → OpSpec := fun b =>
  { fmt := .mem, d := if bitsAt b 10 4 = 7 then .sc else .sd, a := .ss, b := .ss,
    types := some (atomTypes (bitsAt b 10 4)), scRsv := true, ordk := ordk
    badVal := decide (9 ≤ bitsAt b 10 4) }

/-- Maintenance of lines (R150). -/
def lMaint : BitVec 48 → OpSpec := fun _ => { fmt := .rrr, a := .ss, b := .ss }

/-- FENCE and XFENCE kind and scope in C (R151). -/
def badFence (b : BitVec 48) : Bool := decide (bitsAt b 16 2 = 0) || decide (5 ≤ bitsAt b 18 3) || decide (bitsAt b 21 3 ≠ 0)

/-- L class, K = 3 (R58, R140, R143, R144, R147 to R152). -/
def opsL : List OpRow := [
  (0x01, fun _ => { fmt := .mem, d := .sd, a := .ss, b := .ss, types := some tMem }),
  (0x02, fun _ => { fmt := .mem, d := .ss, a := .ss, b := .ss, types := some tMem }),
  (0x03, fun _ => { fmt := .mem, d := .vd, a := .ss, b := .ss }),
  (0x04, fun _ => { fmt := .mem, d := .vs, a := .ss, b := .ss }),
  (0x05, fun _ => { fmt := .mem, d := .vd, a := .ss, b := .vs }),
  (0x06, fun _ => { fmt := .mem, d := .vs, a := .ss, b := .vs }),
  (0x07, fun _ => { fmt := .mem, d := .sd, a := .ss, b := .ss, types := some tMem, ordk := [0, 1] }),
  (0x08, fun _ => { fmt := .mem, d := .ss, a := .ss, b := .ss, types := some tMem, ordk := [0, 2] }),
  (0x09, fun _ => { fmt := .mem, d := .vd, a := .ss, b := .ss, ordk := [0, 1] }),
  (0x0A, fun _ => { fmt := .mem, d := .vs, a := .ss, b := .ss, ordk := [0, 2] }),
  (0x0B, lAtom [0]), (0x0C, lAtom [0, 1, 2, 3]),
  (0x0D, fun _ => { fmt := .mem, a := .ss, b := .ss }),
  (0x0E, lMaint), (0x0F, lMaint), (0x10, lMaint),
  (0x11, fun _ => { fmt := .rrr, d := .sd, a := .ss }),
  (0x12, fun _ => { fmt := .rrr, d := .sd, a := .ss, priv := true }),
  (0x13, lMaint),
  (0x14, fun _ => { fmt := .rrr, d := .sd, a := .ss, b := .ss }),
  (0x15, fun b => { fmt := .rrr, c := .own, badVal := badFence b }),
  (0x16, fun b => { fmt := .rrr, d := .own, b := .own, c := .own,
                    badVal := badFence b || decide (fld b 24 = 0) || decide (64 ≤ fld b 24) || decide (fld b 40 = 0)
                      || decide (64 ≤ fld b 40) }),
  (0x17, fun _ => { fmt := .rrr, d := .sd, a := .ss, b := .ss, c := .ss })]

/-- N class, K = 4 (R58, R160, R207, R210, R212, R386). -/
def opsN : List OpRow := [
  (0x01, fun _ => { fmt := .nam, a := .ss }),
  (0x02, fun _ => { fmt := .nam }),
  (0x03, fun _ => { fmt := .nam }),
  (0x04, fun b => { fmt := .nam, a := .ss, iRsv := 0, badVal := decide (6 ≤ fld b 0) }),
  (0x05, fun b => { fmt := .nam, sRsv := true, tRsv := 0, fRsv := 0, iRsv := 0,
                    badVal := decide (5 ≤ bitsAt b 16 4) || decide (bitsAt b 0 16 = 0) }),
  (0x06, fun _ => { fmt := .nam, d := .ss, a := .ss, b := .ss, fRsv := 0xFE }),
  (0x07, fun _ => { fmt := .nam }),
  (0x08, fun _ => { fmt := .nam, d := .ss, a := .ss, b := .ss, sRsv := true, fRsv := 0xFE, iRsv := 0 }),
  (0x09, fun b => { fmt := .nam, d := .ss, a := .ss, b := .ss, sRsv := true, tRsv := 0, fRsv := 0xFC, iRsv := 0,
                    badVal := decide (4 ≤ bitsAt b 16 4) }),
  (0x0A, fun _ => { fmt := .nam, d := .ss, a := .sd, sRsv := true }),
  (0x0B, fun _ => { fmt := .nam, d := .ss, a := .sd, sRsv := true }),
  (0x0C, fun b => { fmt := .nam, a := .sd, fRsv := 0xFC,
                    badVal := decide (bitsAt b 9 1 = 1) && (decide (bitsAt b 20 4 ≠ 0) || decide (bitsAt b 8 1 = 1)) }),
  (0x0D, fun _ => { fmt := .nam, d := .ss, a := .ss, b := .ss, sRsv := true, fRsv := 0xFE, iRsv := 0 })]

/-- Results of requests: D must be a1-a63 or o0-o7. -/
def cReq (a b : Role) : OpSpec := { fmt := .rrr, d := .sl, a := a, b := b }

/-- C class, K = 5 (R58 and the home chapters it names). -/
def opsC : List OpRow := [
  (0x00, fun _ => { fmt := .rrr }),
  (0x01, fun _ => { fmt := .br }),
  (0x02, fun _ => { fmt := .br, a := .ss }),
  (0x03, fun b => { fmt := .br, a := if bitsAt b 32 1 = 1 then .sx else .sl, fRsv := 0xFE }),
  (0x04, fun _ => { fmt := .br, a := .ss, offRsv := true }),
  (0x05, fun _ => { fmt := .br, a := .sx }),
  (0x06, fun b => { fmt := .rrr, c := .own, badVal := decide (2 ≤ fld b 16) }),
  (0x07, fun b => { fmt := .rrr, c := .own
                    a := if fld b 16 = 1 ∨ fld b 16 = 3 then .ss else .rsv
                    b := if fld b 16 = 0 ∨ fld b 16 = 1 then .own else .rsv
                    badVal := decide (4 ≤ fld b 16) || (decide (fld b 16 < 2) && decide (16 ≤ fld b 24)) }),
  (0x08, fun b => { fmt := .rrr, a := .ss, c := .own, badVal := decide (16 ≤ fld b 16) }),
  (0x09, fun _ => { fmt := .rri }),
  (0x0A, fun _ => { fmt := .rrr }),
  (0x0B, fun b => { fmt := .rri, d := .sd, badVal := decide (bitsAt b 12 20 ≠ 0) }),
  (0x0C, fun b => { fmt := .rri, a := .ss, badVal := decide (bitsAt b 12 20 ≠ 0) }),
  (0x0D, fun _ => { fmt := .rrr, d := .sx, a := .ss, b := .ss, c := .ss, tRsv := 0x80 }),
  (0x0E, fun _ => { cReq .ss .rsv with tRsv := 0x80 }),
  (0x0F, fun b => { cReq (if fld b 16 = 0 ∨ fld b 16 = 3 then .ss else .rsv) (if fld b 16 = 0 then .ss else .rsv) with
                    c := .own, tRsv := 0xC0, badVal := decide (5 ≤ fld b 16) }),
  (0x10, fun _ => cReq .ss .rsv), (0x11, fun _ => cReq .ss .rsv),
  (0x12, fun b => { cReq .ss (if fld b 16 = 0 ∨ fld b 16 = 5 then .rsv else .ss) with
                    c := .own, badVal := decide (6 ≤ fld b 16) }),
  (0x13, fun b => { cReq .ss .ss with c := .own, badVal := decide (16 ≤ fld b 16) }),
  (0x14, fun _ => cReq .ss .ss),
  (0x15, fun b => { cReq .ss .rsv with c := .own, badVal := decide (2 ≤ fld b 16) }),
  (0x16, fun b => { cReq .ss .ss with c := .own, badVal := decide (16 ≤ fld b 16) }),
  (0x17, fun _ => cReq .ss .ss), (0x18, fun _ => cReq .ss .rsv), (0x19, fun _ => cReq .ss .rsv),
  (0x1A, fun _ => { cReq .ss .ss with priv := true }),
  (0x1B, fun _ => { cReq .ss .rsv with priv := true }),
  (0x1C, fun b => { cReq .ss (if bitsAt b 16 1 = 1 then .rsv else .ss) with
                    c := .own, priv := true, badVal := decide (2 ≤ fld b 16) }),
  (0x1D, fun b => { cReq .ss .ss with c := .own, priv := true, badVal := decide (2 ≤ fld b 16) }),
  (0x1E, fun b => { cReq .rsv .rsv with c := .own, badVal := decide (3 ≤ fld b 16) }),
  (0x1F, fun _ => { fmt := .rrr, d := .sd, a := .ss }),
  (0x20, fun _ => { fmt := .rrr, d := .own, a := .own })]

/-- The rows of a class (R32, R58). -/
def opsOf (k : Nat) : List OpRow :=
  match k with
  | 0 => opsS | 1 => opsV | 2 => opsM | 3 => opsL | 4 => opsN | 5 => opsC | _ => []

/-- What the table says of class `k`, opcode `op` with body `b`; none is BADOP. -/
def opSpec (k op : Nat) (b : BitVec 48) : Option OpSpec := (KMap.get? (opsOf k) op).map (· b)

end Sys2Proof.Machine
end

