-- ==== Sys2Proof/Machine/Checks.lean ====
section
/-! DEFINITION. The decode checks 2 to 17 of R40 on the words of one bundle, with the port counts of R47, the
double writes of R48 and the system register table of R112. Check 1 (FETCHRANGE) is made by the fetch. -/

namespace Sys2Proof.Machine

/-- Header fields of a syllable word (R32). -/
def wE (w : Word) : Bool := w.getLsbD 63
def wK (w : Word) : Nat := (w.extractLsb' 60 3).toNat
def wOp (w : Word) : Nat := (w.extractLsb' 52 8).toNat
def wGN (w : Word) : Bool := w.getLsbD 51
def wG (w : Word) : Nat := (w.extractLsb' 48 3).toNat
def wBody (w : Word) : BitVec 48 := w.extractLsb' 0 48

/-- A syllable with its X, if it has one (R37). -/
structure Syl where
  w : Word
  x : Option Word
  deriving DecidableEq, Repr

/-- What the table says of a word. -/
def specOf (w : Word) : Option OpSpec := opSpec (wK w) (wOp w) (wBody w)

/-- Is the word an F-RRI syllable? -/
def isRRI (w : Word) : Bool := match specOf w with | some s => s.fmt == .rri | none => false

/-- Check 4: the first X that is first in the bundle, follows another X or follows no F-RRI syllable. -/
def xorphan : Option Word → List Word → Option Word
  | _, [] => none
  | prev, w :: ws =>
    if wK w = 6 && !(match prev with | some p => wK p ≠ 6 && isRRI p | none => false) then some w
    else xorphan (some w) ws

/-- Attaches every X to its owner. -/
def attach : List Word → List Syl
  | [] => []
  | w :: ws =>
    match ws with
    | x :: rest => if wK w ≠ 6 && wK x = 6 then ⟨w, some x⟩ :: attach rest
                   else if wK w = 6 then attach (x :: rest) else ⟨w, none⟩ :: attach (x :: rest)
    | [] => if wK w = 6 then [] else [⟨w, none⟩]

/-- Check 5: the first syllable whose class stands below the one before it. -/
def slotOrder : Nat → List Syl → Option Syl
  | _, [] => none
  | k, s :: ss => if wK s.w < k then some s else slotOrder (wK s.w) ss

/-- Largest number of syllables of a class (R39). -/
def classMax (k : Nat) : Nat := if k = 0 ∨ k = 3 then 2 else 1

/-- Check 6: the first syllable that exceeds its class's largest number. -/
def slotDup : List Syl → List Syl → Option Syl
  | _, [] => none
  | seen, s :: ss =>
    if classMax (wK s.w) ≤ (seen.filter (fun t => wK t.w == wK s.w)).length then some s else slotDup (s :: seen) ss

/-- The roles of the four byte fields, with their values. -/
def fieldsOf (s : Syl) : List (Role × Nat) :=
  match specOf s.w with
  | none => []
  | some sp =>
    let b := wBody s.w
    match sp.fmt with
    | .rrr => [(sp.d, fld b 40), (sp.a, fld b 32), (sp.b, fld b 24), (sp.c, fld b 16)]
    | .rri => [(sp.d, fld b 40), (sp.a, fld b 32)]
    | .mem => [(sp.d, fld b 40), (sp.a, fld b 32), (sp.b, fld b 24)]
    | .br => [(sp.a, fld b 40)]
    | .nam => [(sp.d, fld b 40), (sp.a, fld b 32), (sp.b, fld b 24)]

/-- The type code of a syllable that has one. -/
def typeCode (sp : OpSpec) (b : BitVec 48) : Nat :=
  match sp.fmt with
  | .mem => bitsAt b 18 4
  | .nam => bitsAt b 16 4
  | _ => bitsAt b 8 4

/-- Reserved bits of M (R57, R117). -/
def badM (sp : OpSpec) (m : Nat) : Bool :=
  decide (32 ≤ m) || (!sp.rnd && decide (m % 8 ≠ 0)) || (!sp.sat && decide (m / 8 % 2 = 1)) ||
  (!sp.ck && decide (m / 16 % 2 = 1)) || (decide (m / 8 % 2 = 1) && decide (m / 16 % 2 = 1))

/-- Check 9: a reserved field or a reserved field value is nonzero. -/
def badReserved (s : Syl) : Bool :=
  match specOf s.w with
  | none => false
  | some sp =>
    let b := wBody s.w
    sp.badVal || (fieldsOf s).any (fun p => p.1 == .rsv && decide (p.2 ≠ 0)) ||
    match sp.fmt with
    | .rrr =>
      badM sp (fld b 0) ||
      (match sp.types with
       | some _ => decide (16 ≤ fld b 8)
       | none => decide (fld b 8 &&& sp.tRsv ≠ 0))
    | .rri =>
      match s.x with
      | some _ => decide (bitsAt b 4 28 ≠ 0) || decide (wK s.w = 5 ∧ (wOp s.w = 0x0B ∨ wOp s.w = 0x0C))
      | none => false
    | .mem =>
      (sp.types.isNone && decide (bitsAt b 18 4 ≠ 0)) || (sp.scRsv && decide (bitsAt b 22 2 ≠ 0)) ||
      !(sp.ordk.contains (bitsAt b 16 2)) || (decide (bitsAt b 16 2 = 0) && decide (bitsAt b 14 2 ≠ 0))
    | .br => decide (fld b 32 &&& sp.fRsv ≠ 0) || decide (bitsAt b 0 3 ≠ 0) || (sp.offRsv && decide (bitsAt b 0 32 ≠ 0))
    | .nam =>
      (sp.sRsv && decide (bitsAt b 20 4 ≠ 0)) || decide (bitsAt b 16 4 &&& sp.tRsv ≠ 0) ||
      decide (fld b 8 &&& sp.fRsv ≠ 0) || decide (fld b 0 &&& sp.iRsv ≠ 0)

/-- Is a scalar source specifier reserved (R43)? -/
def badSrc (v : Nat) : Bool := decide (0x4C ≤ v ∧ v ≤ 0x4F) || decide (0x60 ≤ v ∧ v ≤ 0x7F)

/-- A specifier that its role does not allow (R43, R44). -/
def badSpecFor (r : Role) (v : Nat) : Bool :=
  match r with
  | .ss => badSrc v
  | .sd | .sc => decide (0x48 ≤ v)
  | .sl | .sx => decide (0x48 ≤ v) || decide (v = 0)
  | .vs => decide (0x29 ≤ v)
  | .vd => decide (0x28 ≤ v)
  | _ => false

/-- Access codes of R112: 0 a dash, 1 RO, 2 RW. -/
structure SysAcc where
  prog : Nat
  priv : Nat
  deriving DecidableEq, Repr

/-- The system registers of R112 with their access by a program and by a privileged program. STATUS is written as
its map says (W1C bits), so its access is RW. -/
def sysRegs : List (Nat × SysAcc) := [
  (0x000, ⟨2, 2⟩), (0x001, ⟨1, 2⟩), (0x002, ⟨2, 2⟩), (0x003, ⟨1, 2⟩), (0x004, ⟨2, 2⟩),
  (0x010, ⟨1, 1⟩), (0x011, ⟨1, 1⟩), (0x012, ⟨1, 1⟩), (0x013, ⟨1, 1⟩),
  (0x020, ⟨2, 2⟩), (0x021, ⟨2, 2⟩), (0x022, ⟨2, 2⟩), (0x030, ⟨1, 1⟩), (0x031, ⟨1, 1⟩),
  (0x040, ⟨1, 1⟩), (0x041, ⟨1, 1⟩), (0x042, ⟨1, 1⟩),
  (0x050, ⟨2, 2⟩), (0x051, ⟨2, 2⟩), (0x052, ⟨2, 2⟩), (0x053, ⟨2, 2⟩),
  (0x060, ⟨1, 1⟩), (0x061, ⟨1, 1⟩), (0x062, ⟨1, 1⟩), (0x063, ⟨1, 1⟩), (0x064, ⟨1, 1⟩),
  (0x070, ⟨1, 1⟩), (0x071, ⟨1, 1⟩),
  (0x800, ⟨0, 2⟩), (0x801, ⟨0, 2⟩), (0x802, ⟨0, 2⟩), (0x803, ⟨0, 2⟩), (0x804, ⟨0, 2⟩), (0x805, ⟨0, 2⟩),
  (0x80F, ⟨0, 2⟩), (0x810, ⟨0, 1⟩)]

/-- Access to system register `n` in a slot that is or is not privileged; none where R112 assigns no register. -/
def sysAcc (n : Nat) (priv : Bool) : Option Nat := (KMap.get? sysRegs n).map (fun r => if priv then r.priv else r.prog)

/-- The system register of a SYSR or SYSW (R109). -/
def sysNum (s : Syl) : Option Nat :=
  if wK s.w = 5 ∧ (wOp s.w = 0x0B ∨ wOp s.w = 0x0C) then some (bitsAt (wBody s.w) 0 12) else none

/-- Check 10. -/
def badSpec (priv : Bool) (s : Syl) : Bool :=
  (fieldsOf s).any (fun p => badSpecFor p.1 p.2) ||
  match sysNum s with
  | some n => decide (wOp s.w = 0x0C) && decide (sysAcc n priv = some 1)
  | none => false

/-- An index above its file (R45). -/
def badIdxFor (r : Role) (v : Nat) : Bool :=
  match r with
  | .ps | .pd | .shpR | .shpW => decide (8 ≤ v)
  | .accR | .accW | .cbW => decide (4 ≤ v)
  | _ => false

/-- Check 11. -/
def badHref (priv : Bool) (s : Syl) : Bool :=
  (fieldsOf s).any (fun p => badIdxFor p.1 p.2) ||
  match sysNum s with
  | some n => decide (sysAcc n priv = none)
  | none => false

/-- Check 12. -/
def badPriv (priv : Bool) (s : Syl) : Bool :=
  !priv && ((match specOf s.w with | some sp => sp.priv | none => false) ||
    match sysNum s with
    | some n => decide (sysAcc n priv = some 0)
    | none => false)

/-- Scalar reads, scalar writes, vector reads, vector writes of a syllable (R47). -/
structure Ports where
  sr : Nat
  sw : Nat
  vr : Nat
  vw : Nat
  deriving DecidableEq, Repr

/-- What a field with a role counts at the ports (R47). A field that is a destination alone counts a write and no read, also where R47 names it
among the sources: A of a direct CALL, and D of NHOLD, NRELS and NPOLL (DESIGN CHOICE, log 42). -/
def portOf (r : Role) (v : Nat) : Ports :=
  let rd := if 1 ≤ v ∧ v ≤ 63 then 1 else 0
  let wr := if 1 ≤ v ∧ v ≤ 0x47 then 1 else 0
  match r with
  | .ss => ⟨rd, 0, 0, 0⟩
  | .sd | .sl => ⟨0, wr, 0, 0⟩
  | .sx | .sc => ⟨rd, wr, 0, 0⟩
  | .vs => ⟨0, 0, if v < 0x20 then 1 else 0, 0⟩
  | .vd => ⟨0, 0, 0, 1⟩
  | _ => ⟨0, 0, 0, 0⟩

def Ports.add (p q : Ports) : Ports := ⟨p.sr + q.sr, p.sw + q.sw, p.vr + q.vr, p.vw + q.vw⟩
def Ports.over (p : Ports) : Bool := decide (6 < p.sr) || decide (3 < p.sw) || decide (3 < p.vr) || decide (1 < p.vw)
def portsOf (s : Syl) : Ports := (fieldsOf s).foldl (fun p f => p.add (portOf f.1 f.2)) ⟨0, 0, 0, 0⟩

/-- Check 13: the first syllable after whose reads and writes a count stands above its limit. -/
def overPorts : Ports → List Syl → Option Syl
  | _, [] => none
  | p, s :: ss => let q := p.add (portsOf s); if q.over then some s else overPorts q ss

/-- Registers a syllable writes under R48, each under a number of its own: a and o below 0x48, v and w from 0x100,
accumulators from 0x200, shapes from 0x210, codebooks from 0x220, system registers from 0x1000. -/
def regWrites (s : Syl) : List Nat :=
  (fieldsOf s).filterMap (fun p =>
    match p.1 with
    | .sd | .sl | .sx | .sc => if p.2 = 0 then none else some p.2
    | .vd => some (0x100 + p.2)
    | .accW => some (0x200 + p.2)
    | .shpW => some (0x210 + p.2)
    | .cbW => some (0x220 + p.2)
    | _ => none) ++
  (match sysNum s with | some n => if wOp s.w = 0x0C then [0x1000 + n] else [] | none => [])

/-- Predicates p1 to p7 that a syllable writes (R48, R102). -/
def predWrites (s : Syl) : List Nat :=
  (fieldsOf s).filterMap (fun p => match p.1 with | .pd => if p.2 = 0 then none else some p.2 | _ => none) ++
  (if wK s.w = 0 ∧ wOp s.w = 0x34 then
    [1, 2, 3, 4, 5, 6, 7].filter (fun i => (fld (wBody s.w) 16) / 2 ^ i % 2 == 1) else [])

/-- Checks 14 and 15: the first syllable that shares a destination with another one. -/
def sharesWrite (f : Syl → List Nat) : List Syl → List Syl → Option Syl
  | _, [] => none
  | before, s :: ss =>
    if (f s).any (fun r => before.any (fun t => (f t).contains r) || ss.any (fun t => (f t).contains r)) then some s
    else sharesWrite f (s :: before) ss

/-- Check 16. -/
def badFmt (s : Syl) : Bool :=
  match specOf s.w with
  | none => false
  | some sp => sp.badFmt2 || match sp.types with
    | some ts => !(ts.contains (typeCode sp (wBody s.w)))
    | none => false

/-- Check 17. -/
def badRnd (s : Syl) : Bool :=
  match specOf s.w with
  | none => false
  | some sp => sp.rnd && (decide (bitsAt (wBody s.w) 0 3 = 7) || (!sp.sr && decide (bitsAt (wBody s.w) 0 3 = 5)))

/-- Origin of a decode fault by the class of its syllable (R40). -/
def originOf (k : Nat) : Nat := match k with | 1 => 1 | 2 => 1 | 3 => 2 | 4 => 3 | _ => 0

/-- A decode fault of a syllable. -/
def decFault (kind : FKind) (s : Syl) : TrapInfo := ⟨kind, originOf (wK s.w), s.w⟩

/-- Checks 2 to 4 of R40 on the words of a bundle. `closed` says whether a word with E = 1 ended it. -/
def checkWords (ws : List Word) (closed : Bool) : Option TrapInfo :=
  match ws.find? (fun w => wK w == 7) with
  | some w => some ⟨.class7, 0, w⟩
  | none =>
    if !closed then some ⟨.longbundle, 0, ws.headD 0⟩
    else match xorphan none ws with
      | some w => some ⟨.xorphan, 0, w⟩
      | none => none

/-- The first of several checks that finds a syllable. -/
def firstFault : List (FKind × Option Syl) → Option TrapInfo
  | [] => none
  | (k, some s) :: _ => some (decFault k s)
  | (_, none) :: r => firstFault r

/-- Checks 5 to 17 of R40, in the table's order. -/
def checkSyls (ss : List Syl) (priv : Bool) : Option TrapInfo :=
  firstFault [
    (.slotorder, slotOrder 0 ss), (.slotdup, slotDup [] ss),
    (.badop, ss.find? (fun s => (specOf s.w).isNone)),
    (.badguard, ss.find? (fun s => decide (wG s.w = 0) && wGN s.w)),
    (.rsvfield, ss.find? badReserved), (.badspec, ss.find? (badSpec priv)), (.badhref, ss.find? (badHref priv)),
    (.priv, ss.find? (badPriv priv)), (.ports, overPorts ⟨0, 0, 0, 0⟩ ss),
    (.wawreg, sharesWrite regWrites [] ss), (.wawpred, sharesWrite predWrites [] ss),
    (.badfmt, ss.find? badFmt), (.badrnd, ss.find? badRnd)]

/-- Checks 2 to 17 of R40 on the words of a bundle. -/
def checkBundle (ws : List Word) (closed priv : Bool) : Option TrapInfo :=
  match checkWords ws closed with
  | some t => some t
  | none => checkSyls (attach ws) priv

end Sys2Proof.Machine
end

