-- ==== Sys2Proof/Decode.lean ====
section
/-! DEFINITION. Decoding and encoding: fields are pulled out of a syllable once and become an instruction (R31 to R38,
R58). The decoder is total on bytes and rejects by the kind of R40. The encoder follows the same encoding tables. -/

namespace Sys2Proof
open Sys2Proof.Machine

/-- F-RRR, R34. -/
def RRR.pack (f : RRR) : BitVec 48 := f.d ++ f.a ++ f.b ++ f.c ++ f.t ++ f.m
def RRR.unpack (b : BitVec 48) : RRR :=
  ⟨b.extractLsb' 40 8, b.extractLsb' 32 8, b.extractLsb' 24 8, b.extractLsb' 16 8, b.extractLsb' 8 8, b.extractLsb' 0 8⟩

/-- F-RRI, R34. -/
def RRI.pack (f : RRI) : BitVec 48 := f.d ++ f.a ++ f.imm
def RRI.unpack (b : BitVec 48) (x : Option XExt) : RRI := ⟨b.extractLsb' 40 8, b.extractLsb' 32 8, b.extractLsb' 0 32, x⟩

/-- F-MEM, R34. -/
def MemF.pack (f : MemF) : BitVec 48 := f.d ++ f.base ++ f.idx ++ f.sc ++ f.t ++ f.ordk ++ f.ords ++ f.disp
def MemF.unpack (b : BitVec 48) : MemF :=
  ⟨b.extractLsb' 40 8, b.extractLsb' 32 8, b.extractLsb' 24 8, b.extractLsb' 22 2, b.extractLsb' 18 4,
   b.extractLsb' 16 2, b.extractLsb' 14 2, b.extractLsb' 0 14⟩

/-- F-BR, R34. -/
def BrF.pack (f : BrF) : BitVec 48 := f.a ++ f.f ++ f.off
def BrF.unpack (b : BitVec 48) : BrF := ⟨b.extractLsb' 40 8, b.extractLsb' 32 8, b.extractLsb' 0 32⟩

/-- F-NAM, R34. -/
def NamF.pack (f : NamF) : BitVec 48 := f.n ++ f.a ++ f.b ++ f.s ++ f.t ++ f.f ++ f.i8
def NamF.unpack (b : BitVec 48) : NamF :=
  ⟨b.extractLsb' 40 8, b.extractLsb' 32 8, b.extractLsb' 24 8, b.extractLsb' 20 4, b.extractLsb' 16 4,
   b.extractLsb' 8 8, b.extractLsb' 0 8⟩

/-- One bit. -/
def bit (b : Bool) : BitVec 1 := if b then 1#1 else 0#1

/-- A syllable word from its class, opcode, header and body (R32). -/
def mkWord (k op : Nat) (h : Hdr) (b : BitVec 48) : Word :=
  bit h.last ++ BitVec.ofNat 3 k ++ BitVec.ofNat 8 op ++ bit h.neg ++ h.pred ++ b

/-- An X syllable (R34, R37). -/
def XExt.word (x : XExt) : Word := bit x.last ++ 6#3 ++ x.xv
def XExt.ofWord (w : Word) : XExt := ⟨w.getLsbD 63, w.extractLsb' 0 60⟩

/-- The header of a word (R32). -/
def hdrOf (w : Word) : Hdr := ⟨w.getLsbD 63, w.getLsbD 51, w.extractLsb' 48 3⟩

/-- The class, the opcode, the header, the body and the X of a syllable; none for an event of another agent,
which has no encoding. -/
def Instr.parts : Instr → Option (Nat × Nat × Hdr × BitVec 48 × Option XExt)
  | .add h f => some (0, 0x01, h, f.pack, none)
  | .sub h f => some (0, 0x02, h, f.pack, none)
  | .mul h f => some (0, 0x03, h, f.pack, none)
  | .mulh h f => some (0, 0x04, h, f.pack, none)
  | .mulhn h f => some (0, 0x05, h, f.pack, none)
  | .div h f => some (0, 0x06, h, f.pack, none)
  | .divn h f => some (0, 0x07, h, f.pack, none)
  | .remS h f => some (0, 0x08, h, f.pack, none)
  | .remn h f => some (0, 0x09, h, f.pack, none)
  | .andS h f => some (0, 0x0A, h, f.pack, none)
  | .orS h f => some (0, 0x0B, h, f.pack, none)
  | .xorS h f => some (0, 0x0C, h, f.pack, none)
  | .andn h f => some (0, 0x0D, h, f.pack, none)
  | .shl h f => some (0, 0x0E, h, f.pack, none)
  | .shr h f => some (0, 0x0F, h, f.pack, none)
  | .sar h f => some (0, 0x10, h, f.pack, none)
  | .rotr h f => some (0, 0x11, h, f.pack, none)
  | .min h f => some (0, 0x12, h, f.pack, none)
  | .max h f => some (0, 0x13, h, f.pack, none)
  | .minn h f => some (0, 0x14, h, f.pack, none)
  | .maxn h f => some (0, 0x15, h, f.pack, none)
  | .clz h f => some (0, 0x16, h, f.pack, none)
  | .popc h f => some (0, 0x17, h, f.pack, none)
  | .bfx h f => some (0, 0x18, h, f.pack, none)
  | .bfxs h f => some (0, 0x19, h, f.pack, none)
  | .bfi h f => some (0, 0x1A, h, f.pack, none)
  | .sel h f => some (0, 0x1B, h, f.pack, none)
  | .mov h f => some (0, 0x1C, h, f.pack, none)
  | .li h f => some (0, 0x1D, h, f.pack, f.x)
  | .lea h f => some (0, 0x1E, h, f.pack, none)
  | .sxt h f => some (0, 0x1F, h, f.pack, none)
  | .zxt h f => some (0, 0x20, h, f.pack, none)
  | .bswap h f => some (0, 0x21, h, f.pack, none)
  | .crcs h f => some (0, 0x22, h, f.pack, none)
  | .nmake h f => some (0, 0x23, h, f.pack, none)
  | .cmp h f => some (0, 0x28, h, f.pack, none)
  | .pand h f => some (0, 0x30, h, f.pack, none)
  | .por h f => some (0, 0x31, h, f.pack, none)
  | .pxor h f => some (0, 0x32, h, f.pack, none)
  | .pnot h f => some (0, 0x33, h, f.pack, none)
  | .pset h f => some (0, 0x34, h, f.pack, none)
  | .pget h f => some (0, 0x35, h, f.pack, none)
  | .vadd h f => some (1, 0x01, h, f.pack, none)
  | .vsub h f => some (1, 0x02, h, f.pack, none)
  | .vmul h f => some (1, 0x03, h, f.pack, none)
  | .vfma h f => some (1, 0x04, h, f.pack, none)
  | .vfms h f => some (1, 0x05, h, f.pack, none)
  | .vmax h f => some (1, 0x06, h, f.pack, none)
  | .vmin h f => some (1, 0x07, h, f.pack, none)
  | .vabs h f => some (1, 0x08, h, f.pack, none)
  | .vneg h f => some (1, 0x09, h, f.pack, none)
  | .vcmp h f => some (1, 0x0A, h, f.pack, none)
  | .vsel h f => some (1, 0x0B, h, f.pack, none)
  | .vand h f => some (1, 0x0C, h, f.pack, none)
  | .vor h f => some (1, 0x0D, h, f.pack, none)
  | .vxor h f => some (1, 0x0E, h, f.pack, none)
  | .vshl h f => some (1, 0x0F, h, f.pack, none)
  | .vshr h f => some (1, 0x10, h, f.pack, none)
  | .vsar h f => some (1, 0x11, h, f.pack, none)
  | .vmov h f => some (1, 0x12, h, f.pack, none)
  | .vsplat h f => some (1, 0x13, h, f.pack, none)
  | .vext h f => some (1, 0x14, h, f.pack, none)
  | .vins h f => some (1, 0x15, h, f.pack, none)
  | .vperm h f => some (1, 0x16, h, f.pack, none)
  | .vrot h f => some (1, 0x17, h, f.pack, none)
  | .vredadd h f => some (1, 0x18, h, f.pack, none)
  | .vredmax h f => some (1, 0x19, h, f.pack, none)
  | .vredmin h f => some (1, 0x1A, h, f.pack, none)
  | .vscan h f => some (1, 0x1B, h, f.pack, none)
  | .vcvt h f => some (1, 0x1C, h, f.pack, none)
  | .vpack h f => some (1, 0x1D, h, f.pack, none)
  | .vunpk h f => some (1, 0x1E, h, f.pack, none)
  | .vexp2 h f => some (1, 0x1F, h, f.pack, none)
  | .vlog2 h f => some (1, 0x20, h, f.pack, none)
  | .vrcpa h f => some (1, 0x21, h, f.pack, none)
  | .vrsqa h f => some (1, 0x22, h, f.pack, none)
  | .vsqrt h f => some (1, 0x23, h, f.pack, none)
  | .vdiv h f => some (1, 0x24, h, f.pack, none)
  | .vclass h f => some (1, 0x25, h, f.pack, none)
  | .vscale h f => some (1, 0x26, h, f.pack, none)
  | .vrint h f => some (1, 0x27, h, f.pack, none)
  | .vimul h f => some (1, 0x28, h, f.pack, none)
  | .vimulh h f => some (1, 0x29, h, f.pack, none)
  | .vrand h f => some (1, 0x2A, h, f.pack, none)
  | .vmcnt h f => some (1, 0x2B, h, f.pack, none)
  | .vjoin h f => some (1, 0x2C, h, f.pack, none)
  | .mshape h f => some (2, 0x01, h, f.pack, none)
  | .mzero h f => some (2, 0x02, h, f.pack, none)
  | .mma h f => some (2, 0x03, h, f.pack, none)
  | .mmat h f => some (2, 0x04, h, f.pack, none)
  | .mmag h f => some (2, 0x05, h, f.pack, none)
  | .mcb h f => some (2, 0x06, h, f.pack, none)
  | .macld h f => some (2, 0x07, h, f.pack, none)
  | .macst h f => some (2, 0x08, h, f.pack, none)
  | .macadd h f => some (2, 0x09, h, f.pack, none)
  | .mwait h f => some (2, 0x0A, h, f.pack, none)
  | .ld h f => some (3, 0x01, h, f.pack, none)
  | .st h f => some (3, 0x02, h, f.pack, none)
  | .vld h f => some (3, 0x03, h, f.pack, none)
  | .vst h f => some (3, 0x04, h, f.pack, none)
  | .vgath h f => some (3, 0x05, h, f.pack, none)
  | .vscat h f => some (3, 0x06, h, f.pack, none)
  | .ldg h f => some (3, 0x07, h, f.pack, none)
  | .stg h f => some (3, 0x08, h, f.pack, none)
  | .vldg h f => some (3, 0x09, h, f.pack, none)
  | .vstg h f => some (3, 0x0A, h, f.pack, none)
  | .atoms h f => some (3, 0x0B, h, f.pack, none)
  | .atomg h f => some (3, 0x0C, h, f.pack, none)
  | .pref h f => some (3, 0x0D, h, f.pack, none)
  | .clean h f => some (3, 0x0E, h, f.pack, none)
  | .inval h f => some (3, 0x0F, h, f.pack, none)
  | .discard h f => some (3, 0x10, h, f.pack, none)
  | .waymask h f => some (3, 0x11, h, f.pack, none)
  | .waygate h f => some (3, 0x12, h, f.pack, none)
  | .llock h f => some (3, 0x13, h, f.pack, none)
  | .lunlk h f => some (3, 0x14, h, f.pack, none)
  | .fence h f => some (3, 0x15, h, f.pack, none)
  | .xfence h f => some (3, 0x16, h, f.pack, none)
  | .chkv h f => some (3, 0x17, h, f.pack, none)
  | .scfg h f => some (4, 0x01, h, f.pack, none)
  | .sgo h f => some (4, 0x02, h, f.pack, none)
  | .sstop h f => some (4, 0x03, h, f.pack, none)
  | .sparm h f => some (4, 0x04, h, f.pack, none)
  | .sfence h f => some (4, 0x05, h, f.pack, none)
  | .subscribe h f => some (4, 0x06, h, f.pack, none)
  | .unsub h f => some (4, 0x07, h, f.pack, none)
  | .pub h f => some (4, 0x08, h, f.pack, none)
  | .pubr h f => some (4, 0x09, h, f.pack, none)
  | .nhold h f => some (4, 0x0A, h, f.pack, none)
  | .nrels h f => some (4, 0x0B, h, f.pack, none)
  | .npoll h f => some (4, 0x0C, h, f.pack, none)
  | .npollAck h f => some (4, 0x0C, h, f.pack, none)
  | .npollInj h f => some (4, 0x0C, h, f.pack, none)
  | .lsend h f => some (4, 0x0D, h, f.pack, none)
  | .nop h f => some (5, 0x00, h, f.pack, none)
  | .br h f => some (5, 0x01, h, f.pack, none)
  | .bri h f => some (5, 0x02, h, f.pack, none)
  | .callS h f => some (5, 0x03, h, f.pack, none)
  | .callInd h f => some (5, 0x03, h, f.pack, none)
  | .ret h f => some (5, 0x04, h, f.pack, none)
  | .loopS h f => some (5, 0x05, h, f.pack, none)
  | .exitS h f => some (5, 0x06, h, f.pack, none)
  | .yieldSlot h f => some (5, 0x07, h, f.pack, none)
  | .yieldWp h f => some (5, 0x07, h, f.pack, none)
  | .yieldAny h f => some (5, 0x07, h, f.pack, none)
  | .yieldTime h f => some (5, 0x07, h, f.pack, none)
  | .waitwp h f => some (5, 0x08, h, f.pack, none)
  | .trapS h f => some (5, 0x09, h, f.pack, f.x)
  | .rft h f => some (5, 0x0A, h, f.pack, none)
  | .sysr h f => some (5, 0x0B, h, f.pack, f.x)
  | .sysw h f => some (5, 0x0C, h, f.pack, f.x)
  | .syswPgroot h f => some (5, 0x0C, h, f.pack, f.x)
  | .syswBackbase h f => some (5, 0x0C, h, f.pack, f.x)
  | .launch h f => some (5, 0x0D, h, f.pack, none)
  | .qpost h f => some (5, 0x0E, h, f.pack, none)
  | .qctlCreate h f => some (5, 0x0F, h, f.pack, none)
  | .qctlDrain h f => some (5, 0x0F, h, f.pack, none)
  | .qctlClose h f => some (5, 0x0F, h, f.pack, none)
  | .qctlLevel h f => some (5, 0x0F, h, f.pack, none)
  | .qctlQuery h f => some (5, 0x0F, h, f.pack, none)
  | .gjoin h f => some (5, 0x10, h, f.pack, none)
  | .gleave h f => some (5, 0x11, h, f.pack, none)
  | .gctlCancel h f => some (5, 0x12, h, f.pack, none)
  | .gctlPrio h f => some (5, 0x12, h, f.pack, none)
  | .gctlCap h f => some (5, 0x12, h, f.pack, none)
  | .gctlCut h f => some (5, 0x12, h, f.pack, none)
  | .gctlRestore h f => some (5, 0x12, h, f.pack, none)
  | .gctlQuery h f => some (5, 0x12, h, f.pack, none)
  | .gwait h f => some (5, 0x13, h, f.pack, none)
  | .binit h f => some (5, 0x14, h, f.pack, none)
  | .barv h f => some (5, 0x15, h, f.pack, none)
  | .bwait h f => some (5, 0x16, h, f.pack, none)
  | .stepo h f => some (5, 0x17, h, f.pack, none)
  | .stepc h f => some (5, 0x18, h, f.pack, none)
  | .slack h f => some (5, 0x19, h, f.pack, none)
  | .ctxk h f => some (5, 0x1A, h, f.pack, none)
  | .reclm h f => some (5, 0x1B, h, f.pack, none)
  | .ctxrStart h f => some (5, 0x1C, h, f.pack, none)
  | .ctxrFree h f => some (5, 0x1C, h, f.pack, none)
  | .evict h f => some (5, 0x1D, h, f.pack, none)
  | .evictUnbind h f => some (5, 0x1D, h, f.pack, none)
  | .chkpNow h f => some (5, 0x1E, h, f.pack, none)
  | .chkpBgon h f => some (5, 0x1E, h, f.pack, none)
  | .chkpBgoff h f => some (5, 0x1E, h, f.pack, none)
  | .idle h f => some (5, 0x1F, h, f.pack, none)
  | .brk h f => some (5, 0x20, h, f.pack, none)
  | _ => none

/-- The instruction of class S with opcode `op`, header `h`, body `b` and X `x`. -/
def ofS (op : Nat) (h : Hdr) (b : BitVec 48) (x : Option XExt) : Option Instr :=
  match op with
  | 0x01 => some (.add h (RRR.unpack b))
  | 0x02 => some (.sub h (RRR.unpack b))
  | 0x03 => some (.mul h (RRR.unpack b))
  | 0x04 => some (.mulh h (RRR.unpack b))
  | 0x05 => some (.mulhn h (RRR.unpack b))
  | 0x06 => some (.div h (RRR.unpack b))
  | 0x07 => some (.divn h (RRR.unpack b))
  | 0x08 => some (.remS h (RRR.unpack b))
  | 0x09 => some (.remn h (RRR.unpack b))
  | 0x0A => some (.andS h (RRR.unpack b))
  | 0x0B => some (.orS h (RRR.unpack b))
  | 0x0C => some (.xorS h (RRR.unpack b))
  | 0x0D => some (.andn h (RRR.unpack b))
  | 0x0E => some (.shl h (RRR.unpack b))
  | 0x0F => some (.shr h (RRR.unpack b))
  | 0x10 => some (.sar h (RRR.unpack b))
  | 0x11 => some (.rotr h (RRR.unpack b))
  | 0x12 => some (.min h (RRR.unpack b))
  | 0x13 => some (.max h (RRR.unpack b))
  | 0x14 => some (.minn h (RRR.unpack b))
  | 0x15 => some (.maxn h (RRR.unpack b))
  | 0x16 => some (.clz h (RRR.unpack b))
  | 0x17 => some (.popc h (RRR.unpack b))
  | 0x18 => some (.bfx h (RRR.unpack b))
  | 0x19 => some (.bfxs h (RRR.unpack b))
  | 0x1A => some (.bfi h (RRR.unpack b))
  | 0x1B => some (.sel h (RRR.unpack b))
  | 0x1C => some (.mov h (RRR.unpack b))
  | 0x1D => some (.li h (RRI.unpack b x))
  | 0x1E => some (.lea h (RRR.unpack b))
  | 0x1F => some (.sxt h (RRR.unpack b))
  | 0x20 => some (.zxt h (RRR.unpack b))
  | 0x21 => some (.bswap h (RRR.unpack b))
  | 0x22 => some (.crcs h (RRR.unpack b))
  | 0x23 => some (.nmake h (RRR.unpack b))
  | 0x28 => some (.cmp h (RRR.unpack b))
  | 0x30 => some (.pand h (RRR.unpack b))
  | 0x31 => some (.por h (RRR.unpack b))
  | 0x32 => some (.pxor h (RRR.unpack b))
  | 0x33 => some (.pnot h (RRR.unpack b))
  | 0x34 => some (.pset h (RRR.unpack b))
  | 0x35 => some (.pget h (RRR.unpack b))
  | _ => none

/-- The instruction of class V with opcode `op`, header `h`, body `b` and X `x`. -/
def ofV (op : Nat) (h : Hdr) (b : BitVec 48) : Option Instr :=
  match op with
  | 0x01 => some (.vadd h (RRR.unpack b))
  | 0x02 => some (.vsub h (RRR.unpack b))
  | 0x03 => some (.vmul h (RRR.unpack b))
  | 0x04 => some (.vfma h (RRR.unpack b))
  | 0x05 => some (.vfms h (RRR.unpack b))
  | 0x06 => some (.vmax h (RRR.unpack b))
  | 0x07 => some (.vmin h (RRR.unpack b))
  | 0x08 => some (.vabs h (RRR.unpack b))
  | 0x09 => some (.vneg h (RRR.unpack b))
  | 0x0A => some (.vcmp h (RRR.unpack b))
  | 0x0B => some (.vsel h (RRR.unpack b))
  | 0x0C => some (.vand h (RRR.unpack b))
  | 0x0D => some (.vor h (RRR.unpack b))
  | 0x0E => some (.vxor h (RRR.unpack b))
  | 0x0F => some (.vshl h (RRR.unpack b))
  | 0x10 => some (.vshr h (RRR.unpack b))
  | 0x11 => some (.vsar h (RRR.unpack b))
  | 0x12 => some (.vmov h (RRR.unpack b))
  | 0x13 => some (.vsplat h (RRR.unpack b))
  | 0x14 => some (.vext h (RRR.unpack b))
  | 0x15 => some (.vins h (RRR.unpack b))
  | 0x16 => some (.vperm h (RRR.unpack b))
  | 0x17 => some (.vrot h (RRR.unpack b))
  | 0x18 => some (.vredadd h (RRR.unpack b))
  | 0x19 => some (.vredmax h (RRR.unpack b))
  | 0x1A => some (.vredmin h (RRR.unpack b))
  | 0x1B => some (.vscan h (RRR.unpack b))
  | 0x1C => some (.vcvt h (RRR.unpack b))
  | 0x1D => some (.vpack h (RRR.unpack b))
  | 0x1E => some (.vunpk h (RRR.unpack b))
  | 0x1F => some (.vexp2 h (RRR.unpack b))
  | 0x20 => some (.vlog2 h (RRR.unpack b))
  | 0x21 => some (.vrcpa h (RRR.unpack b))
  | 0x22 => some (.vrsqa h (RRR.unpack b))
  | 0x23 => some (.vsqrt h (RRR.unpack b))
  | 0x24 => some (.vdiv h (RRR.unpack b))
  | 0x25 => some (.vclass h (RRR.unpack b))
  | 0x26 => some (.vscale h (RRR.unpack b))
  | 0x27 => some (.vrint h (RRR.unpack b))
  | 0x28 => some (.vimul h (RRR.unpack b))
  | 0x29 => some (.vimulh h (RRR.unpack b))
  | 0x2A => some (.vrand h (RRR.unpack b))
  | 0x2B => some (.vmcnt h (RRR.unpack b))
  | 0x2C => some (.vjoin h (RRR.unpack b))
  | _ => none

/-- The instruction of class M with opcode `op`, header `h`, body `b` and X `x`. -/
def ofM (op : Nat) (h : Hdr) (b : BitVec 48) : Option Instr :=
  match op with
  | 0x01 => some (.mshape h (RRR.unpack b))
  | 0x02 => some (.mzero h (RRR.unpack b))
  | 0x03 => some (.mma h (RRR.unpack b))
  | 0x04 => some (.mmat h (RRR.unpack b))
  | 0x05 => some (.mmag h (RRR.unpack b))
  | 0x06 => some (.mcb h (RRR.unpack b))
  | 0x07 => some (.macld h (RRR.unpack b))
  | 0x08 => some (.macst h (RRR.unpack b))
  | 0x09 => some (.macadd h (RRR.unpack b))
  | 0x0A => some (.mwait h (RRR.unpack b))
  | _ => none

/-- The instruction of class L with opcode `op`, header `h`, body `b` and X `x`. -/
def ofL (op : Nat) (h : Hdr) (b : BitVec 48) : Option Instr :=
  match op with
  | 0x01 => some (.ld h (MemF.unpack b))
  | 0x02 => some (.st h (MemF.unpack b))
  | 0x03 => some (.vld h (MemF.unpack b))
  | 0x04 => some (.vst h (MemF.unpack b))
  | 0x05 => some (.vgath h (MemF.unpack b))
  | 0x06 => some (.vscat h (MemF.unpack b))
  | 0x07 => some (.ldg h (MemF.unpack b))
  | 0x08 => some (.stg h (MemF.unpack b))
  | 0x09 => some (.vldg h (MemF.unpack b))
  | 0x0A => some (.vstg h (MemF.unpack b))
  | 0x0B => some (.atoms h (MemF.unpack b))
  | 0x0C => some (.atomg h (MemF.unpack b))
  | 0x0D => some (.pref h (MemF.unpack b))
  | 0x0E => some (.clean h (RRR.unpack b))
  | 0x0F => some (.inval h (RRR.unpack b))
  | 0x10 => some (.discard h (RRR.unpack b))
  | 0x11 => some (.waymask h (RRR.unpack b))
  | 0x12 => some (.waygate h (RRR.unpack b))
  | 0x13 => some (.llock h (RRR.unpack b))
  | 0x14 => some (.lunlk h (RRR.unpack b))
  | 0x15 => some (.fence h (RRR.unpack b))
  | 0x16 => some (.xfence h (RRR.unpack b))
  | 0x17 => some (.chkv h (RRR.unpack b))
  | _ => none

/-- The instruction of class N with opcode `op`, header `h`, body `b` and X `x`. -/
def ofN (op : Nat) (h : Hdr) (b : BitVec 48) : Option Instr :=
  match op with
  | 0x01 => some (.scfg h (NamF.unpack b))
  | 0x02 => some (.sgo h (NamF.unpack b))
  | 0x03 => some (.sstop h (NamF.unpack b))
  | 0x04 => some (.sparm h (NamF.unpack b))
  | 0x05 => some (.sfence h (NamF.unpack b))
  | 0x06 => some (.subscribe h (NamF.unpack b))
  | 0x07 => some (.unsub h (NamF.unpack b))
  | 0x08 => some (.pub h (NamF.unpack b))
  | 0x09 => some (.pubr h (NamF.unpack b))
  | 0x0A => some (.nhold h (NamF.unpack b))
  | 0x0B => some (.nrels h (NamF.unpack b))
  | 0x0C =>
    if decide (bitsAt b 8 2 = 0) then some (.npoll h (NamF.unpack b))
    else if decide (bitsAt b 8 2 = 1) then some (.npollAck h (NamF.unpack b))
    else if decide (bitsAt b 8 2 = 2) then some (.npollInj h (NamF.unpack b))
    else none
  | 0x0D => some (.lsend h (NamF.unpack b))
  | _ => none

/-- The instruction of class C with opcode `op`, header `h`, body `b` and X `x`. -/
def ofC (op : Nat) (h : Hdr) (b : BitVec 48) (x : Option XExt) : Option Instr :=
  match op with
  | 0x00 => some (.nop h (RRR.unpack b))
  | 0x01 => some (.br h (BrF.unpack b))
  | 0x02 => some (.bri h (BrF.unpack b))
  | 0x03 =>
    if decide (bitsAt b 32 1 = 0) then some (.callS h (BrF.unpack b))
    else if decide (bitsAt b 32 1 = 1) then some (.callInd h (BrF.unpack b))
    else none
  | 0x04 => some (.ret h (BrF.unpack b))
  | 0x05 => some (.loopS h (BrF.unpack b))
  | 0x06 => some (.exitS h (RRR.unpack b))
  | 0x07 =>
    if decide (fld b 16 = 0) then some (.yieldSlot h (RRR.unpack b))
    else if decide (fld b 16 = 1) then some (.yieldWp h (RRR.unpack b))
    else if decide (fld b 16 = 2) then some (.yieldAny h (RRR.unpack b))
    else if decide (fld b 16 = 3) then some (.yieldTime h (RRR.unpack b))
    else none
  | 0x08 => some (.waitwp h (RRR.unpack b))
  | 0x09 => some (.trapS h (RRI.unpack b x))
  | 0x0A => some (.rft h (RRR.unpack b))
  | 0x0B => some (.sysr h (RRI.unpack b x))
  | 0x0C =>
    if decide (bitsAt b 0 12 ≠ 0x800) && decide (bitsAt b 0 12 ≠ 0x801) then some (.sysw h (RRI.unpack b x))
    else if decide (bitsAt b 0 12 = 0x800) then some (.syswPgroot h (RRI.unpack b x))
    else if decide (bitsAt b 0 12 = 0x801) then some (.syswBackbase h (RRI.unpack b x))
    else none
  | 0x0D => some (.launch h (RRR.unpack b))
  | 0x0E => some (.qpost h (RRR.unpack b))
  | 0x0F =>
    if decide (fld b 16 = 0) then some (.qctlCreate h (RRR.unpack b))
    else if decide (fld b 16 = 1) then some (.qctlDrain h (RRR.unpack b))
    else if decide (fld b 16 = 2) then some (.qctlClose h (RRR.unpack b))
    else if decide (fld b 16 = 3) then some (.qctlLevel h (RRR.unpack b))
    else if decide (fld b 16 = 4) then some (.qctlQuery h (RRR.unpack b))
    else none
  | 0x10 => some (.gjoin h (RRR.unpack b))
  | 0x11 => some (.gleave h (RRR.unpack b))
  | 0x12 =>
    if decide (fld b 16 = 0) then some (.gctlCancel h (RRR.unpack b))
    else if decide (fld b 16 = 1) then some (.gctlPrio h (RRR.unpack b))
    else if decide (fld b 16 = 2) then some (.gctlCap h (RRR.unpack b))
    else if decide (fld b 16 = 3) then some (.gctlCut h (RRR.unpack b))
    else if decide (fld b 16 = 4) then some (.gctlRestore h (RRR.unpack b))
    else if decide (fld b 16 = 5) then some (.gctlQuery h (RRR.unpack b))
    else none
  | 0x13 => some (.gwait h (RRR.unpack b))
  | 0x14 => some (.binit h (RRR.unpack b))
  | 0x15 => some (.barv h (RRR.unpack b))
  | 0x16 => some (.bwait h (RRR.unpack b))
  | 0x17 => some (.stepo h (RRR.unpack b))
  | 0x18 => some (.stepc h (RRR.unpack b))
  | 0x19 => some (.slack h (RRR.unpack b))
  | 0x1A => some (.ctxk h (RRR.unpack b))
  | 0x1B => some (.reclm h (RRR.unpack b))
  | 0x1C =>
    if decide (fld b 16 = 0) then some (.ctxrStart h (RRR.unpack b))
    else if decide (fld b 16 = 1) then some (.ctxrFree h (RRR.unpack b))
    else none
  | 0x1D =>
    if decide (fld b 16 = 0) then some (.evict h (RRR.unpack b))
    else if decide (fld b 16 = 1) then some (.evictUnbind h (RRR.unpack b))
    else none
  | 0x1E =>
    if decide (fld b 16 = 0) then some (.chkpNow h (RRR.unpack b))
    else if decide (fld b 16 = 1) then some (.chkpBgon h (RRR.unpack b))
    else if decide (fld b 16 = 2) then some (.chkpBgoff h (RRR.unpack b))
    else none
  | 0x1F => some (.idle h (RRR.unpack b))
  | 0x20 => some (.brk h (RRR.unpack b))
  | _ => none

/-- The instruction that a syllable encodes, where its opcode is assigned. -/
def ofSyl (s : Syl) : Option Instr :=
  let h := hdrOf s.w
  let b := wBody s.w
  let x := s.x.map XExt.ofWord
  match wK s.w with
  | 0 => ofS (wOp s.w) h b x
  | 1 => ofV (wOp s.w) h b
  | 2 => ofM (wOp s.w) h b
  | 3 => ofL (wOp s.w) h b
  | 4 => ofN (wOp s.w) h b
  | 5 => ofC (wOp s.w) h b x
  | _ => none

/-- The syllable that encodes an instruction (R32, R37). -/
def Instr.syl? (i : Instr) : Option Syl :=
  i.parts.map (fun (k, op, h, b, x) => ⟨mkWord k op h b, x.map XExt.word⟩)

/-- The words of an instruction: one, or two with an X; none for an event of another agent. -/
def encode (i : Instr) : List Word :=
  match i.syl? with
  | some s => s.w :: s.x.toList
  | none => []

/-- Checks 7 to 11, 16 and 17 of R40 on one syllable, in their order; the access of a system register is judged as for
a privileged context, and the bundle's own check judges it for the slot. -/
def sylFault (s : Syl) : Option FKind :=
  if wK s.w = 7 then some .class7
  else if wK s.w = 6 then some .xorphan
  else if s.x.isSome && !isRRI s.w then some .xorphan
  else if (specOf s.w).isNone then some .badop
  else if wG s.w = 0 && wGN s.w then some .badguard
  else if badReserved s then some .rsvfield
  else if badSpec true s then some .badspec
  else if badHref true s then some .badhref
  else if (portsOf s).over then some .ports
  else if badFmt s then some .badfmt
  else if badRnd s then some .badrnd
  else none

/-- What the decoder answers. -/
inductive Decoded where
  /-- an instruction and the bytes after it -/
  | instr (i : Instr) (rest : List Byte)
  /-- the bytes hold no instruction, by the check of R40 that fails; fetchrange where fewer than eight bytes are left -/
  | rejected (why : FKind)
  deriving DecidableEq, Repr

/-- A little-endian word from bytes (R7, R31). -/
def wordOfBytes : List Byte → Nat
  | [] => 0
  | b :: bs => b.toNat + 256 * wordOfBytes bs

/-- The n bytes of a number, little-endian (R7). -/
def bytesOf : Nat → Nat → List Byte
  | 0, _ => []
  | n + 1, v => BitVec.ofNat 8 v :: bytesOf n (v / 256)

/-- The instruction of one syllable. -/
def decodeSyl (s : Syl) (rest : List Byte) : Decoded :=
  match sylFault s with
  | some f => .rejected f
  | none => match ofSyl s with
    | some i => .instr i rest
    | none => .rejected .badop

/-- Decodes the instruction at the head of a list of bytes: a syllable, and the X that follows an F-RRI owner
whose E is 0 (R37). Total: every other list is rejected by name. -/
def decode (bs : List Byte) : Decoded :=
  if bs.length < 8 then .rejected .fetchrange
  else
    let w : Word := BitVec.ofNat 64 (wordOfBytes (bs.take 8))
    let rest := bs.drop 8
    if isRRI w && !wE w && decide (8 ≤ rest.length) &&
        decide (wK (BitVec.ofNat 64 (wordOfBytes (rest.take 8))) = 6) then
      decodeSyl ⟨w, some (BitVec.ofNat 64 (wordOfBytes (rest.take 8)))⟩ (rest.drop 8)
    else decodeSyl ⟨w, none⟩ rest

/-- The bytes of a list of words, each little-endian, the first at the lowest address (R31). -/
def bytesOfWords (ws : List Word) : List Byte := ws.flatMap (fun w => bytesOf 8 w.toNat)

/-- What the decoder reads from the bits `w`, numbered as spec/opcode_table.json numbers them, with zeros above. -/
def decodeTableWord (nbits w : Nat) : Option Instr :=
  match decode (bytesOf 16 (w % 2 ^ nbits)) with
  | .instr i _ => some i
  | .rejected _ => none

end Sys2Proof
end

