-- ==== Sys2Proof/Machine/Crypto.lean ====
section
/-! DEFINITION. The published standards by which the boot ROM accepts a firmware image and the controller measures (19_module R393 to R395):
SHA-256 and SHA-384 (FIPS 180), ECDSA P-384 (FIPS 186-5) and HSS/LMS (NIST SP 800-208, RFC 8554). PRESUMED: the spec names them and does
not restate them (log 5). -/

namespace Sys2Proof.Machine

/-! ### Bytes -/

/-- A number from bytes, the first the most significant. -/
def beNum (bs : List Byte) : Nat := bs.foldl (fun n b => 256 * n + b.toNat) 0
/-- The n bytes of a number, the most significant first. -/
def beBytes (n x : Nat) : List Byte := (List.range n).map (fun i => BitVec.ofNat 8 (x / 256 ^ (n - 1 - i)))

/-! ### SHA-2 (FIPS 180) -/

/-- The largest r below 2^b with r^k ≤ n, as `acc` grows bit by bit. -/
def rootGo (k n : Nat) : Nat → Nat → Nat
  | 0, acc => acc
  | b + 1, acc => rootGo k n b (if (acc + 2 ^ b) ^ k ≤ n then acc + 2 ^ b else acc)
/-- The first 64 bits of the fraction of the k-th root of p. -/
def rootFrac (k p : Nat) : Nat := rootGo k (p * 2 ^ (64 * k)) 72 0 % 2 ^ 64
/-- The primes below 410: the first 80. -/
def shaPrimes : List Nat := ((List.range 410).drop 2).filter (fun n => (List.range n).all (fun d => decide (d < 2) || decide (n % d ≠ 0)))
/-- Round constants of SHA-512: fractions of cube roots. Those of SHA-256 are their upper halves. -/
def shaK : List Nat := shaPrimes.map (rootFrac 3)

/-- A SHA-2 function: bits of a word, and the rotations of its four sigma functions; the third of the small ones is a shift. -/
structure Sha where
  w : Nat
  rounds : Nat
  big0 : Nat × Nat × Nat
  big1 : Nat × Nat × Nat
  small0 : Nat × Nat × Nat
  small1 : Nat × Nat × Nat
def sha512Fn : Sha := ⟨64, 80, (28, 34, 39), (14, 18, 41), (1, 8, 7), (19, 61, 6)⟩
def sha256Fn : Sha := ⟨32, 64, (2, 13, 22), (6, 11, 25), (7, 18, 3), (17, 19, 10)⟩

def Sha.rotr (f : Sha) (n x : Nat) : Nat := (x / 2 ^ n + x * 2 ^ (f.w - n)) % 2 ^ f.w
def Sha.big (f : Sha) (r : Nat × Nat × Nat) (x : Nat) : Nat := f.rotr r.1 x ^^^ f.rotr r.2.1 x ^^^ f.rotr r.2.2 x
def Sha.small (f : Sha) (r : Nat × Nat × Nat) (x : Nat) : Nat := f.rotr r.1 x ^^^ f.rotr r.2.1 x ^^^ (x / 2 ^ r.2.2)
/-- The round constants. -/
def Sha.k (f : Sha) : List Nat := (shaK.take f.rounds).map (fun k => k / 2 ^ (64 - f.w))

/-- The message schedule, the latest word first. -/
def Sha.schedule (f : Sha) : Nat → List Nat → List Nat
  | 0, ws => ws
  | n + 1, ws =>
    f.schedule n ((f.small f.small1 (ws.getD 1 0) + ws.getD 6 0 + f.small f.small0 (ws.getD 14 0) + ws.getD 15 0) % 2 ^ f.w :: ws)
/-- One round on the eight working variables. -/
def Sha.round (f : Sha) (v : List Nat) (kw : Nat × Nat) : List Nat :=
  let m := 2 ^ f.w
  match v with
  | [a, b, c, d, e, x, g, h] =>
    let t1 := h + f.big f.big1 e + ((e &&& x) ^^^ ((m - 1 - e) &&& g)) + kw.1 + kw.2
    let t2 := f.big f.big0 a + ((a &&& b) ^^^ (a &&& c) ^^^ (b &&& c))
    [(t1 + t2) % m, a, b, c, (d + t1) % m, e, x, g]
  | v => v
/-- One block of 16 words. -/
def Sha.block (f : Sha) (hs : List Nat) (bs : List Byte) : List Nat :=
  let n := f.w / 8
  let ws := (List.range 16).map (fun i => beNum ((bs.drop (n * i)).take n))
  let all := (f.schedule (f.rounds - 16) ws.reverse).reverse
  ((f.k.zip all).foldl f.round hs).zipWith (fun a b => (a + b) % 2 ^ f.w) hs
/-- The padded message. -/
def Sha.pad (f : Sha) (bs : List Byte) : List Byte :=
  let n := 2 * f.w
  let z := (2 * n - (bs.length + 1 + n / 8) % n) % n
  bs ++ [0x80] ++ List.replicate z (0 : Byte) ++ beBytes (n / 8) (8 * bs.length)
/-- The hash words of a message. -/
def Sha.hash (f : Sha) (iv : List Nat) (bs : List Byte) : List Nat :=
  let p := f.pad bs
  let n := 2 * f.w
  (List.range (p.length / n)).foldl (fun hs i => f.block hs ((p.drop (n * i)).take n)) iv

def sha384 (bs : List Byte) : BitVec 384 :=
  BitVec.ofNat 384 (((sha512Fn.hash (((shaPrimes.drop 8).take 8).map (rootFrac 2)) bs).take 6).foldl (fun n x => n * 2 ^ 64 + x) 0)
def sha256 (bs : List Byte) : List Byte :=
  (sha256Fn.hash ((shaPrimes.take 8).map (fun p => rootFrac 2 p / 2 ^ 32)) bs).flatMap (beBytes 4)

/-! ### ECDSA on P-384 (FIPS 186-5) -/

def p384P : Nat := 2 ^ 384 - 2 ^ 128 - 2 ^ 96 + 2 ^ 32 - 1
def p384N : Nat := 0xffffffffffffffffffffffffffffffffffffffffffffffffc7634d81f4372ddf581a0db248b0a77aecec196accc52973
def p384B : Nat := 0xb3312fa7e23ee7e4988e056be3f82d19181d9c6efe8141120314088f5013875ac656398d8a2ed19d2a85c8edd3ec2aef
def p384G : Nat × Nat :=
  (0xaa87ca22be8b05378eb1c71ef320ad746e1d3b628ba79b9859f741e082542a385502f25dbf55296c3a545e3872760ab7,
   0x3617de4a96262c6f5d9e98bf9292dc29f8f41dbd289a147ce9da3113b5f0b8c00a60b1ce1d7e819d7a431d7c90ea0e5f)

/-- x^e mod m; `n` is a bound on the bits of e. -/
def powMod (m : Nat) : Nat → Nat → Nat → Nat
  | 0, _, _ => 1
  | n + 1, x, e => let r := powMod m n (x * x % m) (e / 2); if e % 2 = 1 then r * x % m else r
/-- The inverse modulo a prime of 384 bits. -/
def invMod (m x : Nat) : Nat := powMod m 384 (x % m) (m - 2)
/-- Addition on the curve; none is the point at infinity. -/
def ecAdd : Option (Nat × Nat) → Option (Nat × Nat) → Option (Nat × Nat)
  | none, q => q
  | q, none => q
  | some (x1, y1), some (x2, y2) =>
    let p := p384P
    if x1 = x2 ∧ (y1 + y2) % p = 0 then none
    else
      let l := if x1 = x2 then (3 * x1 * x1 + p - 3) * invMod p (2 * y1) % p else (y2 + p - y1) * invMod p (x2 + p - x1) % p
      let x := (l * l + 2 * p - x1 - x2) % p
      some (x, (l * (x1 + p - x) + p - y1) % p)
/-- k times a point; `n` is a bound on the bits of k. -/
def ecMul : Nat → Nat → Option (Nat × Nat) → Option (Nat × Nat)
  | 0, _, _ => none
  | n + 1, k, q => let r := ecMul n (k / 2) (ecAdd q q); if k % 2 = 1 then ecAdd q r else r

/-- Verifies a signature (r, then s) by an uncompressed public key over the hash value e (R394). -/
def ecdsaVerify (key : List Byte) (e : Nat) (sig : List Byte) : Bool :=
  let x := beNum ((key.drop 1).take 48)
  let y := beNum ((key.drop 49).take 48)
  let r := beNum (sig.take 48)
  let s := beNum ((sig.drop 48).take 48)
  let w := invMod p384N s
  decide (key.length = 97 ∧ key.head? = some 4 ∧ sig.length = 96 ∧ x < p384P ∧ y < p384P) &&
  decide (y * y % p384P = (x * x * x + (p384P - 3) * x + p384B) % p384P) &&
  decide (0 < r ∧ r < p384N ∧ 0 < s ∧ s < p384N) &&
  (match ecAdd (ecMul 384 (e * w % p384N) (some p384G)) (ecMul 384 (r * w % p384N) (some (x, y))) with
   | some (u, _) => decide (u % p384N = r)
   | none => false)

/-! ### HSS with one level, LMS_SHA256_M32_H20, LMOTS_SHA256_N32_W8 (NIST SP 800-208, RFC 8554) -/

/-- The hash chain of one digit of a one-time signature, from step j on, n steps. -/
def otsChain (pre : List Byte) : Nat → Nat → List Byte → List Byte
  | 0, _, t => t
  | n + 1, j, t => otsChain pre n (j + 1) (sha256 (pre ++ beBytes 1 j ++ t))
/-- The candidate public key of a one-time signature: identifier, leaf, randomiser, digits. -/
def otsKey (ident : List Byte) (q : Nat) (c : List Byte) (ys : List (List Byte)) (msg : List Byte) : List Byte :=
  let h := sha256 (ident ++ beBytes 4 q ++ beBytes 2 0x8181 ++ c ++ msg)
  let sum := h.foldl (fun n b => n + (255 - b.toNat)) 0
  let zs := ((h ++ beBytes 2 sum).zip ys).zipIdx.flatMap (fun ((a, y), i) =>
    otsChain (ident ++ beBytes 4 q ++ beBytes 2 i) (255 - a.toNat) a.toNat y)
  sha256 (ident ++ beBytes 4 q ++ beBytes 2 0x8080 ++ zs)
/-- The candidate root: the path from a node upward. -/
def lmsRoot (ident : List Byte) : Nat → List Byte → List (List Byte) → List Byte
  | _, t, [] => t
  | node, t, p :: ps =>
    let two := if node % 2 = 1 then p ++ t else t ++ p
    lmsRoot ident (node / 2) (sha256 (ident ++ beBytes 4 (node / 2) ++ beBytes 2 0x8383 ++ two)) ps

/-- Pieces of 32 bytes. -/
def pieces32 (n : Nat) (bs : List Byte) : List (List Byte) := (List.range n).map (fun i => (bs.drop (32 * i)).take 32)
/-- Verifies an HSS signature of one level over a message (R394). -/
def hssVerify (key msg sig : List Byte) : Bool :=
  let u32 (bs : List Byte) (o : Nat) : Nat := beNum ((bs.drop o).take 4)
  let ident := (key.drop 12).take 16
  let q := u32 sig 4
  let leaf := 2 ^ 20 + q
  let k := otsKey ident q ((sig.drop 12).take 32) (pieces32 34 (sig.drop 44)) msg
  let t := sha256 (ident ++ beBytes 4 leaf ++ beBytes 2 0x8282 ++ k)
  decide (key.length = 60 ∧ u32 key 0 = 1 ∧ u32 key 4 = 8 ∧ u32 key 8 = 4) &&
  decide (sig.length = 1776 ∧ u32 sig 0 = 0 ∧ u32 sig 8 = 4 ∧ u32 sig 1132 = 8 ∧ q < 2 ^ 20) &&
  decide (lmsRoot ident leaf t (pieces32 20 (sig.drop 1136)) = key.drop 28)

end Sys2Proof.Machine
end

