-- ==== Sys2Proof/Machine/Records.lean ====
section
/-! DEFINITION. The records that State is made of, first those of a slot and of a tile. Plain data throughout. -/

namespace Sys2Proof.Machine

/-- A result in flight with exposed latency (R51): it lands no later than the start of the bundle numbered `due`.
`ysel` is 2 or 3 where a scalar load of L0 or L1 sets y2 or y3; 9 where a vector load does not set yv, being no V syllable (R46).
`ghost`: a later-issued write to the register has landed before this one, which is to be discarded; until it lands a read may still see its
value or one that the register held while both were in flight (R52). -/
structure InFlight where
  dst : Reg
  val : VReg
  due : Nat
  flags : Nat
  ysel : Option Nat
  ghost : Option (Reg × List VReg)
  deriving DecidableEq, Repr

/-- The mark of R142 on a register: its kind, and the load's ea while the instance stays in its slot. -/
structure Mark where
  reg : Reg
  kind : FKind
  ea : Word
  deriving DecidableEq, Repr

/-- A translation held in a cache (R331). `pages` is the page size as a power of two: 16, 26 or 36. -/
structure Trans where
  ctx : Nat
  inc : Nat
  vbase : Nat
  bits : Nat
  pbase : Nat
  r : Bool
  w : Bool
  at_ : Bool
  deriving DecidableEq, Repr

/-- The outcome of a page walk that a held bundle or a channel awaits (R329, R142). -/
inductive WalkOutcome where
  /-- the walk is under way, or waits on a migrating page (R335) -/
  | waiting (migrating : Bool)
  | done (t : Trans)
  | fault (k : FKind)
  deriving DecidableEq, Repr

/-- A walk of a slot: the page's address and the kind of access. -/
structure Walk where
  va : Nat
  kind : Nat
  out : WalkOutcome
  deriving DecidableEq, Repr

/-- Channel states (R158). -/
inductive ChState where
  | idle | ready | running | frozen
  deriving DecidableEq, Repr

/-- A beat that a channel has requested from memory and that has not arrived, or that it has written to another module's memory and whose home
has not answered (R159, log 47): element count, address and number. -/
structure Beat where
  n : Nat
  va : Nat
  seq : Nat
  deriving DecidableEq, Repr

/-- A byte of scratch, at program address p of its slot, that a matrix syllable, a channel or a publication is still to read and that has been
written meanwhile: the values it had, whether what it holds now may be read too (R157, R168, R209), and the atomic's address where ATOMS alone
has written it, whose bytes are read before it or after it all together (R143). -/
structure Race where
  p : Nat
  vals : List Byte
  now : Bool
  unit : Option Nat
  deriving DecidableEq, Repr

/-- A stream channel (R153 to R160). `recd` is the 64-byte shape record, `elem` counts delivered elements of the round
(i0 to i3 are its digits), `wp` delivered destination bytes, `rng` the generator of SR, `cause` the freeze cause with
its origin 3, `tr` the one translation entry, `beat` the beat requested, `seq` the number of the next request (the data of a beat that an SSTOP has
abandoned is discarded on arrival), `unacked` the writes to global memory whose home has not acknowledged them, each with
the wp that its last byte reached and whether its home is on another module, `racedR` and `racedW` the bytes stored to by the core that it is
still to read and to write (R157). -/
structure Chan where
  st : ChState
  recd : BitVec 512
  elem : Nat
  wp : Nat
  rng : Word
  cause : Option FKind
  tr : Option Trans
  walk : Option Walk
  beat : Option Beat
  seq : Nat
  unacked : List (Nat × Bool)
  racedR : List Race
  racedW : List Nat
  deriving DecidableEq, Repr

def Chan.idle : Chan := ⟨.idle, 0, 0, 0, 0, none, none, none, none, 0, [], [], []⟩

/-- States of a subscription slot (R187). -/
inductive SubState where
  | idle | armed | waitspace | landed | failed
  deriving DecidableEq, Repr

/-- A copy that is landing in a slot's area (R187): its sequence where its home has given one, its size, the segments that have landed, its publisher,
and whether a segment failed its check or brought poison. -/
structure Receiving where
  seq : Option Nat
  size : Nat
  got : List Nat
  tag : Option Tag
  bad : Option FKind
  poison : Bool
  deriving DecidableEq, Repr

/-- A subscription slot (R183, R187, R212, R227). -/
structure SubSlot where
  st : SubState
  name : Word
  land : Nat
  bytes : Nat
  persist : Bool
  u : Bool
  inst : Bool
  nh : Bool
  count : Nat
  seq : Nat
  size : Nat
  fkind : Nat
  recv : Option Receiving
  /-- this slot is a registered waiter of a GWAIT or BWAIT: its landing releases a system pin (R255, R276) -/
  waiter : Bool
  /-- q of R227: the slot moved while WAITSPACE or LANDED under this sequence -/
  q : Option Nat
  /-- sequence of the last acknowledged landing (R188) -/
  lastAck : Option Nat
  /-- reserved by a GWAIT or a BWAIT whose reply has not been applied (R267, R276) -/
  reserved : Bool
  /-- publisher of the shown copy, while its home has not taken it into its order and `seq` is free (R212) -/
  tag : Option Tag
  deriving DecidableEq, Repr

def SubSlot.idle : SubSlot :=
  ⟨.idle, 0, 0, 0, false, false, false, false, 0, 0, 0, 0, none, false, none, none, false, none⟩

/-- A matrix syllable that the unit holds, or the captured operands of a recorded multiply (R166, R171).
`kind`: 0 MMA, 1 MMAT, 2 MMAG, 3 MZERO, 4 MCB, 5 MACLD, 6 MACST, 7 MACADD. `k` is the next k-step; `out` is what a MACST writes (R168). -/
structure MOp where
  slot : Nat
  kind : Nat
  acc : Nat
  shape : Word
  ab : Word
  bb : Word
  kba : BitVec 256
  kbb : BitVec 256
  kbPoison : Bool
  ty : Nat
  addr : Nat
  k : Nat
  started : Bool
  raced : List Race
  out : List Byte
  /-- the first word with an uncorrectable error that a held MMAG has read (R169) -/
  ue : Option Nat
  deriving DecidableEq, Repr

/-- A held MMAG (R175): which run of it this is, the next row to request, the parts of rows that are still to arrive (row, offset) and those that have
arrived, the faults met by requests (row, kind, address), and the fault that stopped it. -/
structure MmagRun where
  run : Nat
  next : Nat
  asked : List (Nat × Nat)
  rows : List (Nat × Nat × List Byte)
  bad : List (Nat × FKind × Nat)
  stopped : Option (FKind × Nat)
  deriving DecidableEq, Repr

/-- A publication in a slot's injection queue (R209, R210, R387): its name, payload, and how far its payload has been read; `rel`
says that the release part comes first; `lsend` is the destination domain, module and context of an LSEND. -/
structure Queued where
  name : Word
  addr : Nat
  size : Nat
  linger : Nat
  red : Option RedHdr
  lsend : Option (Nat × Nat × Nat)
  rel : Bool
  serial : Nat
  /-- bytes injected, and those of them that belong to a segment not yet complete -/
  sent : Nat
  buf : List Byte
  /-- bytes stored to before they have been read -/
  raced : List Race
  deriving DecidableEq, Repr

/-- What a slot waits for after a bundle that has acted (R107, R108, R231, R276, R147, R233). -/
inductive Wait where
  | none
  /-- IDLE: register, and domain cycles left of its timeout at TIME `at_` (R107, R279) -/
  | idle (dst : Reg) (left at_ : Nat)
  | brk
  /-- BWAIT with its slot subscribed and no park (R276) -/
  | bwait (sub : Nat)
  /-- WAYMASK or WAYGATE under way -/
  | ways
  /-- EXIT.pub while the injection queue is full: templates still to enter -/
  | exitPub (templates : List Nat)
  /-- EXIT has completed; the tile waits for retirement (R234) -/
  | exiting
  deriving DecidableEq, Repr

/-- Condition of a YIELD (R231) or of a park in BWAIT. -/
inductive ParkCond where
  | slot (n : Nat) | wp (n : Nat) (x : Nat) | any | time (t : Nat)
  deriving DecidableEq, Repr

/-- A way change under way (R147, R148): its D, whether it is a WAYGATE, the ways asked for and the former mask. -/
structure WayChange where
  dst : Reg
  gate : Bool
  req : Nat
  cur : Nat
  deriving DecidableEq, Repr

/-- Registers that software numbers (R112), of one slot. -/
structure SysRegs where
  /-- STATUS: DBGEN, PRIVC, INTRAP and the event bits [7:4]; SLOT is the slot's number -/
  dbgen : Bool
  privc : Bool
  intrap : Bool
  events : BitVec 4
  cause : Word
  epc : Word
  eval : Word
  trapbase : Word
  ctxid : Nat
  incarn : Nat
  instIdx : Nat
  kernId : Word
  stepId : Word
  prioBase : Nat
  prioLevel : Nat
  /-- memberships: group index, or none -/
  groups : List (Option Nat)
  fpstatus : Word
  fptrapen : Word
  rngseed : Word
  cycle : Nat
  slewhold : Nat
  apr : Vector Word 4
  baseA : Nat
  sizeA : Nat
  baseB : Nat
  sizeB : Nat
  landBase : Nat
  share : Nat
  ctxsel : Nat
  deriving DecidableEq, Repr

def SysRegs.reset : SysRegs :=
  { dbgen := false, privc := false, intrap := false, events := 0, cause := 0, epc := 0, eval := 0, trapbase := 0,
    ctxid := 0, incarn := 0, instIdx := 0, kernId := 0, stepId := 0, prioBase := 0, prioLevel := 0,
    groups := [none, none, none, none], fpstatus := 0, fptrapen := 0, rngseed := 0, cycle := 0, slewhold := 0,
    apr := Vector.replicate 4 0, baseA := 0, sizeA := 0, baseB := 0, sizeB := 0, landBase := 0, share := 0, ctxsel := 0 }

/-- The register files of a slot (R42, R162). -/
structure Files where
  a : Vector Word 64
  o : Vector Word 8
  y : Vector Word 4
  v : Vector VReg 32
  w : Vector VReg 8
  yv : VReg
  p : Vector Bool 8
  acc : Vector (Vector (BitVec 2048) 32) 4
  accPoison : Vector Bool 4
  h : Vector Word 8
  hValid : Vector Bool 8
  kb : Vector (BitVec 256) 4
  kbLoaded : Vector Bool 4
  kbPoison : Vector Bool 4
  deriving DecidableEq, Repr

def Files.reset : Files :=
  { a := Vector.replicate 64 0, o := Vector.replicate 8 0, y := Vector.replicate 4 0, v := Vector.replicate 32 0,
    w := Vector.replicate 8 0, yv := 0, p := (Vector.replicate 8 false).set 0 true,
    acc := Vector.replicate 4 (Vector.replicate 32 0), accPoison := Vector.replicate 4 false,
    h := Vector.replicate 8 0, hValid := Vector.replicate 8 false, kb := Vector.replicate 4 0,
    kbLoaded := Vector.replicate 4 false, kbPoison := Vector.replicate 4 false }

/-- State of an instance as its tile sees it (R225). -/
inductive InstState where
  | defined | placed | waiting | ready | running | parked | evicted | migrating | retired | faulted | cancelled
  deriving DecidableEq, Repr

/-- What a release part waits for, taken when it begins: each channel's wp (path S), and TIME, up to which host writes count as accepted
(path H); the number of each channel's next request, and whether the fence holds back every beat that is not requested yet (R151, R361). -/
structure FenceSnap where
  wps : List Nat
  host : Nat
  seqs : List Nat
  hold : Bool
  deriving DecidableEq, Repr

/-- One resident slot (R42, R112, R162, R301). -/
structure Slot where
  /-- the binding: context and incarnation (R301) -/
  bound : Option (Nat × Nat)
  /-- the instance that occupies the slot, by its number in `insts` -/
  inst : Option Nat
  st : InstState
  pc : Word
  f : Files
  sys : SysRegs
  ch : Vector Chan 16
  sub : Vector SubSlot 16
  /-- code region size in bytes (R136), park area address and YLD (R218, R232) -/
  codeSize : Nat
  parkAt : Nat
  yld : Bool
  /-- wake latch (R107) and LOCKLOST (R149) -/
  latch : BitVec 5
  lockLost : Bool
  wait : Wait
  park : Option ParkCond
  /-- the park record is written, or being restored (R232) -/
  parkDone : Bool
  /-- bundles issued, results in flight, interlocked results awaited (R51, R54) -/
  bundleNo : Nat
  infl : List InFlight
  pend : List Reg
  marks : List Mark
  /-- the bundle at issue waits; the wait counts for WATCHDOG (R341) -/
  held : Bool
  heldCounts : Bool
  walks : List Walk
  /-- way changes under way, in the order in which they issued (R147, R148) -/
  wayChange : List WayChange
  mmag : Option MmagRun
  /-- a multiply of the slot waits for a quantum, or has been given one (R292) -/
  slewWait : Bool
  slewGrant : Bool
  /-- TIME since which a waiting multiply's slot has not been selected for issue, where it is not (R293) -/
  slewAway : Option Nat
  aprCap : KMap MOp
  injq : List Queued
  /-- what has a flit waiting at the tile's port: the channels 0 to 15, 16 for the injection queue (R317) -/
  port : List Nat
  serial : Nat
  /-- serials whose order notice is awaited (R190) -/
  awaitOrder : List Nat
  /-- LSENDs not yet accepted (R361) -/
  awaitSend : Nat
  /-- C writes, ATOMGs not yet acknowledged by their home: own module, other modules (R358) -/
  ackC : Nat
  ackCR : Nat
  /-- ATOMGs not yet performed: own module, other modules -/
  ackA : Nat
  ackAR : Nat
  /-- acquire parts under way: C and A syllables wait (R360) -/
  acquiring : Nat
  /-- the release parts of this bundle's fences and release syllables that have begun, by the place of the syllable: what each waits for (R361) -/
  fenced : KMap FenceSnap
  /-- dirty map: 4 KiB blocks by scratch program address (R305) -/
  dirty : List Nat
  bg : Bool
  /-- memberships asked for or given up by a GJOIN or GLEAVE whose reply has not landed (R265) -/
  joining : List Nat
  leaving : List Nat
  /-- the save order under way (R304, R306), and the group of a cancel that has reached the tile (R343) -/
  stopReq : Option SaveWhy
  cancelReq : Option Nat
  /-- slots of the instance's subscription templates (R224), whether it has run, and when it became a candidate or was last granted a quantum (R248) -/
  templ : List Nat
  ran : Bool
  since : Nat
  /-- domain cycles counted toward its aging up to `since`, where the domain's point has changed meanwhile (R248, R279) -/
  aged : Nat
  /-- the WAITWP that holds the bundle at issue: its channel and the value it waits for (R161) -/
  wpWait : Option (Nat × Nat)
  /-- cause code with which the instance entered FAULTED (R252) -/
  fatal : Nat
  /-- the home's reply to the BWAIT that is held at issue: status, refusal, completed (R276) -/
  bw : Option (Word × Option FKind × Bool)
  /-- image that the code region holds: context, incarnation, address, code (R223) -/
  codeOf : Option (Nat × Nat × Word × List Byte)
  /-- cycles that the bundle at issue has waited, where its wait counts (R341) -/
  waited : Nat
  /-- a TRAP whose bundle has acted waits for its interlocked results (R55, R346), with the address of its bundle (R349); TIME at which the
  instance became READY (R247) -/
  after : Option (TrapInfo × Word)
  readyAt : Nat
  /-- CHKP.now syllables under way: register, blocks still to be looked at, blocks written (R324) -/
  chkp : List (Reg × List Nat × Nat)
  /-- TIME before which a save, a restore or a write into the record that met a page that migrates does not go on (R335) -/
  retryAt : Nat
  deriving DecidableEq, Repr

def Slot.empty : Slot :=
  { bound := none, inst := none, st := .retired, pc := 0, f := Files.reset, sys := SysRegs.reset,
    ch := Vector.replicate 16 Chan.idle, sub := Vector.replicate 16 SubSlot.idle, codeSize := 0, parkAt := 0, yld := false,
    latch := 0, lockLost := false, wait := .none, park := none, parkDone := false, bundleNo := 0, infl := [], pend := [],
    marks := [], held := false, heldCounts := false, walks := [], wayChange := [], mmag := none, slewWait := false, slewGrant := false, slewAway := none, aprCap := [], injq := [], port := [],
    serial := 0, awaitOrder := [], awaitSend := 0, ackC := 0, ackCR := 0, ackA := 0, ackAR := 0, acquiring := 0, fenced := [],
    dirty := [], bg := false, joining := [], leaving := [], stopReq := none, cancelReq := none,
    templ := [], ran := false, since := 0, aged := 0, wpWait := none, fatal := 0, bw := none, codeOf := none, waited := 0, after := none, readyAt := 0, chkp := [], retryAt := 0 }

/-- Role of an L1 way (R146). -/
inductive WayRole where
  | cache | lent (slot : Nat) | gated
  deriving DecidableEq, Repr

/-- A load that waits for a line (R142). -/
structure LineWaiter where
  slot : Nat
  dst : Reg
  off : Nat
  n : Nat
  ty : Ty
  vec : Bool
  ea : Word
  acq : Option Scope
  /-- bytes that stores had written to the line when the load issued, which the fill does not bring (R359) -/
  snap : BitVec 1024
  smask : BitVec 128
  deriving DecidableEq, Repr

/-- An L1 line (R145, R149). `filled` is false while the line's fill is on its way, and the line has no way yet (`way` is 10); `wmask` has the bytes
that stores have put into it since it was last written back, which its fill leaves alone (R359). `used` orders lines by recency; `through` asks for a
write-back as soon as the fill is in (R360). -/
structure Line where
  ctx : Nat
  inc : Nat
  vline : Nat
  pa : Nat
  way : Nat
  data : BitVec 1024
  filled : Bool
  wmask : BitVec 128
  dirty : Bool
  through : Bool
  /-- the line goes as soon as its fill has served the loads that wait for it: an ATOMG of the same bundle has invalidated it (R143, R360) -/
  once : Bool
  poison : Bool
  lock : Option Nat
  used : Nat
  waiters : List LineWaiter
  deriving DecidableEq, Repr

/-- A maintenance walk under way (R150, R151, R333): kind 0 CLEAN, 1 INVAL, 2 DISCARD, 3 an acquire part, and what is left. -/
structure MaintWalk where
  kind : Nat
  ctx : Nat
  slot : Option Nat
  lo : Nat
  hi : Nat
  lines : List Nat
  deriving DecidableEq, Repr

/-- One tile (R2, R19). -/
structure Tile where
  ways : Vector WayRole 10
  lines : List Line
  walks : List MaintWalk
  clock : Nat
  tlb : List Trans
  unit : List MOp
  /-- slot that holds issue, and quantum left (R247) -/
  issuing : Option Nat
  quantum : Nat
  /-- slot that issued last: another one that takes issue has undefined y registers (R46) -/
  lastSlot : Option Nat
  pass : KMap Nat
  /-- token bucket of each bound context, and the context served last (R317, R422) -/
  tokens : KMap Nat
  lastServed : Nat
  /-- the slot that each channel engine served last; slot 3 where none is listed (R153, log 13) -/
  engines : KMap Nat
  /-- contexts whose injection waits on a full overflow area (R201) -/
  stalled : List Nat
  /-- withdrawals held until their install notice or their limit (R186) -/
  withheld : List SubMsg
  /-- the bit of FREEZE that has reached the tile; a fault was detected; the tile is frozen (R353, R397) -/
  freezeOn : Bool
  freezeReq : Bool
  frozen : Bool
  /-- the bit of DBG that has reached the tile (R113, R397) -/
  dbgOn : Bool
  deriving DecidableEq, Repr

def Tile.reset : Tile :=
  { ways := Vector.replicate 10 .cache, lines := [], walks := [], clock := 0, tlb := [], unit := [], issuing := none,
    quantum := 0, lastSlot := none, pass := [], tokens := [], lastServed := 255, engines := [], stalled := [], withheld := [], freezeOn := false, freezeReq := false,
    frozen := false, dbgOn := false }

/-- What the bundle at issue has computed so far (log 7): where it issues, its length in syllables, which syllable
is being run and its number within its class, the latency-1 results of S0 and S1 (R46), the stores it holds back until
every read is done (R49), and how control goes on. -/
structure Iss where
  site : Nat
  slot : Nat
  nsyl : Nat
  pos : Nat
  lane : Nat
  word : Word
  /-- results in flight, channels and subscription slots as they stood when the bundle issued: what its syllables read (R49) -/
  infl0 : List InFlight
  ch0 : List Chan
  sub0 : List SubSlot
  /-- lines of the tile that the slot held locked when the bundle issued (R49, R149) -/
  lock0 : List Nat
  res0 : Option Word
  res1 : Option Word
  /-- scratch stores: program address, bytes, by an atomic; in slot order L0, L1 -/
  wr : List (Nat × List Byte × Bool)
  /-- global C stores: virtual address, physical address, bytes, write-through -/
  gwr : List (Nat × Nat × List Byte × Bool)
  /-- M syllables that enter the unit with this bundle (R166) -/
  mops : List MOp
  fps : Option Word
  fpflags : Nat
  rng : Option Word
  npc : Option Word
  /-- cycles in which no bundle issues after a taken branch (R105), or after RFT and trap entry -/
  gap : Nat
  /-- the TRAP of this bundle (R346) -/
  after : Option TrapInfo
  /-- RFT is taken -/
  rft : Bool
  /-- the bundle is over already: it trapped, or it waits at issue -/
  done : Bool
  deriving DecidableEq, Repr

def Iss.reset : Iss :=
  { site := 0, slot := 0, nsyl := 1, pos := 0, lane := 0, word := 0, infl0 := [], ch0 := [], sub0 := [], lock0 := [], res0 := none, res1 := none, wr := [], gwr := [], mops := [], fps := none,
    fpflags := 0, rng := none, npc := none, gap := 0, after := none, rft := false, done := false }

/-- An open window of fault records (R350): its tuple, its start, and the fields of the member that it will publish. `idx` is
INSTIDX, or 2^24 with NI. -/
structure FaultWin where
  ctx : Nat
  inc : Nat
  key : Word
  cause : Nat
  t0 : Nat
  idx : Nat
  at_ : Nat
  unit : Nat
  payload : List Word
  more : Nat
  deriving DecidableEq, Repr

end Sys2Proof.Machine
end

