-- ==== Sys2Proof/Machine/Objects.lean ====
section
/-! DEFINITION. Records of the objects of a context and of the agents off the tile (R27): contexts, instances, queues, groups,
barriers, steps, names at their homes, links, management. -/

namespace Sys2Proof.Machine

/-- Context states (R298). -/
inductive CtxState where
  | free | creating | active | killed | reclaimed
  deriving DecidableEq, Repr

/-- An invalidation under way (R333): the slot whose release part comes first, whether that part is done, and the agents that
have dropped the context's entries. -/
structure Inval where
  site : Nat
  slot : Nat
  released : Bool
  told : List Nat
  deriving DecidableEq, Repr

/-- A pointer entry in a walker's cache (R330): level, the address bits that led to it, and the table it names. -/
structure Ptr where
  ctx : Nat
  inc : Nat
  level : Nat
  pre : Nat
  next : Nat
  deriving DecidableEq, Repr

/-- A context (R298, R299, R112). -/
structure Ctx where
  st : CtxState
  inc : Nat
  priv : Bool
  slot : Nat
  share : Nat
  fields : BitVec 64
  baseA : Nat
  sizeA : Nat
  baseB : Nat
  sizeB : Nat
  pgroot : Word
  /-- invalidations under way; INVP is 1 while there is one (R333) -/
  inval : List Inval
  backbase : Word
  /-- the backing table as the hedge agents last read it: doublewords 0 and 1 of each entry; empty where a fault ended the reread (R194) -/
  backing : List (Word × Word)
  /-- rereads of the table that are not over, and the names whose subscriptions have come meanwhile: they fall through by the new table (R194) -/
  rereads : Nat
  ftWait : List Word
  ovflbase : Word
  ovflsize : Word
  savebase : Word
  rickquota : Word
  /-- a flit of the context has left through a link (R312) -/
  linkUse : Bool
  /-- kill: agents that hold the new incarnation, agents whose sweep is reported, the drops counted, the time at which the new
  incarnation reached the link ports (R312, R313) -/
  told : List Nat
  swept : List Nat
  drops : Nat
  fence : Nat
  /-- the 1 ms of R313 has passed; the state before CREATING, to which a failed descriptor returns it (R298) -/
  fenceOk : Bool
  prev : CtxState
  /-- who waits: the CTXK, CTXR or RECLM, and the context and incarnation in which its events are published -/
  killWho : Option (Asker × Nat × Nat)
  startWho : Option (Asker × Nat × Nat)
  reclWho : List (Asker × Nat × Nat)
  /-- sites whose binding is still to be installed, and those that have not acknowledged (R300) -/
  toBind : List Nat
  /-- the next open sequence of a step (R281) -/
  nseq : Nat
  /-- local addresses [lo, hi) that the killed incarnation could write, from the kill to RECLAIMED (R367) -/
  couldWrite : List (Nat × Nat)
  deriving DecidableEq, Repr

def Ctx.reset : Ctx :=
  { st := .free, inc := 0, priv := false, slot := 0, share := 0, fields := 0, baseA := 0, sizeA := 0, baseB := 0, sizeB := 0,
    pgroot := 0, inval := [], backbase := 0, backing := [], rereads := 0, ftWait := [], ovflbase := 0, ovflsize := 0, savebase := 0, rickquota := 0,
    linkUse := false, told := [], swept := [], drops := 0, fence := 0, fenceOk := false, prev := .free, killWho := none, startWho := none, reclWho := [],
    toBind := [], nseq := 0, couldWrite := [] }

/-- A match entry of a router (R184): subscriptions installed through each port and by the tile's own slots. -/
structure Match where
  ctx : Nat
  inc : Nat
  name : Word
  cn : Nat
  ce : Nat
  cs : Nat
  cw : Nat
  cl : Nat
  deriving DecidableEq, Repr

/-- A segment that has been spilled: what the home keeps of it, its bytes being in a slot of the overflow area (R193, R200). -/
structure Spilled where
  seg : Seg
  slot : Nat
  deriving DecidableEq, Repr

/-- A copy at a home (R190, R191, R193): its segments as they arrive, the end of its linger, the subscribers whose acknowledgement it
awaits, the segments that have been spilled, and which of the others stand in the diversion reserve (R199). -/
structure Copy where
  seq : Nat
  size : Nat
  tags : List Tag
  segs : List Seg
  until_ : Nat
  awaited : List (Nat × Nat × Nat)
  spilled : List Spilled
  reserve : List Nat
  used : Nat
  /-- subscribers recorded when the copy took its sequence that have not acknowledged it (R286) -/
  due : List (Nat × Nat × Nat)
  deriving DecidableEq, Repr

/-- A subscriber recorded at a home (R185, R188): `last` is the sequence it was shown last, `early` counts the moving withdrawals that the reinstall
of its slot has overtaken (R227), `ready` says that a persistent slot waits
for its next copy. -/
structure SubRec where
  site : Nat
  slot : Nat
  sub : Nat
  persist : Bool
  u : Bool
  waiter : Bool
  last : Option Nat
  ready : Bool
  moving : Bool
  uid : Nat
  /-- of a gate: CSEQ and the sequence of the record that waits for it (R240) -/
  gate : Nat × Nat
  early : Nat
  deriving DecidableEq, Repr

/-- A cut mark (R260, R261): instance number plus 1, subscription slot, the sequence m from which copies wait, and the group whose cut it is. -/
structure CutMark where
  uid : Nat
  sub : Nat
  at_ : Nat
  g : Nat
  deriving DecidableEq, Repr

/-- A held entry (R191, R199): a diverted copy waits for its subscriber; it refers to a copy of the home, or keeps its segments, in
the rick, in the overflow area or in the diversion reserve, or is lost. -/
structure HeldEnt where
  site : Nat
  slot : Nat
  sub : Nat
  seq : Option Nat
  tags : List Tag
  segs : List Seg
  spilled : List Spilled
  reserve : List Nat
  lost : Bool
  used : Nat
  deriving DecidableEq, Repr

/-- A part of an open reduction (R198): segment, the lowest contributor index in it, the multiplicity that it stands for, the publisher of its first
contribution, bytes, poisoned granules, the overflow slot that holds its bytes where it is spilled, and whether it stands in the diversion
reserve. -/
structure RedPart where
  idx : Nat
  who : Nat
  mult : Nat
  tag : Tag
  bytes : List Byte
  poison : List Nat
  slot : Option Nat
  reserve : Bool
  deriving DecidableEq, Repr

/-- An open reduction (R196, R198): `accepted` are the publishers of the contributions that it has taken. -/
structure RedOpen where
  op : Nat
  n : Nat
  size : Nat
  det : Bool
  linger : Nat
  parts : List RedPart
  accepted : List Tag
  used : Nat
  deriving DecidableEq, Repr

/-- A name at its home (R190 to R199). `closing` are the reductions that have closed and whose results are still to be
published (R198); `marks` are the cut marks (R261); `sysPins` is negative
while a waiter has left before its completion came (R255); `wants` the transfers that wait for a spilled entry, and whether each answers a pull;
`freeing` the overflow slots whose headers are still to be cleared (R335). -/
structure HomeName where
  ctx : Nat
  inc : Nat
  name : Word
  next : Nat
  copies : List Copy
  subs : List SubRec
  held : List HeldEnt
  pins : Nat
  sysPins : Int
  red : Option RedOpen
  closing : List RedOpen
  ft : Bool
  unicast : Bool
  marks : List CutMark
  wants : List (SlotMsg × Bool)
  freeing : List Nat
  deriving DecidableEq, Repr

/-- Storage that an uncorrectable error has struck and that nothing has read since: an L1 way of a set (R145), an accumulator (R169). `eccl1`: the bundle of a slot has met such an error in a dirty line and is to trap (R145). -/
inductive Struck where
  | l1 (site set way : Nat)
  | acc (site slot n : Nat)
  | eccl1 (site slot vline : Nat)
  deriving DecidableEq, Repr

/-- Link states (R370). -/
inductive LinkState where
  | down | training | up | degraded | quarantined
  deriving DecidableEq, Repr

/-- A link: PCIe ports 0 and 1 are links 0 and 1, Quinholt link k is 2 + k, Ethernet port i is 66 + i (R27, R369);
the second x8 link of a bifurcated port p is 74 + p (R382). `trainings` are
the times at which it entered TRAINING and `replays` those of its replays (R370); `retry` are the flits sent and not acknowledged,
oldest first, at most 512, and `txq` those that wait for room there (R374); `wire` is all that the link has transmitted, repeats included. -/
structure Link where
  st : LinkState
  trainings : List Nat
  replays : List Nat
  retry : List Flit
  txq : List Flit
  wire : List Flit
  txSeq : Nat
  rxSeq : Nat
  /-- TIME at which a training that timed out is tried again (R370) -/
  retryAt : Option Nat
  deriving DecidableEq, Repr

def Link.reset : Link := { st := .down, trainings := [], replays := [], retry := [], txq := [], wire := [], txSeq := 0, rxSeq := 4095, retryAt := none }

/-- A template of an image (R215): its number, its name's terms, and the area or payload. -/
structure Templ where
  i : Nat
  space : Nat
  k0 : Nat
  kx : Int
  ky : Int
  kz : Int
  ks : Int
  off : Nat
  size : Nat
  linger : Nat
  rel : Bool
  deriving DecidableEq, Repr

/-- What the scheduler keeps of an image that has passed its checks (R214); `image` are the code bytes that were checked, by which a load knows
an image that was written since (R223). -/
structure Kern where
  code : Nat
  image : List Byte
  trap : Word
  scrA : Nat
  scrB : Nat
  land : Nat
  args : Nat
  landB : Bool
  yld : Bool
  cost : Nat
  prio : Nat
  pure : Bool
  acc : Nat
  groups : List (Option Nat)
  subs : List Templ
  pubs : List Templ
  deriving DecidableEq, Repr

/-- An instance that has not reached a terminal state (R27, R220, R225). While it is on a tile, its state is that of its slot and `st` is
PLACED. `place` is the slot that it has been granted, `from_` the one it ran in last, or none where it has moved since, `rec_` its save record and whether it is valid, `kept`
what the blocks of the record hold whose layout is the device's own (R304), `cut` the group whose cut saved it. -/
structure Inst where
  ctx : Nat
  inc : Nat
  q : Nat
  image : Word
  kern : Kern
  idx : Nat
  x : Nat
  y : Nat
  z : Nat
  step : Nat
  groups : List (Option Nat)
  base : Nat
  args : Word
  st : InstState
  place : Option (Nat × Nat)
  from_ : Option (Nat × Nat)
  rec_ : Option (Nat × Bool)
  kept : Option Slot
  cut : Option Nat
  deriving DecidableEq, Repr

/-- Queue states (R237). -/
inductive QueueState where
  | none | open_ | draining | closed
  deriving DecidableEq, Repr

/-- A queue (R236): its pending records with their sequences, the gates of the head that are still to be satisfied (none: not yet subscribed),
and, while the head's memberships are being reserved (R253), its kernel, the groups asked, and what they answered. -/
structure Queue where
  st : QueueState
  base : Nat
  lg : Nat
  lvl : Nat
  fixed : Bool
  recs : List (Nat × List Word)
  next : Nat
  cseq : Nat
  gates : Option (List Word)
  kern : Option Kern
  asked : List Nat
  granted : List Nat
  refused : Option Nat
  /-- TIME before which a head that met a migrating page is not looked at again (R335) -/
  hold : Nat
  deriving DecidableEq, Repr

def Queue.reset : Queue :=
  { st := .none, base := 0, lg := 0, lvl := 0, fixed := false, recs := [], next := 0, cseq := 0, gates := none, kern := none, asked := [],
    granted := [], refused := none, hold := 0 }

/-- Group states (R252). -/
inductive GroupState where
  | idle | active | cutting | cut
  deriving DecidableEq, Repr

/-- A group table entry (R252), with the governor's cap (R257, R289), memberships reserved for queues (R253) and a cut under way (R260 to
R263): its area, the marks and records that are still awaited, the members to save, the records written, the bytes used and the records left at
homes, whether the orders to save and the orders to write records have gone out, and whether a cancel waits for it; `cutList` are the members of the
cut in ascending INSTIDX, each with the doublewords of its entry, and `leftAt` the records left at homes, by instance, slot and sequence. -/
structure Group where
  st : GroupState
  cancelling : Bool
  use : Nat
  live : Nat
  ret : Nat
  fau : Nat
  can : Nat
  first : Nat
  cap : Nat
  waits : Nat
  gcap : Nat
  reserved : KMap Nat
  base : Nat
  size : Nat
  marks : Nat
  saving : List Nat
  writes : Nat
  records : Nat
  used : Nat
  written : List (Nat × List Byte)
  left : Nat
  leftAt : List (Nat × Nat × Nat)
  cutList : List (Nat × Nat × Nat)
  ordered : Bool
  sent : Bool
  cancelLater : Bool
  /-- TIME before which a write that met a page that migrates is not made again (R335) -/
  hold : Nat
  deriving DecidableEq, Repr

def Group.reset : Group :=
  { st := .idle, cancelling := false, use := 0, live := 0, ret := 0, fau := 0, can := 0, first := 0, cap := 16777215, waits := 0,
    gcap := 16777215, reserved := [], base := 0, size := 0, marks := 0, saving := [], writes := 0, records := 0, used := 0, written := [], left := 0,
    leftAt := [], cutList := [], ordered := false, sent := false, cancelLater := false, hold := 0 }

/-- An ACTIVE barrier (R268); a barrier that is not listed is UNINIT. -/
structure Bar where
  inc : Nat
  count : Nat
  phase : Nat
  arr : Nat
  ahead : Nat
  w0 : Nat
  w1 : Nat
  deriving DecidableEq, Repr

/-- Outcomes of a step (R281). -/
inductive StepOutcome where
  | pending | met | missed
  deriving DecidableEq, Repr

/-- A step entry that is OPEN or CLOSED (R281); one that is not listed is FREE. `slack` and `why` are of the latest decision (R291), with the
domain of the least slack and its point (R283). -/
structure StepEnt where
  inc : Nat
  open_ : Bool
  seq : Nat
  group : Nat
  dl : Nat
  t0 : Nat
  outcome : StepOutcome
  done : Nat
  risked : Bool
  copies : Nat
  slack : Option Int
  why : Nat
  dom : Nat
  deriving DecidableEq, Repr

/-- An EVICT under way (R323): its fields, whether it unbinds, who asked, the instances it has ordered saved and those still awaited, the counts
of saved and failed instances and of blocks written. -/
structure EvictOp where
  ctx : Nat
  inc : Nat
  mask : Word
  unbind : Bool
  who : Asker
  issuer : Nat × Nat
  ordered : List Nat
  waiting : List Nat
  saved : Nat
  failed : Nat
  blocks : Nat
  deriving DecidableEq, Repr

/-- An LSEND on its way (R387, R388): where it came from, its destination, the time of its first egress, the segments sent, those accepted, and
whether it has ended. -/
structure LSendOut where
  site : Nat
  slot : Nat
  ctx : Nat
  inc : Nat
  name : Word
  dom : Nat
  module : Nat
  dctx : Nat
  linger : Nat
  size : Nat
  serial : Nat
  t0 : Nat
  /-- segment frames without a verdict: sequence, Ethernet port or none for a Quinholt link, segment, payload, time of the last sending -/
  frames : List (Nat × Option Nat × Nat × List Byte × Nat)
  sent : Nat
  accepted : Nat
  deriving DecidableEq, Repr

/-- An LSEND that arrives (R388): source, destination and the segments that have come. -/
structure LSendIn where
  srcDomain : Nat
  srcModule : Nat
  id : Nat
  dctx : Nat
  inc : Nat
  name : Word
  linger : Nat
  size : Nat
  segs : List (Nat × List Byte)
  deriving DecidableEq, Repr

/-- What leaves the module for the host, the management network or a peer, beside flits (R384, R385, R388, R395, R396). -/
inductive OutMsg where
  | completion (port : Nat) (bytes : List Byte) (poisoned : Bool)
  | unsupported (port : Nat)
  | msix (port vector : Nat)
  | ring (port ring : Nat) (payload : List Byte)
  | verdict (port domain module id : Nat) (accept : Bool) (age inc : Nat)
  | frame (port : Nat) (f : LFrame) (bytes : List Byte)
  | ptp (port : Nat) (msg : List Byte)
  | linkState (link : Nat) (st : LinkState)
  | report (bytes : List Byte)
  deriving DecidableEq, Repr

/-- Boot and management state (R389 to R397). `flashA` and `flashB` are the contents of the two firmware slots, `flashing` is a write under way: the slot, the
TIME at which it ends and the image (R393); `keyEcdsa` and `keyLms` are the fused digests. -/
structure Mgmt where
  ready : Bool
  recovery : Bool
  running : Nat
  failA : Nat
  failB : Nat
  modcap : Nat
  defop : Nat
  modcapNext : Nat
  defopNext : Nat
  low : Option Nat
  modValid : Bool
  config : Option Nat
  tileIdx : Nat
  defective : List Nat
  hot : List Nat
  held : List Nat
  /-- sites whose bit is set in FREEZE and in DBG (R396); the tiles hold the bits that have reached them -/
  freeze : List Nat
  dbg : List Nat
  flashA : List Byte
  flashB : List Byte
  flashing : Option (Nat × Nat × List Byte)
  keyEcdsa : BitVec 384
  keyLms : BitVec 384
  version : Nat
  rollback : Nat
  measured : List (BitVec 384)
  admission : KMap (Nat × Nat × Nat × Nat)
  mailbox : KMap Word
  hostSubs : List (Nat × Nat × Nat × Word × Nat × Nat)
  badTlp : Nat
  dropped : Nat
  /-- single-bit errors that scratchpads have corrected (R139) -/
  corrected : Nat
  /-- the system time base less TIME, modulo 2^64, in ns (R380), and the Ethernet port whose clock is the SLAVE -/
  sysTime : Nat
  ptpSlave : Option Nat
  ptpDomain : Nat
  ptpPrio1 : Nat
  ptpPrio2 : Nat
  /-- PCIe ports that run as two x8 links (R382), and the uncorrectable error status of each host port (R382, log 58) -/
  bifurcated : List Nat
  aer : KMap Nat
  deriving DecidableEq, Repr

/-- The four measurements (R395): the accepted image, the configuration data, the tile map, and the rollback counter with the slot chosen. How
the last three are laid out for the digest is the model's (log 5). -/
def measures (image : List Byte) (config : Option Nat) (disabled dead : List Nat) (rollback slot : Nat) : List (BitVec 384) :=
  [sha384 image, sha384 (match config with | some c => bytesOf 8 c | none => []),
   sha384 (disabled.flatMap (bytesOf 2) ++ bytesOf 2 65535 ++ dead.flatMap (bytesOf 2)), sha384 (bytesOf 8 rollback ++ bytesOf 1 slot)]

/-- VERSION of a firmware image (R394). -/
def versionOf (img : List Byte) : Nat := beNum ((img.drop 8).take 8).reverse

/-- Links as bring-up leaves them: the PCIe ports train, a bifurcated one with its second link; with a valid module number every other link does too
(R382, R392, log 36). -/
def bootLinks (valid : Bool) (bifurcated : List Nat) : KMap Link :=
  ((List.range (if valid then 74 else 2)) ++ (if bifurcated.contains 0 then [74] else []) ++ (if bifurcated.contains 1 then [75] else [])).map
    (fun l => (l, { Link.reset with st := .training, trainings := [0] }))

/-- Management state after bring-up from slot A as delivered, before the PCIe ports have trained (R380, R392, log 5). -/
def Mgmt.reset : Mgmt :=
  { ready := false, recovery := false, running := 0, failA := 0, failB := 0, modcap := 32000, defop := 15, modcapNext := 32000, defopNext := 15,
    low := none, modValid := false, config := none, tileIdx := 0, defective := [], hot := [], held := [], freeze := [], dbg := [],
    flashA := Config.factoryImage 0, flashB := Config.factoryImage 1, flashing := none, keyEcdsa := Config.fusedEcdsa, keyLms := Config.fusedLms
    version := versionOf (Config.factoryImage 0), rollback := 0, measured := measures (Config.factoryImage 0) none [] [] 0 0, admission := [], mailbox := [],
    hostSubs := [], badTlp := 0, dropped := 0, corrected := 0, sysTime := 0, ptpSlave := none, ptpDomain := 0, ptpPrio1 := 128, ptpPrio2 := 128, bifurcated := [], aer := [] }

end Sys2Proof.Machine
end

