-- ==== Sys2Proof/Machine/State.lean ====
section
/-! DEFINITION. The state of the machine, as plain data, and its state after reset. -/

namespace Sys2Proof.Machine

/-- Why the machine stops. -/
inductive Fault where
  /-- Raised by the step while the rails of the module are cut (supply loss, overtemperature) and no module reset is at hand:
  nothing of the module runs then (R390). Safe: the hardware does nothing either. -/
  | railsCut
  deriving DecidableEq, Repr

/-- Why an instruction has no meaning. -/
inductive Refusal where
  /-- Raised by an arm of `exec` whose instruction is not modelled yet; the string is its mnemonic. Safe. -/
  | notModelled (mnemonic : String)
  deriving DecidableEq, Repr

/-- What a message waits for whose release part comes first (R230, R249, R275): the slot whose writes it covers, whether the scope goes beyond
the module, and the wp that each channel had. -/
structure RelWait where
  site : Nat
  slot : Nat
  ctx : Nat
  inc : Nat
  remote : Bool
  wps : List Nat
  deriving DecidableEq, Repr

/-- A port that a message still has to pass: a tile's injection port (the tile's site) or the request port of a hedge agent (6,144 and the stack),
for a context, `left` flits or requests of `cost` tokens each (R317). -/
structure PortHold where
  agent : Nat
  ctx : Nat
  cost : Nat
  left : Nat
  deriving DecidableEq, Repr

/-- An entry of the agenda: a message in flight between agents, or an input from outside. It can act once TIME has reached
`due`, once its release part `rel` is done, once it has passed the ports of `holds`, and only after every earlier entry of its channels, `chan`,
where that is not 0, and those of `also`, and of the channels in `after`, in which later entries do not wait for it (log 6). -/
structure Pending where
  due : Nat
  chan : Nat
  ev : Instr
  rel : Option RelWait
  holds : List PortHold
  also : List Nat
  after : List Nat
  deriving DecidableEq, Repr

/-- Global and scratch memory: bytes by address, rising, none equal to 0, which is what an unlisted byte reads as. -/
abbrev Memory := List Host.Cell

/-- What the metadata of a granule of global memory hold beside the check value of its bytes under the module number `tagNum` (R336, R337): poison, an
uncorrectable error, another check value, or that of its bytes under another module number. -/
inductive Granule where
  | poison | uncorrectable | check (v : BitVec 32) | tagged (m : Nat)
  deriving DecidableEq, Repr

/-- The machine. -/
structure State where
  tick : Nat
  /-- TIME, one for all tiles, although R114 lets those of two tiles differ by up to 4 ns (DESIGN CHOICE, log 52) -/
  time : Nat
  agenda : List Pending
  iss : Iss
  /-- slots by 4 x site + slot, tiles by site; what is not listed is as after reset -/
  slots : KMap Slot
  tiles : KMap Tile
  scratch : Memory
  /-- scratch words (by byte address / 8) with an uncorrectable error (R139) -/
  scratchUE : List Nat
  /-- keys [lo, hi) of scratch bytes whose contents are undefined (R137, R146) -/
  scratchUndef : List (Nat × Nat)
  /-- pointer entries that each walker holds, by compute field, the latest first (R330) -/
  walkers : KMap (List Ptr)
  /-- translations that each hedge agent holds (R331) -/
  hedges : KMap (List Trans)
  /-- token bucket of each context at a hedge agent, by 256 x stack + context, and the context that each served last (R317, R422) -/
  hedgeTokens : KMap Nat
  hedgeServed : KMap Nat
  /-- TIME of the last refill of a port: a tile by its site, the hedge agent of stack h by 6,144 + h (R317) -/
  refills : KMap Nat
  /-- the map of R3 and R19: disabled sites, sites with a dead router -/
  disabled : List Nat
  deadRouters : List Nat
  /-- the detour table: at a site, toward a site, the port to take (R19, R23) -/
  detour : List (Nat × Nat × Port)
  /-- match entries by site (R184); names at their homes, by context x 2^64 + name; ricks marked failed (R182) -/
  matches_ : KMap (List Match)
  homes : KMap HomeName
  failedRicks : List Nat
  /-- contexts whose injection is stalled by a full overflow area: TIME at which the stall began, whether it is recorded, and the ricks that have not
  reported space since (R201) -/
  ovflStall : KMap (Nat × Bool × List Nat)
  mem : Memory
  /-- granules (by local address / 64) whose metadata are not the check value of their bytes alone (R337) -/
  gran : KMap Granule
  /-- the module number whose tag the check values of all other granules have: that of bring-up (R337, R392, R397) -/
  tagNum : Nat
  /-- errors in storage that nothing has met yet, beside those of `gran` and `scratchUE` (R145, R169, R205, log 48) -/
  struck : List Struck
  /-- TIMEs at which a site has reported an uncorrectable error within the last second (R391) -/
  ueTimes : KMap (List Nat)
  /-- local addresses [lo, hi) whose bytes a DISCARD has left undefined (R150) -/
  discarded : List (Nat × Nat)
  ctxs : KMap Ctx
  modnum : Nat
  windows : List FaultWin
  /-- operating point of each compute domain; OP0 where none is listed (R278, R392) -/
  ops : KMap Nat
  /-- quanta that a domain's reserve has given and not regained: the reserve is 256 less this (R292), and the cycles in which
  multiplies of a domain were held in this interval (R293) -/
  quantaUsed : KMap Nat
  /-- TIME of the last quantum of a domain, or of the boundary of its periods at which its reserve was last left full (R292) -/
  slewAt : KMap Nat
  slewHeld : KMap Nat
  links : KMap Link
  /-- (k, module): switch k reports its link to the module as not usable (R377) -/
  swDown : List (Nat × Nat)
  /-- requests out to other modules, by tag, each with the TIME at which it left (R378) -/
  out : KMap (Nat × MemReq)
  nextTag : Nat
  /-- own domain number (R372) -/
  domainNum : Nat
  /-- what BRK reported to the management controller: site, slot, code, address of the next bundle (R108) -/
  brks : List (Nat × Nat × Nat × Word)
  /-- instances by number, in expansion order, and the next number (R220) -/
  insts : KMap Inst
  nextUid : Nat
  /-- placement messages that a field's scheduler has sent to a tile and that are not acknowledged, by 8,192 x field + site (R222) -/
  placeOut : KMap Nat
  /-- queues by 64 x context + queue, groups by 256 x context + group, ACTIVE barriers by 4,096 x context + id, steps by 16 x context + id -/
  queues : KMap Queue
  groups : KMap Group
  bars : KMap Bar
  steps : KMap StepEnt
  /-- CYCLE at retirement of the last 16 instances of each kernel, the latest first: context, KERNID, counts (R287) -/
  est : List (Nat × Word × List Nat)
  /-- the next interval boundary, boundaries in a row under 90 % of MODCAP (R290), domains that had a candidate in this interval (R280), points
  requested and not yet reached (R279) -/
  boundary : Nat
  calm : Nat
  busy : List Nat
  opReq : KMap Nat
  evicts : List EvictOp
  lsends : KMap LSendOut
  lsendIn : List LSendIn
  /-- duplicates are known by source module and sequence, each with the TIME at which it came (R380, log 34); sequences of own frames -/
  seen : List ((Nat × Nat) × Nat)
  frameSeq : Nat
  /-- flits accepted from links and not yet taken up: link, TIME of arrival, flit (R375) -/
  inq : List (Nat × Nat × Flit)
  mgmt : Mgmt
  /-- the wafer rails are up (R390) -/
  powered : Bool
  outbox : List OutMsg
  deriving DecidableEq, Repr

/-- The machine right after module reset (R392). -/
def State.reset : State :=
  { tick := 0, time := 0, agenda := [], iss := Iss.reset, slots := [], tiles := [], scratch := [], scratchUE := [], scratchUndef := [], walkers := [], hedges := [], hedgeTokens := [], hedgeServed := [], refills := [], disabled := [], deadRouters := [], detour := [], matches_ := [], homes := [], failedRicks := [], ovflStall := [], mem := [],
    gran := [], tagNum := 0, struck := [], ueTimes := [], discarded := [], ctxs := [], modnum := 0, windows := [],
    ops := [], quantaUsed := [], slewAt := [], slewHeld := [], links := bootLinks false [], swDown := [], out := [], nextTag := 0, domainNum := 0, brks := [], insts := [], nextUid := 0, placeOut := [],
    queues := [], groups := [], bars := [], steps := [], est := [], boundary := 8000, calm := 0, busy := [], opReq := [], evicts := [],
    lsends := [], lsendIn := [], seen := [], frameSeq := 0, inq := [], mgmt := Mgmt.reset, powered := true, outbox := [] }

end Sys2Proof.Machine
end

