-- ==== Sys2Proof/Machine/Ops.lean ====
section
/-! DEFINITION. The named operations over the state that every meaning is written with: slots and tiles, memory, the agenda,
landing results, fault records, taking a trap and returning from it. -/

namespace Sys2Proof.Machine

/-! ### Memory -/

/-- One byte; an unlisted byte reads as 0 (R392 for global memory, log 3 for the scratchpad). -/
def Memory.readByte (m : Memory) (a : Nat) : Byte := KMap.getD m a 0

/-- Writes one byte and keeps the canonical form. -/
def Memory.writeByte (m : Memory) (a : Nat) (b : Byte) : Memory := if b = 0 then KMap.del m a else KMap.set m a b

/-- The n bytes from address a. -/
def Memory.readBytes (m : Memory) : Nat → Nat → List Byte
  | _, 0 => []
  | a, n + 1 => Memory.readByte m a :: Memory.readBytes m (a + 1) n

/-- Writes bytes from address a on. -/
def Memory.writeBytes (m : Memory) : Nat → List Byte → Memory
  | _, [] => m
  | a, b :: bs => Memory.writeBytes (Memory.writeByte m a b) (a + 1) bs

/-- The canonical form: addresses strictly rising, no byte equal to what an unlisted one reads as. -/
def Memory.wf (m : Memory) : Bool := KMap.risesFrom 0 m && m.all (fun c => decide (c.2 ≠ 0))

/-- Takes [lo, hi) out of a list of ranges. -/
def rangesDel (rs : List (Nat × Nat)) (lo hi : Nat) : List (Nat × Nat) :=
  rs.flatMap (fun (a, b) =>
    if b ≤ lo ∨ hi ≤ a then [(a, b)]
    else (if a < lo then [(a, lo)] else []) ++ (if hi < b then [(hi, b)] else []))

/-- Does a list of ranges hold an address? -/
def rangesHave (rs : List (Nat × Nat)) (a : Nat) : Bool := rs.any (fun (lo, hi) => decide (lo ≤ a) && decide (a < hi))

/-- The parts of [va, va + n) that do not cross a granule, among at most `fuel`. -/
def partsOf : Nat → Nat → Nat → List (Nat × Nat)
  | 0, _, _ => []
  | fuel + 1, va, n => if n = 0 then [] else
    let k := min n (64 - va % 64)
    (va, k) :: partsOf fuel (va + k) (n - k)

/-! ### Slots and tiles -/

/-- Key of a slot. -/
def slotKey (site slot : Nat) : Nat := 4 * site + slot
def State.slotAt (s : State) (site slot : Nat) : Slot := KMap.getD s.slots (slotKey site slot) Slot.empty
def State.setSlotAt (s : State) (site slot : Nat) (x : Slot) : State :=
  { s with slots := KMap.set s.slots (slotKey site slot) x }
def State.tileAt (s : State) (site : Nat) : Tile := KMap.getD s.tiles site Tile.reset
def State.setTileAt (s : State) (site : Nat) (t : Tile) : State := { s with tiles := KMap.set s.tiles site t }
def State.ctx (s : State) (c : Nat) : Ctx := KMap.getD s.ctxs c Ctx.reset
def State.setCtx (s : State) (c : Nat) (x : Ctx) : State := { s with ctxs := KMap.set s.ctxs c x }

/-- A slot's subscription slots and channels. -/
def Slot.subAt (x : Slot) (n : Nat) : SubSlot := x.sub.toList.getD n SubSlot.idle
def Slot.setSub (x : Slot) (n : Nat) (u : SubSlot) : Slot := { x with sub := x.sub.setIfInBounds n u }
def State.setSub (s : State) (site slot n : Nat) (u : SubSlot) : State := s.setSlotAt site slot ((s.slotAt site slot).setSub n u)
def Slot.chan (x : Slot) (n : Nat) : Chan := x.ch.toList.getD n Chan.idle
def Slot.setChan (x : Slot) (n : Nat) (c : Chan) : Slot := { x with ch := x.ch.setIfInBounds n c }
def State.setChan (s : State) (site slot n : Nat) (c : Chan) : State := s.setSlotAt site slot ((s.slotAt site slot).setChan n c)

/-- The slot whose bundle is at issue, and its tile. -/
def State.cur (s : State) : Slot := s.slotAt s.iss.site s.iss.slot
def State.setCur (s : State) (x : Slot) : State := s.setSlotAt s.iss.site s.iss.slot x
def State.curTile (s : State) : Tile := s.tileAt s.iss.site
def State.setCurTile (s : State) (t : Tile) : State := s.setTileAt s.iss.site t
def State.setIss (s : State) (i : Iss) : State := { s with iss := i }

/-! ### Agenda -/

/-- Puts a message or an event in the agenda. `chan` is 0, or the order it takes part in. -/
def State.sendAt (s : State) (due chan : Nat) (ev : Instr) : State := { s with agenda := s.agenda ++ [⟨due, chan, ev, none, [], [], []⟩] }
def State.send (s : State) (chan : Nat) (ev : Instr) : State := s.sendAt s.time chan ev

/-- Sends a message once the release part `r` is done. -/
def State.sendRel (s : State) (chan : Nat) (ev : Instr) (r : Option RelWait) : State :=
  { s with agenda := s.agenda ++ [⟨s.time, chan, ev, r, [], [], []⟩] }

/-- Sends a message that also waits for the earlier entries of the channel `after`; later entries of that channel do not wait for it (R202). -/
def State.sendAfter (s : State) (after chan : Nat) (ev : Instr) : State :=
  { s with agenda := s.agenda ++ [⟨s.time, chan, ev, none, [], [], [after]⟩] }

/-- Sends a message that passes ports first. -/
def State.sendHeld (s : State) (holds : List PortHold) (chan : Nat) (ev : Instr) (r : Option RelWait) : State :=
  { s with agenda := s.agenda ++ [⟨s.time, chan, ev, r, holds, [], []⟩] }

/-- Order keys (log 6): a kind below 32 and what it orders. -/
def chanKey (kind x : Nat) : Nat := 32 * x + kind + 1

/-- The register of BAR 0 that an event writes: two writes of one take effect in order (R396, R397). -/
def regOf : Instr → List Nat
  | .modcapWrite _ => [0x08]
  | .defopWrite _ => [0x10]
  | .modnumWrite _ => [0x18]
  | .tilecmdClear _ | .tilecmdSet _ => [0x30]
  | .freezeWrite off _ | .dbgWrite off _ | .mgmtRegisterWrite off _ => [off / 8 * 8]
  | _ => []
/-- The channels in which an entry is ordered before later ones, and those in which it waits for earlier ones. -/
def Pending.chans (p : Pending) : List Nat := (if p.chan = 0 then [] else [p.chan]) ++ p.also ++ (regOf p.ev).map (chanKey 30)
def Pending.behind (p : Pending) (earlier : List Nat) : Bool := (p.chans ++ p.after).any (fun c => earlier.contains c)

/-- Sends a packet of one flit that a tile's port injects for a context (R317). -/
def State.sendPort (s : State) (site ctx chan : Nat) (ev : Instr) : State := s.sendHeld [⟨site, ctx, 64, 1⟩] chan ev none

/-- Are earlier C loads of a slot still to land? A release that awaits the homes of this module alone does not wait for one whose home is on another
module (R358). -/
def State.loadsOut (s : State) (site slot : Nat) (remote : Bool) : Bool :=
  (s.tileAt site).lines.any (fun l => (remote || decide (l.pa / 2 ^ 42 % 1024 = s.modnum)) && l.waiters.any (fun w => decide (w.slot = slot))) ||
  s.agenda.any (fun p => match p.ev with
    | .interlockedResultLand a b _ _ _ _ (.load _ _ _ none far) => decide (a = site) && decide (b = slot) && (remote || !far)
    | _ => false)
/-- Is a maintenance walk of a context under way on a tile (R151)? An acquire part is none. -/
def State.walksOut (s : State) (site ctx : Nat) : Bool := (s.tileAt site).walks.any (fun w => decide (w.ctx = ctx) && decide (w.kind ≠ 3))

/-- Is the release part of a message done: the C loads have landed, the C writes and the channel writes that it covers have been performed, and
maintenance walks are over (R151, R358, R361)? One whose incarnation has been killed never is, since what it covers is dropped (R367). -/
def State.relDone (s : State) (r : RelWait) : Bool :=
  let x := s.slotAt r.site r.slot
  let far (pa : Nat) : Bool := decide (pa / 2 ^ 42 % 1024 ≠ s.modnum)
  (x.bound != some (r.ctx, r.inc) && decide ((s.ctx r.ctx).inc = r.inc)) ||
  (decide (x.bound = some (r.ctx, r.inc)) && !(s.loadsOut r.site r.slot r.remote) && !(s.walksOut r.site r.ctx) && decide (x.ackC = 0) && (!r.remote || decide (x.ackCR = 0)) &&
   !((s.tileAt r.site).lines.any (fun l => l.through && decide (l.ctx = r.ctx) && decide (l.inc = r.inc) && (r.remote || !(far l.pa)))) &&
   (x.ch.toList.zip (List.range 16)).all (fun (c, i) => c.unacked.all (fun u => decide (r.wps.getD i 0 < u.1) || (u.2 && !r.remote))))

/-- Puts a message at the head of its order. -/
def State.sendFront (s : State) (chan : Nat) (ev : Instr) : State := { s with agenda := ⟨s.time, chan, ev, none, [], [], []⟩ :: s.agenda }
/-- Puts a message back at the head of its order, for a page that migrates (R335). -/
def State.retry (s : State) (chan : Nat) (ev : Instr) : State := { s with agenda := ⟨s.time + 2000, chan, ev, none, [], [], []⟩ :: s.agenda }

/-! ### Registers -/

/-- A free 64-bit value; `k` tells apart the free values of one step (R5). -/
def State.freeW (s : State) (k : Nat) : Word := Config.freeWord s.tick k

/-- Values that a result in flight lets a read of a register see: its own, or those of the shadow that it leaves (R51, R52). -/
def InFlight.shows (e : InFlight) (r : Reg) : List VReg :=
  if e.dst == r then [e.val] else match e.ghost with | some (q, vs) => if q == r then vs else [] | none => []
/-- Values on their way to a register (R51, R52). -/
def inflVals (l : List InFlight) (r : Reg) : List VReg := l.flatMap (fun e => e.shows r)

/-- A read of a register that holds `old`: in the shadow of writes in flight from earlier bundles, either value, chosen per read
(R49, R51, R52). -/
def State.shadow (s : State) (place : Nat) (r : Reg) (old : VReg) : VReg :=
  match inflVals s.iss.infl0 r with
  | [] => old
  | v :: vs => (old :: v :: vs).getD (Config.pick s.tick place % (vs.length + 2)) old

def Files.getA (f : Files) (i : Nat) : Word := if i = 0 then 0 else f.a.toList.getD i 0
def Files.getO (f : Files) (i : Nat) : Word := f.o.toList.getD i 0
def Files.getY (f : Files) (i : Nat) : Word := f.y.toList.getD i 0
def Files.getV (f : Files) (i : Nat) : VReg := f.v.toList.getD i 0
def Files.getW (f : Files) (i : Nat) : VReg := f.w.toList.getD i 0
/-- p0 reads 1 (R42). -/
def Files.getP (f : Files) (i : Nat) : Bool := if i = 0 then true else f.p.toList.getD i false

/-- Writes to a register file; writes to a0 and p0 are ignored (R42). -/
def Files.put (f : Files) (r : Reg) (x : VReg) : Files :=
  match r with
  | .a i => if i = 0 then f else { f with a := f.a.setIfInBounds i (x.truncate 64) }
  | .o i => { f with o := f.o.setIfInBounds i (x.truncate 64) }
  | .v i => { f with v := f.v.setIfInBounds i x }
  | .w i => { f with w := f.w.setIfInBounds i x }
  | .p i => if i = 0 then f else { f with p := f.p.setIfInBounds i (x.getLsbD 0) }
  | .acc _ | .kb _ | .dead => f

/-- What a register holds. -/
def Files.get (f : Files) (r : Reg) : VReg :=
  match r with
  | .a i => (f.getA i).zeroExtend 1024
  | .o i => (f.getO i).zeroExtend 1024
  | .v i => f.getV i
  | .w i => f.getW i
  | .p i => if f.getP i then 1 else 0
  | .acc _ | .kb _ | .dead => 0

/-- Is it a vector register? -/
def regIsVec : Reg → Bool
  | .v _ | .w _ => true
  | _ => false

/-- An older write to a register that a later-issued one writes over `old` is discarded when it lands; until then a read may see what the register
held, or the value of either write (R52). -/
def InFlight.outrun (e : InFlight) (r : Reg) (old : VReg) : InFlight :=
  if r = .dead then e
  else if e.dst = r then { e with dst := .dead, ghost := some (r, [old, e.val]) }
  else match e.ghost with
    | some (q, vs) => if q = r then { e with ghost := some (q, vs ++ [old]) } else e
    | none => e
/-- A write to a register that holds `old` outruns the older writes in flight to it (R52). -/
def killBy (r : Reg) (old : VReg) (l : List InFlight) : List InFlight := l.map (fun e => e.outrun r old)
/-- A result in flight to a register that an interlocked one is to write is discarded, and no read sees it again: such a read waits (R54, log 9). -/
def InFlight.silence (r : Reg) (e : InFlight) : InFlight :=
  { e with dst := if e.dst = r then .dead else e.dst
           ghost := match e.ghost with | some (q, vs) => if q = r then none else some (q, vs) | none => none }

/-- Lands one result: the register, its mark (R142), yv and y2, y3 (R46), the flags (R79). Of a result whose register write R52 discards, the
flags land, and y2, y3 and yv stay as they are: what R46 takes for a result that has landed (DESIGN CHOICE, log 42). -/
def Slot.land (x : Slot) (e : InFlight) : Slot :=
  let f := x.f.put e.dst e.val
  let f := if regIsVec e.dst && e.ysel.isNone then { f with yv := e.val } else f
  let f := match e.ysel with
    | some n => if e.dst = .dead then f else { f with y := f.y.setIfInBounds n (e.val.truncate 64) }
    | none => f
  { x with f := f
           marks := x.marks.filter (fun m => m.reg != e.dst)
           sys := { x.sys with fpstatus := x.sys.fpstatus ||| BitVec.ofNat 64 (e.flags * 256) } }

/-- Lands, in issue order, the results that `due` picks; what stays in flight is kept (R51, R52). Of two vector results that land at the start of one
bundle the one issued later sets yv: R46 gives no order for that tie (DESIGN CHOICE, log 52). -/
def landGo (due : InFlight → Bool) : List InFlight → List InFlight → Slot → Slot
  | [], kept, x => { x with infl := kept.reverse }
  | e :: es, kept, x =>
    if due e then landGo due es (killBy e.dst (x.f.get e.dst) kept) (x.land e) else landGo due es (e :: kept) x

/-- Lands what is due at the start of bundle `n`. -/
def Slot.landDue (x : Slot) (n : Nat) : Slot := landGo (fun e => decide (e.due ≤ n)) x.infl [] x

/-- Lands every result in flight (R55). -/
def Slot.drain (x : Slot) : Slot := landGo (fun _ => true) x.infl [] x

/-- A result with exposed latency L issues (R51); `lane` is not looked at here. -/
def Slot.issue (x : Slot) (dst : Reg) (v : VReg) (lat : Nat) (flags : Nat := 0) (ysel : Option Nat := none) : Slot :=
  if dst = .a 0 ∨ dst = .p 0 then
    if flags = 0 ∧ ysel = none then x
    else { x with infl := x.infl ++ [⟨.dead, v, x.bundleNo + lat, flags, ysel, none⟩] }
  else { x with infl := x.infl ++ [⟨dst, v, x.bundleNo + lat, flags, ysel, none⟩] }

/-- Marks a register as awaiting an interlocked result (R54); results in flight to it are older and are discarded (R52, log 9). -/
def Slot.await (x : Slot) (r : Reg) : Slot :=
  if r = .a 0 then x else { x with pend := x.pend ++ [r], infl := x.infl.map (InFlight.silence r) }

/-- y0 to y3 and yv become undefined (R46). -/
def State.forgetY (s : State) (x : Slot) (k : Nat) : Slot :=
  { x with f := { x.f with y := #v[s.freeW k, s.freeW (k + 1), s.freeW (k + 2), s.freeW (k + 3)], yv := Config.freeVec s.tick k } }

/-! ### Causes and fault records -/

/-- The cause code of a kind with an origin (R339). -/
def FKind.cause (k : FKind) (origin : Nat) : Nat := k.ctorIdx / 16 * 64 + k.ctorIdx % 16 * 4 + origin

/-- Where a fault record comes from: context, incarnation, and the instance that it can name. -/
structure RecWho where
  ctx : Nat
  inc : Nat
  /-- memberships, INSTIDX, KERNID, resident slot -/
  inst : Option (List (Option Nat) × Nat × Word × Nat)
  deriving DecidableEq, Repr

/-- The instance of a slot as a fault record names it (R349). -/
def Slot.who (x : Slot) (slot : Nat) : RecWho :=
  ⟨x.sys.ctxid, x.sys.incarn, some (x.sys.groups, x.sys.instIdx, x.sys.kernId, slot)⟩

/-- What a fault record says beside who it names. -/
structure RecBody where
  kind : FKind
  origin : Nat
  eval : Word
  fatal : Bool := false
  unit : Nat := 0
  addr : Nat := 0
  dw5 : Word := 0
  dw6 : Word := 0
  /-- the group under whose name it goes, where the rule fixes one (CANCELLED, DEADLINE) -/
  group : Option Nat := none

/-- The name of a record: its group, or no group (R349). -/
def recordKey (group : Option Nat) : Word :=
  match group with
  | some g => BitVec.ofNat 64 (0xF0 * 2 ^ 56 + g * 2 ^ 44)
  | none => BitVec.ofNat 64 (0xF0 * 2 ^ 56 + 2 ^ 52)

/-- The payload of a record at window start `t0`, with MORE 0 (R349). -/
def recordPayload (w : RecWho) (b : RecBody) (t0 : Nat) : List Word :=
  let ni := if w.inst.isNone then 1 else 0
  let (idx, kern, slot) := match w.inst with | some (_, i, k, sl) => (i, k, sl) | none => (0, 0, 0)
  [BitVec.ofNat 64 (FKind.cause b.kind b.origin + (if b.fatal then 512 else 0) + ni * 2048 + b.unit * 4096 + slot * 65536),
   b.eval, BitVec.ofNat 64 idx, kern, BitVec.ofNat 64 b.addr, b.dw5, b.dw6, BitVec.ofNat 64 t0]

/-- Does the new record take the place of the one that a window holds (R350)? -/
def FaultWin.beats (w : FaultWin) (idx t unit : Nat) : Bool :=
  decide (idx < w.idx) || (decide (idx = w.idx) && (decide (t < w.at_) || (decide (t = w.at_) && decide (unit < w.unit))))

/-- Adds a record to the first window of its tuple that TIME still lies in, or opens one (R350). -/
def joinWindow (t idx unit : Nat) (pay : List Word) (key : Word) (ctx inc cause : Nat) : List FaultWin → List FaultWin
  | [] => [⟨ctx, inc, key, cause, t, idx, t, unit, pay, 0⟩]
  | w :: ws =>
    if w.ctx = ctx ∧ w.inc = inc ∧ w.key = key ∧ w.cause = cause ∧ w.t0 ≤ t ∧ t ≤ w.t0 + 1000 then
      (if w.beats idx t unit then { w with idx := idx, at_ := t, unit := unit, payload := pay, more := w.more + 1 }
       else { w with more := w.more + 1 }) :: ws
    else w :: joinWindow t idx unit pay key ctx inc cause ws

/-- A site reports an uncorrectable error to the management controller, which looks at the last second (R391). -/
def State.reportError (s : State) (site : Nat) : State :=
  let ts := KMap.getD s.ueTimes site []
  if 16 < ts.length then s
  else { s with ueTimes := KMap.set s.ueTimes site (ts.filter (fun t => decide (s.time < t + 1000000000)) ++ [s.time]) }

/-- A tile's agent detects a fault: with freeze-on-fault set, the tile is to freeze (R353); an uncorrectable error of its scratchpad or L1 is
reported (R391). -/
def State.detect (s : State) (site : Nat) (k : FKind) : State :=
  let s1 := if k = FKind.ecclocal ∨ k = FKind.eccl1 then s.reportError site else s
  let t := s1.tileAt site
  if t.freezeOn && !t.frozen then s1.setTileAt site { t with freezeReq := true } else s1

/-- Something that is dropped and counted by the management controller alone (R351, R373, R375). -/
def State.countDropped (s : State) : State := { s with mgmt := { s.mgmt with dropped := s.mgmt.dropped + 1 } }

/-- A fault record enters the heath (R348 to R350). A record of a stale incarnation is dropped and counted (R351). -/
def State.record (s : State) (w : RecWho) (b : RecBody) : State :=
  if (s.ctx w.ctx).inc ≠ w.inc then s.countDropped
  else
    let grp := match b.group with
      | some g => some g
      | none => match w.inst with
        | some (gs, _, _, _) => gs.findSome? id
        | none => none
    let idx := match w.inst with | some (_, i, _, _) => i | none => 2 ^ 24
    let cause := FKind.cause b.kind b.origin
    let pay := recordPayload w b s.time
    { s with windows := joinWindow s.time idx b.unit pay (recordKey grp) w.ctx w.inc cause s.windows }

/-! ### Outcomes of a syllable -/

/-- What a syllable does once its bundle issues: it acts, or it raises a fault that traps. -/
inductive Act where
  | ok (s : State)
  | trap (t : TrapInfo)

def Act.bind (x : Act) (f : State → Act) : Act :=
  match x with
  | .ok s => f s
  | .trap t => .trap t

/-- Why a bundle waits at issue: whether the wait counts for WATCHDOG (R341), and what the wait sets going. -/
structure Hold where
  count : Bool
  act : State → State

/-- A syllable's guard (R33): p[G] XOR GN; its read of the predicate may stand in a shadow (R51). -/
def State.guard (s : State) (h : Hdr) : Bool :=
  let i := h.pred.toNat
  (decide (i = 0) || (s.shadow (64 * s.iss.pos + 48) (.p i) (if s.cur.f.getP i then 1 else 0)).getLsbD 0) ^^ h.neg

/-- The bundle at issue waits: nothing of it acts (R54). -/
def holdBundle (count : Bool) (f : State → State) (s : State) : State :=
  let s1 := f (s.setCur { s.cur with wpWait := none })
  let x := s1.cur
  let n := (if count then 1 else 0) + Config.stall s.tick
  let s2 := s1.setCur { x with held := true, heldCounts := count, waited := if count then x.waited + n else x.waited
                               sys := { x.sys with cycle := x.sys.cycle + n } }
  (s2.setCurTile { s2.curTile with quantum := s2.curTile.quantum - n }).setIss { s2.iss with done := true }

/-- TRAPBASE.ADDR and EPC.ADDR as an address (R113). -/
def addrField (w : Word) : Word := (w.extractLsb' 3 15).zeroExtend 64 <<< 3

/-- EPC as the trap records it: bits [17:3] of an address (R113). -/
def epcOf (a : Word) : Word := addrField a

/-- APRn of a multiply that stops at k steps (R170, R171). -/
def aprOf (o : MOp) : Word :=
  BitVec.ofNat 64 (2 ^ 63 + o.addr / 8 % 2 ^ 15 * 2 ^ 48 + o.kind % 4 * 2 ^ 40 + o.k)

/-- The record of R169. R169 states neither its EVAL nor its bundle address: the model gives the word's program address and 0 (DESIGN CHOICE, log 52). -/
def State.eccRecord (s : State) (site slot a : Nat) : State :=
  (s.detect site .ecclocal).record ((s.slotAt site slot).who slot) { kind := .ecclocal, origin := 1, eval := BitVec.ofNat 64 a }

/-- Stops the held MMAG of a slot and records its progress, and the error that its k-steps have read (R169, R171, R175). -/
def State.stopMmag (s : State) (site slot : Nat) : State :=
  let x := s.slotAt site slot
  let t := s.tileAt site
  match t.unit.find? (fun o => decide (o.slot = slot) && decide (o.kind = 2)) with
  | some o =>
    let s1 := (s.setTileAt site { t with unit := t.unit.erase o }).setSlotAt site slot
      { x with mmag := none, sys := { x.sys with apr := x.sys.apr.setIfInBounds o.acc (aprOf o) } }
    match o.ue with | some a => s1.eccRecord site slot a | none => s1
  | none => s.setSlotAt site slot { x with mmag := none }

/-- Forgets that the bundle of a slot has met an error in a line. -/
def State.clearEcc (s : State) (site slot : Nat) : State :=
  if s.struck.isEmpty then s
  else { s with struck := s.struck.filter (fun e => match e with | .eccl1 a b _ => !(decide (a = site) && decide (b = slot)) | _ => true) }

/-! ### Places and clocks -/

/-- Coordinates of a site (R15). -/
def siteX (site : Nat) : Nat := site % 96
def siteY (site : Nat) : Nat := site / 96
/-- Compute field of a site (R15). -/
def fieldOf (site : Nat) : Nat := 8 * (siteY site / 8) + siteX site / 12
/-- Compute domain of a site (R16). -/
def domainOf (site : Nat) : Nat := 2 * fieldOf site + (if siteX site % 12 < 6 then 0 else 1)
/-- Operating point of a domain (R278); OP0 after reset (R392). -/
def State.opOf (s : State) (dom : Nat) : Nat := KMap.getD s.ops dom 0
/-- Nanoseconds that n cycles of a domain take at its operating point: f(n) = 0.5 + 0.1 n GHz (R278), rounded up. -/
def State.cyclesNs (s : State) (site n : Nat) : Nat := (n * 10 + (4 + s.opOf (domainOf site))) / (5 + s.opOf (domainOf site))

/-- Domain cycles that a number of nanoseconds holds (R278). -/
def State.nsCycles (s : State) (site ns : Nat) : Nat := ns * (5 + s.opOf (domainOf site)) / 10

/-! ### The slew guard's reserve (R292, R293) -/

/-- The slots of a domain whose multiply waits for a quantum, in ascending site. -/
def State.slewWaiters (s : State) (dom : Nat) : List (Nat × Nat) :=
  s.slots.filterMap (fun (k, x) => if x.slewWait ∧ domainOf (k / 4) = dom then some (k / 4, k % 4) else none)

/-- Adds n held cycles to SLEWHOLD of a slot, and to those of its domain that the governor counts (R293). -/
def State.countHeld (s : State) (site slot n : Nat) : State :=
  let x := s.slotAt site slot
  let s1 := s.setSlotAt site slot { x with sys := { x.sys with slewhold := min (x.sys.slewhold + n) (2 ^ 48 - 1) } }
  { s1 with slewHeld := KMap.set s1.slewHeld (domainOf site) (KMap.getD s1.slewHeld (domainOf site) 0 + n) }
/-- Counts the cycles that a waiting multiply has spent while its slot was not selected for issue. -/
def State.countAway (s : State) (site slot : Nat) (still : Bool) : State :=
  match (s.slotAt site slot).slewAway with
  | some t =>
    let s1 := s.countHeld site slot (s.nsCycles site (s.time - t))
    s1.setSlotAt site slot { s1.slotAt site slot with slewAway := if still then some s.time else none }
  | none => s

/-- A domain gains a quantum, which goes first to the waiting multiply of the lowest site (R292). -/
def State.giveQuantum (s : State) (dom : Nat) : State :=
  match s.slewWaiters dom with
  | (site, slot) :: _ =>
    let s1 := s.countAway site slot false
    s1.setSlotAt site slot { s1.slotAt site slot with slewWait := false, slewGrant := true }
  | [] =>
    if KMap.getD s.quantaUsed dom 0 = 0 then s
    else { s with quantaUsed := KMap.set s.quantaUsed dom (KMap.getD s.quantaUsed dom 0 - 1) }

/-- A slot's multiply waits for a quantum no longer; one that it has been given and does not use goes back. -/
def State.leaveSlew (s : State) (site slot : Nat) : State :=
  let s0 := s.countAway site slot false
  let x := s0.slotAt site slot
  if !x.slewWait && !x.slewGrant then s0
  else
    let s1 := s0.setSlotAt site slot { x with slewWait := false, slewGrant := false }
    if x.slewGrant then s1.giveQuantum (domainOf site) else s1

/-- Nanoseconds of 64 cycles of a domain (R278, R292). -/
def State.slewPeriod (s : State) (dom : Nat) : Nat := (640 + (4 + s.opOf dom)) / (5 + s.opOf dom)
/-- Is a quantum of a domain due (R292)? The periods follow one another from module reset on (DEDUCED, log 54). -/
def State.slewDue (s : State) (dom : Nat) : Bool := decide (KMap.getD s.slewAt dom 0 + s.slewPeriod dom ≤ s.time)
/-- The last boundary of a domain's periods that TIME has reached. -/
def State.slewGrid (s : State) (dom : Nat) : Nat :=
  let a := KMap.getD s.slewAt dom 0
  a + (s.time - a) / s.slewPeriod dom * s.slewPeriod dom

/-! ### Traps -/

/-- Takes a trap at the boundary of the bundle of the slot at issue (R342): the slot's results in flight land first; then the
handler is entered, or the instance is FAULTED. `epc` is the address that EPC is to hold, `bundle` that of the bundle that faults (R349). The
wait of the bundle counts no longer (R341). -/
def enterTrap (t : TrapInfo) (epc : Word) (s : State) (bundle : Word := epc) : State :=
  let s := ((if s.cur.mmag.isSome then s.stopMmag s.iss.site s.iss.slot else s).clearEcc s.iss.site s.iss.slot).leaveSlew s.iss.site s.iss.slot
  let x := { s.cur.drain with walks := [], fenced := [], bw := none, waited := 0 }
  if x.sys.intrap || !x.sys.trapbase.getLsbD 63 then
    let s1 := (s.setCur { x with st := .faulted, held := false, fatal := FKind.cause t.kind t.origin }).detect s.iss.site t.kind
    let s2 := s1.record (x.who s.iss.slot)
      { kind := t.kind, origin := t.origin, eval := t.eval, fatal := true, addr := (epcOf bundle).toNat }
    s2.setIss { s2.iss with done := true }
  else
    let x1 := s.forgetY { x with
      pc := addrField x.sys.trapbase, held := false
      sys := { x.sys with epc := epcOf epc, cause := BitVec.ofNat 64 (FKind.cause t.kind t.origin), eval := t.eval,
                          intrap := true, cycle := x.sys.cycle + 4 } } 900
    let s1 := (s.setCur x1).detect s.iss.site t.kind
    s1.setIss { s1.iss with done := true }

/-- A fault of the bundle at issue: its trap is taken once every interlocked result of the slot has landed (R55); until then
the bundle waits. EPC is the bundle's own address. -/
def takeTrap (t : TrapInfo) (s : State) : State :=
  if s.cur.pend = [] then enterTrap t s.cur.pc s else holdBundle false id s

/-- A syllable's effect as an instruction of its own: nothing where it is guarded off (R33). -/
def asStep (h : Hdr) (eff : State → Act) (s : State) : Host.Outcome State Fault Refusal :=
  if s.guard h then
    match eff s with
    | .ok s' => .next s'
    | .trap t => .next (takeTrap t s)
  else .next s

/-- As asStep, for a syllable that can wait at issue: while it does, its bundle does not act (R54). -/
def asStepW (h : Hdr) (wait : State → Option Hold) (eff : State → Act) (s : State) : Host.Outcome State Fault Refusal :=
  if s.guard h then
    match wait s with
    | some w => .next (holdBundle w.count w.act s)
    | none => asStep h eff s
  else .next s

/-- Returns from a handler (R347): INTRAP is cleared, the pc is EPC.ADDR x 8, y and yv are undefined. -/
def leaveTrap (x : Slot) (s : State) : Slot :=
  s.forgetY { x with pc := addrField x.sys.epc, sys := { x.sys with intrap := false } } 910

/-! ### Replies and links -/

/-- The identity that an interlocked reply carries: the slot's context and incarnation (R311). -/
def State.replyAt (s : State) (due site slot : Nat) (dst : Reg) (val : VReg) (then_ : Reply) : State :=
  let x := s.slotAt site slot
  s.sendAt due 0 (.interlockedResultLand site slot x.sys.ctxid x.sys.incarn dst val then_)

/-- Asks for an interlocked result and answers it at once through the agenda: what the tile itself computes (R111). -/
def State.selfReply (s : State) (dst : Reg) (val : VReg) (then_ : Reply) : State :=
  let s1 := s.setCur (s.cur.await dst)
  s1.replyAt s.time s.iss.site s.iss.slot dst val then_

/-- The state of a link (R370). -/
def State.link (s : State) (l : Nat) : Link := KMap.getD s.links l Link.reset
/-- A link is usable in UP and DEGRADED (R370). -/
def Link.usable (l : Link) : Bool := l.st == .up || l.st == .degraded
/-- The link of a host port: ports 0 and 1 are links 0 and 1; where PCIe port p is bifurcated, its second x8 link is host port p + 2, link 74 + p
(R382, log 20). -/
def hostLink (port : Nat) : Nat := if port < 2 then port else 72 + port
/-- Does a host port work: it is there, its link is usable, and bring-up is over, before which it answers configuration requests with a retry status
(R392); or the module is in RECOVERY (R393)? -/
def State.hostOk (s : State) (port : Nat) : Bool :=
  (decide (port < 2) || (decide (port < 4) && s.mgmt.bifurcated.contains (port - 2))) && (s.link (hostLink port)).usable &&
  (s.mgmt.ready || s.mgmt.recovery)

/-- Sets wake-latch bits of a slot (R107). -/
def Slot.wake (x : Slot) (bits : BitVec 5) : Slot := { x with latch := x.latch ||| bits }

/-- Sets STATUS event bits; a bit that goes from 0 to 1 sets latch bit 2 (R107, R113). Bit 0 is MOVED, 1 OVFLSTALL, 2 DLCAP, 3 DLRISK. -/
def Slot.event (x : Slot) (bits : BitVec 4) : Slot :=
  let x1 := { x with sys := { x.sys with events := x.sys.events ||| bits } }
  if bits &&& ~~~ x.sys.events = 0 then x1 else x1.wake 4

/-! ### Candidates for issue (R247) -/

/-- Has the instance of a slot executed EXIT (R234)? -/
def Slot.exits (x : Slot) : Bool := match x.wait with | .exiting => true | .exitPub _ => true | _ => false

/-- May a slot that waits in BWAIT go on: its subscription slot is LANDED, FAILED or IDLE (R276)? -/
def Slot.bwaitOver (x : Slot) (n : Nat) : Bool :=
  let u := (x.subAt n).st
  u == .landed || u == .failed || u == .idle

/-- Does the slot wait as R107, R108 or R161 have it: in an IDLE, stopped by a BRK, or at a WAITWP whose channel runs short? -/
def Slot.waits (x : Slot) : Bool :=
  (match x.wait with | .idle _ _ _ => true | .brk => true | _ => false) ||
  (x.held && match x.wpWait with | some (n, v) => (x.chan n).st == .running && decide ((x.chan n).wp < v) | none => false)

/-- Does a slot that is a candidate leave issue to the others: it waits in BWAIT (R276), it has executed EXIT (R234), or its bundle is held on a
page that migrates (R335)? -/
def Slot.aside (x : Slot) : Bool :=
  (match x.wait with | .bwait n => !(x.bwaitOver n) | .exiting => true | .exitPub _ => true | _ => false) ||
  (x.held && x.walks.any (fun w => w.out == .waiting true))

/-- Is the slot a candidate: READY, or RUNNING and not waiting under R107, R161 or R108 (R247)? One that parks is no longer RUNNING (R232); one
that a save or a cancel stops goes on only for the trap of a TRAP that has acted (R343, R346). -/
def Slot.candidate (x : Slot) : Bool :=
  (x.st == .ready || (x.st == .running && !x.waits && (x.park.isNone || x.parkDone))) && x.cancelReq.isNone &&
  (x.stopReq.isNone || x.after.isSome)
/-- Is the slot a candidate that does not leave issue to the others? -/
def Slot.issues (x : Slot) : Bool := x.candidate && !x.aside

/-- The lowest pass among the other candidates of a tile. -/
def State.lowPass (s : State) (site slot : Nat) : Option Nat :=
  (List.range 4).foldl (fun o k =>
    let x := s.slotAt site k
    if k ≠ slot ∧ x.candidate then
      let p := KMap.getD (s.tileAt site).pass x.sys.ctxid 0
      match o with | none => some p | some q => some (min p q)
    else o) none

/-- A domain has had a candidate in this interval (R280). -/
def State.markBusy (s : State) (site : Nat) : State :=
  if s.busy.contains (domainOf site) then s else { s with busy := s.busy ++ [domainOf site] }

/-- A slot becomes a candidate after its context had none on the tile: its pass is at least the lowest of the others (R247), and its wait for a
quantum begins (R248). -/
def State.rejoin (s : State) (site slot : Nat) : State :=
  let x := s.slotAt site slot
  let t := s.tileAt site
  let own := KMap.getD t.pass x.sys.ctxid 0
  let s1 := s.setTileAt site { t with pass := KMap.set t.pass x.sys.ctxid (match s.lowPass site slot with | some p => max own p | none => own) }
  (s1.setSlotAt site slot { x with since := s.time, aged := 0 }).markBusy site
/-- Rejoins where the slot, which stood as `x` before, has become a candidate. -/
def State.rejoinFrom (s : State) (site slot : Nat) (x : Slot) : State :=
  if !x.candidate && (s.slotAt site slot).candidate then s.rejoin site slot else s

/-- A slot's instance becomes READY. -/
def State.becomeReady (s : State) (site slot : Nat) : State :=
  (s.setSlotAt site slot { s.slotAt site slot with st := .ready, readyAt := s.time }).rejoin site slot

/-! ### Instances -/

def State.inst (s : State) (uid : Nat) : Option Inst := KMap.get? s.insts uid
def State.setInst (s : State) (uid : Nat) (i : Inst) : State := { s with insts := KMap.set s.insts uid i }
/-- The instance that a slot holds. -/
def State.instOf (s : State) (site slot : Nat) : Option (Nat × Inst) :=
  (s.slotAt site slot).inst.bind (fun u => (s.inst u).map (fun i => (u, i)))

def State.group (s : State) (c g : Nat) : Group := KMap.getD s.groups (256 * c + g) Group.reset
def State.setGroup (s : State) (c g : Nat) (x : Group) : State := { s with groups := KMap.set s.groups (256 * c + g) x }

/-- Groups of memberships, each once. -/
def groupsOf (gs : List (Option Nat)) : List Nat := (gs.filterMap id).eraseDups

end Sys2Proof.Machine
end

