-- ==== Sys2Proof/Machine/Operands.lean ====
section
/-! DEFINITION. Operand forms: scalar and vector specifiers (R43, R44), type codes (R56), integers of a type (R65, R66),
immediates (R37) and effective addresses (R35). -/

namespace Sys2Proof.Machine

/-! ### Scalar and vector specifiers -/

/-- The destination that a scalar specifier names (R43). -/
def dstS (v : BitVec 8) : Reg := if v.toNat < 0x40 then .a v.toNat else .o (v.toNat - 0x40)
/-- The destination that a vector specifier names (R44). -/
def dstV (v : BitVec 8) : Reg := if v.toNat < 0x20 then .v v.toNat else .w (v.toNat - 0x20)

/-- A scalar operand (R43). `field` is the operand's place in its syllable, which tells apart reads in a shadow (R51). -/
def State.readS (s : State) (field : Nat) (spec : BitVec 8) : Word :=
  let v := spec.toNat
  let x := s.cur
  let place := 64 * s.iss.pos + field
  if v < 0x40 then
    if v = 0 then 0 else (s.shadow place (.a v) ((x.f.getA v).zeroExtend 1024)).truncate 64
  else if v < 0x48 then (s.shadow place (.o (v - 0x40)) ((x.f.getO (v - 0x40)).zeroExtend 1024)).truncate 64
  else if v < 0x4C then x.f.getY (v - 0x48)
  else if v < 0x80 then BitVec.ofNat 64 (s.iss.ch0.getD (v - 0x50) Chan.idle).wp
  else (spec.extractLsb' 0 7).signExtend 64

/-- A vector operand (R44). -/
def State.readV (s : State) (field : Nat) (spec : BitVec 8) : VReg :=
  let v := spec.toNat
  let x := s.cur
  let place := 64 * s.iss.pos + field
  if v < 0x20 then s.shadow place (.v v) (x.f.getV v)
  else if v < 0x28 then s.shadow place (.w (v - 0x20)) (x.f.getW (v - 0x20))
  else x.f.yv

/-- A predicate (R42, R45). -/
def State.readP (s : State) (field : Nat) (i : Nat) : Bool :=
  if i = 0 then true
  else ((s.shadow (64 * s.iss.pos + field) (.p i) (if s.cur.f.getP i then 1 else 0)).getLsbD 0)

/-- An S-class scalar result: with latency 1 it is what y0 or y1 shows in the next bundle (R46). A syllable whose destination is a0, which ignores
the write (R42), still counts as one that wrote a scalar destination: its result shows in y0 or y1. A scratch load to a0 leaves y2 and y3 as they
are: no value is written when it lands (DESIGN CHOICE, log 42). -/
def State.sResult (s : State) (d : BitVec 8) (val : Word) (lat : Nat := 1) : State :=
  let s1 := s.setCur (s.cur.issue (dstS d) (val.zeroExtend 1024) lat)
  if lat = 1 then
    s1.setIss (if s.iss.lane = 0 then { s1.iss with res0 := some val } else { s1.iss with res1 := some val })
  else s1

/-- A scalar result of another class. -/
def State.cResult (s : State) (d : BitVec 8) (val : Word) (lat : Nat := 1) : State :=
  s.setCur (s.cur.issue (dstS d) (val.zeroExtend 1024) lat)

/-- A predicate result (R101, R102): latency 1. -/
def State.pResult (s : State) (i : Nat) (b : Bool) : State :=
  s.setCur (s.cur.issue (.p i) (if b then 1 else 0) 1)

/-- A vector result with the flags that its lanes raised (R118). -/
def State.vResult (s : State) (d : BitVec 8) (val : VReg) (lat : Nat) (flags : Nat := 0) : State :=
  let s1 := s.setCur (s.cur.issue (dstV d) val lat flags)
  s1.setIss { s1.iss with fpflags := s1.iss.fpflags ||| flags }

/-! ### Types -/

/-- Bytes of a type code (R56); k4 counts half a byte and is not asked here. -/
def tyBytes (t : Nat) : Nat :=
  match t with
  | 0 => 1 | 1 => 2 | 2 => 4 | 3 => 8 | 4 => 1 | 5 => 2 | 6 => 4 | 7 => 8 | 8 => 2 | 9 => 2 | 10 => 4 | _ => 1
def tyBits (t : Nat) : Nat := 8 * tyBytes t
/-- Signed integer types (R65). -/
def tySigned (t : Nat) : Bool := decide (t < 4)

def tyMin (t : Nat) : Int := if tySigned t then -(2 ^ (tyBits t - 1) : Int) else 0
def tyMax (t : Nat) : Int := if tySigned t then (2 ^ (tyBits t - 1) : Int) - 1 else (2 ^ tyBits t : Int) - 1

/-- The low w bits of a number as a value of the type (R65, R91). -/
def tyWrap (t : Nat) (x : Int) : Int :=
  if tySigned t then Int.bmod x (2 ^ tyBits t) else x % (2 ^ tyBits t : Int)

/-- A source as a value of the type (R91). -/
def tyVal (t : Nat) (w : Word) : Int := tyWrap t w.toNat

/-- extend(x, T): the low w bits, sign-extended for an i type and zero-extended for an n type (R91). -/
def tyExtend (t : Nat) (x : Int) : Word := BitVec.ofInt 64 (tyWrap t x)

/-- Is a value in the range of the type? -/
def tyFits (t : Nat) (x : Int) : Bool := decide (tyMin t ≤ x) && decide (x ≤ tyMax t)

/-- An exact result brought into the range of its type (R66): none where CK makes it fault. -/
def tyBring (t : Nat) (sat ck : Bool) (x : Int) : Option Int :=
  if tyFits t x then some x
  else if sat then some (if x < tyMin t then tyMin t else tyMax t)
  else if ck then none
  else some (tyWrap t x)

/-- SAT and CK of the modifier byte (R57). -/
def mSat (m : BitVec 8) : Bool := m.getLsbD 3
def mCk (m : BitVec 8) : Bool := m.getLsbD 4
def mRnd (m : BitVec 8) : Nat := m.toNat % 8

/-- imm64 of an F-RRI syllable (R37). -/
def RriImm (f : RRI) : Word :=
  match f.x with
  | some x => x.xv ++ f.imm.extractLsb' 0 4
  | none => f.imm.signExtend 64

/-- The effective address of F-MEM (R35), with the size of one access. -/
def State.ea (s : State) (f : MemF) (size : Nat) : Word :=
  s.readS 32 f.base + (s.readS 24 f.idx <<< f.sc.toNat) + f.disp.signExtend 64 * BitVec.ofNat 64 size

/-- The effective address of an atomic (R143). -/
def State.eaAtom (s : State) (f : MemF) (size : Nat) : Word :=
  s.readS 32 f.base + (f.disp.extractLsb' 0 10).signExtend 64 * BitVec.ofNat 64 size

/-- Bytes of a word, little-endian (R7). -/
def wordBytes (n : Nat) (w : Nat) : List Byte := bytesOf n w
/-- A word from bytes. -/
def bytesWord (bs : List Byte) : Nat := wordOfBytes bs

/-- Lane i of a vector register (R116). -/
def lane (x : VReg) (i : Nat) : BitVec 32 := x.extractLsb' (32 * i) 32
/-- A vector register from its lanes. -/
def ofLanes (f : Nat → BitVec 32) : VReg :=
  (List.range 32).foldr (fun i acc => (acc <<< 32) ||| (f i).zeroExtend 1024) 0
/-- A register from dense elements of w bits, element 0 lowest (R116). -/
def ofElems (w n : Nat) (f : Nat → Nat) : VReg :=
  BitVec.ofNat 1024 ((List.range n).foldr (fun i acc => acc * 2 ^ w + f i % 2 ^ w) 0)
/-- Dense element j of width w (R116). -/
def elemOf (x : VReg) (w j : Nat) : Nat := (x.toNat >>> (w * j)) % 2 ^ w

end Sys2Proof.Machine
end

