-- ==== Sys2Proof/Machine/Fp.lean ====
section
/-! DEFINITION. Floating point (03_numbers R67 to R85): formats, exact values, rounding, arithmetic, conversions. An exact value is
a sign, a natural mantissa and a power of two; every rounding goes through one function. -/

namespace Sys2Proof.Machine

/-- A decoded value: NaN (signalling or not), infinity, or (-1)^neg x m x 2^e. -/
inductive Fp where
  | nan (signalling : Bool)
  | inf (neg : Bool)
  | fin (neg : Bool) (m : Nat) (e : Int)
  deriving DecidableEq, Repr

/-- A storage format (R67): exponent and fraction bits; e4m3 has no infinities (R68). -/
structure FFmt where
  eb : Nat
  fb : Nat
  e4m3 : Bool
  deriving DecidableEq, Repr

def fmtF32 : FFmt := ⟨8, 23, false⟩
def fmtF16 : FFmt := ⟨5, 10, false⟩
def fmtBF16 : FFmt := ⟨8, 7, false⟩
def fmtE4M3 : FFmt := ⟨4, 3, true⟩
def fmtE5M2 : FFmt := ⟨5, 2, false⟩
/-- The format of a float type code (R56). -/
def fmtOf (t : Nat) : FFmt :=
  match t with | 8 => fmtF16 | 9 => fmtBF16 | 11 => fmtE4M3 | 12 => fmtE5M2 | _ => fmtF32

def FFmt.bias (f : FFmt) : Nat := 2 ^ (f.eb - 1) - 1
def FFmt.width (f : FFmt) : Nat := 1 + f.eb + f.fb
/-- Exponent of the last place of a subnormal. -/
def FFmt.qmin (f : FFmt) : Int := 1 - (f.bias : Int) - f.fb
/-- Last place and mantissa of the largest finite value (R67, R68). -/
def FFmt.qmax (f : FFmt) : Int := (if f.e4m3 then (2 ^ f.eb : Nat) - 1 else (2 ^ f.eb : Nat) - 2 : Int) - (f.bias : Int) - f.fb
def FFmt.mmax (f : FFmt) : Nat := if f.e4m3 then 2 ^ (f.fb + 1) - 2 else 2 ^ (f.fb + 1) - 1
def FFmt.nan (f : FFmt) : Nat :=
  if f.e4m3 then 2 ^ (f.eb + f.fb) - 1 else (2 ^ f.eb - 1) * 2 ^ f.fb + 2 ^ (f.fb - 1)
def FFmt.sign (f : FFmt) (neg : Bool) : Nat := if neg then 2 ^ (f.eb + f.fb) else 0
/-- Infinity; for e4m3 the canonical NaN stands in its place (R73). -/
def FFmt.inf (f : FFmt) (neg : Bool) : Nat := if f.e4m3 then f.nan else f.sign neg + (2 ^ f.eb - 1) * 2 ^ f.fb
def FFmt.maxFin (f : FFmt) (neg : Bool) : Nat :=
  f.sign neg + (if f.e4m3 then 2 ^ (f.eb + f.fb) - 2 else (2 ^ f.eb - 1) * 2 ^ f.fb - 1)

/-- Decodes bits of a format (R67, R68). -/
def FFmt.dec (f : FFmt) (b : Nat) : Fp :=
  let neg := decide (b / 2 ^ (f.eb + f.fb) % 2 = 1)
  let e := b / 2 ^ f.fb % 2 ^ f.eb
  let m := b % 2 ^ f.fb
  if e = 2 ^ f.eb - 1 then
    if f.e4m3 then (if m = 2 ^ f.fb - 1 then .nan false else .fin neg (2 ^ f.fb + m) ((e : Int) - f.bias - f.fb))
    else if m = 0 then .inf neg else .nan (decide (m < 2 ^ (f.fb - 1)))
  else if e = 0 then .fin neg m f.qmin
  else .fin neg (2 ^ f.fb + m) ((e : Int) - f.bias - f.fb)

/-- Flags (R77): bits 8 to 13 of FPSTATUS, counted from bit 0 here. -/
def flNV : Nat := 1
def flDZ : Nat := 2
def flOF : Nat := 4
def flUF : Nat := 8
def flNX : Nat := 16
def flST : Nat := 32

/-- A result: bits of the format, and the flags it raises. -/
structure FRes where
  bits : Nat
  flags : Nat
  deriving DecidableEq, Repr

/-- A rounding mode (R57): 0 RNE, 1 RTZ, 2 RUP, 3 RDN, 4 RNA, 5 SR with the 16-bit word drawn for the element. -/
structure Rnd where
  mode : Nat
  word : Nat
  deriving DecidableEq, Repr

/-- Trailing zeros of x, at most n. -/
def trailing : Nat → Nat → Nat
  | 0, _ => 0
  | n + 1, x => if x % 2 = 1 then 0 else 1 + trailing n (x / 2)

/-- Bits of a natural number. -/
def natLen (x : Nat) : Nat := if x = 0 then 0 else Nat.log2 x + 1

/-- Does the magnitude t + rem / 2^sh (and more, where sticky) go up to t + 1 (R73, R74)? -/
def roundsUp (r : Rnd) (neg : Bool) (t rem sh : Nat) (sticky : Bool) : Bool :=
  match r.mode with
  | 0 => decide (2 ^ sh < 2 * rem) || (decide (2 * rem = 2 ^ sh) && (sticky || decide (t % 2 = 1)))
  | 1 => false
  | 2 => !neg && (decide (rem ≠ 0) || sticky)
  | 3 => neg && (decide (rem ≠ 0) || sticky)
  | 4 => decide (2 ^ sh ≤ 2 * rem)
  | _ =>
    if rem = 0 ∧ !sticky then false
    else
      let d := if sticky then 16 else sh - trailing sh rem
      let width := if d < 16 then d else 16
      decide (2 ^ width ≤ rem * 2 ^ width / 2 ^ sh + r.word / 2 ^ (16 - width))

/-- The magnitude m x 2^e (and a little more, where sticky) rounded to a multiple of 2^q: the multiple, and whether it is inexact. -/
def roundAt (r : Rnd) (neg : Bool) (m : Nat) (e q : Int) (sticky : Bool) : Nat × Bool :=
  if q ≤ e then
    let t := m * 2 ^ (e - q).toNat
    (if roundsUp r neg t 0 0 sticky then t + 1 else t, sticky)
  else
    let sh := (q - e).toNat
    let t := m / 2 ^ sh
    let rem := m % 2 ^ sh
    (if roundsUp r neg t rem sh sticky then t + 1 else t, sticky || decide (rem ≠ 0))

/-- Rounds an exact nonzero-or-zero magnitude to a format (R73, R74, R79). UF is judged on the value that is delivered: raised where the result is
inexact and its rounded magnitude lies below the smallest normal, 0 included; R79 does not say whether that, or the value rounded with an unbounded
exponent, is meant (DESIGN CHOICE, log 43). -/
def roundTo (f : FFmt) (r : Rnd) (sat : Bool) (neg : Bool) (m : Nat) (e : Int) (sticky : Bool) : FRes :=
  if m = 0 ∧ !sticky then ⟨f.sign neg, 0⟩
  else
    let q := max (e + natLen m - 1 - f.fb) f.qmin
    let (t, inexact) := roundAt r neg m e q sticky
    if f.qmax < q ∨ (q = f.qmax ∧ f.mmax < t) then
      if sat then ⟨f.maxFin neg, flST + flNX⟩
      else
        let toMax := match r.mode with | 1 => true | 2 => neg | 3 => !neg | _ => false
        ⟨if toMax then f.maxFin neg else f.inf neg, flOF + flNX⟩
    else
      let fl := (if inexact then flNX else 0) + (if inexact ∧ t < 2 ^ f.fb ∧ q = f.qmin then flUF else 0)
      if t < 2 ^ f.fb then ⟨f.sign neg + t, fl⟩
      else if t = 2 ^ (f.fb + 1) then ⟨f.sign neg + (q + 1 + f.fb + f.bias).toNat * 2 ^ f.fb, fl⟩
      else ⟨f.sign neg + (q + f.fb + f.bias).toNat * 2 ^ f.fb + (t - 2 ^ f.fb), fl⟩

/-- A NaN result (R71). -/
def FFmt.nanRes (f : FFmt) (fl : Nat) : FRes := ⟨f.nan, fl⟩
def Fp.isSNaN : Fp → Bool | .nan s => s | _ => false
def Fp.isNaN : Fp → Bool | .nan _ => true | _ => false
def Fp.negate : Fp → Fp
  | .nan s => .nan s | .inf n => .inf (!n) | .fin n m e => .fin (!n) m e

/-- The exact sum of two finite values, as sign, mantissa, exponent; an exact zero has the sign of R72. -/
def addExact (mode : Nat) (n1 : Bool) (m1 : Nat) (e1 : Int) (n2 : Bool) (m2 : Nat) (e2 : Int) : Bool × Nat × Int :=
  let e := min e1 e2
  let a : Int := (if n1 then -1 else 1) * (m1 * 2 ^ (e1 - e).toNat : Nat)
  let b : Int := (if n2 then -1 else 1) * (m2 * 2 ^ (e2 - e).toNat : Nat)
  let x := a + b
  if x = 0 then (if n1 = n2 then n1 else decide (mode = 3), 0, e) else (decide (x < 0), x.natAbs, e)

/-- Is a value zero? -/
def Fp.isZero : Fp → Bool | .fin _ m _ => decide (m = 0) | _ => false

/-- a + b (R121, R71, R72). -/
def fpAdd (f : FFmt) (r : Rnd) (sat : Bool) (a b : Fp) : FRes :=
  match a, b with
  | .nan s, y => f.nanRes (if s || y.isSNaN then flNV else 0)
  | _, .nan s => f.nanRes (if s then flNV else 0)
  | .inf n, .inf k => if n = k then ⟨f.inf n, 0⟩ else f.nanRes flNV
  | .inf n, _ => ⟨f.inf n, 0⟩
  | _, .inf n => ⟨f.inf n, 0⟩
  | .fin n1 m1 e1, .fin n2 m2 e2 =>
    let (n, m, e) := addExact r.mode n1 m1 e1 n2 m2 e2
    roundTo f r sat n m e false

/-- a x b (R121). -/
def fpMul (f : FFmt) (r : Rnd) (sat : Bool) (a b : Fp) : FRes :=
  match a, b with
  | .nan s, y => f.nanRes (if s || y.isSNaN then flNV else 0)
  | _, .nan s => f.nanRes (if s then flNV else 0)
  | .inf n, .inf k => ⟨f.inf (n != k), 0⟩
  | .inf n, .fin k m _ => if m = 0 then f.nanRes flNV else ⟨f.inf (n != k), 0⟩
  | .fin k m _, .inf n => if m = 0 then f.nanRes flNV else ⟨f.inf (n != k), 0⟩
  | .fin n1 m1 e1, .fin n2 m2 e2 => roundTo f r sat (n1 != n2) (m1 * m2) (e1 + e2) false

/-- a x b + c, rounded once; infinity x 0 is invalid even where c is a quiet NaN (R121). -/
def fpFma (f : FFmt) (r : Rnd) (sat : Bool) (a b c : Fp) : FRes :=
  let sn := a.isSNaN || b.isSNaN || c.isSNaN
  match a, b with
  | .nan _, _ => f.nanRes (if sn then flNV else 0)
  | _, .nan _ => f.nanRes (if sn then flNV else 0)
  | .inf n, y =>
    if y.isZero then f.nanRes flNV
    else
      let k := match y with | .inf k => n != k | .fin k _ _ => n != k | .nan _ => n
      match c with
      | .nan s => f.nanRes (if s then flNV else 0)
      | .inf j => if j = k then ⟨f.inf k, 0⟩ else f.nanRes flNV
      | .fin _ _ _ => ⟨f.inf k, 0⟩
  | .fin k m _, .inf n =>
    if m = 0 then f.nanRes flNV
    else match c with
      | .nan s => f.nanRes (if s then flNV else 0)
      | .inf j => if j = (k != n) then ⟨f.inf (k != n), 0⟩ else f.nanRes flNV
      | .fin _ _ _ => ⟨f.inf (k != n), 0⟩
  | .fin n1 m1 e1, .fin n2 m2 e2 =>
    match c with
    | .nan s => f.nanRes (if s then flNV else 0)
    | .inf j => ⟨f.inf j, 0⟩
    | .fin n3 m3 e3 =>
      let (n, m, e) := addExact r.mode (n1 != n2) (m1 * m2) (e1 + e2) n3 m3 e3
      roundTo f r sat n m e false

/-- a / b, correctly rounded (R85, R121). -/
def fpDiv (f : FFmt) (r : Rnd) (sat : Bool) (a b : Fp) : FRes :=
  match a, b with
  | .nan s, y => f.nanRes (if s || y.isSNaN then flNV else 0)
  | _, .nan s => f.nanRes (if s then flNV else 0)
  | .inf _, .inf _ => f.nanRes flNV
  | .inf n, .fin k _ _ => ⟨f.inf (n != k), 0⟩
  | .fin n _ _, .inf k => ⟨f.sign (n != k), 0⟩
  | .fin n1 m1 e1, .fin n2 m2 e2 =>
    if m2 = 0 then (if m1 = 0 then f.nanRes flNV else ⟨f.inf (n1 != n2), flDZ⟩)
    else
      let k := 70 + natLen m2 - natLen m1
      let num := m1 * 2 ^ k
      roundTo f r sat (n1 != n2) (num / m2) (e1 - e2 - k) (decide (num % m2 ≠ 0))

/-- Integer square root by bits, from bit n - 1 down. -/
def isqrtGo : Nat → Nat → Nat → Nat
  | 0, _, r => r
  | n + 1, x, r => if (r + 2 ^ n) * (r + 2 ^ n) ≤ x then isqrtGo n x (r + 2 ^ n) else isqrtGo n x r
def isqrt (x : Nat) : Nat := isqrtGo (natLen x / 2 + 1) x 0

/-- The square root, correctly rounded (R85, R121). -/
def fpSqrt (f : FFmt) (r : Rnd) (a : Fp) : FRes :=
  match a with
  | .nan s => f.nanRes (if s then flNV else 0)
  | .inf n => if n then f.nanRes flNV else ⟨f.inf false, 0⟩
  | .fin n m e =>
    if m = 0 then ⟨f.sign n, 0⟩
    else if n then f.nanRes flNV
    else
      let k := 140 + (e % 2).toNat
      let x := m * 2 ^ k
      let q := isqrt x
      roundTo f r false false q ((e - k) / 2) (decide (q * q ≠ x))

/-- a x 2^n (R121); beyond +-1,000 the power changes no result of f32. -/
def fpScale (f : FFmt) (r : Rnd) (sat : Bool) (a : Fp) (n : Int) : FRes :=
  match a with
  | .nan s => f.nanRes (if s then flNV else 0)
  | .inf k => ⟨f.inf k, 0⟩
  | .fin k m e => roundTo f r sat k m (e + max (-1000) (min 1000 n)) false

/-- a rounded to an integer under the mode; the last place is 2^0 (R121). -/
def fpRint (f : FFmt) (r : Rnd) (a : Fp) : FRes :=
  match a with
  | .nan s => f.nanRes (if s then flNV else 0)
  | .inf k => ⟨f.inf k, 0⟩
  | .fin k m e =>
    let (t, inexact) := if 0 ≤ e then (m * 2 ^ e.toNat, false) else roundAt r k m e 0 false
    let x := roundTo f ⟨0, 0⟩ false k t 0 false
    ⟨x.bits, if inexact then flNX else 0⟩

/-- Order of f32 bit patterns that are no NaN, -0 below +0 (R122). -/
def fKey (b : BitVec 32) : Int :=
  let mag : Int := (b.toNat % 2 ^ 31 : Nat)
  if b.getLsbD 31 then -mag - 1 else mag
/-- Order of values, -0 equal to +0 (R123). -/
def fVal (b : BitVec 32) : Int :=
  let mag : Int := (b.toNat % 2 ^ 31 : Nat)
  if b.getLsbD 31 then -mag else mag

def decF32 (b : BitVec 32) : Fp := fmtF32.dec b.toNat
def isNaN32 (b : BitVec 32) : Bool := decide (0x7F800000 < b.toNat % 2 ^ 31)
def isSNaN32 (b : BitVec 32) : Bool := isNaN32 b && !b.getLsbD 22

/-- VMAX and VMIN on one lane (R122). -/
def fMaxMin (wantMax : Bool) (a b : BitVec 32) : BitVec 32 × Nat :=
  if isNaN32 a || isNaN32 b then (0x7FC00000, if isSNaN32 a || isSNaN32 b then flNV else 0)
  else if wantMax then (if fKey a < fKey b then b else a, 0) else (if fKey b < fKey a then b else a, 0)

/-! ### Conversions (R81 to R83) -/

/-- What a conversion gives: the result's low bits, its flags, and the fault where it traps. -/
structure CvtRes where
  bits : Nat
  flags : Nat
  bad : Option FKind
  deriving DecidableEq, Repr

/-- Does the destination hold every value of the source (R81)? -/
def widens (src dst : Nat) : Bool :=
  decide (src = dst) || match src with
  | 8 => decide (dst = 10) | 9 => decide (dst = 10)
  | 11 => decide (dst = 8 ∨ dst = 9 ∨ dst = 10) | 12 => decide (dst = 8 ∨ dst = 9 ∨ dst = 10)
  | _ => false

/-- Float to float (R81). -/
def cvtFF (src dst : Nat) (r : Rnd) (sat ck : Bool) (b : Nat) : CvtRes :=
  let g := fmtOf dst
  match (fmtOf src).dec b with
  | .nan s => ⟨g.nan, if s then flNV else 0, none⟩
  | .inf n =>
    if widens src dst then ⟨g.inf n, 0, none⟩
    else if ck then ⟨0, 0, some .badconv⟩
    else if sat then ⟨g.maxFin n, flST + flNX, none⟩
    else ⟨g.inf n, if g.e4m3 then flNV else 0, none⟩
  | .fin n m e =>
    let x := roundTo g r sat n m e false
    if ck && decide (x.flags / flOF % 2 = 1) then ⟨0, 0, some .badconv⟩ else ⟨x.bits, x.flags, none⟩

/-- Float to integer (R82). -/
def cvtFI (src dst : Nat) (r : Rnd) (sat ck : Bool) (b : Nat) : CvtRes :=
  let out (x : Int) : Nat := (x % (2 ^ 64 : Int)).toNat
  let ends (neg : Bool) : CvtRes :=
    if ck then ⟨0, 0, some .badconv⟩
    else ⟨out (if neg then tyMin dst else tyMax dst), if sat then flST + flNX else flNV, none⟩
  match (fmtOf src).dec b with
  | .nan _ => if ck then ⟨0, 0, some .badconv⟩ else ⟨0, flNV, none⟩
  | .inf n => ends n
  | .fin n m e =>
    let (t, inexact) := if 0 ≤ e then (m * 2 ^ e.toNat, false) else roundAt r n m e 0 false
    let x : Int := if n then -(t : Int) else t
    if tyFits dst x then ⟨out x, if inexact then flNX else 0, none⟩ else ends n

/-- Integer to float (R83). -/
def cvtIF (src dst : Nat) (r : Rnd) (sat ck : Bool) (b : Nat) : CvtRes :=
  let x := tyWrap src b
  let y := roundTo (fmtOf dst) r sat (decide (x < 0)) x.natAbs 0 false
  if ck && decide (y.flags / flOF % 2 = 1) then ⟨0, 0, some .badconv⟩ else ⟨y.bits, y.flags, none⟩

/-- Integer to integer (R83, R66). A destination that is no narrower than the source and cannot hold the value (a negative number in an n type) is
treated under R66 as a narrowing one is (DESIGN CHOICE, log 43). -/
def cvtII (src dst : Nat) (sat ck : Bool) (b : Nat) : CvtRes :=
  let x := tyWrap src b
  match tyBring dst sat ck x with
  | some y => ⟨(y % (2 ^ 64 : Int)).toNat, if !(tyFits dst x) && sat then flST + flNX else 0, none⟩
  | none => ⟨0, 0, some .iovf⟩

/-- A conversion between types other than k4 (R81 to R83). The source is its low bits. -/
def convert (src dst : Nat) (r : Rnd) (sat ck : Bool) (b : Nat) : CvtRes :=
  let x := b % 2 ^ tyBits src
  if 8 ≤ src then (if 8 ≤ dst then cvtFF src dst r sat ck x else cvtFI src dst r sat ck x)
  else (if 8 ≤ dst then cvtIF src dst r sat ck x else cvtII src dst sat ck x)

/-! ### Random words (R75) -/

/-- One draw: the next state, and the 16-bit word. -/
def drawRandom (s : Word) : Word × Nat :=
  let s := s ^^^ (s >>> 12)
  let s := s ^^^ (s <<< 25)
  let s := s ^^^ (s >>> 27)
  (s, ((s * 0x2545F4914F6CDD1D).extractLsb' 48 16).toNat)

/-- n draws in order: the words and the state after them. -/
def draws : Nat → Word → List Nat × Word
  | 0, s => ([], s)
  | n + 1, s => let (s1, w) := drawRandom s; let (ws, s2) := draws n s1; (w :: ws, s2)

/-! ### Special functions (R85) -/

/-- A power of two. -/
def pw (n : Nat) : Nat := 2 ^ n

/-- A value of a special function: the free fixed value of the input where it meets the bound, else a value that does. -/
def choose32 (free : BitVec 32) (ok : BitVec 32 → Bool) (fallback : Nat) : Nat := if ok free then free.toNat else fallback

/-- NX, and UF where the result is subnormal or zero (R79, R85). -/
def nxFlags (bits : Nat) : Nat := flNX + (if bits % 2 ^ 31 < 2 ^ 23 then flUF else 0)

/-- A finite value as a rational times 2^400: exact for every f32. -/
def scaled (neg : Bool) (m : Nat) (e : Int) : Int := (if neg then -1 else 1) * (m * 2 ^ (e + 400).toNat : Nat)

/-- VRCPA (R85). -/
def fpRcpa (a : BitVec 32) : FRes :=
  match decF32 a with
  | .nan s => fmtF32.nanRes (if s then flNV else 0)
  | .inf n => ⟨fmtF32.sign n, 0⟩
  | .fin n m e =>
    if m = 0 then ⟨fmtF32.inf n, flDZ⟩
    else
      let exact := fpDiv fmtF32 ⟨0, 0⟩ false (.fin false 1 0) (.fin n m e)
      -- 1 > maxfin x |a|, on the grid of 2^-149: the reciprocal exceeds the largest finite value
      if ((2 ^ 24 - 1) * pw 104) * m * 2 ^ (e + 149).toNat < pw 149 then ⟨fmtF32.inf n, flOF + flNX⟩
      else if exact.flags = 0 ∧ 2 ^ 23 ≤ exact.bits % 2 ^ 31 then exact
      else
        let ok (r : BitVec 32) : Bool :=
          match decF32 r with
          | .fin k mr er =>
            -- |r a - 1| <= 3 / 2^15, or at most 2^-149 |a| where the exact result is subnormal; the numbers times 2^800
            let p := scaled k mr er * scaled n m e
            let d := (p - (pw 800 : Nat)).natAbs
            (decide (k = n) || decide (mr = 0)) &&
              (decide (d * 2 ^ 15 ≤ 3 * pw 800) ||
                (decide (exact.bits % 2 ^ 31 < 2 ^ 23) && decide (d ≤ (scaled n m e).natAbs * pw 251)))
          | _ => false
        let b := choose32 (Config.vrcpa a) ok exact.bits
        ⟨b, nxFlags b⟩

/-- VRSQA (R85). -/
def fpRsqa (a : BitVec 32) : FRes :=
  match decF32 a with
  | .nan s => fmtF32.nanRes (if s then flNV else 0)
  | .inf n => if n then fmtF32.nanRes flNV else ⟨0, 0⟩
  | .fin n m e =>
    if m = 0 then ⟨fmtF32.inf n, flDZ⟩
    else if n then fmtF32.nanRes flNV
    else
      let root := fpSqrt fmtF32 ⟨0, 0⟩ (.fin false m e)
      let exact := fpDiv fmtF32 ⟨0, 0⟩ false (.fin false 1 0) (fmtF32.dec root.bits)
      if root.flags = 0 ∧ exact.flags = 0 ∧ root.bits % 2 ^ 23 = 0 then exact
      else
        let ok (r : BitVec 32) : Bool :=
          match decF32 r with
          | .fin k mr er =>
            -- (1 - B)^2 <= r^2 a <= (1 + B)^2 with B = 3 / 2^15; the numbers times 2^1200
            let p := scaled false mr er * scaled false mr er * scaled false m e
            !k && decide (((2 ^ 15 - 3) ^ 2 : Int) * (pw 1200 : Nat) ≤ p * 2 ^ 30) && decide (p * 2 ^ 30 ≤ ((2 ^ 15 + 3) ^ 2 : Int) * (pw 1200 : Nat))
          | _ => false
        let b := choose32 (Config.vrsqa a) ok exact.bits
        ⟨b, flNX⟩

/-- 2^f for a fraction f given by its bits, most significant first, in units of 2^-160; `root` is 2^(2^-i). -/
def exp2Bits : List Bool → Nat → Nat → Nat
  | [], _, acc => acc
  | b :: bs, root, acc =>
    exp2Bits bs (isqrt (root * pw 160)) (if b then acc * root / pw 160 else acc)

/-- The first n binary digits of x / 2^w, x below 2^w. -/
def fracBits : Nat → Nat → Nat → List Bool
  | 0, _, _ => []
  | n + 1, x, w => decide (2 ^ w ≤ 2 * x) :: fracBits n (2 * x % 2 ^ w) w

/-- Is |r - x| at most 2 ulp, for every x between lo and hi (in units of 2^-p), ulp being the spacing of f32 at x? -/
def within2ulp (r : BitVec 32) (neg : Bool) (lo hi : Nat) (p : Int) : Bool :=
  match decF32 r with
  | .fin k m e =>
    let ulp := max (natLen lo - p - 1 - 23) (-149 : Int)
    -- everything in units of 2^-(p + 300)
    let u := 2 * 2 ^ (ulp + p + 300).toNat
    let v : Int := (if k = neg then 1 else -1) * (m * 2 ^ (e + p + 300).toNat : Nat)
    decide ((v - (lo * pw 300 : Nat)).natAbs ≤ u) && decide ((v - (hi * pw 300 : Nat)).natAbs ≤ u)
  | _ => false

/-- VEXP2 (R85). -/
def fpExp2 (a : BitVec 32) : FRes :=
  match decF32 a with
  | .nan s => fmtF32.nanRes (if s then flNV else 0)
  | .inf n => if n then ⟨0, 0⟩ else ⟨fmtF32.inf false, 0⟩
  | .fin n m e =>
    -- a = x / 2^149
    let x : Int := (if n then -1 else 1) * (m * 2 ^ (e + 149).toNat : Nat)
    if 128 * (pw 149 : Nat) ≤ x then ⟨fmtF32.inf false, flOF + flNX⟩
    else if x < -149 * (pw 149 : Nat) then ⟨0, flUF + flNX⟩
    else
      let i := Int.fdiv x (pw 149 : Nat)
      let fr := (Int.fmod x (pw 149 : Nat)).toNat
      if fr = 0 then roundTo fmtF32 ⟨0, 0⟩ false false 1 i false
      else
        -- 2^fr lies in (lo, hi), in units of 2^-160
        let lo := exp2Bits (fracBits 100 fr 149) (isqrt (2 * pw 320)) (pw 160)
        let hi := lo + 2 ^ 70
        let b := choose32 (Config.vexp2 a) (fun r => within2ulp r false lo hi (160 - i)) (roundTo fmtF32 ⟨0, 0⟩ false false lo (i - 160) true).bits
        ⟨b, nxFlags b⟩

/-- Fraction digits of log2 y for y in [1, 2), in units of 2^-300: n bits, most significant first, as a number. -/
def log2Bits : Nat → Nat → Nat → Nat
  | 0, _, acc => acc
  | n + 1, y, acc =>
    let z := y * y / pw 300
    if pw 301 ≤ z then log2Bits n (z / 2) (2 * acc + 1) else log2Bits n z (2 * acc)

/-- VLOG2 (R85). -/
def fpLog2 (a : BitVec 32) : FRes :=
  match decF32 a with
  | .nan s => fmtF32.nanRes (if s then flNV else 0)
  | .inf n => if n then fmtF32.nanRes flNV else ⟨fmtF32.inf false, 0⟩
  | .fin n m e =>
    if m = 0 then ⟨fmtF32.inf true, flDZ⟩
    else if n then fmtF32.nanRes flNV
    else
      let l := natLen m - 1
      let i : Int := e + l
      if m = 2 ^ l then roundTo fmtF32 ⟨0, 0⟩ false (decide (i < 0)) i.natAbs 0 false
      else
        -- log2 lies strictly between v and v + 1, in units of 2^-120
        let v : Int := i * (pw 120 : Nat) + log2Bits 120 (m * 2 ^ (300 - l)) 0
        let neg := decide (v < 0)
        let lo := if neg then (v + 1).natAbs else v.natAbs
        let hi := lo + 1
        let b := choose32 (Config.vlog2 a) (fun r => within2ulp r neg lo hi 120) (roundTo fmtF32 ⟨0, 0⟩ false neg lo (-120) true).bits
        ⟨b, flNX⟩

end Sys2Proof.Machine
end

