-- ==== Sys2Proof/Machine/Scalar.lean ====
section
/-! DEFINITION. The S class (04_scalar_control R91 to R102): arithmetic, logic, shifts, bit fields, compares, predicates. -/

namespace Sys2Proof.Machine

/-- Type code of an F-RRR syllable (R56). -/
def rrrT (f : RRR) : Nat := f.t.toNat % 16

/-- Sources of R91 as values of the type. -/
def State.srcA (s : State) (f : RRR) : Int := tyVal (rrrT f) (s.readS 32 f.a)
def State.srcB (s : State) (f : RRR) : Int := tyVal (rrrT f) (s.readS 24 f.b)

/-- Writes an exact result brought into range under R66, or faults IOVF with the exact result cut to 64 bits (R92). -/
def sArithAct (s : State) (f : RRR) (x : Int) (lat : Nat) : Act :=
  match tyBring (rrrT f) (mSat f.m) (mCk f.m) x with
  | some y => .ok (s.sResult f.d (tyExtend (rrrT f) y) lat)
  | none => .trap ⟨.iovf, 0, BitVec.ofInt 64 x⟩

/-- ADD: extend(a + b, T) (R93). -/
def effAdd (f : RRR) (s : State) : Act := sArithAct s f (s.srcA f + s.srcB f) 1
/-- SUB: extend(a - b, T) (R93). -/
def effSub (f : RRR) (s : State) : Act := sArithAct s f (s.srcA f - s.srcB f) 1
/-- MUL: extend(a x b, T) (R93), latency 3 (R50). -/
def effMul (f : RRR) (s : State) : Act := sArithAct s f (s.srcA f * s.srcB f) 3
/-- MULH: floor(a x b / 2^w), signed (R93), latency 3. -/
def effMulh (f : RRR) (s : State) : Act :=
  .ok (s.sResult f.d (tyExtend (rrrT f) (Int.fdiv (s.srcA f * s.srcB f) (2 ^ tyBits (rrrT f) : Nat))) 3)
/-- MULHN: floor(a x b / 2^w), natural (R93), latency 3. -/
def effMulhn (f : RRR) (s : State) : Act :=
  .ok (s.sResult f.d (tyExtend (rrrT f) (Int.fdiv (s.srcA f * s.srcB f) (2 ^ tyBits (rrrT f) : Nat))) 3)

/-- Division of R94: a zero divisor faults DIVZERO with read(A); the quotient is truncated toward zero and the remainder
takes the sign of a. Latency 24. -/
def divAct (s : State) (f : RRR) (quot : Bool) : Act :=
  if s.srcB f = 0 then .trap ⟨.divzero, 0, s.readS 32 f.a⟩
  else
    let q := Int.tdiv (s.srcA f) (s.srcB f)
    sArithAct s f (if quot then q else s.srcA f - s.srcB f * q) 24

/-- DIV (R94). -/
def effDiv (f : RRR) (s : State) : Act := divAct s f true
/-- DIVN (R94). -/
def effDivn (f : RRR) (s : State) : Act := divAct s f true
/-- REM (R94). -/
def effRemS (f : RRR) (s : State) : Act := divAct s f false
/-- REMN (R94). -/
def effRemn (f : RRR) (s : State) : Act := divAct s f false

/-- AND, OR, XOR, ANDN: 64-bit bitwise (R93). -/
def effAndS (f : RRR) (s : State) : Act := .ok (s.sResult f.d (s.readS 32 f.a &&& s.readS 24 f.b))
def effOrS (f : RRR) (s : State) : Act := .ok (s.sResult f.d (s.readS 32 f.a ||| s.readS 24 f.b))
def effXorS (f : RRR) (s : State) : Act := .ok (s.sResult f.d (s.readS 32 f.a ^^^ s.readS 24 f.b))
def effAndn (f : RRR) (s : State) : Act := .ok (s.sResult f.d (s.readS 32 f.a &&& ~~~ (s.readS 24 f.b)))

/-- A shift by all 64 bits of read(B) (R95): SHIFTAMT where CK is set and the amount reaches the width. -/
def shiftAct (s : State) (f : RRR) (r : Nat → Int) : Act :=
  let n := (s.readS 24 f.b).toNat
  if tyBits (rrrT f) ≤ n ∧ mCk f.m then .trap ⟨.shiftamt, 0, s.readS 24 f.b⟩
  else .ok (s.sResult f.d (tyExtend (rrrT f) (r n)))

/-- The low w bits of read(A) as a natural number. -/
def State.lowA (s : State) (f : RRR) : Nat := (s.readS 32 f.a).toNat % 2 ^ tyBits (rrrT f)

/-- SHL (R95). -/
def effShl (f : RRR) (s : State) : Act :=
  shiftAct s f (fun n => if tyBits (rrrT f) ≤ n then 0 else ((s.lowA f * 2 ^ n : Nat) : Int))
/-- SHR (R95). -/
def effShr (f : RRR) (s : State) : Act :=
  shiftAct s f (fun n => if tyBits (rrrT f) ≤ n then 0 else ((s.lowA f / 2 ^ n : Nat) : Int))
/-- SAR: floor(a / 2^n) of the low w bits as signed; 0 or -1 from the width on (R95). -/
def effSar (f : RRR) (s : State) : Act :=
  shiftAct s f (fun n =>
    let a := Int.bmod (s.lowA f) (2 ^ tyBits (rrrT f))
    if tyBits (rrrT f) ≤ n then (if 0 ≤ a then 0 else -1) else Int.fdiv a (2 ^ n : Nat))
/-- ROTR: rotated right by the amount mod w (R95). -/
def effRotr (f : RRR) (s : State) : Act :=
  shiftAct s f (fun n =>
    let w := tyBits (rrrT f)
    let k := n % w
    ((s.lowA f / 2 ^ k + s.lowA f % 2 ^ k * 2 ^ (w - k) : Nat) : Int))

/-- MIN, MAX, MINN, MAXN (R93). -/
def minAct (s : State) (f : RRR) : Act :=
  .ok (s.sResult f.d (tyExtend (rrrT f) (if s.srcA f ≤ s.srcB f then s.srcA f else s.srcB f)))
def maxAct (s : State) (f : RRR) : Act :=
  .ok (s.sResult f.d (tyExtend (rrrT f) (if s.srcA f ≤ s.srcB f then s.srcB f else s.srcA f)))
def effMin (f : RRR) (s : State) : Act := minAct s f
def effMax (f : RRR) (s : State) : Act := maxAct s f
def effMinn (f : RRR) (s : State) : Act := minAct s f
def effMaxn (f : RRR) (s : State) : Act := maxAct s f

/-- Ones among the low n bits. -/
def popCount : Nat → Nat → Nat
  | 0, _ => 0
  | n + 1, x => x % 2 + popCount n (x / 2)
/-- Bits needed to write x, looking at n bits. -/
def bitLen : Nat → Nat → Nat
  | 0, _ => 0
  | n + 1, x => if x = 0 then 0 else 1 + bitLen n (x / 2)

/-- CLZ: leading zeros of the low w bits (R93). -/
def effClz (f : RRR) (s : State) : Act :=
  .ok (s.sResult f.d (BitVec.ofNat 64 (tyBits (rrrT f) - bitLen 64 (s.lowA f))))
/-- POPC (R93). -/
def effPopc (f : RRR) (s : State) : Act := .ok (s.sResult f.d (BitVec.ofNat 64 (popCount 64 (s.lowA f))))

/-- The field descriptor of R96: position and length; SHIFTAMT where the field leaves the word. -/
def fieldAct (s : State) (f : RRR) (r : Nat → Nat → Word) : Act :=
  let c := (s.readS 16 f.c).toNat
  let pos := c % 64
  let len := c / 256 % 64 + 1
  if 64 < pos + len then .trap ⟨.shiftamt, 0, s.readS 16 f.c⟩ else .ok (s.sResult f.d (r pos len))

/-- BFX: zext64(a[pos+len-1:pos]) (R96). -/
def effBfx (f : RRR) (s : State) : Act :=
  fieldAct s f (fun pos len => BitVec.ofNat 64 ((s.readS 32 f.a).toNat / 2 ^ pos % 2 ^ len))
/-- BFXS: sext64(a[pos+len-1:pos]) (R96). -/
def effBfxs (f : RRR) (s : State) : Act :=
  fieldAct s f (fun pos len => BitVec.ofInt 64 (Int.bmod ((s.readS 32 f.a).toNat / 2 ^ pos : Nat) (2 ^ len)))
/-- BFI: a with bits [pos+len-1:pos] replaced by b[len-1:0] (R96). -/
def effBfi (f : RRR) (s : State) : Act :=
  fieldAct s f (fun pos len =>
    let mask : Word := BitVec.ofNat 64 ((2 ^ len - 1) * 2 ^ pos)
    (s.readS 32 f.a &&& ~~~ mask) ||| ((s.readS 24 f.b <<< pos) &&& mask))

/-- SEL: read(A) where pN is 1 at the start of the bundle, else read(B) (R97). -/
def effSel (f : RRR) (s : State) : Act :=
  .ok (s.sResult f.d (if s.readP 16 f.c.toNat then s.readS 32 f.a else s.readS 24 f.b))
/-- MOV (R93). -/
def effMov (f : RRR) (s : State) : Act := .ok (s.sResult f.d (s.readS 32 f.a))
/-- LI: imm64 of R37 (R93). -/
def effLi (f : RRI) (s : State) : Act := .ok (s.sResult f.d (RriImm f))
/-- LEA: wrap64(a + b x bytes(T) + c) (R98). -/
def effLea (f : RRR) (s : State) : Act :=
  .ok (s.sResult f.d (s.readS 32 f.a + s.readS 24 f.b * BitVec.ofNat 64 (tyBytes (rrrT f)) + s.readS 16 f.c))
/-- SXT: the low w bits, sign-extended; only the width of T counts (R93). -/
def effSxt (f : RRR) (s : State) : Act :=
  .ok (s.sResult f.d (BitVec.ofInt 64 (Int.bmod (s.lowA f) (2 ^ tyBits (rrrT f)))))
/-- ZXT (R93). -/
def effZxt (f : RRR) (s : State) : Act := .ok (s.sResult f.d (BitVec.ofNat 64 (s.lowA f)))
/-- BSWAP: the bytes of the low w bits in reverse order, zero-extended (R93). -/
def effBswap (f : RRR) (s : State) : Act :=
  .ok (s.sResult f.d (BitVec.ofNat 64 (bytesWord (wordBytes (tyBytes (rrrT f)) (s.lowA f)).reverse)))

/-- One bit of the CRC-32C of R100. -/
def crcBit (c : BitVec 32) : BitVec 32 := if c.getLsbD 0 then (c >>> 1) ^^^ 0x82F63B78 else c >>> 1
/-- n bits. -/
def crcBits : Nat → BitVec 32 → BitVec 32
  | 0, c => c
  | n + 1, c => crcBits n (crcBit c)
/-- crcs(c, data, nbytes) of R100, on a list of bytes. -/
def crcs (c : BitVec 32) : List Byte → BitVec 32
  | [] => c
  | b :: bs => crcs (crcBits 8 (c ^^^ b.zeroExtend 32)) bs
/-- check_value of R152: the granule, the tag (64 bits) and the index (32 bits). -/
def checkValue (granule : List Byte) (tag index : Nat) : BitVec 32 :=
  crcs 0xFFFFFFFF (granule ++ wordBytes 8 tag ++ wordBytes 4 index) ^^^ 0xFFFFFFFF

/-- CRCS: advances the CRC in a[31:0] by the low bytes of b (R100). -/
def effCrcs (f : RRR) (s : State) : Act :=
  .ok (s.sResult f.d
    ((crcs ((s.readS 32 f.a).truncate 32) (wordBytes (tyBytes (rrrT f)) (s.readS 24 f.b).toNat)).zeroExtend 64))
/-- NMAKE: a[7:0] ++ ((b + c) mod 2^56) (R99). -/
def effNmake (f : RRR) (s : State) : Act :=
  .ok (s.sResult f.d ((s.readS 32 f.a).extractLsb' 0 8 ++ (s.readS 24 f.b + s.readS 16 f.c).extractLsb' 0 56))

/-- Conditions of CMP (R101). -/
def cmpHolds (c : Nat) (a b : Int) (bits : Nat) : Bool :=
  match c with
  | 0 => decide (a = b) | 1 => decide (a ≠ b) | 2 => decide (a < b) | 3 => decide (b ≤ a) | 4 => decide (a ≤ b)
  | 5 => decide (b < a) | 6 => decide (bits ≠ 0) | _ => decide (bits = 0)
/-- CMP (R101). -/
def effCmp (f : RRR) (s : State) : Act :=
  let both := (s.readS 32 f.a &&& s.readS 24 f.b).toNat % 2 ^ tyBits (rrrT f)
  .ok (s.pResult f.d.toNat (cmpHolds f.c.toNat (s.srcA f) (s.srcB f) both))

/-- Predicate syllables (R102). -/
def effPand (f : RRR) (s : State) : Act := .ok (s.pResult f.d.toNat (s.readP 32 f.a.toNat && s.readP 24 f.b.toNat))
def effPor (f : RRR) (s : State) : Act := .ok (s.pResult f.d.toNat (s.readP 32 f.a.toNat || s.readP 24 f.b.toNat))
def effPxor (f : RRR) (s : State) : Act := .ok (s.pResult f.d.toNat (s.readP 32 f.a.toNat ^^ s.readP 24 f.b.toNat))
def effPnot (f : RRR) (s : State) : Act := .ok (s.pResult f.d.toNat (!s.readP 32 f.a.toNat))
/-- PSET: pi := a[i] for each i in 1 to 7 whose mask bit is 1 (R102). -/
def psetGo (mask a : BitVec 64) : List Nat → State → State
  | [], s => s
  | i :: is, s => psetGo mask a is (if mask.getLsbD i then s.pResult i (a.getLsbD i) else s)
def effPset (f : RRR) (s : State) : Act :=
  .ok (psetGo (f.c.zeroExtend 64) (s.readS 32 f.a) [1, 2, 3, 4, 5, 6, 7] s)
/-- The predicates as a number, p0 reading 1 (R102). -/
def State.preds (s : State) (field : Nat) : Nat :=
  [7, 6, 5, 4, 3, 2, 1, 0].foldl (fun n i => 2 * n + (if s.readP (field + i) i then 1 else 0)) 0
/-- PGET (R102). -/
def effPget (f : RRR) (s : State) : Act := .ok (s.sResult f.d (BitVec.ofNat 64 (s.preds 48)))

/-! The instructions: each acts as its effect says where its guard holds (R33). -/

/-- ADD. -/
def execAdd (h : Hdr) (f : RRR) (s : State) : Host.Outcome State Fault Refusal := asStep h (effAdd f) s
/-- SUB. -/
def execSub (h : Hdr) (f : RRR) (s : State) : Host.Outcome State Fault Refusal := asStep h (effSub f) s
/-- MUL. -/
def execMul (h : Hdr) (f : RRR) (s : State) : Host.Outcome State Fault Refusal := asStep h (effMul f) s
/-- MULH. -/
def execMulh (h : Hdr) (f : RRR) (s : State) : Host.Outcome State Fault Refusal := asStep h (effMulh f) s
/-- MULHN. -/
def execMulhn (h : Hdr) (f : RRR) (s : State) : Host.Outcome State Fault Refusal := asStep h (effMulhn f) s
/-- DIV. -/
def execDiv (h : Hdr) (f : RRR) (s : State) : Host.Outcome State Fault Refusal := asStep h (effDiv f) s
/-- DIVN. -/
def execDivn (h : Hdr) (f : RRR) (s : State) : Host.Outcome State Fault Refusal := asStep h (effDivn f) s
/-- REM. -/
def execRemS (h : Hdr) (f : RRR) (s : State) : Host.Outcome State Fault Refusal := asStep h (effRemS f) s
/-- REMN. -/
def execRemn (h : Hdr) (f : RRR) (s : State) : Host.Outcome State Fault Refusal := asStep h (effRemn f) s
/-- AND. -/
def execAndS (h : Hdr) (f : RRR) (s : State) : Host.Outcome State Fault Refusal := asStep h (effAndS f) s
/-- OR. -/
def execOrS (h : Hdr) (f : RRR) (s : State) : Host.Outcome State Fault Refusal := asStep h (effOrS f) s
/-- XOR. -/
def execXorS (h : Hdr) (f : RRR) (s : State) : Host.Outcome State Fault Refusal := asStep h (effXorS f) s
/-- ANDN. -/
def execAndn (h : Hdr) (f : RRR) (s : State) : Host.Outcome State Fault Refusal := asStep h (effAndn f) s
/-- SHL. -/
def execShl (h : Hdr) (f : RRR) (s : State) : Host.Outcome State Fault Refusal := asStep h (effShl f) s
/-- SHR. -/
def execShr (h : Hdr) (f : RRR) (s : State) : Host.Outcome State Fault Refusal := asStep h (effShr f) s
/-- SAR. -/
def execSar (h : Hdr) (f : RRR) (s : State) : Host.Outcome State Fault Refusal := asStep h (effSar f) s
/-- ROTR. -/
def execRotr (h : Hdr) (f : RRR) (s : State) : Host.Outcome State Fault Refusal := asStep h (effRotr f) s
/-- MIN. -/
def execMin (h : Hdr) (f : RRR) (s : State) : Host.Outcome State Fault Refusal := asStep h (effMin f) s
/-- MAX. -/
def execMax (h : Hdr) (f : RRR) (s : State) : Host.Outcome State Fault Refusal := asStep h (effMax f) s
/-- MINN. -/
def execMinn (h : Hdr) (f : RRR) (s : State) : Host.Outcome State Fault Refusal := asStep h (effMinn f) s
/-- MAXN. -/
def execMaxn (h : Hdr) (f : RRR) (s : State) : Host.Outcome State Fault Refusal := asStep h (effMaxn f) s
/-- CLZ. -/
def execClz (h : Hdr) (f : RRR) (s : State) : Host.Outcome State Fault Refusal := asStep h (effClz f) s
/-- POPC. -/
def execPopc (h : Hdr) (f : RRR) (s : State) : Host.Outcome State Fault Refusal := asStep h (effPopc f) s
/-- BFX. -/
def execBfx (h : Hdr) (f : RRR) (s : State) : Host.Outcome State Fault Refusal := asStep h (effBfx f) s
/-- BFXS. -/
def execBfxs (h : Hdr) (f : RRR) (s : State) : Host.Outcome State Fault Refusal := asStep h (effBfxs f) s
/-- BFI. -/
def execBfi (h : Hdr) (f : RRR) (s : State) : Host.Outcome State Fault Refusal := asStep h (effBfi f) s
/-- SEL. -/
def execSel (h : Hdr) (f : RRR) (s : State) : Host.Outcome State Fault Refusal := asStep h (effSel f) s
/-- MOV. -/
def execMov (h : Hdr) (f : RRR) (s : State) : Host.Outcome State Fault Refusal := asStep h (effMov f) s
/-- LI. -/
def execLi (h : Hdr) (f : RRI) (s : State) : Host.Outcome State Fault Refusal := asStep h (effLi f) s
/-- LEA. -/
def execLea (h : Hdr) (f : RRR) (s : State) : Host.Outcome State Fault Refusal := asStep h (effLea f) s
/-- SXT. -/
def execSxt (h : Hdr) (f : RRR) (s : State) : Host.Outcome State Fault Refusal := asStep h (effSxt f) s
/-- ZXT. -/
def execZxt (h : Hdr) (f : RRR) (s : State) : Host.Outcome State Fault Refusal := asStep h (effZxt f) s
/-- BSWAP. -/
def execBswap (h : Hdr) (f : RRR) (s : State) : Host.Outcome State Fault Refusal := asStep h (effBswap f) s
/-- CRCS. -/
def execCrcs (h : Hdr) (f : RRR) (s : State) : Host.Outcome State Fault Refusal := asStep h (effCrcs f) s
/-- NMAKE. -/
def execNmake (h : Hdr) (f : RRR) (s : State) : Host.Outcome State Fault Refusal := asStep h (effNmake f) s
/-- CMP. -/
def execCmp (h : Hdr) (f : RRR) (s : State) : Host.Outcome State Fault Refusal := asStep h (effCmp f) s
/-- PAND. -/
def execPand (h : Hdr) (f : RRR) (s : State) : Host.Outcome State Fault Refusal := asStep h (effPand f) s
/-- POR. -/
def execPor (h : Hdr) (f : RRR) (s : State) : Host.Outcome State Fault Refusal := asStep h (effPor f) s
/-- PXOR. -/
def execPxor (h : Hdr) (f : RRR) (s : State) : Host.Outcome State Fault Refusal := asStep h (effPxor f) s
/-- PNOT. -/
def execPnot (h : Hdr) (f : RRR) (s : State) : Host.Outcome State Fault Refusal := asStep h (effPnot f) s
/-- PSET. -/
def execPset (h : Hdr) (f : RRR) (s : State) : Host.Outcome State Fault Refusal := asStep h (effPset f) s
/-- PGET. -/
def execPget (h : Hdr) (f : RRR) (s : State) : Host.Outcome State Fault Refusal := asStep h (effPget f) s

end Sys2Proof.Machine
end

