-- ==== Sys2Proof/Machine/Flags.lean ====
section
/-! DEFINITION. What the lanes of a V syllable raise: the rounding mode and its draws, the order of faults (R119), the floating-point
traps (R80) and the flags (R79). -/

namespace Sys2Proof.Machine

/-- What one lane gives: its bits, its flags, and the fault it raises. -/
structure LaneRes where
  bits : Nat
  flags : Nat
  bad : Option FKind
  deriving DecidableEq, Repr

/-- The floating-point kinds in the order of R80, with the flag and the enable bit of each. -/
def fpKinds : List (FKind × Nat) := [(.finv, 0), (.fdivz, 1), (.fovf, 2), (.funf, 3), (.finx, 4)]

/-- The fault that a V syllable reports, of all that its lanes raised (R119, R80). -/
def vFault (fptrapen : Word) (es : List (Nat × LaneRes)) : Option TrapInfo :=
  let lowest (p : LaneRes → Bool) : Option Nat :=
    (es.filter (fun e => p e.2)).foldl (fun o e => match o with | none => some e.1 | some n => some (Nat.min n e.1)) none
  let kinds : List (FKind × (LaneRes → Bool)) :=
    [FKind.badconv, .iovf, .shiftamt].map (fun k => (k, fun r => r.bad == some k)) ++
    fpKinds.map (fun ki => (ki.1, fun r => fptrapen.getLsbD ki.2 && decide (r.flags / 2 ^ ki.2 % 2 = 1)))
  kinds.findSome? (fun kp => (lowest kp.2).map (fun n => TrapInfo.mk kp.1 1 (BitVec.ofNat 64 n)))

/-- Ends a V syllable: it faults, or its result issues with the flags of all its lanes; `rng` is the generator after its draws. -/
def vFinish (s : State) (f : RRR) (lat : Nat) (rng : Option Word) (es : List (Nat × LaneRes)) (v : VReg) : Act :=
  match vFault s.cur.sys.fptrapen es with
  | some t => .trap t
  | none =>
    let s1 := s.vResult f.d v lat (es.foldl (fun n e => n ||| e.2.flags) 0)
    .ok (match rng with | some r => s1.setIss { s1.iss with rng := some r } | none => s1)

/-- The rounding mode of a syllable that rounds: DYN takes it from FPSTATUS, and 6, 7 there, or SR where it is excluded,
raise BADRND (R57, R119). -/
def vMode (s : State) (f : RRR) (rounds srOk : Bool) (k : Nat → Act) : Act :=
  if !rounds then k 0
  else if mRnd f.m ≠ 6 then k (mRnd f.m)
  else
    let m := s.cur.sys.fpstatus.toNat % 8
    if 6 ≤ m ∨ (m = 5 ∧ !srOk) then .trap ⟨.badrnd, 1, BitVec.ofNat 64 m⟩ else k m

/-- A syllable without rounding, lane by lane. -/
def vPlain (s : State) (f : RRR) (lat : Nat) (op : Nat → LaneRes) : Act :=
  let rs := (List.range 32).map op
  vFinish s f lat none ((List.range 32).zip rs) (ofLanes (fun i => BitVec.ofNat 32 (rs.getD i ⟨0, 0, none⟩).bits))

/-- A syllable that rounds, lane by lane; under SR it makes one draw for each lane (R75), and a generator state of 0 raises
RNGSTATE (R76). -/
def vRound (s : State) (f : RRR) (lat : Nat) (srOk : Bool) (op : Rnd → Nat → LaneRes) : Act :=
  vMode s f true srOk (fun mode =>
    if mode = 5 then
      let r := s.cur.sys.rngseed
      if r = 0 then .trap ⟨.rngstate, 1, 0⟩
      else
        let (ws, r1) := draws 32 r
        let rs := (List.range 32).map (fun i => op ⟨5, ws.getD i 0⟩ i)
        vFinish s f lat (some r1) ((List.range 32).zip rs) (ofLanes (fun i => BitVec.ofNat 32 (rs.getD i ⟨0, 0, none⟩).bits))
    else
      let rs := (List.range 32).map (fun i => op ⟨mode, 0⟩ i)
      vFinish s f lat none ((List.range 32).zip rs) (ofLanes (fun i => BitVec.ofNat 32 (rs.getD i ⟨0, 0, none⟩).bits)))

end Sys2Proof.Machine
end

