-- ==== Sys2Proof/Machine/Control.lean ====
section
/-! DEFINITION. Control flow and system registers (04_scalar_control R103 to R115), IDLE and BRK with their ends, TRAP and RFT
(16_faults R345 to R347). -/

namespace Sys2Proof.Machine

/-! ### Branches (R103 to R105) -/

/-- The address of the bundle after the one at issue (R103). -/
def State.nextBundle (s : State) : Word := s.cur.pc + BitVec.ofNat 64 (8 * s.iss.nsyl)
/-- The target of BR, CALL and LOOP (R36). -/
def State.relTarget (s : State) (f : BrF) : Word := s.cur.pc + f.off.signExtend 64
/-- A taken branch: the next bundle and the cycles in which none issues (R105). -/
def State.branchTo (s : State) (t : Word) (gap : Nat) : State := s.setIss { s.iss with npc := some t, gap := s.iss.gap + gap }
/-- A computed target whose bits [2:0] are not zero raises SPALIGN, origin 0, EVAL the target (R104). -/
def State.branchInd (s : State) (t : Word) : Act :=
  if t.extractLsb' 0 3 = 0 then .ok (s.branchTo t 3) else .trap ⟨.spalign, 0, t⟩

/-- NOP (R106). -/
def effNop (_ : RRR) (s : State) : Act := .ok s
/-- BR (R103). -/
def effBr (f : BrF) (s : State) : Act := .ok (s.branchTo (s.relTarget f) 1)
/-- BRI (R103, R104). -/
def effBri (f : BrF) (s : State) : Act := s.branchInd (s.readS 40 f.a + f.off.signExtend 64)
/-- CALL: A := next bundle address (R103). -/
def effCallS (f : BrF) (s : State) : Act := .ok ((s.cResult f.a s.nextBundle).branchTo (s.relTarget f) 1)
/-- CALL, indirect: the target is read before the link is written (R103). -/
def effCallInd (f : BrF) (s : State) : Act :=
  (s.branchInd (s.readS 40 f.a + f.off.signExtend 64)).bind (fun s1 => .ok (s1.cResult f.a s.nextBundle))
/-- RET (R103, R104). -/
def effRet (f : BrF) (s : State) : Act := s.branchInd (s.readS 40 f.a)
/-- LOOP: A := wrap64(read(A) - 1), taken if the new value is not 0 (R103). -/
def effLoopS (f : BrF) (s : State) : Act :=
  let n := s.readS 40 f.a - 1
  let s1 := s.cResult f.a n
  .ok (if n = 0 then s1 else s1.branchTo (s.relTarget f) 1)

/-! ### IDLE and BRK (R107, R108) -/

/-- IDLE: the wait ends at once where the latch is nonzero or read(A) is 0; otherwise the slot issues nothing until IDLE_WAKE. -/
def effIdle (f : RRR) (s : State) : Act :=
  let n := (s.readS 32 f.a).toNat
  let x := s.cur
  let latch := if n = 0 then x.latch ||| 8 else x.latch
  if latch ≠ 0 then .ok ((s.setCur { x with latch := 0 }).cResult f.d (latch.zeroExtend 64))
  else .ok (s.setCur { x.await (dstS f.d) with wait := .idle (dstS f.d) n s.time })

/-- Ends an IDLE wait: D receives the latch, which clears (R107). -/
def Slot.endIdle (x : Slot) (dst : Reg) (bits : BitVec 5) : Slot :=
  let l := x.latch ||| bits
  { x with f := x.f.put dst (l.zeroExtend 1024), latch := 0, wait := .none, pend := x.pend.erase dst
           marks := x.marks.filter (fun m => m.reg != dst) }

/-- Has the timeout of an IDLE passed: `left` cycles of the domain since TIME `at_` (R107)? -/
def State.idleOver (s : State) (site left at_ : Nat) : Bool := decide (at_ + s.cyclesNs site left ≤ s.time)

/-- May the wait end: the latch is nonzero or the time is up? -/
def State.idleDue (s : State) (site : Nat) (x : Slot) : Bool :=
  match x.wait with
  | .idle _ n t => decide (x.latch ≠ 0) || s.idleOver site n t
  | _ => false

/-- IDLE_WAKE (R107). -/
def execIdleWake (site slot : Nat) (s : State) : Host.Outcome State Fault Refusal :=
  let x := s.slotAt site slot
  match x.wait with
  | .idle dst n t =>
    if x.latch ≠ 0 then .next ((s.setSlotAt site slot (x.endIdle dst 0)).rejoin site slot)
    else if s.idleOver site n t then .next ((s.setSlotAt site slot (x.endIdle dst 8)).rejoin site slot)
    else .next s
  | _ => .next s

/-- BRK: without DBGEN no effect; with it the slot stops and the management controller hears of it (R108). -/
def effBrk (f : RRR) (s : State) : Act :=
  if s.cur.sys.dbgen then
    .ok { s.setCur { s.cur with wait := .brk } with
          brks := s.brks ++ [(s.iss.site, s.iss.slot, f.d.toNat * 256 + f.a.toNat, s.nextBundle)] }
  else .ok s

/-- BRK_RESUME: the management controller resumes the slot, at the next bundle or at an address of its own (R108). -/
def execBrkResume (site slot : Nat) (pc : Option Word) (s : State) : Host.Outcome State Fault Refusal :=
  let x := s.slotAt site slot
  if x.wait = .brk then .next ((s.setSlotAt site slot { x with wait := .none, pc := pc.getD x.pc }).rejoin site slot) else .next s

/-! ### System registers (R109 to R115) -/

/-- STATUS (R113). -/
def Slot.status (x : Slot) (slot : Nat) : Word :=
  BitVec.ofNat 64 ((if x.sys.dbgen then 2 ^ 15 else 0) + (if x.sys.privc then 2 ^ 14 else 0) + slot * 2 ^ 12 +
    (if x.sys.intrap then 2 ^ 11 else 0) + x.sys.events.toNat * 16)

/-- GMEMB (R115): VALID in [35:32], the group indices below; an invalid membership holds 0. -/
def gmembOf (gs : List (Option Nat)) : Nat :=
  (List.range 4).foldl (fun n i => match gs.getD i none with
    | some g => n + g * 2 ^ (8 * i) + 2 ^ (32 + i)
    | none => n) 0

/-- LINKSUM (R372). A PCIe port that runs as two x8 links shows its first link in LINKSUM.PCIE; R372 and R382 do not say which link counts
(DESIGN CHOICE, logs 20 and 52). -/
def State.linkSum (s : State) : Nat :=
  let q := (List.range 64).map (fun k => (s.link (2 + k)).st)
  let count (p : LinkState → Bool) := (q.filter p).length
  s.domainNum * 2 ^ 57 + s.modnum * 2 ^ 47 +
  (List.range 2).foldl (fun n p => n + if (s.link p).usable then 2 ^ (42 + p) else 0) 0 +
  (List.range 8).foldl (fun n i => n + if (s.link (66 + i)).usable then 2 ^ (34 + i) else 0) 0 +
  count (fun l => l == .down || l == .training) * 2 ^ 27 + count (fun l => l == .quarantined) * 2 ^ 20 +
  count (fun l => l == .degraded) * 2 ^ 13 + count (fun l => l == .up) * 2 ^ 6

/-- PGROOT with INVP (R327). -/
def Ctx.pgrootRead (c : Ctx) : Word := c.pgroot ||| (if c.inval.isEmpty then 0 else 2)

/-- FPSTATUS as a SYSR sees it: the flags of results in flight may show or not (R79). -/
def State.fpstatusRead (s : State) : Word :=
  let x := s.cur
  (s.iss.infl0.zip (List.range s.iss.infl0.length)).foldl
    (fun w (e, i) => if e.flags ≠ 0 ∧ Config.pick s.tick (64 * s.iss.pos + 20 + i) % 2 = 1
      then w ||| BitVec.ofNat 64 (e.flags * 256) else w) x.sys.fpstatus

/-- The value of a system register of the slot at issue (R112). -/
def State.sysVal (s : State) (n : Nat) : Word :=
  let x := s.cur
  let y := x.sys
  let c := s.ctx y.ctxsel
  match n with
  | 0x000 => x.status s.iss.slot
  | 0x001 => y.cause | 0x002 => y.epc | 0x003 => y.eval | 0x004 => y.trapbase
  | 0x010 => BitVec.ofNat 64 y.ctxid | 0x011 => BitVec.ofNat 64 y.incarn | 0x012 => BitVec.ofNat 64 y.instIdx
  | 0x013 => y.kernId
  | 0x020 => s.fpstatusRead | 0x021 => y.fptrapen | 0x022 => y.rngseed
  | 0x030 => BitVec.ofNat 64 y.cycle | 0x031 => BitVec.ofNat 64 s.time
  | 0x040 => y.stepId.zeroExtend 64
  | 0x041 => BitVec.ofNat 64 (y.prioBase * 16 + y.prioLevel)
  | 0x042 => BitVec.ofNat 64 (gmembOf y.groups)
  | 0x050 => y.apr.toList.getD 0 0 | 0x051 => y.apr.toList.getD 1 0 | 0x052 => y.apr.toList.getD 2 0
  | 0x053 => y.apr.toList.getD 3 0
  | 0x060 => BitVec.ofNat 64 y.baseA | 0x061 => BitVec.ofNat 64 y.sizeA
  | 0x062 => BitVec.ofNat 64 y.baseB | 0x063 => BitVec.ofNat 64 y.sizeB | 0x064 => BitVec.ofNat 64 y.landBase
  | 0x070 => BitVec.ofNat 64 y.share | 0x071 => BitVec.ofNat 64 y.slewhold
  | 0x800 => c.pgrootRead | 0x801 => c.backbase | 0x802 => c.ovflbase | 0x803 => c.ovflsize | 0x804 => c.savebase
  | 0x805 => c.rickquota | 0x80F => BitVec.ofNat 64 y.ctxsel
  | 0x810 => BitVec.ofNat 64 s.linkSum
  | _ => 0

/-- The system register number of SYSR and SYSW (R109). -/
def sysNo (f : RRI) : Nat := f.imm.toNat % 4096

/-- SYSR: latency 1, but CYCLE and TIME are interlocked (R109, R111). -/
def effSysr (f : RRI) (s : State) : Act :=
  if sysNo f = 0x030 ∨ sysNo f = 0x031 then
    .ok (s.selfReply (dstS f.d) ((s.sysVal (sysNo f)).zeroExtend 1024) .plain)
  else .ok (s.cResult f.d (s.sysVal (sysNo f)))

/-- Reserved bits of the system registers that a SYSW may write (R113, R76, R77, R170, R327, R303, R192, R194, R200). -/
def sysRsv (n : Nat) : Word :=
  match n with
  | 0x000 => ~~~ (0xF8F0 : Word)
  | 0x001 => ~~~ (0x1FF : Word)
  | 0x002 => ~~~ (0x3FFF8 : Word)
  | 0x004 => ~~~ (0x800000000003FFF8 : Word)
  | 0x020 => ~~~ (0x3F07 : Word)
  | 0x021 => ~~~ (0x1F : Word)
  | 0x050 | 0x051 | 0x052 | 0x053 => 0x0000FCFFFFFFF000
  | 0x800 => 0xFFF0000000001FFC
  | 0x801 => 0xFF000000000003FF
  | 0x802 => 0xFF0000000000FFFF
  | 0x803 => ~~~ (0x1F : Word)
  | 0x804 => 0xFF0000000000FFFF
  | 0x805 => ~~~ (0xFFFF : Word)
  | 0x80F => ~~~ (0xFF : Word)
  | _ => 0

/-- Does a SYSW of the value write 1 to a reserved bit, or a reserved value (R110, R170, R200)? -/
def sysBad (n : Nat) (v : Word) : Bool :=
  decide (v &&& sysRsv n ≠ 0) ||
  (decide (0x050 ≤ n ∧ n ≤ 0x053) && decide (v.extractLsb' 40 2 = 3)) ||
  (decide (n = 0x803) && decide (25 ≤ v.toNat % 32))

/-- The slot after a SYSW of one of its own registers; RO fields ignore the write (R9, R113). -/
def Slot.sysPut (x : Slot) (n : Nat) (v : Word) : Slot :=
  match n with
  | 0x000 => { x with sys := { x.sys with events := x.sys.events &&& ~~~ (v.extractLsb' 4 4) } }
  | 0x001 => { x with sys := { x.sys with cause := v } }
  | 0x002 => { x with sys := { x.sys with epc := v } }
  | 0x003 => { x with sys := { x.sys with eval := v } }
  | 0x004 => { x with sys := { x.sys with trapbase := v } }
  | 0x021 => { x with sys := { x.sys with fptrapen := v } }
  | 0x050 => { x with sys := { x.sys with apr := x.sys.apr.setIfInBounds 0 v } }
  | 0x051 => { x with sys := { x.sys with apr := x.sys.apr.setIfInBounds 1 v } }
  | 0x052 => { x with sys := { x.sys with apr := x.sys.apr.setIfInBounds 2 v } }
  | 0x053 => { x with sys := { x.sys with apr := x.sys.apr.setIfInBounds 3 v } }
  | 0x80F => { x with sys := { x.sys with ctxsel := v.toNat % 256 } }
  | _ => x

/-- Is an M syllable of this slot pending that names accumulator n (R54, R111)? -/
def State.accPending (s : State) (n : Nat) : Bool :=
  s.curTile.unit.any (fun o => decide (o.slot = s.iss.slot) && decide (o.acc = n) && decide (o.kind ≠ 4))

/-- A SYSW of APRn waits until no M syllable that names cn is pending (R111). -/
def waitSysw (f : RRI) (s : State) : Option Hold :=
  if 0x050 ≤ sysNo f ∧ sysNo f ≤ 0x053 ∧ s.accPending (sysNo f - 0x050) then some ⟨true, id⟩ else none

/-- SYSW of any register but PGROOT and BACKBASE, which have rows of their own (R109 to R113). -/
def effSysw (f : RRI) (s : State) : Act :=
  let n := sysNo f
  let v := s.readS 32 f.a
  if sysBad n v then .trap ⟨.rsvfield, 0, v⟩
  else match n with
    | 0x020 => .ok (s.setIss { s.iss with fps := some v })
    | 0x022 => if v = 0 then .trap ⟨.rngstate, 0, 0⟩ else .ok (s.setIss { s.iss with rng := some v })
    | 0x802 => .ok (s.setCtx s.cur.sys.ctxsel { s.ctx s.cur.sys.ctxsel with ovflbase := v })
    | 0x803 => .ok (s.setCtx s.cur.sys.ctxsel { s.ctx s.cur.sys.ctxsel with ovflsize := v })
    | 0x804 => .ok (s.setCtx s.cur.sys.ctxsel { s.ctx s.cur.sys.ctxsel with savebase := v })
    | 0x805 => .ok (s.setCtx s.cur.sys.ctxsel { s.ctx s.cur.sys.ctxsel with rickquota := v })
    | _ => .ok (s.setCur (s.cur.sysPut n v))

/-! ### TRAP and RFT (R345 to R347) -/

/-- TRAP: TRAPINS once the rest of its bundle has acted, EVAL imm64, EPC the next bundle (R346). -/
def effTrapS (f : RRI) (s : State) : Act :=
  .ok (s.setIss { s.iss with after := some ⟨.trapins, 0, RriImm f⟩ })

/-- RFT waits until every interlocked result of the slot has landed (R347). -/
def waitRft (_ : RRR) (s : State) : Option Hold :=
  if s.cur.sys.intrap && !s.cur.pend.isEmpty then some ⟨true, id⟩ else none

/-- RFT: outside a handler it raises TRAPINS with its own word; inside, the bundle waits until every write has landed, then
control returns to EPC (R347). -/
def effRft (_ : RRR) (s : State) : Act :=
  if s.cur.sys.intrap then
    .ok (s.setIss { s.iss with rft := true, gap := s.iss.gap + 3 })
  else .trap ⟨.trapins, 0, s.iss.word⟩

/-! The instructions: each acts as its effect says where its guard holds (R33). -/

/-- NOP. -/
def execNop (h : Hdr) (f : RRR) (s : State) : Host.Outcome State Fault Refusal := asStep h (effNop f) s
/-- BR. -/
def execBr (h : Hdr) (f : BrF) (s : State) : Host.Outcome State Fault Refusal := asStep h (effBr f) s
/-- BRI. -/
def execBri (h : Hdr) (f : BrF) (s : State) : Host.Outcome State Fault Refusal := asStep h (effBri f) s
/-- CALL. -/
def execCallS (h : Hdr) (f : BrF) (s : State) : Host.Outcome State Fault Refusal := asStep h (effCallS f) s
/-- CALL_IND. -/
def execCallInd (h : Hdr) (f : BrF) (s : State) : Host.Outcome State Fault Refusal := asStep h (effCallInd f) s
/-- RET. -/
def execRet (h : Hdr) (f : BrF) (s : State) : Host.Outcome State Fault Refusal := asStep h (effRet f) s
/-- LOOP. -/
def execLoopS (h : Hdr) (f : BrF) (s : State) : Host.Outcome State Fault Refusal := asStep h (effLoopS f) s
/-- TRAP. -/
def execTrapS (h : Hdr) (f : RRI) (s : State) : Host.Outcome State Fault Refusal := asStep h (effTrapS f) s
/-- RFT. -/
def execRft (h : Hdr) (f : RRR) (s : State) : Host.Outcome State Fault Refusal :=
  asStepW h (waitRft f) (effRft f) s
/-- SYSR. -/
def execSysr (h : Hdr) (f : RRI) (s : State) : Host.Outcome State Fault Refusal := asStep h (effSysr f) s
/-- SYSW. -/
def execSysw (h : Hdr) (f : RRI) (s : State) : Host.Outcome State Fault Refusal :=
  asStepW h (waitSysw f) (effSysw f) s
/-- IDLE. -/
def execIdle (h : Hdr) (f : RRR) (s : State) : Host.Outcome State Fault Refusal := asStep h (effIdle f) s
/-- BRK. -/
def execBrk (h : Hdr) (f : RRR) (s : State) : Host.Outcome State Fault Refusal := asStep h (effBrk f) s

end Sys2Proof.Machine
end

