-- ==== Sys2Proof/Machine/Home.lean ====
section
/-! DEFINITION. Memory homes (17_memory_model R354, 15_page R336 to R338), atomics (06_tile_memory R143), and requests that go to
another module (18_link R371 to R378). -/

namespace Sys2Proof.Machine

/-! ### Agents and incarnations (R310, R312) -/

/-- Agents that hold an incarnation table: of a site its tile port 0, L1 1, router 2, rick 3. -/
def agSite (site part : Nat) : Nat := 4 * site + part
def agSched (field : Nat) : Nat := 24576 + field
def agGov : Nat := 24640
def agHedge (h : Nat) : Nat := 24641 + h
def agMem (m : Nat) : Nat := 24689 + m
/-- Link port l of the 74 (R27). -/
def agLink (l : Nat) : Nat := 24737 + l

/-- The incarnation of context c in the table of an agent: the one before a kill until the broadcast has reached it (R312). -/
def State.incAt (s : State) (agent c : Nat) : Nat :=
  let x := s.ctx c
  if x.st = .killed ∧ !(x.told.contains agent) then (x.inc + 4095) % 4096 else x.inc

/-- An agent drops an item of context c whose incarnation differs from its table, and counts it for the kill (R310). -/
def State.stale (s : State) (agent c inc : Nat) : Bool := decide (s.incAt agent c ≠ inc)
def State.drop (s : State) (c : Nat) : State := s.setCtx c { s.ctx c with drops := (s.ctx c).drops + 1 }

/-! ### Physical addresses (R326) -/

def paModule (pa : Nat) : Nat := pa / 2 ^ 42 % 1024
def paLocal (pa : Nat) : Nat := pa % 2 ^ 42
/-- Size of local memory. -/
def localSize : Nat := 0x30000000000
/-- Stack of a local address (R326). -/
def stackOf (la : Nat) : Nat := la / 4096 % 48

/-! ### Bytes at a home -/

/-- One byte of local memory as context `who` reads it, or 256 for a reader of none; a byte that a DISCARD has left undefined reads as a free value
(R150), and so does, for every other reader, one that a killed incarnation could write, until RECLAIMED (R314, R367). -/
def State.memByte (s : State) (la : Nat) (who : Nat := 256) : Byte :=
  if rangesHave s.discarded la || s.ctxs.any (fun p => p.2.st == .killed && p.1 != who && rangesHave p.2.couldWrite la) then Config.freeByte s.tick la
  else Memory.readByte s.mem la

def State.memBytes (s : State) (la n : Nat) (who : Nat := 256) : List Byte :=
  match n with
  | 0 => []
  | n + 1 => s.memByte la who :: s.memBytes (la + 1) n who

/-- Stores bytes in local memory. -/
def State.memPut (s : State) (la : Nat) (bs : List Byte) : State :=
  { s with mem := Memory.writeBytes s.mem la bs
           discarded := if s.discarded.isEmpty then [] else rangesDel s.discarded la (la + bs.length) }

/-- The granules that [la, la + n) touches. -/
def granules (la n : Nat) : List Nat := if n = 0 then [] else (List.range ((la + n - 1) / 64 - la / 64 + 1)).map (· + la / 64)

/-- The check value that belongs to the bytes of granule g in module m; that of this module (R337). -/
def State.checkIn (s : State) (m g : Nat) : BitVec 32 := checkValue (s.memBytes (64 * g) 64) (m * 2 ^ 42 + 64 * g) 0
def State.checkOf (s : State) (g : Nat) : BitVec 32 := s.checkIn s.modnum g

/-- The kind of a granule that does not read well (R336 to R338). -/
def Granule.kind : Granule → FKind
  | .poison => .poisonld
  | .check _ | .tagged _ => .checkmiss
  | .uncorrectable => .hbmue

/-- Why granule g does not read well: poison, an uncorrectable error, or a check value that is not that of its bytes (R336, R337). -/
def State.granBad (s : State) (g : Nat) : Option FKind :=
  let under (m : Nat) : Option FKind := if m = s.modnum then none else if s.checkIn m g = s.checkOf g then none else some .checkmiss
  match KMap.get? s.gran g with
  | some (.check v) => if v = s.checkOf g then none else some .checkmiss
  | some (.tagged m) => under m
  | some k => some k.kind
  | none => under s.tagNum

/-- Granule g gets the check value of its bytes, under the present module number (R337). -/
def State.granGood (s : State) (g : Nat) : State :=
  { s with gran := if s.tagNum = s.modnum then KMap.del s.gran g else KMap.set s.gran g (.tagged s.modnum) }
/-- The granules of [la, la + n) that do not read well, and why. -/
def State.badsOf (s : State) (la n : Nat) : List (Nat × FKind) :=
  (granules la n).filterMap (fun g => (s.granBad g).map (fun k => (g, k)))

/-- A granule with an uncorrectable error that a read has met: recorded once, and poison from then on (R336). -/
def State.foundUe (s : State) (g : Nat) (r : State → State) : State :=
  if s.granBad g = some .hbmue then { r s with gran := KMap.set s.gran g .poison } else s

/-- The record of a granule's fault: origin 2, EVAL its physical address; accesses of the host belong to no context (R338, R384). -/
def State.granRecord (s : State) (ctx inc g : Nat) (k : FKind) : State :=
  if 256 ≤ ctx then s
  else s.record ⟨ctx, inc, none⟩ { kind := k, origin := 2, eval := BitVec.ofNat 64 (s.modnum * 2 ^ 42 + 64 * g) }

/-- A read performed at its home: an uncorrectable error is found, recorded and turned into poison (R336); a check mismatch is the
reader's to report (R337). -/
def State.homeRead (s : State) (ctx inc la n : Nat) : State × MemReply :=
  let bad := s.badsOf la n
  let data := s.memBytes la n ctx
  let s1 := bad.foldl (fun s e => s.foundUe e.1 (fun s => s.granRecord ctx inc e.1 .hbmue)) s
  (s1, { data := data
         poison := bad.any (fun e => e.2 != .checkmiss)
         err := if bad.any (fun e => e.2 == .hbmue) then some .hbmue
                else if bad.any (fun e => e.2 == .checkmiss) then some .checkmiss else none
         bads := bad })

/-- What a write of [la, la + n) does to the metadata of granule g: a whole write sets it, a part is merged (R336, R338). -/
def State.mergeGran (s : State) (ctx inc la n : Nat) (poison : Bool) (g : Nat) : State :=
  if la ≤ 64 * g ∧ 64 * g + 64 ≤ la + n then
    if poison then { s with gran := KMap.set s.gran g .poison } else s.granGood g
  else match s.granBad g with
    | none => if poison then { s with gran := KMap.set s.gran g .poison } else s.granGood g
    | some k =>
      let s1 := s.granRecord ctx inc g k
      { s1 with gran := KMap.set s1.gran g .poison }

/-- A write performed at its home (R338). -/
def State.homeWrite (s : State) (ctx inc la : Nat) (bs : List Byte) (poison : Bool) : State :=
  ((granules la bs.length).foldl (fun s g => s.mergeGran ctx inc la bs.length poison g) s).memPut la bs

/-- The bytes that a mask names. -/
def masked (bs : List Byte) (mask : BitVec 128) : List (Bool × Byte) := bs.mapIdx (fun i b => (mask.getLsbD i, b))

/-- Stores those of the bytes from la on that are picked. -/
def State.putPicked (s : State) : Nat → List (Bool × Byte) → State
  | _, [] => s
  | la, (true, b) :: r => (s.memPut la [b]).putPicked (la + 1) r
  | la, (false, _) :: r => s.putPicked (la + 1) r

/-- The granules of a write that its merges find bad (R338). -/
def State.mergeBads (s : State) (la n : Nat) : List (Nat × FKind) :=
  (s.badsOf la n).filter (fun e => !(decide (la ≤ 64 * e.1 ∧ 64 * e.1 + 64 ≤ la + n)))
/-- The granules of a write-back that its merges find bad: those of which the mask names a part. -/
def State.maskBads (s : State) (la n : Nat) (mask : BitVec 128) : List (Nat × FKind) :=
  (s.badsOf la n).filter (fun e =>
    let k := ((List.range n).filter (fun i => decide ((la + i) / 64 = e.1) && mask.getLsbD i)).length
    decide (k ≠ 0 ∧ k ≠ 64))

/-- A write-back performed at its home: it stores the bytes that the mask names, merged with those of other stores to their granules (R338, R354). -/
def State.homeMask (s : State) (ctx inc la : Nat) (bs : List Byte) (mask : BitVec 128) (poison : Bool) : State :=
  let at_ (g i : Nat) : Bool := decide ((la + i) / 64 = g) && mask.getLsbD i
  let s1 := (granules la bs.length).foldl (fun s g =>
    let n := ((List.range bs.length).filter (fun i => at_ g i)).length
    if n = 0 then s else s.mergeGran ctx inc (64 * g) n poison g) s
  s1.putPicked la (masked bs mask)

/-! ### Atomics (R143) -/

/-- new(old, v) of the atomic operations (R143); `cmp` is read(D) for CAS. Values are the low bits of the type. -/
def atomNew (aop ty : Nat) (old v cmp : Nat) : Nat :=
  let m := 2 ^ tyBits ty
  match aop with
  | 0 => (old + v) % m
  | 1 => old &&& v
  | 2 => old ||| v
  | 3 => old ^^^ v
  | 4 => if tyWrap ty v < tyWrap ty old then v % m else old
  | 5 => if tyWrap ty old < tyWrap ty v then v % m else old
  | 6 => v % m
  | 7 => if old = cmp % m then v % m else old
  | _ => (fpAdd fmtF32 ⟨0, 0⟩ false (decF32 (BitVec.ofNat 32 old)) (decF32 (BitVec.ofNat 32 v))).bits

/-- D of an atomic: extend(old, T), an f32 zero-extended (R143). -/
def atomResult (ty old : Nat) : Word := if ty < 8 then tyExtend ty old else BitVec.ofNat 64 old

/-- The type code of a type (R56). -/
def Ty.code (t : Ty) : Nat := t.ctorIdx
def tyOfCode (n : Nat) : Ty :=
  match n with
  | 0 => .i8 | 1 => .i16 | 2 => .i32 | 3 => .i64 | 4 => .n8 | 5 => .n16 | 6 => .n32 | 7 => .n64 | 8 => .f16 | 9 => .bf16
  | 10 => .f32 | 11 => .e4m3 | 12 => .e5m2 | 13 => .k4 | 14 => .x19 | _ => .rsv

/-- Order of the fills and write-backs of a tile for one line: they reach the home as they were sent (R143, R359). -/
def lineChan (site pa : Nat) : Nat := chanKey 1 (pa / 128 * 6144 + site)
/-- Order of the atomics of a slot to one location of four bytes (R359). -/
def wordChan (site slot pa : Nat) : Nat := chanKey 6 (pa / 4 * 24576 + 4 * site + slot)

/-! ### Answers -/

/-- Sends the answer of a request to whoever asked. -/
def State.answer (s : State) (ctx inc : Nat) (who : Requester) (r : MemReply) : State :=
  match who with
  | .fill site c i vl => s.send (chanKey 3 (vl * 6144 + site)) (.l1Fill site c i vl r)
  | .chan site slot ch q => s.send 0 (.channelDataArrive site slot ch ctx inc q r)
  | .row site slot k off => s.send 0 (.mmagRowArrive site slot ctx inc k off r)
  | .atom site slot dst ty ea acq far =>
    let mark := match r.err with
      | some k => if k = FKind.remotedown ∨ k = FKind.remotetmo then some k else some FKind.poisonld
      | none => if r.poison then some FKind.poisonld else none
    s.send 0 (.interlockedResultLand site slot ctx inc dst ((atomResult (Ty.code ty) (bytesWord r.data)).zeroExtend 1024)
      (.load mark ea acq (some far) far))
  | .ackC _ _ _ => s.send 0 (.memoryWriteAcknowledgement ctx inc who)
  | .ackS _ _ _ _ _ _ => s.send 0 (.memoryWriteAcknowledgement ctx inc who)
  | .ackBad _ _ _ _ _ _ _ _ => s.send 0 (.memoryWriteAcknowledgement ctx inc who)
  | .ft hedge b =>
    if r.err.isSome ∨ r.poison then s.send 0 (.fallthroughData ctx inc b.name 0 r)
    else s.send (chanKey 10 hedge) (.fallthroughRequest hedge ctx inc { b with got := b.got ++ r.data })
  | .peer _ _ _ _ => s
  | .none => s

/-! ### Links (R370, R371, R377) -/

def State.setLink (s : State) (l : Nat) (x : Link) : State := { s with links := KMap.set s.links l x }

/-- May a request for module d take Quinholt link k (R377)? -/
def State.linkOpen (s : State) (k d : Nat) : Bool := (s.link (2 + k)).usable && !(s.swDown.contains (k, d))

/-- The Quinholt link that a request for module d takes, from k on (R377). -/
def State.linkFrom (s : State) (k d : Nat) : Option Nat :=
  ((List.range 64).map (fun i => (k + i) % 64)).find? (fun j => s.linkOpen j d)

/-- The class of a flit: responses, acknowledgements, verdicts and link control above requests and segments (R202, R373). -/
def Flit.cls (f : Flit) : Nat := if f.ty < 3 ∨ f.ty = 5 then 1 else 2

/-- The data that a flit carries: what is written, read or sent, from granule slot 0 on; the operands of an atomic (R373). -/
def Flit.data (f : Flit) : List Byte :=
  match f.seg, f.reply, f.req with
  | some g, _, _ => if f.ty = 5 then g.bytes else []
  | none, some r, _ => r.data
  | none, none, some r => (match r.op with
    | .write bs _ | .line bs _ _ => bs
    | .atomic _ _ v c => wordBytes 8 v.toNat ++ wordBytes 8 c.toNat
    | _ => [])
  | none, none, none => []
/-- Granule slot j of a flit, filled up with zeros. -/
def Flit.slot (f : Flit) (j : Nat) : List Byte := (List.range 64).map (fun i => (Flit.data f).getD (64 * j + i) 0)
/-- ADDR: the destination name of a segment or a verdict, else the physical address (R373). -/
def Flit.addr (f : Flit) : Nat :=
  match f.seg, f.req with
  | some g, _ => g.name.toNat
  | none, some r => r.pa
  | none, none => 0
/-- OP: operation and type of an atomic; of a segment or a verdict its index, linger and destination context, and whether it is accepted, in places of
the model's own; of a link-control flit, 1 for a NAK, whose TAG names the flit (R373, log 51). -/
def Flit.op (f : Flit) : Nat :=
  if f.ty = 7 then (if f.nak then 1 else 0)
  else match f.seg, f.req with
  | some g, _ => g.idx + 2 ^ 6 * g.linger + 2 ^ 14 * g.dstCtx + (if f.accept then 2 ^ 22 else 0) + 2 ^ 23 * g.part
  | none, some r => (match r.op with | .atomic a ty _ _ => a + 16 * Ty.code ty | _ => 0)
  | none, none => 0
/-- Is the data of granule slot j poison (R373, R378)? -/
def Flit.bad (f : Flit) (j : Nat) : Bool :=
  match f.reply, f.req with
  | some r, some q => r.poison && r.bads.any (fun e => decide (e.1 = paLocal q.pa / 64 + j) && e.2 != .checkmiss)
  | some r, none => r.poison
  | none, some r => (match r.op with | .write _ p | .line _ _ p => p | _ => false)
  | none, none => false
/-- The check value of granule slot j (R189, R337). -/
def Flit.check (f : Flit) (j : Nat) : Nat :=
  (match f.seg with | some g => g.checks.getD j 0 | none => checkValue (Flit.slot f j) ((Flit.addr f) / 64 * 64 + 64 * j) 0).toNat
/-- The header of a flit, with bytes 0x3C to 0x3F zero (R373). -/
def Flit.header (f : Flit) : List Byte :=
  let n := ((Flit.data f).length + 63) / 64
  let chk (j : Nat) : Nat := if j < n then Flit.check f j else 0
  wordBytes 8 (f.ty + 2 ^ 8 * f.ctx + 2 ^ 16 * f.inc + 2 ^ 28 * f.age + 2 ^ 44 * f.src + 2 ^ 54 * f.dst) ++
  wordBytes 8 (f.seq + 2 ^ 12 * f.ack + 2 ^ 24 * (Flit.cls f) + 2 ^ 26 * min n 3 + 2 ^ 28 * ((List.range (min n 3)).foldl (fun b j => b + if Flit.bad f j then 2 ^ j else 0) 0)) ++
  wordBytes 8 (Flit.addr f) ++ wordBytes 8 (f.tag + 2 ^ 32 * (Flit.op f)) ++ wordBytes 8 (chk 0 + 2 ^ 32 * chk 1) ++ wordBytes 8 (chk 2) ++
  wordBytes 8 0 ++ wordBytes 8 0
/-- LCRC: check_value over the granules of the flit, tag 0, the header granule 0, the results XORed together (R374). -/
def Flit.linkCheck (f : Flit) : BitVec 32 :=
  (List.range 3).foldl (fun c j => c ^^^ checkValue (Flit.slot f j) 0 (j + 1)) (checkValue (Flit.header f) 0 0)
/-- A flit as it is sent: with its SEQ, its ACKSEQ and its link check (R374). -/
def Flit.send (f : Flit) (seq ack : Nat) : Flit :=
  let g := { f with seq := seq, ack := ack }
  { g with lcrc := (Flit.linkCheck g) }
/-- Flits in the order of their classes, the higher one first (R202, R374). -/
def byClass (fs : List Flit) : List Flit := fs.filter (fun f => decide ((Flit.cls f) = 2)) ++ fs.filter (fun f => decide ((Flit.cls f) ≠ 2))

/-- Sends flits, each with the next SEQ, while the retry buffer has room for them; the rest waits (R374). -/
def pumpGo : List Flit → Link → Link
  | [], x => { x with txq := [] }
  | f :: fs, x =>
    if x.retry.length < 512 then
      let g := Flit.send f x.txSeq x.rxSeq
      pumpGo fs { x with retry := x.retry ++ [g], wire := x.wire ++ [g], txSeq := (x.txSeq + 1) % 4096 }
    else { x with txq := f :: fs }
/-- Puts a flit on a link, or flits that go before any new one (R371, R374). -/
def Link.push (x : Link) (f : Flit) : Link := pumpGo (byClass (x.txq ++ [f])) x
def Link.pushFirst (x : Link) (fs : List Flit) : Link := pumpGo (byClass (fs ++ x.txq)) x
/-- A replay: the flits of the retry buffer from sequence n on are transmitted again (R374). -/
def Link.replay (x : Link) (n : Nat) : Link := { x with wire := x.wire ++ x.retry.dropWhile (fun g => decide (g.seq ≠ n % 4096)) }

/-- Sends a flit for module d, from link k on (R377); none where no link is usable. The link port drops a flit of an incarnation that has
ended, of a context of this module (R310, R376), and the context's link-use flag is set (R312). -/
def State.egress (s : State) (k d : Nat) (f : Flit) (own : Bool) : Option State :=
  (s.linkFrom k d).map (fun j =>
    if own && s.stale (agLink (2 + j)) f.ctx f.inc then s.drop f.ctx
    else
      let s1 := if own then s.setCtx f.ctx { s.ctx f.ctx with linkUse := true } else s
      s1.setLink (2 + j) ((s1.link (2 + j)).push f))

/-- k of R377 for a physical address. -/
def linkOf (pa d : Nat) : Nat := (pa / 4096 % 64) ^^^ (d % 64)

/-- What a write or an atomic of a context publishes that ends without its home's answer, its bundle having completed (R142, R378): LINKDOWN for
REMOTEDOWN; for REMOTETMO of a write REMOTETMO, with an EVAL that the spec does not state (log 47). An atomic's register carries that mark. The write of
a device agent, which asks for no answer, has the outcome that the agent took (log 22). -/
def State.remoteRecord (s : State) (r : MemReq) (k : FKind) : State :=
  if 256 ≤ r.ctx ∨ r.who = .none then s
  else match r.op with
    | .read _ | .rest _ _ => s
    | .write _ _ | .line _ _ _ =>
      if k = FKind.remotedown then s.record ⟨r.ctx, r.inc, none⟩ { kind := .linkdown, origin := 2, eval := BitVec.ofNat 64 r.pa }
      else s.record ⟨r.ctx, r.inc, none⟩ { kind := k, origin := 2, eval := s.freeW 410 }
    | .atomic _ _ _ _ =>
      if k = FKind.remotedown then s.record ⟨r.ctx, r.inc, none⟩ { kind := .linkdown, origin := 2, eval := BitVec.ofNat 64 r.pa } else s

/-- The end of a request that found no link, or no response in time (R378): REMOTEDOWN or REMOTETMO, in the form of its path. A channel's write
stops its channel (R159, log 47). -/
def State.remoteFail (s : State) (r : MemReq) (k : FKind) : State :=
  let n := match r.op with | .read n => n | _ => 8
  match r.who with
  | .ackS site slot ch wp far q => s.answer r.ctx r.inc (.ackBad site slot ch wp far q k r.va) { data := [], poison := false, err := some k }
  | _ => (s.remoteRecord r k).answer r.ctx r.inc r.who { data := List.replicate n 0, poison := false, err := some k }

/-- A memory request leaves for another module, over a link (R326, R377, R378). -/
def State.sendRemote (s : State) (r : MemReq) : State :=
  let d := paModule r.pa
  let ty := match r.op with | .read _ | .rest _ _ => 0 | .write _ _ | .line _ _ _ => 1 | .atomic _ _ _ _ => 2
  let f : Flit := { ty := ty, ctx := r.ctx, inc := r.inc, age := 0, src := s.modnum, dst := d, seq := 0, ack := 0, nak := false,
                    lcrc := 0, tag := s.nextTag, req := some r, reply := none, seg := none, accept := false }
  match s.egress (linkOf r.pa d) d f true with
  | none => s.remoteFail r FKind.remotedown
  | some s1 => { s1 with out := KMap.set s1.out s1.nextTag (s1.time, r), nextTag := s1.nextTag + 1 }

/-- Bytes that a request reads or writes. -/
def MemOp.size : MemOp → Nat
  | .read n => n
  | .rest _ _ => 64
  | .write bs _ => bs.length
  | .line bs m _ => ((masked bs m).filter (·.1)).length
  | .atomic _ ty _ _ => tyBytes (Ty.code ty)

/-- Flits in which a request leaves a tile: one, and for data to write one for each 64 bytes (R153, R423). -/
def MemOp.flits : MemOp → Nat
  | .write bs _ => (bs.length + 63) / 64
  | .line bs m _ => (if ((masked bs m).take 64).any (·.1) then 1 else 0) + (if ((masked bs m).drop 64).any (·.1) then 1 else 0)
  | _ => 1

/-- What a request of a context for this module's memory waits for at its home: tokens of the hedge agent for its bytes (R317). -/
def hedgeHold (r : MemReq) : PortHold := ⟨6144 + stackOf (paLocal r.pa), r.ctx, MemOp.size r.op, 1⟩

/-- A memory request leaves, its flits at a tile's port paid for: to its home in this module, or over a link. -/
def State.sendMem (s : State) (chan : Nat) (r : MemReq) : State :=
  if paModule r.pa = s.modnum then s.sendHeld [hedgeHold r] chan (.memoryRequestAtHome r) none else s.sendRemote r

/-- A memory request goes to a tile's port, and from there to its home or over a link (R317). -/
def State.sendMemAt (s : State) (site chan : Nat) (r : MemReq) : State :=
  s.sendHeld (⟨site, r.ctx, 64, MemOp.flits r.op⟩ :: if paModule r.pa = s.modnum then [hedgeHold r] else []) chan (.memoryRequestAtHome r) none

/-- An atomic of n bytes goes to its home: behind the slot's earlier atomics to the location, and the tile's earlier write-backs of the line; later
accesses of path C do not wait for it (R143, R359). -/
def State.sendAtomic (s : State) (site slot n : Nat) (r : MemReq) : State :=
  { s with agenda := s.agenda ++ [{
      due := s.time, chan := wordChan site slot r.pa, ev := .memoryRequestAtHome r, rel := none
      holds := ⟨site, r.ctx, 64, 1⟩ :: if paModule r.pa = s.modnum then [hedgeHold r] else []
      also := if n = 8 then [wordChan site slot (r.pa + 4)] else [], after := [lineChan site r.pa] }] }

/-- Performs a request at its home (R338, R354, R366): the state after it, and what answers it. -/
def State.performAt (s : State) (r : MemReq) : State × MemReply :=
  let la := paLocal r.pa
  match r.op with
  | .read n => s.homeRead r.ctx r.inc la n
  | .rest hi first =>
    let (s1, rep) := s.homeRead r.ctx r.inc (if hi then la else la + 64) 64
    (s1, { data := if hi then rep.data ++ first.data else first.data ++ rep.data, poison := first.poison || rep.poison
           err := first.err.orElse (fun _ => rep.err), bads := first.bads ++ rep.bads })
  | .write bs p => (s.homeWrite r.ctx r.inc la bs p, { data := [], poison := false, err := none, bads := s.mergeBads la bs.length })
  | .line bs m p => (s.homeMask r.ctx r.inc la bs m p, { data := [], poison := false, err := none, bads := s.maskBads la bs.length m })
  | .atomic aop ty v cmp =>
    let n := tyBytes (Ty.code ty)
    let rep := (s.homeRead r.ctx r.inc la n).2
    let new := atomNew aop (Ty.code ty) (bytesWord rep.data) (v.toNat % 2 ^ (8 * n)) cmp.toNat
    (s.homeWrite r.ctx r.inc la (wordBytes n new) false, rep)

/-- Performs a request and answers whoever asked. -/
def State.perform (s : State) (r : MemReq) : State := let p := s.performAt r; p.1.answer r.ctx r.inc r.who p.2

/-- Does a request move a whole L1 line? Its halves of 64 bytes are performed one after the other (R355). -/
def MemOp.whole : MemOp → Bool
  | .read n => n == 128
  | .line bs m p => MemOp.flits (.line bs m p) == 2
  | _ => false
/-- The tile whose L1 line a request moves whole. -/
def MemReq.lineOf (r : MemReq) : Option Nat :=
  match r.who with
  | .fill site _ _ _ | .ackC site _ _ => if MemOp.whole r.op then some site else none
  | _ => none
/-- Performs one half of a line's request, the upper one where `hi`; what is left of the request (R355). -/
def State.performHalf (s : State) (r : MemReq) (hi : Bool) : State × MemReq :=
  let la := paLocal r.pa
  match r.op with
  | .line bs m p =>
    let off := if hi then 0 else 64
    (s.homeMask r.ctx r.inc (if hi then la + 64 else la) (if hi then bs.drop 64 else bs.take 64) (if hi then m >>> 64 else m) p,
      { r with va := r.va + off, pa := r.pa + off, op := .line (if hi then bs.take 64 else bs.drop 64) (if hi then m else m >>> 64) p })
  | _ =>
    let (s1, rep) := s.homeRead r.ctx r.inc (if hi then la + 64 else la) 64
    (s1, { r with op := .rest hi rep })

/-- MEMORY_REQUEST_AT_HOME: dropped where its incarnation is stale (R310), else performed (R354), a line by halves in either order (R355). -/
def execMemoryRequestAtHome (r : MemReq) (s : State) : Host.Outcome State Fault Refusal :=
  if r.ctx < 256 ∧ s.stale (agMem (stackOf (paLocal r.pa))) r.ctx r.inc then .next (s.drop r.ctx)
  else match MemReq.lineOf r with
    | some site =>
      let (s1, r1) := s.performHalf r (decide (Config.pick s.tick 610 % 2 = 1))
      .next (s1.sendFront (lineChan site r.pa) (.memoryRequestAtHome r1))
    | none => .next (s.perform r)

end Sys2Proof.Machine
end

