-- ==== Sys2Proof/Machine/Scratch.lean ====
section
/-! DEFINITION. The scratchpad of a tile as a slot addresses it (06_tile_memory R134 to R139): windows, lent ways, the code region,
armed landing areas, ECC, and the dirty map (R305). -/

namespace Sys2Proof.Machine

/-- Is way n lent to the slot (R146)? -/
def Tile.lentTo (t : Tile) (slot n : Nat) : Bool :=
  match t.ways.toList.getD n .gated with | .lent k => k == slot | _ => false

/-- The tile byte that a program address reaches (R135); lent way n starts at tile byte 0x20_0000 + 0x1_0000 n. -/
def progByte (x : Slot) (t : Tile) (slot p : Nat) : Option Nat :=
  if p < 0x100000 then (if p < x.sys.sizeA then some (x.sys.baseA * 4096 + p) else none)
  else if p < 0x200000 then
    (if p - 0x100000 < x.sys.sizeB then some (0x100000 + x.sys.baseB * 4096 + (p - 0x100000)) else none)
  else if p < 0x2A0000 then (if t.lentTo slot ((p - 0x200000) / 0x10000) then some p else none)
  else none

/-- The end of the run of valid program addresses that starts at p; p itself where p is not valid. -/
def validEnd (x : Slot) (t : Tile) (slot p : Nat) : Nat :=
  if p < 0x100000 then max p x.sys.sizeA
  else if p < 0x200000 then max p (0x100000 + x.sys.sizeB)
  else if p < 0x2A0000 ∧ t.lentTo slot ((p - 0x200000) / 0x10000) then 0x200000 + 0x10000 * ((p - 0x200000) / 0x10000 + 1)
  else p

/-- The lowest address of [p, e) that is not valid (R135), looking at n runs. -/
def firstInvalidGo (x : Slot) (t : Tile) (slot : Nat) : Nat → Nat → Nat → Option Nat
  | 0, p, e => if p < e then some p else none
  | n + 1, p, e =>
    if e ≤ p then none
    else if validEnd x t slot p ≤ p then some p else firstInvalidGo x t slot n (validEnd x t slot p) e
def firstInvalid (x : Slot) (t : Tile) (slot p n : Nat) : Option Nat := firstInvalidGo x t slot 13 p (p + n)

/-- Key of a tile byte in the scratch memory of the wafer. -/
def scratchKey (site b : Nat) : Nat := site * 0x400000 + b

/-- Is the area of a subscription slot armed (R137)? -/
def SubSlot.armed (u : SubSlot) : Bool := u.st == .armed || u.st == .waitspace

/-- The lowest byte of [p, p + n) in an armed landing area (R137). -/
def firstArmed (x : Slot) (p n : Nat) : Option Nat :=
  x.sub.toList.foldl (fun o u =>
    if u.armed && decide (p < u.land + u.bytes) && decide (u.land < p + n) then
      match o with | none => some (max p u.land) | some b => some (min b (max p u.land))
    else o) none

/-- Has the byte at p landed, where it lies in an armed area (R137)? Segments of 4 KiB land whole (R189). -/
def unlanded (x : Slot) (p : Nat) : Bool :=
  x.sub.toList.any (fun u => u.armed && decide (u.land ≤ p) && decide (p < u.land + u.bytes) &&
    !(match u.recv with | some r => r.got.contains ((p - u.land) / 4096) | none => false))

/-- Faults of a scratch access of n bytes with an alignment (R135, R139, R140): SPALIGN, SPRANGE, and ECCLOCAL of a read. EVAL of SPALIGN is the
access's address, which the spec does not state (DESIGN CHOICE, log 44; so is that of an ATOMS's ATOMALIGN). -/
def State.scratchFault (s : State) (site slot p n align origin : Nat) (read : Bool) : Option TrapInfo :=
  let x := s.slotAt site slot
  let t := s.tileAt site
  if p % align ≠ 0 then some ⟨.spalign, origin, BitVec.ofNat 64 p⟩
  else match firstInvalid x t slot p n with
    | some b => some ⟨.sprange, origin, BitVec.ofNat 64 b⟩
    | none =>
      if read && !s.scratchUE.isEmpty then
        match (List.range ((p % 8 + n + 7) / 8)).find? (fun i =>
            match progByte x t slot (p - p % 8 + 8 * i) with
            | some b => s.scratchUE.contains (scratchKey site b / 8)
            | none => false) with
        | some i => some ⟨.ecclocal, origin, BitVec.ofNat 64 (p - p % 8 + 8 * i)⟩
        | none => none
      else none

/-- CODEWRITE and LANDWRITE of a write of n bytes (R136, R137). -/
def Slot.writeFault (x : Slot) (p n origin : Nat) : Option TrapInfo :=
  if p < x.codeSize ∧ 0 < n then some ⟨.codewrite, origin, BitVec.ofNat 64 p⟩
  else match firstArmed x p n with
    | some b => some ⟨.landwrite, origin, BitVec.ofNat 64 b⟩
    | none => none

/-! ### Shapes and operands of the matrix unit (R163, R164), and the bytes it shares (R168) -/

namespace Shp
def bstr (h : Word) : Nat := 16 * (h.extractLsb' 47 16).toNat
def astr (h : Word) : Nat := 16 * (h.extractLsb' 31 16).toNat
def btype (h : Word) : Nat := (h.extractLsb' 27 4).toNat
def atype (h : Word) : Nat := (h.extractLsb' 23 4).toNat
def k (h : Word) : Nat := (h.extractLsb' 11 12).toNat + 1
def n (h : Word) : Nat := (h.extractLsb' 5 6).toNat + 1
def m (h : Word) : Nat := (h.extractLsb' 0 5).toNat + 1
def typeOk (t : Nat) : Bool := t == 0 || t == 8 || t == 9 || t == 11 || t == 12 || t == 13
end Shp

/-- Bytes of a run of n elements: two k4 to a byte (R164). -/
def runBytes (t n : Nat) : Nat := if t = 13 then (n + 1) / 2 else n * tyBytes t

/-- Runs (address, bytes) of the A operand of a multiply (R164). -/
def aRuns (o : MOp) : List (Nat × Nat) :=
  if o.kind = 1 then (List.range (Shp.k o.shape)).map (fun k => (o.ab.toNat + Shp.astr o.shape * k, runBytes (Shp.atype o.shape) (Shp.m o.shape)))
  else (List.range (Shp.m o.shape)).map (fun i => (o.ab.toNat + Shp.astr o.shape * i, runBytes (Shp.atype o.shape) (Shp.k o.shape)))
/-- Row k of the B operand. -/
def bRow (o : MOp) (k : Nat) : Nat × Nat := (o.bb.toNat + Shp.bstr o.shape * k, runBytes (Shp.btype o.shape) (Shp.n o.shape))
def bRuns (o : MOp) : List (Nat × Nat) := (List.range (Shp.k o.shape)).map (bRow o)

/-- Scratch runs that the k-steps [k0, k1) of a multiply read (R164, R169). -/
def stepRuns (o : MOp) (k0 k1 : Nat) : List (Nat × Nat) :=
  let t := Shp.atype o.shape
  let lo := if t = 13 then k0 / 2 else runBytes t k0
  let a := if o.kind = 1 then ((aRuns o).take k1).drop k0 else (aRuns o).map (fun r => (r.1 + lo, runBytes t k1 - lo))
  if k1 ≤ k0 then [] else a ++ (if o.kind = 2 then [] else ((bRuns o).take k1).drop k0)

/-- Is it a multiply? -/
def MOp.mul (o : MOp) : Bool := decide (o.kind < 3)
/-- Scratch runs that an M syllable of the unit reads or writes (R164, R176 to R178). -/
def scratchRuns (o : MOp) : List (Nat × Nat) :=
  match o.kind with
  | 0 => aRuns o ++ bRuns o
  | 1 => aRuns o ++ bRuns o
  | 2 => aRuns o
  | 3 => []
  | 4 => [(o.ab.toNat, 32)]
  | 6 => [(o.ab.toNat, 2048 * tyBytes o.ty)]
  | _ => [(o.ab.toNat, 8192)]

/-- Does a syllable of the unit read the byte at a program address of its slot? -/
def MOp.reads (o : MOp) (p : Nat) : Bool := decide (o.kind ≠ 6) && (scratchRuns o).any (fun r => decide (r.1 ≤ p) && decide (p < r.1 + r.2))
/-- A byte that is still to be read is written: a read may give any of `olds`, or what it holds then; `unit` is the address of an atomic (R143). -/
def noteRace (rs : List Race) (p : Nat) (olds : List Byte) (unit : Option Nat) : List Race :=
  if rs.any (fun r => decide (r.p = p)) then
    rs.map (fun r => if r.p = p then ⟨p, r.vals ++ (if r.now then olds else []), true, if r.unit = unit then unit else none⟩ else r)
  else rs ++ [⟨p, olds, true, unit⟩]
/-- What a read of a byte that holds `now` gives: where it is raced, either value, chosen by draw `k`, or by one draw for all bytes of an atomic. -/
def State.raceByte (s : State) (rs : List Race) (p k : Nat) (now : Byte) : Byte :=
  match rs.find? (fun r => decide (r.p = p)) with
  | some r =>
    let l := r.vals ++ (if r.now then [now] else [])
    l.getD (Config.pick s.tick (match r.unit with | some u => 600000 + u | none => k) % l.length) now
  | none => now
/-- What the MACSTs that the unit holds are to write to a byte of their slot: the executing one and those that wait (R168). -/
def Tile.macstVals (t : Tile) (slot p : Nat) : List Byte :=
  t.unit.filterMap (fun o => if o.slot = slot ∧ o.ab.toNat ≤ p then o.out[p - o.ab.toNat]? else none)

/-- One byte of scratch as it is held; a granule of an armed area that has not landed reads as an undefined value (R137). -/
def State.scratchHeld (s : State) (site slot p place : Nat) : Byte :=
  let x := s.slotAt site slot
  if unlanded x p then Config.freeByte s.tick place
  else match progByte x (s.tileAt site) slot p with
    | some b =>
      if rangesHave s.scratchUndef (scratchKey site b) then Config.freeByte s.tick place
      else Memory.readByte s.scratch (scratchKey site b)
    | none => 0
/-- One byte of scratch as a slot reads it; one that a pending MACST writes reads as either value (R168). -/
def State.scratchByte (s : State) (site slot p place : Nat) : Byte :=
  match (s.tileAt site).macstVals slot p with
  | [] => s.scratchHeld site slot p place
  | b :: bs => (s.scratchHeld site slot p place :: b :: bs).getD (Config.pick s.tick (50000 + place) % (bs.length + 2)) b

/-- n bytes of scratch from program address p; `place` tells apart the undefined values of one step. -/
def State.scratchRead (s : State) (site slot : Nat) : Nat → Nat → Nat → List Byte
  | _, 0, _ => []
  | p, n + 1, place => s.scratchByte site slot p place :: s.scratchRead site slot (p + 1) n (place + 1)

/-- Sets the dirty bit of a block (R305). -/
def Slot.touch (x : Slot) (p : Nat) : Slot := if x.dirty.contains (p / 4096) then x else { x with dirty := x.dirty ++ [p / 4096] }

/-- Writes one byte of scratch at a program address and sets its block's dirty bit. -/
def State.scratchPut (s : State) (site slot p : Nat) (b : Byte) : State :=
  let x := s.slotAt site slot
  match progByte x (s.tileAt site) slot p with
  | some t =>
    let s1 := if x.dirty.contains (p / 4096) then s else s.setSlotAt site slot (x.touch p)
    { s1 with scratch := Memory.writeByte s1.scratch (scratchKey site t) b
              scratchUndef := if s1.scratchUndef.isEmpty then []
                              else rangesDel s1.scratchUndef (scratchKey site t) (scratchKey site t + 1) }
  | none => s

/-- Writes bytes of scratch from program address p on. -/
def State.scratchPutAll (s : State) (site slot : Nat) : Nat → List Byte → State
  | _, [] => s
  | p, b :: bs => State.scratchPutAll (s.scratchPut site slot p b) site slot (p + 1) bs

/-- A write of all eight bytes of a word clears its error (R139): the words of [p, p + n). -/
def State.clearUE (s : State) (site slot p n : Nat) : State :=
  if s.scratchUE.isEmpty then s
  else
    let x := s.slotAt site slot
    let t := s.tileAt site
    let words := (List.range (n / 8 + 1)).filterMap (fun i =>
      let a := p + (8 - p % 8) % 8 + 8 * i
      if a + 8 ≤ p + n then (progByte x t slot a).map (fun b => scratchKey site b / 8) else none)
    { s with scratchUE := s.scratchUE.filter (fun w => !(words.contains w)) }

/-- The syllables of the unit that read bytes about to be written may read either value of them (R168). -/
def State.noteWrites (s : State) (site slot p n : Nat) (unit : Option Nat) : State :=
  let t := s.tileAt site
  if t.unit.isEmpty then s
  else s.setTileAt site { t with unit := t.unit.map (fun o => if o.slot = slot then
    { o with raced := (List.range n).foldl (fun rs i =>
      if o.reads (p + i) then noteRace rs (p + i) [s.scratchHeld site slot (p + i) (9000 + i)] unit else rs) o.raced } else o) }

/-- A write to scratch: bytes, ECC, dirty map; `unit` is the address of an atomic. -/
def State.scratchWrite (s : State) (site slot p : Nat) (bs : List Byte) (unit : Option Nat := none) : State :=
  ((s.noteWrites site slot p bs.length unit).scratchPutAll site slot p bs).clearUE site slot p bs.length

/-- A syllable of the bundle at issue does not see the bundle's own stores: it reads what the bytes held before them (R49, R168). -/
def State.ownStores (s : State) (o : MOp) : MOp :=
  { o with raced := s.iss.wr.flatMap (fun w => (List.range w.2.1.length).filterMap (fun i =>
      if o.reads (w.1 + i) then some ⟨w.1 + i, [s.scratchHeld s.iss.site s.iss.slot (w.1 + i) (9000 + i)], false, none⟩ else none)) }

/-- Makes the n bytes from tile byte b on undefined (R137, R146). -/
def State.tileForget (s : State) (site b n : Nat) : State :=
  { s with scratchUndef := s.scratchUndef ++ [(scratchKey site b, scratchKey site b + n)] }

/-- Makes the n bytes from program address p on undefined (R137, R187). -/
def State.scratchForget (s : State) (site slot p n : Nat) : State :=
  (partsOf (n / 64 + 2) p n).foldl (fun s e => match progByte (s.slotAt site slot) (s.tileAt site) slot e.1 with
    | some b => s.tileForget site b e.2
    | none => s) s

end Sys2Proof.Machine
end

