-- ==== Sys2Proof/Machine/L1.lean ====
section
/-! DEFINITION. The L1 data cache of a tile (06_tile_memory R142, R145 to R150): lines, fills, write-backs, maintenance walks, and the
acquire part of R151 and R360. -/

namespace Sys2Proof.Machine

/-- The slot of a tile bound to a context and incarnation (R301). -/
def State.slotOf (s : State) (site ctx inc : Nat) : Option Nat :=
  (List.range 4).find? (fun k => (s.slotAt site k).bound == some (ctx, inc))

def Line.is (l : Line) (ctx inc vl : Nat) : Bool := decide (l.ctx = ctx) && decide (l.inc = inc) && decide (l.vline = vl)
def Tile.line? (t : Tile) (ctx inc vl : Nat) : Option Line := t.lines.find? (fun l => l.is ctx inc vl)
/-- Replaces the line with the same key. -/
def Tile.putLine (t : Tile) (l : Line) : Tile := { t with lines := t.lines.map (fun m => if m.is l.ctx l.inc l.vline then l else m) }
def Tile.dropLine (t : Tile) (l : Line) : Tile := { t with lines := t.lines.filter (fun m => !(m.is l.ctx l.inc l.vline)) }
def State.putLine (s : State) (site : Nat) (l : Line) : State := s.setTileAt site ((s.tileAt site).putLine l)
def State.dropLine (s : State) (site : Nat) (l : Line) : State := s.setTileAt site ((s.tileAt site).dropLine l)

/-- Marks a line as the most recently used. -/
def State.touchLine (s : State) (site : Nat) (l : Line) : State :=
  let t := s.tileAt site
  s.setTileAt site { t.putLine { l with used := t.clock + 1 } with clock := t.clock + 1 }

def Line.bytes (l : Line) : List Byte := bytesOf 128 l.data.toNat
def lineOf (bs : List Byte) : BitVec 1024 := BitVec.ofNat 1024 (bytesWord bs)

/-- Counts a C write that its home is to acknowledge, for the slot whose context it is (R358). -/
def State.countC (s : State) (site slot : Nat) (far : Bool) : State :=
  let x := s.slotAt site slot
  s.setSlotAt site slot (if far then { x with ackCR := x.ackCR + 1 } else { x with ackC := x.ackC + 1 })

/-- Is a physical address that of another module? -/
def State.far (s : State) (pa : Nat) : Bool := decide (paModule pa ≠ s.modnum)

/-- Has an uncorrectable error struck a line's way (R145)? -/
def State.lineStruck (s : State) (site : Nat) (l : Line) : Bool := l.filled && s.struck.contains (.l1 site (l.vline % 512) l.way)
/-- A way of a set is written afresh, or its error has been met. -/
def State.mendWay (s : State) (site set way : Nat) : State := { s with struck := s.struck.filter (fun e => e != .l1 site set way) }

/-- Writes a line back to the physical address that it holds: the bytes that stores have put into it since it was last written back, for a write-back
performs the stores of path C and no others (R354, R356, R365; DEDUCED: log 14). A poisoned line, and one that an error has struck, is written back
whole as poison. The line stays, clean (R145, R146, R331). -/
def State.writeBack (s : State) (site : Nat) (l : Line) : State :=
  let bad := l.poison || s.lineStruck site l
  let s1 := s.putLine site { l with dirty := false, through := false, poison := bad, wmask := 0 }
  let req (who : Requester) : MemReq := ⟨l.ctx, l.inc, 128 * l.vline, l.pa, .line l.bytes (if bad then BitVec.allOnes 128 else l.wmask) bad, who⟩
  match s1.slotOf site l.ctx l.inc with
  | some k => (s1.countC site k (s.far l.pa)).sendMemAt site (lineChan site l.pa) (req (.ackC site k (s.far l.pa)))
  | none => s1.sendMemAt site (lineChan site l.pa) (req .none)

/-- A line loses its lock other than by LUNLK: LOCKLOST of the slot that held it is set (R149). -/
def State.loseLock (s : State) (site : Nat) (l : Line) : State :=
  match l.lock with
  | some k => s.setSlotAt site k { s.slotAt site k with lockLost := true }
  | none => s

/-- Asks the home for a missing line (R145), on path C. The line has no way until its fill arrives. -/
def State.startFill (s : State) (site ctx inc vl pa : Nat) (lock : Option Nat) : State :=
  let t := s.tileAt site
  let l : Line := { ctx := ctx, inc := inc, vline := vl, pa := pa, way := 10, data := 0, filled := false, wmask := 0, dirty := false,
                    through := false, once := false, poison := false, lock := lock, used := t.clock + 1, waiters := [] }
  (s.setTileAt site { t with lines := t.lines ++ [l], clock := t.clock + 1 }).sendMemAt site (lineChan site pa)
    ⟨ctx, inc, 128 * vl, pa, .read 128, .fill site ctx inc vl⟩

/-- The line, asked for if it is missing. -/
def State.needLine (s : State) (site ctx inc vl pa : Nat) : State :=
  if ((s.tileAt site).line? ctx inc vl).isSome then s else s.startFill site ctx inc vl pa none

/-- Has a way the role already that a change of a slot asks for: GATED for WAYGATE, LENT to the slot for WAYMASK? -/
def Tile.hasRole (t : Tile) (gate : Bool) (slot w : Nat) : Bool := if gate then t.ways.toList.getD w .cache == .gated else t.lentTo slot w
/-- Ways that a change takes out of the cache, and ways that it returns, as the roles stand now (R147, R148). -/
def WayChange.leaves (c : WayChange) (t : Tile) (slot w : Nat) : Bool := c.req.testBit w && !(t.hasRole c.gate slot w)
def WayChange.returns (c : WayChange) (t : Tile) (slot w : Nat) : Bool := t.hasRole c.gate slot w && !(c.req.testBit w)

/-- Ways that a WAYMASK or WAYGATE under way takes out of the cache: no fill allocates there (R147, R148). -/
def State.leavingWays (s : State) (site : Nat) : List Nat :=
  (List.range 4).flatMap (fun k => (s.slotAt site k).wayChange.flatMap (fun c =>
    (List.range 10).filter (fun w => c.leaves (s.tileAt site) k w)))

/-- Is a way CACHE, and not to leave the cache by a change under way (R146)? -/
def State.cacheWay (s : State) (site w : Nat) : Bool :=
  (s.tileAt site).ways.toList.getD w .gated == .cache && !((s.leavingWays site).contains w)

/-- The way that a fill of a set takes: a free CACHE way, or the way of the least recently used unlocked line (R145). -/
def State.fillWay (s : State) (site vl : Nat) : Option (Nat × Option Line) :=
  let t := s.tileAt site
  let ways := (List.range 10).filter (fun w => s.cacheWay site w)
  let inSet := t.lines.filter (fun l => l.filled && decide (l.vline % 512 = vl % 512))
  match ways.find? (fun w => !(inSet.any (fun l => decide (l.way = w)))) with
  | some w => some (w, none)
  | none =>
    (inSet.filter (fun l => l.lock.isNone && ways.contains l.way)).foldl (fun o l => match o with
      | some (_, some m) => if l.used < m.used then some (l.way, some l) else o
      | _ => some (l.way, some l)) none

/-- The bytes of a line as they are after a fill: stored bytes stay, the others come from memory (R145). -/
def mergeLine (mask : BitVec 128) (kept : List Byte) (got : List Byte) : List Byte :=
  (List.range 128).map (fun i => if mask.getLsbD i then kept.getD i 0 else got.getD i 0)

/-- The value that a load takes from the bytes of its line (R141). -/
def loadValue (bs : List Byte) (off n : Nat) (ty : Ty) (vec : Bool) : VReg :=
  let w := bytesWord ((bs.drop off).take n)
  if vec then BitVec.ofNat 1024 w
  else (if Ty.code ty < 8 then tyExtend (Ty.code ty) w else BitVec.ofNat 64 w).zeroExtend 1024

/-- Sends the result of a load to its register (R142). -/
def State.loadReply (s : State) (site : Nat) (l : Line) (w : LineWaiter) (bs : List Byte) (mark : Option FKind) : State :=
  s.send 0 (.interlockedResultLand site w.slot l.ctx l.inc w.dst (loadValue bs w.off w.n w.ty w.vec) (.load mark w.ea w.acq none (s.far l.pa)))

/-- What a walk does to one line that is filled (table of R150); kind 3 is an acquire part (R151). -/
def State.maintLine (s : State) (site kind : Nat) (l : Line) : State :=
  match kind with
  | 0 => if l.dirty || l.poison then s.writeBack site l else s
  | 1 => ((if l.dirty || l.poison then s.writeBack site l else s).loseLock site l).dropLine site l
  | 2 => (s.loseLock site l).dropLine site l
  | _ => ((if l.dirty then s.writeBack site l else s).loseLock site l).dropLine site l

/-- L1_FILL: the data of a missing line arrives (R142, R145, R337). A locked line whose fill ends in REMOTEDOWN or REMOTETMO is gone with its lock,
and LOCKLOST is not set (DESIGN CHOICE, log 45). -/
def execL1Fill (site ctx inc vl : Nat) (r : MemReply) (s : State) : Host.Outcome State Fault Refusal :=
  if s.stale (agSite site 1) ctx inc ∨ (s.tileAt site).frozen then .next (s.drop ctx)
  else match (s.tileAt site).lines.find? (fun l => l.is ctx inc vl && !l.filled) with
    | none => .next s
    | some l =>
      let rec_ (k : FKind) (s : State) : State := (s.detect site k).record ⟨ctx, inc, none⟩ { kind := k, origin := 2, eval := s.freeW 400 }
      match r.err with
      | some .remotedown => .next (l.waiters.foldl (fun s w => s.loadReply site l w r.data (some .remotedown))
          (if l.dirty then rec_ .linkdown (s.dropLine site l) else s.dropLine site l))
      | some .remotetmo => .next (l.waiters.foldl (fun s w => s.loadReply site l w r.data (some .remotetmo))
          (if l.dirty then rec_ .remotetmo (s.dropLine site l) else s.dropLine site l))
      | e =>
        let s0 := if e = some .checkmiss then rec_ .checkmiss s else s
        let poison := r.poison || e.isSome
        let s1 := l.waiters.foldl (fun s w => s.loadReply site l w (mergeLine w.smask (bytesOf 128 w.snap.toNat) r.data)
          (if poison then some .poisonld else none)) s0
        let full : Line := { l with data := lineOf (mergeLine l.wmask l.bytes r.data), filled := true, poison := poison,
                                    waiters := [] }
        match s1.fillWay site vl with
        | some (w, victim) =>
          let s2 := match victim with
            | some v => (if v.dirty then s1.writeBack site v else s1).dropLine site v
            | none => s1
          let s3 := (s2.putLine site { full with way := w }).mendWay site (vl % 512) w
          let kept : Line := { full with way := w }
          .next (if full.once then s3.maintLine site 3 kept else if full.through && full.dirty then s3.writeBack site kept else s3)
        | none =>
          let s2 := s1.putLine site full
          .next (((if full.dirty then s2.writeBack site full else s2).loseLock site full).dropLine site full)

/-- L1_WRITEBACK: a dirty line is written back at any time (R359). -/
def execL1Writeback (site ctx vl : Nat) (s : State) : Host.Outcome State Fault Refusal :=
  match (s.tileAt site).lines.find? (fun l => decide (l.ctx = ctx) && decide (l.vline = vl) && l.filled && l.dirty) with
  | some l => .next (s.writeBack site l)
  | none => .next s

/-! ### Loads and stores on path C (R142, R359, R360) -/

/-- A load of n bytes at va, translated to pa: from its line, or when its line arrives. -/
def State.loadC (s : State) (site slot ctx inc va pa n : Nat) (dst : Reg) (ty : Ty) (vec : Bool) (ea : Word) (acq : Option Scope) : State :=
  let vl := va / 128
  let off := va % 128
  let s0 := s.setSlotAt site slot ((s.slotAt site slot).await dst)
  let s1 := s0.needLine site ctx inc vl (pa - pa % 128)
  match (s1.tileAt site).line? ctx inc vl with
  | none => s1
  | some l =>
    let w : LineWaiter := { slot := slot, dst := dst, off := off, n := n, ty := ty, vec := vec, ea := ea, acq := acq, snap := l.data,
                            smask := l.wmask }
    if l.filled then (s1.touchLine site l).loadReply site l w l.bytes (if l.poison then some .poisonld else none)
    else s1.putLine site { l with waiters := l.waiters ++ [w] }

/-- A store of bytes at va (R142); `through` writes the line back as soon as the store is in it (R360). -/
def State.storeC (s : State) (site ctx inc va pa : Nat) (bs : List Byte) (through : Bool) : State :=
  let vl := va / 128
  let off := va % 128
  let s1 := s.needLine site ctx inc vl (pa - pa % 128)
  match (s1.tileAt site).line? ctx inc vl with
  | none => s1
  | some l =>
    let hit (i : Nat) : Bool := decide (off ≤ i) && decide (i < off + bs.length)
    let data := lineOf ((List.range 128).map (fun i => if hit i then bs.getD (i - off) 0 else l.bytes.getD i 0))
    let mask := l.wmask ||| BitVec.ofNat 128 ((2 ^ bs.length - 1) * 2 ^ off)
    let l1 : Line := { l with data := data, wmask := mask, dirty := true, through := l.through || through }
    let s2 := s1.touchLine site l1
    if through && l.filled then s2.writeBack site { l1 with used := (s2.tileAt site).clock } else s2

/-- The C stores of the bundle at issue, L1's over L0's (R359). -/
def applyGlobal (site ctx inc : Nat) : List (Nat × Nat × List Byte × Bool) → State → State
  | [], s => s
  | (va, pa, bs, th) :: r, s => applyGlobal site ctx inc r (s.storeC site ctx inc va pa bs th)

/-! ### Maintenance (R150, R151) -/

/-- Does a line of the context have a maintenance walk ahead of it? A C access that touches it waits (R150). -/
def Tile.walkAhead (t : Tile) (ctx vl : Nat) : Bool :=
  t.walks.any (fun w => decide (w.ctx = ctx) && w.lines.contains vl)

/-- Starts a walk over the lines of the context that are present and that `sel` picks. -/
def State.startWalk (s : State) (site kind ctx inc : Nat) (slot : Option Nat) (lo hi : Nat) (sel : Nat → Bool) : State :=
  let t := s.tileAt site
  let ls := (t.lines.filter (fun l => decide (l.ctx = ctx) && decide (l.inc = inc) && sel l.vline)).map (·.vline)
  s.setTileAt site { t with walks := t.walks ++ [⟨kind, ctx, slot, lo, hi, ls⟩] }

/-- Starts an acquire part beyond TILE scope: every line of the context is written back if dirty and invalidated (R151, R360). -/
def State.startAcquire (s : State) (site slot ctx inc : Nat) : State :=
  let s1 := s.setSlotAt site slot { s.slotAt site slot with acquiring := (s.slotAt site slot).acquiring + 1 }
  s1.startWalk site 3 ctx inc (some slot) 0 (2 ^ 56) (fun _ => true)

/-- The end of a walk: an acquire part lets C and A syllables go on (R360). -/
def State.endWalk (s : State) (site : Nat) (w : MaintWalk) : State :=
  match w.kind, w.slot with
  | 3, some k => s.setSlotAt site k { s.slotAt site k with acquiring := (s.slotAt site k).acquiring - 1 }
  | _, _ => s

/-- May a walk pass a line now: it is filled, or gone? -/
def Tile.passable (t : Tile) (ctx vl : Nat) : Bool := !(t.lines.any (fun l => decide (l.ctx = ctx) && decide (l.vline = vl) && !l.filled))

/-- One step of the first walk of a list that can go on. -/
def State.walkStep (s : State) (site : Nat) : List MaintWalk → List MaintWalk → State
  | _, [] => s
  | done, w :: rest =>
    let t := s.tileAt site
    if w.lines.isEmpty then (s.setTileAt site { t with walks := done ++ rest }).endWalk site w
    else match w.lines.find? (fun vl => t.passable w.ctx vl) with
      | some vl =>
        let s1 := s.setTileAt site { t with walks := done ++ [{ w with lines := w.lines.erase vl }] ++ rest }
        match t.lines.find? (fun l => decide (l.ctx = w.ctx) && decide (l.vline = vl)) with
        | some l => s1.maintLine site w.kind l
        | none => s1
      | none => State.walkStep s site (done ++ [w]) rest

/-- MAINT_WALK: a walk of the tile passes one line, or ends (R150, R151). -/
def execMaintWalk (site : Nat) (s : State) : Host.Outcome State Fault Refusal := .next (s.walkStep site [] (s.tileAt site).walks)

/-! ### Way role changes (R146 to R148) -/

/-- The lines of the ways that `leave` picks leave the cache: dirty or poisoned lines are written back, locks are released. -/
def State.emptyWays (s : State) (site : Nat) (leave : Nat → Bool) : State :=
  ((s.tileAt site).lines.filter (fun l => l.filled && leave l.way)).foldl (fun s l =>
    ((if l.dirty || l.poison then s.writeBack site l else s).loseLock site l).dropLine site l) s

/-- Sets the role of ways. -/
def Tile.setWays (t : Tile) (f : Nat → WayRole → WayRole) : Tile :=
  { t with ways := Vector.ofFn (fun i => f i.val t.ways[i]) }

/-- Lines of a tile that a slot holds locked (R149). -/
def State.lockedBy (s : State) (site slot : Nat) : List Nat := ((s.tileAt site).lines.filter (fun l => l.lock == some slot)).map (·.vline)

/-- A slot's lent ways become CACHE (R146): scratch contents discarded. -/
def State.returnWays (s : State) (site slot : Nat) : State :=
  s.setTileAt site ((s.tileAt site).setWays (fun _ r => if r = .lent slot then .cache else r))

/-- The lent mask of a slot (R147), and the gated mask of the tile (R148). -/
def Tile.lentMask (t : Tile) (slot : Nat) : Nat := (List.range 10).foldl (fun n w => if t.lentTo slot w then n + 2 ^ w else n) 0
def Tile.gatedMask (t : Tile) : Nat := (List.range 10).foldl (fun n w => if t.ways.toList.getD w .cache == .gated then n + 2 ^ w else n) 0

/-- WAY_CHANGE_COMPLETE: roles change and D lands with the former mask, lockrel and poisonwb (R146, R147, R148). What leaves the cache and what
returns is seen when the change completes, so that it leaves exactly its mask where two changes have met (DESIGN CHOICE, log 55). -/
def execWayChangeComplete (site slot : Nat) (s : State) : Host.Outcome State Fault Refusal :=
  match (s.slotAt site slot).wayChange with
  | [] => .next s
  | c :: more =>
    let t := s.tileAt site
    let leaves (w : Nat) : Bool := c.leaves t slot w
    let going := t.lines.filter (fun l => l.filled && leaves l.way)
    let s1 := s.emptyWays site leaves
    let s2 := s1.setTileAt site ((s1.tileAt site).setWays (fun w r =>
      if leaves w then (if c.gate then .gated else .lent slot)
      else if c.returns t slot w then .cache else r))
    let s3 := if c.gate then s2 else
      ((List.range 10).filter leaves).foldl (fun s w => s.tileForget site (0x200000 + 0x10000 * w) 0x10000) s2
    let d := c.cur + (if going.any (fun l => l.lock.isSome) then 2 ^ 16 else 0) +
      (if going.any (fun l => l.poison || (l.dirty && s.lineStruck site l)) then 2 ^ 17 else 0)
    let y := s3.slotAt site slot
    .next (s3.setSlotAt site slot { y with f := y.f.put c.dst (BitVec.ofNat 1024 d), pend := y.pend.erase c.dst, wayChange := more
                                           marks := y.marks.filter (fun m => m.reg != c.dst), held := false
                                           wait := if more.isEmpty then .none else y.wait })

/-- Is a way powering up: a WAYGATE under way returns it, and it is GATED still (R146, R148)? -/
def State.powering (s : State) (site way : Nat) : Bool :=
  (s.tileAt site).ways.toList.getD way .cache == .gated &&
  (List.range 4).any (fun k => (s.slotAt site k).wayChange.head?.any (fun c => c.gate && !(c.req.testBit way)))

/-- WAY_POWER_UP: a way that leaves GATED serves as cache again, every line invalid (R146). -/
def execWayPowerUp (site way : Nat) (s : State) : Host.Outcome State Fault Refusal :=
  .next (if s.powering site way then s.setTileAt site ((s.tileAt site).setWays (fun w r => if w = way then .cache else r)) else s)

end Sys2Proof.Machine
end

