-- ==== Sys2Proof/Machine/Page.lean ====
section
/-! DEFINITION. Pages and translation (15_page R325 to R335): the walk, the caches of translations, invalidation by PGROOT, and reads and
writes of memory by the device's own agents. -/

namespace Sys2Proof.Machine

/-! ### The walk (R327 to R330) -/

/-- Bits [hi:lo] of a number. -/
def bitsOf (e hi lo : Nat) : Nat := e / 2 ^ lo % 2 ^ (hi - lo + 1)

/-- Agent number of a walker. -/
def agWalker (f : Nat) : Nat := 24811 + f

/-- read_entry of R329: none where the granule does not read well (WALKECC, R338). -/
def State.readEntry (s : State) (ctx pa : Nat) : Option Nat :=
  if (s.granBad (paLocal pa / 64)).isSome then none else some (bytesWord (s.memBytes (paLocal pa) 8 ctx))

/-- What a walk gives: its outcome, the pointer entries that it read, the granule of an entry that did not read well, and the physical addresses
of the entries that it read in memory. -/
structure WalkRes where
  out : WalkOutcome
  ptrs : List Ptr
  bad : Option Nat
  reads : List Nat
  deriving DecidableEq, Repr

/-- May a walker use the pointer entries that it holds for a context: no invalidation that has reached an agent is still to reach the walker (R333,
R334)? -/
def State.ptrsGood (s : State) (walker ctx : Nat) : Bool :=
  match (s.ctx ctx).inval with
  | v :: _ => v.told.isEmpty || v.told.contains (agWalker walker)
  | [] => true

/-- What a leaf gives (R329). -/
def leafOutcome (modnum ctx inc va kind level e : Nat) : WalkOutcome :=
  let z := 16 + 10 * (4 - level)
  let pa := bitsOf e 51 16 * 65536
  if level = 1 then .fault .ptebad
  else if pa % 2 ^ z ≠ 0 then .fault .ptebad
  else if paModule pa = modnum ∧ localSize ≤ paLocal pa then .fault .ptebad
  else if e.testBit 57 then .fault .poisonpg
  else if e.testBit 56 then .waiting true
  else if !e.testBit 60 then .fault .permr
  else if (kind = 1 ∨ kind = 2) ∧ !e.testBit 59 then .fault .permw
  else if kind = 2 ∧ !e.testBit 58 then .fault .atomunsup
  else .done ⟨ctx, inc, va - va % 2 ^ z, z, pa, e.testBit 60, e.testBit 59, e.testBit 58⟩

/-- The walk of R329 from the table at t on, with the pointer entries that the walker holds (R330); it answers the pointer entries
that it read and where. A table outside the stacks of local memory has no entries (log 21). -/
def State.walkGo (s : State) (walker ctx inc va kind : Nat) : List Nat → Nat → List Ptr → List Nat → WalkRes
  | [], _, acc, rs => ⟨.fault .ptebad, acc, none, rs⟩
  | level :: ls, t, acc, rs =>
    let pre := va / 2 ^ (56 - 10 * level)
    let held := (KMap.getD s.walkers walker []).find? (fun p =>
      decide (p.ctx = ctx) && decide (p.inc = inc) && decide (p.level = level) && decide (p.pre = pre) && s.ptrsGood walker ctx)
    if paModule t ≠ s.modnum ∨ localSize ≤ paLocal t then ⟨.fault .ptebad, acc, none, rs⟩
    else match held with
      | some p => State.walkGo s walker ctx inc va kind ls p.next acc rs
      | none =>
        let at_ := t + 8 * (pre % 1024)
        match s.readEntry ctx at_ with
        | none => ⟨.fault .walkecc, acc, some (paLocal t / 64 + pre % 1024 / 8), at_ :: rs⟩
        | some e =>
          if !e.testBit 63 then ⟨.fault .nomap, acc, none, at_ :: rs⟩
          else match bitsOf e 62 61 with
            | 0 =>
              if bitsOf e 60 52 ≠ 0 ∨ bitsOf e 12 0 ≠ 0 then ⟨.fault .ptebad, acc, none, at_ :: rs⟩
              else if level = 4 then ⟨.fault .ptebad, acc, none, at_ :: rs⟩
              else
                let next := bitsOf e 51 13 * 8192
                State.walkGo s walker ctx inc va kind ls next (⟨ctx, inc, level, pre, next⟩ :: acc) (at_ :: rs)
            | 1 =>
              if bitsOf e 55 52 ≠ 0 ∨ bitsOf e 15 0 ≠ 0 then ⟨.fault .ptebad, acc, none, at_ :: rs⟩
              else ⟨leafOutcome s.modnum ctx inc va kind level e, acc, none, at_ :: rs⟩
            | _ => ⟨.fault .ptebad, acc, none, at_ :: rs⟩

/-- translate of R329; kind 0 is a read, 1 a write, 2 an atomic, 3 a PREF, which reads. -/
def State.walkNow (s : State) (walker ctx inc va kind : Nat) : WalkRes :=
  let r := (s.ctx ctx).pgroot.toNat
  if !r.testBit 0 then ⟨.fault .nomap, [], none, []⟩ else s.walkGo walker ctx inc va kind [1, 2, 3, 4] (bitsOf r 51 13 * 8192) [] []

/-- A request costs the bytes that it reads or writes, at the hedge agent of its stack (R317). -/
def State.hedgeCost (s : State) (c pa n : Nat) : State :=
  let k := 256 * (stackOf (paLocal pa)) + c
  match KMap.get? s.hedgeTokens k with
  | some t => { s with hedgeTokens := KMap.set s.hedgeTokens k (t - n) }
  | none => s

/-- After a walk: each entry that it read has cost 8 bytes (R317); one that succeeds leaves its pointer entries with the walker, at most 256 (R330,
R331); one that has met an uncorrectable error leaves that granule poisoned, with its record (R336). -/
def State.walked (s : State) (walker ctx inc : Nat) (r : WalkRes) : State :=
  let s0 := r.reads.foldl (fun s pa => s.hedgeCost ctx pa 8) s
  let s1 := match r.out with
    | .done _ => if r.ptrs.isEmpty then s0 else { s0 with walkers := KMap.set s0.walkers walker ((r.ptrs ++ KMap.getD s0.walkers walker []).take 256) }
    | _ => s0
  match r.bad with
  | some g => s1.foundUe g (fun s => s.granRecord ctx inc g .hbmue)
  | none => s1

/-- The local addresses that the entries of a table, at level 4 - n, let their context write (R328, R329). -/
def State.writable (s : State) : Nat → Nat → List (Nat × Nat)
  | 0, _ => []
  | n + 1, t =>
    if paModule t ≠ s.modnum ∨ localSize ≤ paLocal t then []
    else (List.range 1024).flatMap (fun i =>
      let e := bytesWord (s.memBytes (paLocal t + 8 * i) 8)
      let z := 16 + 10 * n
      let pa := bitsOf e 51 16 * 65536
      if !e.testBit 63 then []
      else if bitsOf e 62 61 = 0 then s.writable n (bitsOf e 51 13 * 8192)
      else if bitsOf e 62 61 = 1 ∧ e.testBit 59 ∧ paModule pa = s.modnum then [(paLocal pa, paLocal pa + 2 ^ z)]
      else [])
/-- The local addresses that a context can write, by its page table (R327, R367). -/
def State.canWrite (s : State) (c : Nat) : List (Nat × Nat) :=
  let r := (s.ctx c).pgroot.toNat
  if r.testBit 0 then s.writable 4 (bitsOf r 51 13 * 8192) else []

/-- The physical address that a translation gives. -/
def Trans.pa (t : Trans) (va : Nat) : Nat := t.pbase + (va - t.vbase)
def Trans.covers (t : Trans) (ctx inc va : Nat) : Bool :=
  decide (t.ctx = ctx) && decide (t.inc = inc) && decide (t.vbase ≤ va) && decide (va < t.vbase + 2 ^ t.bits)
def Trans.permits (t : Trans) (kind : Nat) : Bool := t.r && (kind == 0 || kind == 3 || t.w) && (kind != 2 || t.at_)

/-- A translation enters a cache of `n` entries, the latest first (R331). -/
def transPut (n : Nat) (t : Trans) (ts : List Trans) : List Trans := (t :: ts.filter (fun u => u != t)).take n

/-- A hit makes a translation the most recently used of its cache (R331). -/
def transUse (t : Trans) (ts : List Trans) : List Trans := if ts.contains t then transPut 64 t ts else ts

def State.useTrans (s : State) (site : Nat) (t : Trans) : State := s.setTileAt site { s.tileAt site with tlb := transUse t (s.tileAt site).tlb }

/-! ### Translations of the core path (R142, R331, R335) -/

/-- What is known of a translation that a bundle at issue needs. -/
inductive Known where
  | ok (t : Trans)
  | fault (k : FKind)
  /-- the bundle waits; `fresh`: no walk is under way; `migrating`: the page migrates -/
  | wait (fresh migrating : Bool)

def State.known (s : State) (site slot va kind : Nat) : Known :=
  let x := s.slotAt site slot
  match x.walks.find? (fun w => decide (w.va = va) && decide (w.kind = kind)) with
  | some ⟨_, _, .done t⟩ => .ok t
  | some ⟨_, _, .fault k⟩ => .fault k
  | some ⟨_, _, .waiting m⟩ => .wait false m
  | none =>
    match (s.tileAt site).tlb.find? (fun t => t.covers x.sys.ctxid x.sys.incarn va) with
    | some t => if t.permits kind then .ok t else .wait true false
    | none => .wait true false

/-- Walks that a walker holds (R330). -/
def State.walksHeld (s : State) (f : Nat) : Nat :=
  (s.agenda.filter (fun p => match p.ev with | .pageWalk w => decide (fieldOf w.site = f) | _ => false)).length
/-- A walk goes to the walker of its field, which performs its walks in arrival order; where that holds 32, the requester waits and tries again
(R330). -/
def State.toWalker (s : State) (w : WalkReq) : State :=
  if s.walksHeld (fieldOf w.site) < 32 then s.send (chanKey 4 (fieldOf w.site)) (.pageWalk w) else s.send 0 (.migRewalk w)

/-- A bundle at issue asks the walker of its field (R330); a held entry that forbids the access is dropped first (R331). -/
def State.askWalk (s : State) (site slot va kind : Nat) : State :=
  let x := s.slotAt site slot
  let t := s.tileAt site
  let s1 := s.setTileAt site { t with tlb := t.tlb.filter (fun e => !(e.covers x.sys.ctxid x.sys.incarn va) || e.permits kind) }
  let s2 := s1.setSlotAt site slot { x with walks := x.walks ++ [⟨va, kind, .waiting false⟩] }
  s2.toWalker ⟨site, slot, x.sys.ctxid, x.sys.incarn, va, kind, none⟩

/-- The wait for a translation, where it is not known yet (R142). -/
def State.waitTrans (s : State) (va kind : Nat) : Option Hold :=
  match s.known s.iss.site s.iss.slot va kind with
  | .wait fresh mig => some ⟨!mig, fun s => if fresh then s.askWalk s.iss.site s.iss.slot va kind else s⟩
  | _ => none

/-- The first wait of a list. -/
def firstHold (l : List (Option Hold)) : Option Hold := l.findSome? id

/-- The pages that [va, va + n) touches, by 64 KiB. -/
def pagesOf (va n : Nat) : List Nat :=
  if n = 0 then [] else (List.range ((va + n - 1) / 65536 - va / 65536 + 1)).map (fun i => if i = 0 then va else (va / 65536 + i) * 65536)

/-- Where the outcome of a walk goes: to the slot's held bundle, to its channel, or to the L1 for a PREF (R142, R144, R156). -/
def State.walkOutcome (s : State) (w : WalkReq) (o : WalkOutcome) : State :=
  let x := s.slotAt w.site w.slot
  match w.ch with
  | some c =>
    let ch := x.ch.toList.getD c Chan.idle
    match ch.walk with
    | some k =>
      if k.va = w.va then
        let ch1 := match o with
          | .done t => { ch with tr := some t, walk := none }
          | o => { ch with walk := some { k with out := o } }
        s.setSlotAt w.site w.slot { x with ch := x.ch.setIfInBounds c ch1 }
      else s
    | none => s
  | none =>
    let keep (s : State) : State := match o with
      | .done t => s.setTileAt w.site { s.tileAt w.site with tlb := transPut 64 t (s.tileAt w.site).tlb }
      | _ => s
    if w.kind = 3 then
      match o with
      | .done t => (keep s).needLine w.site w.ctx w.inc (w.va / 128) (t.pa w.va - t.pa w.va % 128)
      | _ => s
    else
      keep ((s.setSlotAt w.site w.slot { x with walks := x.walks.map (fun k =>
        if k.va = w.va ∧ k.kind = w.kind then { k with out := o } else k) }).rejoinFrom w.site w.slot x)

/-- A walk is performed; a migrating page is walked again 2 us later (R329, R335), but not for a PREF (R334). A frozen tile drops what comes to it
(R353). -/
def State.runWalk (s : State) (w : WalkReq) : State :=
  if (s.slotAt w.site w.slot).bound ≠ some (w.ctx, w.inc) ∨ s.stale (agSite w.site 0) w.ctx w.inc ∨ (s.tileAt w.site).frozen then s.drop w.ctx
  else
    let r := s.walkNow (fieldOf w.site) w.ctx w.inc w.va w.kind
    let s1 := (s.walked (fieldOf w.site) w.ctx w.inc r).walkOutcome w r.out
    match r.out with
    | .waiting _ => if w.kind = 3 then s1 else s1.sendAt (s.time + 2000) 0 (.migRewalk w)
    | _ => s1

/-- PAGE_WALK (R329). -/
def execPageWalk (w : WalkReq) (s : State) : Host.Outcome State Fault Refusal := .next (s.runWalk w)
/-- MIG_REWALK: a walk that is still wanted goes to its walker: again, for a page that migrates (R335), or once the walker has room (R330). -/
def execMigRewalk (w : WalkReq) (s : State) : Host.Outcome State Fault Refusal :=
  let x := s.slotAt w.site w.slot
  let held := match w.ch with
    | some c => (x.ch.toList.getD c Chan.idle).walk.isSome
    | none => w.kind == 3 || x.walks.any (fun k => decide (k.va = w.va) && decide (k.kind = w.kind))
  .next (if held then s.toWalker w else s)

/-! ### Memory as the device's own agents reach it -/

/-- Compute field that a rim field abuts (R17). -/
def rimAbuts (r : Nat) : Nat :=
  let i := r - 64
  match i / 6 with
  | 0 => i % 6 + 1
  | 1 => 8 * (i % 6 + 1) + 7
  | 2 => 57 + i % 6
  | _ => 8 * (i % 6 + 1)
/-- Walker of a hedge agent: that of the compute field that its rim field abuts (R330). -/
def walkerOfHedge (h : Nat) : Nat := rimAbuts (64 + h / 2)

/-- What a read or write of a device agent met. -/
inductive SysRes where
  | ok (bs : List Byte)
  | fault (k : FKind) (va : Nat)
  | migrating

/-- The translation of a device agent's access: a scheduler's or a tile's own agent by the walker of its field, `agent` below 64; hedge agent h, as
agent 64 + h, from the 256 that it holds, or by the walker of the field that its rim field abuts (R330, R331). It waits while the walker has earlier
walks. -/
def State.transFor (s : State) (agent ctx inc va kind : Nat) : State × WalkOutcome :=
  if agent < 64 then
    if 0 < s.walksHeld agent then (s, .waiting false)
    else
      let r := s.walkNow agent ctx inc va kind
      (s.walked agent ctx inc r, r.out)
  else
    let h := agent - 64
    let ts := KMap.getD s.hedges h []
    match ts.find? (fun t => t.covers ctx inc va && t.permits kind) with
    | some t => ({ s with hedges := KMap.set s.hedges h (transPut 256 t ts) }, .done t)
    | none =>
      if 0 < s.walksHeld (walkerOfHedge h) then (s, .waiting false)
      else
        let r := s.walkNow (walkerOfHedge h) ctx inc va kind
        let s1 := s.walked (walkerOfHedge h) ctx inc r
        let us := ts.filter (fun t => !(t.covers ctx inc va))
        ({ s1 with hedges := KMap.set s1.hedges h (match r.out with | .done t => transPut 256 t us | _ => us) }, r.out)

/-- Does the hedge agent or the memory controller of a stack drop a request, its incarnation having ended (R310)? -/
def State.staleAt (s : State) (ctx inc pa : Nat) : Bool :=
  s.stale (agHedge (stackOf (paLocal pa))) ctx inc || s.stale (agMem (stackOf (paLocal pa))) ctx inc

/-- Reads parts in ascending order; data of another module is a free value (log 22). A request costs tokens at its hedge agent but for save and restore
traffic (`toll`; R305, R317), and does not wait for them (log 18). Of an ended incarnation it is dropped, and its agent hears nothing (R310). -/
def State.sysReadGo (s : State) (toll : Bool) (agent ctx inc : Nat) : List (Nat × Nat) → List Byte → State × SysRes
  | [], acc => (s, .ok acc)
  | (va, n) :: r, acc =>
    let (s1, o) := s.transFor agent ctx inc va 0
    match o with
    | .waiting _ => (s1, .migrating)
    | .fault k => (s1, .fault k va)
    | .done t =>
      let pa := t.pa va
      if s1.far pa then
        if (s1.linkFrom (linkOf pa (paModule pa)) (paModule pa)).isNone then (s1, .fault .remotedown va)
        else if Config.pick s.tick (800 + va) % 16 = 15 then (s1, .fault .remotetmo va)
        else State.sysReadGo (s1.setCtx ctx { s1.ctx ctx with linkUse := true }) toll agent ctx inc r
          (acc ++ (List.range n).map (fun i => Config.freeByte s.tick (pa + i)))
      else if s1.staleAt ctx inc pa then (s1.drop ctx, .migrating)
      else
        let (s2, rep) := (if toll then s1.hedgeCost ctx pa n else s1).homeRead ctx inc (paLocal pa) n
        match rep.err with
        | some k => (s2, .fault k va)
        | none => if rep.poison then (s2, .fault .poisonld va) else State.sysReadGo s2 toll agent ctx inc r (acc ++ rep.data)

/-- A read of n bytes of a context's memory on path S by a scheduler, hedge agent or other agent (R356). -/
def State.sysRead (s : State) (agent ctx inc va n : Nat) (toll : Bool := true) : State × SysRes :=
  if 2 ^ 56 ≤ va then (s, .fault .noncanon va)
  else if 2 ^ 56 < va + n then (s, .fault .noncanon (2 ^ 56)) else s.sysReadGo toll agent ctx inc (partsOf (n / 64 + 2) va n) []

/-- Writes parts in ascending order, poisoned where `bad` says so of their address (R329, R338); whether a write to another module is answered in
time is free (log 22). -/
def State.sysWriteGo (s : State) (toll : Bool) (agent ctx inc : Nat) (bad : Nat → Bool) : List (Nat × Nat) → List Byte → State × SysRes
  | [], _ => (s, .ok [])
  | (va, n) :: r, bs =>
    let (s1, o) := s.transFor agent ctx inc va 1
    match o with
    | .waiting _ => (s1, .migrating)
    | .fault k => (s1, .fault k va)
    | .done t =>
      let pa := t.pa va
      if s1.far pa then
        if (s1.linkFrom (linkOf pa (paModule pa)) (paModule pa)).isNone then (s1, .fault .remotedown va)
        else
          let s2 := s1.sendRemote ⟨ctx, inc, va, pa, .write (bs.take n) (bad va), .none⟩
          if Config.pick s.tick (820 + va) % 16 = 15 then (s2, .fault .remotetmo va) else State.sysWriteGo s2 toll agent ctx inc bad r (bs.drop n)
      else if s1.staleAt ctx inc pa then (s1.drop ctx, .migrating)
      else State.sysWriteGo ((if toll then s1.hedgeCost ctx pa n else s1).homeWrite ctx inc (paLocal pa) (bs.take n) (bad va)) toll agent ctx inc bad r (bs.drop n)

/-- A write of a context's memory on path S by a device agent (R356). -/
def State.sysWrite (s : State) (agent ctx inc va : Nat) (bs : List Byte) (bad : Nat → Bool := fun _ => false) (toll : Bool := true) :
    State × SysRes :=
  if 2 ^ 56 ≤ va then (s, .fault .noncanon va)
  else if 2 ^ 56 < va + bs.length then (s, .fault .noncanon (2 ^ 56))
  else s.sysWriteGo toll agent ctx inc bad (partsOf (bs.length / 64 + 2) va bs.length) bs

/-- Doublewords of bytes, little-endian (R7). -/
def dwords (bs : List Byte) : List Nat := (List.range (bs.length / 8)).map (fun i => bytesWord ((bs.drop (8 * i)).take 8))

/-! ### Invalidation (R333) -/

/-- Enabled sites, ascending (R19). -/
def State.sites (s : State) : List Nat := (List.range 6144).filter (fun i => !(s.disabled.contains i))

/-- The agents that an invalidation reaches (R333). -/
def State.invalAgents (s : State) : List Nat :=
  s.sites.flatMap (fun i => [agSite i 0, agSite i 1]) ++ (List.range 64).map agWalker ++ (List.range 48).map agHedge ++
  (List.range 74).map agLink

/-- Has the release part of an invalidation ended, as FENCE.rel.wafer has it: the issuing instance's loads have landed, its stores to this module have
been performed, and maintenance walks of its context are over (R151, R333)? -/
def State.invalReleased (s : State) (v : Inval) : Bool :=
  let x := s.slotAt v.site v.slot
  v.released || (!(s.loadsOut v.site v.slot false) && !(s.walksOut v.site x.sys.ctxid) && decide (x.ackC = 0) &&
    !((s.tileAt v.site).lines.any (fun l => l.through && decide (paModule l.pa = s.modnum) && x.bound == some (l.ctx, l.inc))))

/-- An agent drops the context's entries (R333). -/
def State.invalDrop (s : State) (agent c : Nat) : State :=
  if agent < 24576 then
    let site := agent / 4
    if agent % 4 = 0 then
      let t := s.tileAt site
      let s1 := s.setTileAt site { t with tlb := t.tlb.filter (fun e => decide (e.ctx ≠ c)) }
      (List.range 4).foldl (fun s k =>
        let x := s.slotAt site k
        if x.sys.ctxid = c ∧ x.bound.isSome then
          s.setSlotAt site k { x with walks := x.walks.filter (fun w => match w.out with | .done _ => false | _ => true)
                                      ch := x.ch.map (fun h => { h with tr := none }) }
        else s) s1
    else s.startWalk site 1 c (s.ctx c).inc none 0 (2 ^ 56) (fun _ => true)
  else if agent < agMem 0 ∧ agHedge 0 ≤ agent then
    { s with hedges := KMap.upd s.hedges (agent - agHedge 0) (fun ts => ts.filter (fun e => decide (e.ctx ≠ c))) }
  else if agWalker 0 ≤ agent then
    { s with walkers := KMap.upd s.walkers (agent - agWalker 0) (fun ps => ps.filter (fun e => decide (e.ctx ≠ c))) }
  else s

/-- May an agent be told now: an L1 walks its lines once its tile port has dropped the entries with which they could come back (R333, R334)? -/
def invalTurn (v : Inval) (agent : Nat) : Bool := decide (24576 ≤ agent) || decide (agent % 4 = 0) || v.told.contains (agent - 1)
/-- The agents that an invalidation may reach next. -/
def State.invalNext (s : State) (v : Inval) : List Nat := s.invalAgents.filter (fun a => !(v.told.contains a) && invalTurn v a)

/-- INVALIDATION_AT_AGENT: after the release part, an agent drops the context's entries and reports (R333). -/
def execInvalidationAtAgent (agent c : Nat) (s : State) : Host.Outcome State Fault Refusal :=
  let x := s.ctx c
  match x.inval with
  | [] => .next s
  | v :: vs =>
    if v.told.contains agent ∨ !(invalTurn v agent) ∨ !(s.invalReleased v) then .next s
    else .next ((s.invalDrop agent c).setCtx c { x with inval := { v with released := true, told := v.told ++ [agent] } :: vs })

/-- Is an access of the context, or a walk over its lines, still on its way (R333 step 5)? -/
def State.accessesOut (s : State) (c : Nat) : Bool :=
  s.agenda.any (fun p => match p.ev with | .memoryRequestAtHome r => decide (r.ctx = c) | _ => false) ||
  s.out.any (fun r => decide (r.2.2.ctx = c)) ||
  s.tiles.any (fun t => t.2.walks.any (fun w => decide (w.ctx = c)))

/-- May the first invalidation of a context end? -/
def State.invalOver (s : State) (c : Nat) : Bool :=
  match (s.ctx c).inval with
  | [] => false
  | v :: _ => s.invalAgents.all (fun a => v.told.contains a) && !(s.accessesOut c)

/-- INVP_CLEAR: every agent has reported (R333). -/
def execInvpClear (c : Nat) (s : State) : Host.Outcome State Fault Refusal :=
  if s.invalOver c then .next (s.setCtx c { s.ctx c with inval := (s.ctx c).inval.tail }) else .next s

/-- SYSW of PGROOT: TABLE and V are written and an invalidation starts (R327, R333). -/
def effSyswPgroot (f : RRI) (s : State) : Act :=
  let v := s.readS 32 f.a
  if sysBad 0x800 v then .trap ⟨.rsvfield, 0, v⟩
  else
    let c := s.cur.sys.ctxsel
    let mine := s.curTile.lines.filter (fun l => l.dirty && decide (l.ctx = s.cur.sys.ctxid) && decide (l.inc = s.cur.sys.incarn))
    let s1 := mine.foldl (fun s l => if l.filled then s.writeBack s.iss.site l else s.putLine s.iss.site { l with through := true }) s
    .ok (s1.setCtx c { s1.ctx c with pgroot := v &&& ~~~ (2 : Word)
                                     inval := (s1.ctx c).inval ++ [⟨s.iss.site, s.iss.slot, false, []⟩] })

/-- SYSW of BACKBASE: the hedge agents reread the backing table, by which fall-throughs go from then on (R194). -/
def effSyswBackbase (f : RRI) (s : State) : Act :=
  let v := s.readS 32 f.a
  if sysBad 0x801 v then .trap ⟨.rsvfield, 0, v⟩
  else
    let c := s.cur.sys.ctxsel
    let s1 := s.setCtx c { s.ctx c with backbase := v, rereads := (s.ctx c).rereads + 1 }
    .ok (s1.send (chanKey 5 c) (.backingTableReread c (s1.ctx c).inc))

/-! The instructions. -/

/-- SYSW_PGROOT. -/
def execSyswPgroot (h : Hdr) (f : RRI) (s : State) : Host.Outcome State Fault Refusal := asStep h (effSyswPgroot f) s
/-- SYSW_BACKBASE. -/
def execSyswBackbase (h : Hdr) (f : RRI) (s : State) : Host.Outcome State Fault Refusal := asStep h (effSyswBackbase f) s

end Sys2Proof.Machine
end

