-- ==== Sys2Proof/Machine/Shape.lean ====
section
/-! DEFINITION. The shape record of a stream channel (06_tile_memory R154 to R156): its fields, its checks, and the addresses of its elements. -/

namespace Sys2Proof.Machine

abbrev ShapeRec := BitVec 512

namespace Shape

/-- A field of the record: byte offset, width in bits (R154). -/
def field (r : ShapeRec) (off w : Nat) : Nat := r.toNat / 2 ^ (8 * off) % 2 ^ w
def sfield (r : ShapeRec) (off : Nat) : Int := (BitVec.ofNat 32 (field r off 32)).toInt
def srcBase (r : ShapeRec) : Nat := field r 0x00 64
def dstBase (r : ShapeRec) : Nat := field r 0x08 64
def ext (r : ShapeRec) (k : Nat) : Nat := field r (0x10 + 2 * k) 16
/-- Strides of dimensions 1 to 3. -/
def sstep (r : ShapeRec) (k : Nat) : Int := sfield r (0x18 + 4 * (k - 1))
def dstep (r : ShapeRec) (k : Nat) : Int := sfield r (0x24 + 4 * (k - 1))
def ctrl (r : ShapeRec) : Nat := field r 0x30 64
def seed (r : ShapeRec) : Nat := field r 0x38 64
def stype (r : ShapeRec) : Nat := ctrl r % 16
def dtype (r : ShapeRec) : Nat := ctrl r / 16 % 16
/-- 0 global to scratch, 1 scratch to global, 2 scratch to scratch. -/
def dir (r : ShapeRec) : Nat := ctrl r / 256 % 4
def ndim (r : ShapeRec) : Nat := ctrl r / 1024 % 4
def rnd (r : ShapeRec) : Nat := ctrl r / 4096 % 8
def sat (r : ShapeRec) : Bool := ctrl r / 32768 % 2 == 1

/-- Element size in bytes, with one byte taken for k4 (R155). -/
def esize (t : Nat) : Nat := if t = 13 then 1 else tyBytes t
/-- Does the transfer narrow: a float type to one with fewer exponent or fraction bits (R81, R155)? -/
def narrows (r : ShapeRec) : Bool := decide (stype r ≠ dtype r) && !(widens (stype r) (dtype r))

/-- The offset of the first faulting field of the record (R155): fields in the order of their offsets. -/
def badField (r : ShapeRec) : Option Nat :=
  let k4 := stype r == 13 || dtype r == 13
  let typesOk := (stype r == dtype r && decide (stype r ≤ 13)) ||
    (decide (8 ≤ stype r ∧ stype r ≤ 12) && decide (8 ≤ dtype r ∧ dtype r ≤ 12))
  let checks : List (Nat × Bool) :=
    [(0x00, decide (srcBase r % esize (stype r) ≠ 0)), (0x08, decide (dstBase r % esize (dtype r) ≠ 0)),
     (0x10, k4 && decide (ext r 0 % 2 = 0))] ++
    [1, 2, 3].map (fun k => (0x10 + 2 * k, decide (ndim r < k) && decide (ext r k ≠ 0))) ++
    [1, 2, 3].map (fun k => (0x18 + 4 * (k - 1),
      (decide (ndim r < k) && decide (sstep r k ≠ 0)) || decide (sstep r k % (esize (stype r) : Int) ≠ 0))) ++
    [1, 2, 3].map (fun k => (0x24 + 4 * (k - 1),
      (decide (ndim r < k) && decide (dstep r k ≠ 0)) || decide (dstep r k % (esize (dtype r) : Int) ≠ 0))) ++
    [(0x30, decide (ctrl r / 65536 ≠ 0) || decide (dir r = 3) || (decide (rnd r ≠ 0) && decide (rnd r ≠ 5)) || !typesOk ||
            ((sat r || decide (rnd r = 5)) && !(narrows r)))]
  (checks.find? (·.2)).map (·.1)

/-- Units that the channel moves one by one: elements, or for k4, which is copied, whole bytes of two (R156). -/
def rowUnits (r : ShapeRec) : Nat := if stype r = 13 then (ext r 0 + 1) / 2 else ext r 0 + 1
/-- Bytes by which a unit advances wp: those of its destination, but those of its source toward global memory (R156). -/
def wpSize (r : ShapeRec) : Nat := esize (if dir r = 1 then stype r else dtype r)
/-- Units of a round. -/
def total (r : ShapeRec) : Nat := rowUnits r * (ext r 1 + 1) * (ext r 2 + 1) * (ext r 3 + 1)
/-- Digits of a unit number; digit 0 counts units. -/
def digit (r : ShapeRec) (e k : Nat) : Nat :=
  match k with
  | 0 => e % rowUnits r
  | 1 => e / rowUnits r % (ext r 1 + 1)
  | 2 => e / (rowUnits r * (ext r 1 + 1)) % (ext r 2 + 1)
  | _ => e / (rowUnits r * (ext r 1 + 1) * (ext r 2 + 1))
/-- i0 to i3 of the element at a unit, as fault records give them (R159). -/
def idx (r : ShapeRec) (e k : Nat) : Nat := if k = 0 ∧ stype r = 13 then 2 * digit r e 0 else digit r e k

/-- Source and destination addresses of a unit (R156). -/
def srcAddr (r : ShapeRec) (e : Nat) : Nat :=
  (((srcBase r + digit r e 0 * esize (stype r) : Nat) : Int) + digit r e 1 * sstep r 1 + digit r e 2 * sstep r 2 +
    digit r e 3 * sstep r 3) % (2 ^ 64 : Int) |>.toNat
def dstAddr (r : ShapeRec) (e : Nat) : Nat :=
  (((dstBase r + digit r e 0 * esize (dtype r) : Nat) : Int) + digit r e 1 * dstep r 1 + digit r e 2 * dstep r 2 +
    digit r e 3 * dstep r 3) % (2 ^ 64 : Int) |>.toNat

/-- Is the source, the destination in scratch? -/
def srcScratch (r : ShapeRec) : Bool := decide (dir r ≠ 0)
def dstScratch (r : ShapeRec) : Bool := decide (dir r ≠ 1)

/-- Units of the beat that starts at unit e: at most 64 destination bytes, within a row and within a granule of the global side (R153). -/
def beat (r : ShapeRec) (e : Nat) : Nat :=
  let n := min (rowUnits r - digit r e 0) (64 / esize (dtype r))
  match dir r with
  | 0 => min n ((64 - srcAddr r e % 64) / esize (stype r))
  | 1 => min n ((64 - dstAddr r e % 64) / esize (dtype r))
  | _ => n

end Shape

/-- Has a channel an undelivered scratch address in [lo, hi) (R147)? -/
def Chan.inRange (c : Chan) (lo hi : Nat) : Bool :=
  (List.range (Shape.total c.recd - c.elem)).any (fun i =>
    let e := c.elem + i
    (Shape.srcScratch c.recd && decide (lo ≤ Shape.srcAddr c.recd e) && decide (Shape.srcAddr c.recd e < hi)) ||
    (Shape.dstScratch c.recd && decide (lo ≤ Shape.dstAddr c.recd e) && decide (Shape.dstAddr c.recd e < hi)))

/-! ### Stores of a bundle, and what they race with -/

/-- Does a channel read, in the units [lo, hi) of its round, the byte at a program address of scratch; does it write it? -/
def Chan.srcAt (c : Chan) (lo hi p : Nat) : Bool :=
  Shape.srcScratch c.recd && (List.range (hi - lo)).any (fun i =>
    decide (Shape.srcAddr c.recd (lo + i) ≤ p) && decide (p < Shape.srcAddr c.recd (lo + i) + Shape.esize (Shape.stype c.recd)))
def Chan.dstAt (c : Chan) (lo hi p : Nat) : Bool :=
  Shape.dstScratch c.recd && (List.range (hi - lo)).any (fun i =>
    decide (Shape.dstAddr c.recd (lo + i) ≤ p) && decide (p < Shape.dstAddr c.recd (lo + i) + Shape.esize (Shape.dtype c.recd)))
/-- Is a RUNNING channel still to read, or to write, the byte? -/
def Chan.willRead (c : Chan) (p : Nat) : Bool := c.st == .running && c.srcAt c.elem (Shape.total c.recd) p
def Chan.willWrite (c : Chan) (p : Nat) : Bool := c.st == .running && c.dstAt c.elem (Shape.total c.recd) p
/-- Is it a byte that a RUNNING channel reads in its round, or has written in it, so that a core store to it may be lost (R157)? -/
def Chan.mayLose (c : Chan) (p : Nat) : Bool :=
  c.st == .running && (c.srcAt 0 (Shape.total c.recd) p || c.dstAt 0 c.elem p)
/-- What a plain core store leaves in scratch: a byte that a RUNNING channel of the slot reads, or has written, holds either value (R157, log 13). -/
def State.settled (s : State) (site slot p : Nat) (bs : List Byte) : List Byte :=
  let x := s.slotAt site slot
  if x.ch.toList.all (fun c => c.st != .running) then bs
  else bs.zipIdx.map (fun (b, i) =>
    if x.ch.toList.any (fun c => c.mayLose (p + i)) ∧ Config.pick s.tick (80000 + i) % 2 = 1 then s.scratchHeld site slot (p + i) (9000 + i) else b)
/-- A core store of bytes at p: the channels and the queued publications of the slot that it races with (R157, R209, log 13). With an atomic, which
is performed at once for channels, only the publications (R143). -/
def State.noteStore (s : State) (site slot p : Nat) (bs : List Byte) (unit : Option Nat) : State :=
  let x := s.slotAt site slot
  if x.ch.toList.all (fun c => c.st != .running) && x.injq.isEmpty then s
  else
    let n := bs.length
    let both (i : Nat) : List Byte := [s.scratchHeld site slot (p + i) (9000 + i), bs.getD i 0]
    s.setSlotAt site slot { x with
      ch := if unit.isSome then x.ch else x.ch.map (fun c => { c with
        racedR := (List.range n).foldl (fun rs i => if c.willRead (p + i) then noteRace rs (p + i) (both i) none else rs) c.racedR
        racedW := c.racedW ++ ((List.range n).map (p + ·)).filter c.willWrite })
      injq := x.injq.map (fun q => { q with raced := (List.range n).foldl (fun rs i =>
        if q.addr + q.sent ≤ p + i ∧ p + i < q.addr + q.size then noteRace rs (p + i) (both i) unit else rs) q.raced }) }

/-- One store of the bundle at issue: a plain one, or that of an atomic (R143, R157). -/
def State.storeS (s : State) (site slot p : Nat) (bs : List Byte) (atomic : Bool) : State :=
  if atomic then (s.noteStore site slot p bs (some p)).scratchWrite site slot p bs (some p)
  else (s.noteStore site slot p bs none).scratchWrite site slot p (s.settled site slot p bs)

/-- The stores of the bundle at issue, held back until every read is done: slot L1's over slot L0's (R49). -/
def applyStores (site slot : Nat) : List (Nat × List Byte × Bool) → State → State
  | [], s => s
  | (p, bs, atomic) :: r, s => applyStores site slot r (s.storeS site slot p bs atomic)

end Sys2Proof.Machine
end

