-- ==== Sys2Proof/Machine/Memory.lean ====
section
/-! DEFINITION. The L class (06_tile_memory R140 to R152, 17_memory_model R360, R361): scratch and global loads and stores, atomics,
prefetch, line maintenance, way roles, locks, fences, check values. -/

namespace Sys2Proof.Machine

/-! ### Fields -/

def memT (f : MemF) : Nat := f.t.toNat
def memTy (f : MemF) : Ty := tyOfCode f.t.toNat
/-- Scopes of ORDS (R35, R357). -/
def ordScope (n : Nat) : Scope := match n with | 0 => .tile | 1 => .wafer | 2 => .domain | _ => .system
/-- Scopes of the fence field (R151): FIELD is 4. -/
def fenceScope (n : Nat) : Scope := if n = 4 then .field else ordScope n
/-- Does the scope reach beyond the tile, and homes on other modules (R357)? -/
def scopeBeyond (x : Scope) : Bool := x != .tile
def scopeRemote (x : Scope) : Bool := x == .domain || x == .system
def memAcq (f : MemF) : Option Scope := if f.ordk = 1 ∨ f.ordk = 3 then some (ordScope f.ords.toNat) else none
def memRel (f : MemF) : Option Scope := if f.ordk = 2 ∨ f.ordk = 3 then some (ordScope f.ords.toNat) else none

/-! ### Scratch (R140, R141, R143) -/

/-- The faults of a scratch access of the bundle at issue (R135 to R140); a write checks the code region and armed areas. Where several hold, the
spec names no first one: the model takes SPALIGN, SPRANGE, ECCLOCAL, CODEWRITE, LANDWRITE in this order (DESIGN CHOICE, log 44). -/
def State.scratchCheck (s : State) (p n : Nat) (write read : Bool) (align : Nat) : Option TrapInfo :=
  match s.scratchFault s.iss.site s.iss.slot p n align 2 read with
  | some t => some t
  | none => if write then s.cur.writeFault p n 2 else none

/-- Scratch bytes for the bundle at issue. -/
def State.curBytes (s : State) (p n : Nat) : List Byte := s.scratchRead s.iss.site s.iss.slot p n (1000 * (s.iss.pos + 1))

/-- LD (R141): latency 4; sets y2 or y3 when it lands (R46). -/
def effLd (f : MemF) (s : State) : Act :=
  let n := tyBytes (memT f)
  let p := (s.ea f n).toNat
  match s.scratchCheck p n false true n with
  | some t => .trap t
  | none => .ok (s.setCur (s.cur.issue (dstS f.d) (loadValue (s.curBytes p n) 0 n (memTy f) false) 4 0 (some (2 + s.iss.lane))))

/-- A scratch store of the bundle at issue, held back until every read is done (R49). -/
def State.holdStore (s : State) (p : Nat) (bs : List Byte) (atomic : Bool) : State :=
  s.setIss { s.iss with wr := s.iss.wr ++ [(p, bs, atomic)] }

/-- ST (R141). -/
def effSt (f : MemF) (s : State) : Act :=
  let n := tyBytes (memT f)
  let p := (s.ea f n).toNat
  match s.scratchCheck p n true false n with
  | some t => .trap t
  | none => .ok (s.holdStore p (wordBytes n (s.readS 40 f.d).toNat) false)

/-- VLD (R141). -/
def effVld (f : MemF) (s : State) : Act :=
  let p := (s.ea f 128).toNat
  match s.scratchCheck p 128 false true 128 with
  | some t => .trap t
  | none => .ok (s.setCur (s.cur.issue (dstV f.d) (BitVec.ofNat 1024 (bytesWord (s.curBytes p 128))) 4 0 (some 9)))

/-- VST (R141). -/
def effVst (f : MemF) (s : State) : Act :=
  let p := (s.ea f 128).toNat
  match s.scratchCheck p 128 true false 128 with
  | some t => .trap t
  | none => .ok (s.holdStore p (wordBytes 128 (s.readV 40 f.d).toNat) false)

/-- addr(i) of VGATH and VSCAT (R141). -/
def State.laneAddr (s : State) (f : MemF) (i : Nat) : Nat :=
  (s.readS 32 f.base + ((lane (s.readV 24 f.idx) i).zeroExtend 64 <<< f.sc.toNat) + f.disp.signExtend 64 * 4).toNat

/-- The fault of the lowest faulting lane, EVAL its address (R141). -/
def State.laneFault (s : State) (f : MemF) (write read : Bool) : Option TrapInfo :=
  (List.range 32).findSome? (fun i =>
    (s.scratchCheck (s.laneAddr f i) 4 write read 4).map (fun t => { t with eval := BitVec.ofNat 64 (s.laneAddr f i) }))

/-- VGATH (R141). -/
def effVgath (f : MemF) (s : State) : Act :=
  match s.laneFault f false true with
  | some t => .trap t
  | none => .ok (s.setCur (s.cur.issue (dstV f.d) (ofLanes (fun i =>
      BitVec.ofNat 32 (bytesWord (s.scratchRead s.iss.site s.iss.slot (s.laneAddr f i) 4 (1000 * (s.iss.pos + 1) + 4 * i))))) 4 0 (some 9)))

/-- VSCAT: lanes in ascending order (R141). -/
def effVscat (f : MemF) (s : State) : Act :=
  match s.laneFault f true false with
  | some t => .trap t
  | none => .ok ((List.range 32).foldl (fun s1 i =>
      s1.holdStore (s.laneAddr f i) (wordBytes 4 (lane (s.readV 40 f.d) i).toNat) false) s)

/-- The bytes that an atomic of this bundle in slot L0 has already changed, laid over bytes read (R143). -/
def overlayAtomics (wr : List (Nat × List Byte × Bool)) (p : Nat) (bs : List Byte) : List Byte :=
  wr.foldl (fun bs (q, new, atomic) =>
    if atomic then (List.range bs.length).map (fun i => if q ≤ p + i ∧ p + i < q + new.length then new.getD (p + i - q) 0 else bs.getD i 0)
    else bs) bs

/-- AOP (R143). -/
def aopOf (f : MemF) : Nat := f.disp.toNat / 1024

/-- ATOMS (R143): D with the scratch-load latency. -/
def effAtoms (f : MemF) (s : State) : Act :=
  let n := tyBytes (memT f)
  let p := (s.eaAtom f n).toNat
  if p % n ≠ 0 then .trap ⟨.atomalign, 2, BitVec.ofNat 64 p⟩
  else match s.scratchCheck p n true true 1 with
    | some t => .trap t
    | none =>
      let old := bytesWord (overlayAtomics s.iss.wr p (s.curBytes p n))
      let new := atomNew (aopOf f) (memT f) old ((s.readS 24 f.idx).toNat % 2 ^ (8 * n)) (s.readS 40 f.d).toNat
      .ok ((s.setCur (s.cur.issue (dstS f.d) ((atomResult (memT f) old).zeroExtend 1024) 4)).holdStore p (wordBytes n new) true)

/-- CHKV: the check value of a scratch granule, with the scratch-load latency (R152). -/
def effChkv (f : RRR) (s : State) : Act :=
  let p := (s.readS 32 f.a).toNat
  match s.scratchCheck p 64 false true 64 with
  | some t => .trap t
  | none => .ok (s.cResult f.d ((checkValue (s.curBytes p 64) (s.readS 24 f.b).toNat ((s.readS 16 f.c).toNat % 2 ^ 32)).zeroExtend 64) 4)

/-! ### Waits of path C (R142, R150, R360) -/

/-- A later C or A syllable waits while an acquire part is under way (R360). -/
def waitAcquire (s : State) : Option Hold := if s.cur.acquiring = 0 then none else some ⟨true, id⟩

/-- A C access waits for a maintenance walk that has yet to pass its line (R150). -/
def waitWalk (vl : Nat) (s : State) : Option Hold := if s.curTile.walkAhead s.cur.sys.ctxid vl then some ⟨true, id⟩ else none

/-- A wait until the line has been filled: what is to be written back or invalidated first must be here. -/
def waitFilled (vl : Nat) (s : State) : Option Hold :=
  if s.curTile.lines.any (fun l => l.is s.cur.sys.ctxid s.cur.sys.incarn vl && !l.filled) then some ⟨true, id⟩ else none

/-! ### The release part (R151, R358, R360, R361) -/

/-- Dirty lines of the instance's context that a release at the scope writes back first. -/
def State.dirtyFor (s : State) (x : Scope) : List Line :=
  s.curTile.lines.filter (fun l => l.dirty && decide (l.ctx = s.cur.sys.ctxid) && decide (l.inc = s.cur.sys.incarn) &&
    ((scopeRemote x) || !(s.far l.pa)))

/-- Paths of R151: bit 0 C, 1 S, 2 G, 3 A, 4 N, 5 H. -/
def hasPath (p i : Nat) : Bool := p.testBit i

/-- Is a host write that a PCIe port accepted up to a TIME still to be performed (R361)? -/
def State.hostWrites (s : State) (t : Nat) : Bool :=
  s.agenda.any (fun p => decide (p.due ≤ t) && match p.ev with | .hostWrite _ _ _ => true | _ => false)

/-- Is the release part for the paths `p` at scope `x` done (R361)? `chans` are the channels that path S covers, `syl` is a release
syllable, which at TILE waits for earlier ATOMGs (R360). -/
def State.released (s : State) (p : Nat) (x : Scope) (chans : Nat) (syl : Bool) (snap : FenceSnap) : Bool :=
  let c := s.cur
  (!(hasPath p 0) || (!(s.loadsOut s.iss.site s.iss.slot (scopeRemote x)) && (!(scopeBeyond x) ||
    ((s.dirtyFor x).isEmpty && decide (c.ackC = 0) && (!(scopeRemote x) || decide (c.ackCR = 0)) && !(s.walksOut s.iss.site c.sys.ctxid))))) &&
  (!(hasPath p 3) || (!(scopeBeyond x) && !syl) || (decide (c.ackA = 0) && (!(scopeRemote x) || decide (c.ackAR = 0)))) &&
  (!(hasPath p 1) || !(scopeBeyond x) || (List.range 16).all (fun i => !(chans.testBit i) ||
    ((c.ch.toList.getD i Chan.idle).unacked.all (fun u => decide (snap.wps.getD i 0 < u.1) || (u.2 && !(scopeRemote x)))))) &&
  (!(hasPath p 4) || (c.injq.isEmpty && (!(scopeBeyond x) || (c.awaitOrder.isEmpty && decide (c.awaitSend = 0))))) &&
  (!(hasPath p 5) || x != .system || !(s.hostWrites snap.host))

/-- What a release part that begins now waits for. -/
def State.fenceSnap (s : State) (hold : Bool) : FenceSnap := ⟨s.cur.ch.toList.map (·.wp), s.time, s.cur.ch.toList.map (·.seq), hold⟩

/-- The snapshot of the syllable at issue: taken when its wait began, or now. -/
def State.fenceOf (s : State) (hold : Bool) : FenceSnap := (KMap.get? s.cur.fenced s.iss.pos).getD (s.fenceSnap hold)
def State.keepFence (s : State) (f : FenceSnap) : State := s.setCur { s.cur with fenced := KMap.set s.cur.fenced s.iss.pos f }

/-- The wait of a release part: dirty lines are written back, and the bundle waits until all is performed (R151, R360). -/
def State.waitRelease (s : State) (p : Nat) (x : Scope) (chans : Nat) (syl : Bool) (hold : Bool := false) : Option Hold :=
  let snap := s.fenceOf hold
  if s.released p x chans syl snap then none
  else some ⟨true, fun s =>
    let s1 := s.keepFence snap
    if hasPath p 0 && (scopeBeyond x) then
      (s1.dirtyFor x).foldl (fun s l => if l.filled then s.writeBack s.iss.site l else s) s1
    else s1⟩

/-- Begins the release part of path C for a message that does not hold its bundle (R209, R230, R275): dirty lines are written back, those whose
fill is on its way as soon as it is in. -/
def State.beginRelease (s : State) (x : Scope) : State :=
  (s.dirtyFor x).foldl (fun s l => if l.filled then s.writeBack s.iss.site l else s.putLine s.iss.site { l with through := true }) s
/-- The release part for paths C and S of a message of the slot at issue, where it asks for one. -/
def State.relWait (s : State) (rel remote : Bool) : Option RelWait :=
  if rel then some ⟨s.iss.site, s.iss.slot, s.cur.sys.ctxid, s.cur.sys.incarn, remote, s.cur.ch.toList.map (·.wp)⟩ else none

/-- The release part of a release syllable: paths C and A (R360). -/
def waitRel (o : Option Scope) (s : State) : Option Hold :=
  match o with
  | some x => s.waitRelease 9 x 0 true
  | none => none

/-! ### Global loads and stores (R142, R360) -/

/-- The checks before translation: NONCANON, then alignment (R142). -/
def globalPre (ea : Word) (align : Nat) (kind : FKind) : Option TrapInfo :=
  if 2 ^ 56 ≤ ea.toNat then some ⟨.noncanon, 2, ea⟩ else if ea.toNat % align ≠ 0 then some ⟨kind, 2, ea⟩ else none

/-- An access that finds its line struck by an uncorrectable error (R145): a clean line is invalidated and fetched again, without a fault; a dirty
one is poisoned, and the syllable is to raise ECCL1. -/
def State.waitEcc (s : State) (vl : Nat) : Option Hold :=
  match s.curTile.line? s.cur.sys.ctxid s.cur.sys.incarn vl with
  | some l =>
    if s.lineStruck s.iss.site l then some ⟨true, fun s =>
      let s1 := s.mendWay s.iss.site (l.vline % 512) l.way
      if l.dirty then { s1.putLine s.iss.site { l with poison := true } with struck := s1.struck ++ [.eccl1 s.iss.site s.iss.slot vl] }
      else ((s1.reportError s.iss.site).dropLine s.iss.site l).startFill s.iss.site l.ctx l.inc vl l.pa l.lock⟩
    else none
  | none => none
/-- Has the bundle at issue met such an error in a dirty line? -/
def State.ecc1 (s : State) (vl : Nat) : Bool := s.struck.contains (.eccl1 s.iss.site s.iss.slot vl)

/-- The wait of a global access (R142): for its line's walk, for its translation. -/
def State.waitGlobal (s : State) (ea : Word) (align kind : Nat) (rel acq : Option Scope) : Option Hold :=
  if (globalPre ea align .aligng).isSome then none
  else firstHold [waitAcquire s, waitWalk (ea.toNat / 128) s, s.waitTrans ea.toNat kind, waitRel rel s,
    (match acq with | some x => if (scopeBeyond x) then waitFilled (ea.toNat / 128) s else none | none => none), s.waitEcc (ea.toNat / 128)]

/-- The translation of an access that no longer waits, or the fault of its walk (R142); ECCL1 where its line has been found bad (R145), with an
EVAL that the spec does not state (log 23). -/
def State.globalAt (s : State) (ea : Word) (align kind : Nat) (ak : FKind) (go : Trans → State → Act) : Act :=
  match globalPre ea align ak with
  | some t => .trap t
  | none =>
    match s.known s.iss.site s.iss.slot ea.toNat kind with
    | .ok t =>
      if s.ecc1 (ea.toNat / 128) then .trap ⟨.eccl1, 2, s.freeW (64 * s.iss.pos + 6)⟩
      else go t (s.useTrans s.iss.site t)
    | .fault k => .trap ⟨k, 2, ea⟩
    | .wait _ _ => .ok s

/-- An acquire begins: later C and A syllables wait; beyond TILE the line is written back if dirty and invalidated first (R360). One that the other
syllable of the bundle has asked for is still to be read at the home. -/
def State.beginAcquire (s : State) (acq : Option Scope) (vl : Nat) : State :=
  match acq with
  | none => s
  | some x =>
    let s1 := s.setCur { s.cur with acquiring := s.cur.acquiring + 1 }
    if (scopeBeyond x) then
      match s1.curTile.line? s1.cur.sys.ctxid s1.cur.sys.incarn vl with
      | some l => if l.filled then s1.maintLine s1.iss.site 3 l else s1
      | none => s1
    else s1

/-- A load on path C by the bundle at issue. -/
def loadAct (f : MemF) (n : Nat) (dst : Reg) (vec : Bool) (s : State) : Act :=
  let ea := s.ea f n
  s.globalAt ea n 0 .aligng (fun t s =>
    .ok ((s.beginAcquire (memAcq f) (ea.toNat / 128)).loadC s.iss.site s.iss.slot s.cur.sys.ctxid s.cur.sys.incarn ea.toNat (t.pa ea.toNat) n
      dst (memTy f) vec ea (memAcq f)))

/-- LDG (R142). -/
def waitLdg (f : MemF) (s : State) : Option Hold := s.waitGlobal (s.ea f (tyBytes (memT f))) (tyBytes (memT f)) 0 none (memAcq f)
def effLdg (f : MemF) (s : State) : Act := loadAct f (tyBytes (memT f)) (dstS f.d) false s
/-- VLDG (R142). -/
def waitVldg (f : MemF) (s : State) : Option Hold := s.waitGlobal (s.ea f 128) 128 0 none (memAcq f)
def effVldg (f : MemF) (s : State) : Act := loadAct f 128 (dstV f.d) true s

/-- A store on path C by the bundle at issue: held back with the bundle's other stores (R359). -/
def storeAct (f : MemF) (n : Nat) (bs : List Byte) (s : State) : Act :=
  let ea := s.ea f n
  s.globalAt ea n 1 .aligng (fun t s =>
    .ok (s.setIss { s.iss with gwr := s.iss.gwr ++ [(ea.toNat, t.pa ea.toNat, bs, (match (memRel f) with | some x => (scopeBeyond x) | none => false))] }))

/-- STG (R142, R360). -/
def waitStg (f : MemF) (s : State) : Option Hold := s.waitGlobal (s.ea f (tyBytes (memT f))) (tyBytes (memT f)) 1 (memRel f) none
def effStg (f : MemF) (s : State) : Act := storeAct f (tyBytes (memT f)) (wordBytes (tyBytes (memT f)) (s.readS 40 f.d).toNat) s
/-- VSTG (R142, R360). -/
def waitVstg (f : MemF) (s : State) : Option Hold := s.waitGlobal (s.ea f 128) 128 1 (memRel f) none
def effVstg (f : MemF) (s : State) : Act := storeAct f 128 (wordBytes 128 (s.readV 40 f.d).toNat) s

/-- ATOMG (R143, R360). -/
def waitAtomg (f : MemF) (s : State) : Option Hold :=
  let ea := s.eaAtom f (tyBytes (memT f))
  if (globalPre ea (tyBytes (memT f)) .atomalign).isSome then none
  else firstHold [waitAcquire s, waitWalk (ea.toNat / 128) s, s.waitTrans ea.toNat 2, waitRel (memRel f) s, waitFilled (ea.toNat / 128) s,
    s.waitEcc (ea.toNat / 128)]

/-- ATOMG (R143): the line is written back and invalidated first; a lock on it is lost, with LOCKLOST (DESIGN CHOICE, log 45). -/
def effAtomg (f : MemF) (s : State) : Act :=
  let n := tyBytes (memT f)
  let ea := s.eaAtom f n
  let v := s.readS 24 f.idx
  let cmp := s.readS 40 f.d
  s.globalAt ea n 2 .atomalign (fun t s =>
    let pa := t.pa ea.toNat
    let x := s.cur
    let far := s.far pa
    let s1 := match s.curTile.line? x.sys.ctxid x.sys.incarn (ea.toNat / 128) with
      | some l => if l.filled then s.maintLine s.iss.site 3 l else s.putLine s.iss.site { l with once := true }
      | none => s
    let y := s1.cur.await (dstS f.d)
    let y1 := if far then { y with ackAR := y.ackAR + 1 } else { y with ackA := y.ackA + 1 }
    let s2 := s1.setCur (if (memAcq f).isSome then { y1 with acquiring := y1.acquiring + 1 } else y1)
    .ok (s2.sendAtomic s.iss.site s.iss.slot n ⟨x.sys.ctxid, x.sys.incarn, ea.toNat, pa, .atomic (aopOf f) (memTy f) v cmp,
      .atom s.iss.site s.iss.slot (dstS f.d) (memTy f) ea (memAcq f) far⟩))

/-- PREF never faults and never waits on a translation (R144). -/
def waitPref (f : MemF) (s : State) : Option Hold :=
  firstHold [waitAcquire s, waitWalk ((s.ea f 128).toNat / 128) s]
def effPref (f : MemF) (s : State) : Act :=
  let ea := (s.ea f 128).toNat
  let x := s.cur
  if 2 ^ 56 ≤ ea then .ok s
  else match s.known s.iss.site s.iss.slot ea 3 with
    | .ok t => .ok ((s.useTrans s.iss.site t).needLine s.iss.site x.sys.ctxid x.sys.incarn (ea / 128) (t.pa ea - t.pa ea % 128))
    | _ => .ok (s.toWalker ⟨s.iss.site, s.iss.slot, x.sys.ctxid, x.sys.incarn, ea, 3, none⟩)

/-! ### Line maintenance (R150) -/

/-- The range check of CLEAN, INVAL, DISCARD, LLOCK: NONCANON with the lowest address at or above 2^56. -/
def rangeFault (a n : Nat) : Option TrapInfo :=
  if n = 0 then none
  else if 2 ^ 56 ≤ a then some ⟨.noncanon, 2, BitVec.ofNat 64 a⟩
  else if 2 ^ 56 < a + n then some ⟨.noncanon, 2, BitVec.ofNat 64 (2 ^ 56)⟩ else none

/-- Does line vl overlap [a, a + n)? -/
def overlaps (a n vl : Nat) : Bool := decide (0 < n) && decide (a < 128 * vl + 128) && decide (128 * vl < a + n)

def maintAct (kind : Nat) (f : RRR) (s : State) : Act :=
  let a := (s.readS 32 f.a).toNat
  let n := (s.readS 24 f.b).toNat
  match rangeFault a n with
  | some t => .trap t
  | none => .ok (if n = 0 then s else
      s.startWalk s.iss.site kind s.cur.sys.ctxid s.cur.sys.incarn (some s.iss.slot) a (a + n) (overlaps a n))

/-- CLEAN (R150). -/
def waitClean (_ : RRR) (s : State) : Option Hold := waitAcquire s
def effClean (f : RRR) (s : State) : Act := maintAct 0 f s
/-- INVAL (R150). -/
def waitInval (_ : RRR) (s : State) : Option Hold := waitAcquire s
def effInval (f : RRR) (s : State) : Act := maintAct 1 f s

/-- DISCARD's own checks (R150). -/
def discardPre (a n : Nat) : Option TrapInfo :=
  match rangeFault a n with
  | some t => some t
  | none =>
    if n = 0 then none
    else if a % 128 ≠ 0 then some ⟨.aligng, 2, BitVec.ofNat 64 a⟩
    else if n % 128 ≠ 0 then some ⟨.aligng, 2, BitVec.ofNat 64 n⟩ else none

/-- DISCARD translates every page of its range at issue, in ascending address, as a write (R150). -/
def waitDiscard (f : RRR) (s : State) : Option Hold :=
  let a := (s.readS 32 f.a).toNat
  let n := (s.readS 24 f.b).toNat
  if n = 0 ∨ (discardPre a n).isSome then none
  else firstHold [waitAcquire s, (pagesOf a n).foldl (fun o va =>
    match o with
    | some h => some h
    | none => if (pagesOf a n).any (fun w => decide (w < va) && (match s.known s.iss.site s.iss.slot w 1 with | .fault _ => true | _ => false))
        then none else s.waitTrans va 1) none]

/-- The kinds that DISCARD reports (R150). -/
def discardKind (k : FKind) : FKind := if k = .permr ∨ k = .permw then .discardro else k

/-- The bytes of a page part of a DISCARD become undefined at the home; writes of it that are still on their way store nothing more. -/
def State.discardPart (s : State) (ctx va n : Nat) (t : Trans) : State :=
  let pa := t.pa va
  let s1 := { s with agenda := s.agenda.map (fun p => match p.ev with
    | .memoryRequestAtHome r =>
      match r.op with
      | .write _ _ | .line _ _ _ =>
        if r.ctx = ctx ∧ va ≤ r.va ∧ r.va < va + n then { p with ev := .memoryRequestAtHome { r with op := .write [] false } } else p
      | _ => p
    | _ => p) }
  if s.far pa then s1 else { s1 with discarded := rangesDel s1.discarded (paLocal pa) (paLocal pa + n) ++ [(paLocal pa, paLocal pa + n)] }

/-- DISCARD (R150): the range is undefined until it is written, and its lines are invalidated without write-back. -/
def effDiscard (f : RRR) (s : State) : Act :=
  let a := (s.readS 32 f.a).toNat
  let n := (s.readS 24 f.b).toNat
  match discardPre a n with
  | some t => .trap t
  | none =>
    let ps := pagesOf a n
    match ps.findSome? (fun va => match s.known s.iss.site s.iss.slot va 1 with
        | .fault k => some (TrapInfo.mk (discardKind k) 2 (BitVec.ofNat 64 va)) | _ => none) with
    | some t => .trap t
    | none =>
      let s1 := ps.foldl (fun s1 va => match s.known s.iss.site s.iss.slot va 1 with
        | .ok t => (s1.useTrans s.iss.site t).discardPart s.cur.sys.ctxid va (min (a + n) ((va / 65536 + 1) * 65536) - va) t
        | _ => s1) s
      let t := s1.curTile
      let s2 := s1.setCurTile { t with lines := t.lines.map (fun l =>
        if l.ctx = s.cur.sys.ctxid ∧ l.inc = s.cur.sys.incarn ∧ overlaps a n l.vline then { l with dirty := false, through := false } else l) }
      .ok (if n = 0 then s else s2.startWalk s.iss.site 2 s.cur.sys.ctxid s.cur.sys.incarn (some s.iss.slot) a (a + n) (overlaps a n))

/-! ### Locks (R149) -/

/-- The lines that cover [a, a + n). -/
def linesOf (a n : Nat) : List Nat := if n = 0 then [] else (List.range ((a + n - 1) / 128 - a / 128 + 1)).map (· + a / 128)

/-- The first line of a range whose set would have too many locked ways once it is locked (R149). -/
def State.lockFull (s : State) (ls : List Nat) : Option Nat :=
  let t := s.curTile
  let caches := (t.ways.toList.filter (· == .cache)).length
  let mine (vl : Nat) : Bool := t.lines.any (fun l => l.is s.cur.sys.ctxid s.cur.sys.incarn vl && l.lock.isSome)
  ls.find? (fun vl =>
    let held := (t.lines.filter (fun l => l.lock.isSome && decide (l.vline % 512 = vl % 512))).length
    let new := (ls.filter (fun w => decide (w ≤ vl) && decide (w % 512 = vl % 512) && !(mine w))).length
    decide (caches < held + new + 2))

def lockPre (s : State) (a n : Nat) : Option TrapInfo :=
  if 65536 < n then some ⟨.lockfull, 2, s.freeW (64 * s.iss.pos + 5)⟩
  else match s.lockFull (linesOf a n) with
    | some vl => some ⟨.lockfull, 2, BitVec.ofNat 64 (128 * vl)⟩
    | none => rangeFault a n

/-- LLOCK (R149). It translates as a read, and a fault of its translation has as EVAL the lowest address of the range in the page (DESIGN CHOICE,
log 56). -/
def waitLlock (f : RRR) (s : State) : Option Hold :=
  let a := (s.readS 32 f.a).toNat
  let n := (s.readS 24 f.b).toNat
  if (lockPre s a n).isSome then none
  else firstHold (waitAcquire s :: (linesOf a n).map (fun vl => waitWalk vl s) ++ (pagesOf a n).map (fun va => s.waitTrans va 0))

def effLlock (f : RRR) (s : State) : Act :=
  let a := (s.readS 32 f.a).toNat
  let n := (s.readS 24 f.b).toNat
  match lockPre s a n with
  | some t => .trap t
  | none =>
    match (pagesOf a n).findSome? (fun va => match s.known s.iss.site s.iss.slot va 0 with
        | .fault k => some (TrapInfo.mk k 2 (BitVec.ofNat 64 va)) | _ => none) with
    | some t => .trap t
    | none => .ok ((linesOf a n).foldl (fun s1 vl =>
        match s1.curTile.line? s.cur.sys.ctxid s.cur.sys.incarn vl with
        | some l => s1.putLine s.iss.site { l with lock := some s.iss.slot }
        | none =>
          let va := max a (vl * 128)
          match s.known s.iss.site s.iss.slot (if va / 65536 = a / 65536 then a else va / 65536 * 65536) 0 with
          | .ok t => s1.startFill s.iss.site s.cur.sys.ctxid s.cur.sys.incarn vl (t.pa va - t.pa va % 128) (some s.iss.slot)
          | _ => s1) ((pagesOf a n).foldl (fun s1 va => match s.known s.iss.site s.iss.slot va 0 with | .ok t => s1.useTrans s.iss.site t | _ => s1) s))

/-- LUNLK (R149): D is the number of lines unlocked plus LOCKLOST x 2^32; LOCKLOST clears. A line that an LLOCK of the same bundle locks is none
of them (R49). -/
def waitLunlk (_ : RRR) (s : State) : Option Hold := waitAcquire s
def effLunlk (f : RRR) (s : State) : Act :=
  let a := (s.readS 32 f.a).toNat
  let n := (s.readS 24 f.b).toNat
  let t := s.curTile
  let mine (l : Line) : Bool := l.lock == some s.iss.slot && overlaps a n l.vline && s.iss.lock0.contains l.vline
  let count := (t.lines.filter mine).length
  let s1 := s.setCurTile { t with lines := t.lines.map (fun l => if mine l then { l with lock := none } else l) }
  let lost := if s.cur.lockLost then 2 ^ 32 else 0
  .ok ((s1.setCur { s1.cur with lockLost := false }).cResult f.d (BitVec.ofNat 64 (count + lost)))

/-! ### Ways (R147, R148) -/

/-- Has a channel of the slot in the given state an undelivered address in a way that `w` picks? -/
def Slot.chanInWays (x : Slot) (st : ChState) (w : Nat → Bool) : Bool :=
  x.ch.toList.any (fun c => c.st == st && (List.range 10).any (fun n => w n && c.inRange (0x200000 + 0x10000 * n) (0x210000 + 0x10000 * n)))

/-- The mask that a change of the bundle at issue finds: the roles as they are, after the slot's own change of that kind that issued before it. -/
def State.wayMask (s : State) (gate : Bool) : Nat :=
  match (s.cur.wayChange.filter (fun c => c.gate == gate)).getLast? with
  | some c => c.req
  | none => if gate then s.curTile.gatedMask else s.curTile.lentMask s.iss.slot

/-- WAYMASK and WAYGATE: WAYBUSY where the change is not allowed, otherwise the change begins and the slot waits for it. A way that a change under
way is to take is no CACHE way any more (R146); one that an earlier change of the same bundle returns is one (DESIGN CHOICE, log 55). -/
def wayAct (gate : Bool) (f : RRR) (s : State) : Act :=
  let v := s.readS 32 f.a
  let req := v.toNat
  let cur := s.wayMask gate
  let isCache (w : Nat) : Bool := s.cacheWay s.iss.site w || s.cur.wayChange.any (fun c => c.returns s.curTile s.iss.slot w)
  if 1024 ≤ req then .trap ⟨.rsvfield, 2, v⟩
  else if (List.range 10).any (fun w => req.testBit w && !(cur.testBit w) && !(isCache w)) then .trap ⟨.waybusy, 2, v⟩
  else if ((List.range 10).filter (fun w => isCache w && !(req.testBit w))).length < 2 then .trap ⟨.waybusy, 2, v⟩
  else if !gate && s.cur.chanInWays .frozen (fun w => cur.testBit w && !(req.testBit w)) then .trap ⟨.waybusy, 2, v⟩
  else .ok (s.setCur { s.cur.await (dstS f.d) with wait := .ways, wayChange := s.cur.wayChange ++ [⟨dstS f.d, gate, req, cur⟩] })

/-- WAYMASK (R147). -/
def effWaymask (f : RRR) (s : State) : Act := wayAct false f s
/-- WAYGATE (R148). -/
def effWaygate (f : RRR) (s : State) : Act := wayAct true f s

/-- May the first way change of a slot end: no RUNNING channel of the slot has an undelivered address in a way that changes (R147), and every way that
leaves GATED has powered up (R148)? -/
def State.wayReady (s : State) (site slot : Nat) (x : Slot) : Bool :=
  let t := s.tileAt site
  match x.wayChange with
  | c :: _ =>
    if c.gate then !((List.range 10).any (fun w => c.returns t slot w))
    else !(x.chanInWays .running (fun w => c.leaves t slot w || c.returns t slot w))
  | [] => false

/-! ### Fences (R151, R361) -/

def fenceKind (f : RRR) : Nat := f.c.toNat % 4
def fenceX (f : RRR) : Scope := fenceScope (f.c.toNat / 4 % 8)

/-- Have the earlier reads of the instance on the paths `p` returned their data, which kind acq waits for (R361)? Of a channel, the beat that it
had requested when the fence came to issue. -/
def State.readsBack (s : State) (p : Nat) (snap : FenceSnap) : Bool :=
  (!(hasPath p 0) || !(s.loadsOut s.iss.site s.iss.slot true)) &&
  (!(hasPath p 1) || (List.range 16).all (fun i => match (s.cur.chan i).beat with | some b => decide (snap.seqs.getD i 0 ≤ b.seq) | none => true)) &&
  (!(hasPath p 3) || (decide (s.cur.ackA = 0) && decide (s.cur.ackAR = 0)))
/-- The wait of a fence: the release part of its kinds rel and ar, and earlier reads of its kind acq; with S in P2 it holds back the beats that the
slot's channels have yet to request, unless its kind is rel (R151, R361). -/
def State.waitFencePaths (s : State) (kind p1 p2 : Nat) (x : Scope) : Option Hold :=
  let hold := decide (kind ≠ 2) && hasPath p2 1
  let snap := s.fenceOf hold
  firstHold [waitAcquire s,
    if kind ≥ 2 then s.waitRelease p1 x 0xFFFF false hold else none,
    if kind = 1 ∧ !(s.readsBack p1 snap) then some ⟨true, fun s => s.keepFence snap⟩ else none]

/-- The acquire part (R151): beyond TILE with C in P2 the context's lines are written back and invalidated. -/
def State.fenceAcquire (s : State) (kind p2 : Nat) (x : Scope) : Act :=
  .ok (if kind ≠ 2 ∧ (scopeBeyond x) ∧ hasPath p2 0 then s.startAcquire s.iss.site s.iss.slot s.cur.sys.ctxid s.cur.sys.incarn else s)

/-- FENCE covers paths C and A (R151). -/
def waitFence (f : RRR) (s : State) : Option Hold := s.waitFencePaths (fenceKind f) 9 9 (fenceX f)
def effFence (f : RRR) (s : State) : Act := s.fenceAcquire (fenceKind f) 9 (fenceX f)
/-- XFENCE with its path sets (R151). -/
def waitXfence (f : RRR) (s : State) : Option Hold := s.waitFencePaths (fenceKind f) (f.b.toNat % 64) (f.d.toNat % 64) (fenceX f)
def effXfence (f : RRR) (s : State) : Act := s.fenceAcquire (fenceKind f) (f.d.toNat % 64) (fenceX f)


/-! The instructions: each acts as its effect says where its guard holds (R33). -/

/-- LD. -/
def execLd (h : Hdr) (f : MemF) (s : State) : Host.Outcome State Fault Refusal := asStep h (effLd f) s
/-- ST. -/
def execSt (h : Hdr) (f : MemF) (s : State) : Host.Outcome State Fault Refusal := asStep h (effSt f) s
/-- VLD. -/
def execVld (h : Hdr) (f : MemF) (s : State) : Host.Outcome State Fault Refusal := asStep h (effVld f) s
/-- VST. -/
def execVst (h : Hdr) (f : MemF) (s : State) : Host.Outcome State Fault Refusal := asStep h (effVst f) s
/-- VGATH. -/
def execVgath (h : Hdr) (f : MemF) (s : State) : Host.Outcome State Fault Refusal := asStep h (effVgath f) s
/-- VSCAT. -/
def execVscat (h : Hdr) (f : MemF) (s : State) : Host.Outcome State Fault Refusal := asStep h (effVscat f) s
/-- LDG. -/
def execLdg (h : Hdr) (f : MemF) (s : State) : Host.Outcome State Fault Refusal :=
  asStepW h (waitLdg f) (effLdg f) s
/-- STG. -/
def execStg (h : Hdr) (f : MemF) (s : State) : Host.Outcome State Fault Refusal :=
  asStepW h (waitStg f) (effStg f) s
/-- VLDG. -/
def execVldg (h : Hdr) (f : MemF) (s : State) : Host.Outcome State Fault Refusal :=
  asStepW h (waitVldg f) (effVldg f) s
/-- VSTG. -/
def execVstg (h : Hdr) (f : MemF) (s : State) : Host.Outcome State Fault Refusal :=
  asStepW h (waitVstg f) (effVstg f) s
/-- ATOMS. -/
def execAtoms (h : Hdr) (f : MemF) (s : State) : Host.Outcome State Fault Refusal := asStep h (effAtoms f) s
/-- ATOMG. -/
def execAtomg (h : Hdr) (f : MemF) (s : State) : Host.Outcome State Fault Refusal :=
  asStepW h (waitAtomg f) (effAtomg f) s
/-- PREF. -/
def execPref (h : Hdr) (f : MemF) (s : State) : Host.Outcome State Fault Refusal :=
  asStepW h (waitPref f) (effPref f) s
/-- CLEAN. -/
def execClean (h : Hdr) (f : RRR) (s : State) : Host.Outcome State Fault Refusal :=
  asStepW h (waitClean f) (effClean f) s
/-- INVAL. -/
def execInval (h : Hdr) (f : RRR) (s : State) : Host.Outcome State Fault Refusal :=
  asStepW h (waitInval f) (effInval f) s
/-- DISCARD. -/
def execDiscard (h : Hdr) (f : RRR) (s : State) : Host.Outcome State Fault Refusal :=
  asStepW h (waitDiscard f) (effDiscard f) s
/-- WAYMASK. -/
def execWaymask (h : Hdr) (f : RRR) (s : State) : Host.Outcome State Fault Refusal := asStep h (effWaymask f) s
/-- WAYGATE. -/
def execWaygate (h : Hdr) (f : RRR) (s : State) : Host.Outcome State Fault Refusal := asStep h (effWaygate f) s
/-- LLOCK. -/
def execLlock (h : Hdr) (f : RRR) (s : State) : Host.Outcome State Fault Refusal :=
  asStepW h (waitLlock f) (effLlock f) s
/-- LUNLK. -/
def execLunlk (h : Hdr) (f : RRR) (s : State) : Host.Outcome State Fault Refusal :=
  asStepW h (waitLunlk f) (effLunlk f) s
/-- FENCE. -/
def execFence (h : Hdr) (f : RRR) (s : State) : Host.Outcome State Fault Refusal :=
  asStepW h (waitFence f) (effFence f) s
/-- XFENCE. -/
def execXfence (h : Hdr) (f : RRR) (s : State) : Host.Outcome State Fault Refusal :=
  asStepW h (waitXfence f) (effXfence f) s
/-- CHKV. -/
def execChkv (h : Hdr) (f : RRR) (s : State) : Host.Outcome State Fault Refusal := asStep h (effChkv f) s

end Sys2Proof.Machine
end

