-- ==== Sys2Proof/Machine/Matrix.lean ====
section
/-! DEFINITION. The matrix unit (07_matrix R162 to R179) with the slew guard of 13_step R292, R293. -/

namespace Sys2Proof.Machine

/-- The lowest of the addresses that `f` finds in the runs. -/
def lowestIn (rs : List (Nat × Nat)) (f : Nat → Nat → Option Nat) : Option Nat :=
  rs.foldl (fun o r => match o, f r.1 r.2 with
    | none, x => x
    | some a, none => some a
    | some a, some b => some (min a b)) none

def wholly (rs : List (Nat × Nat)) (lo hi : Nat) : Bool := rs.all (fun r => decide (lo ≤ r.1) && decide (r.1 + r.2 ≤ hi))

/-! ### Issue checks (R165, R170) -/

/-- Does APR permit the multiply, and where does it start (R170)? -/
def aprStart (apr : Word) (o : MOp) : Option Nat :=
  if !apr.getLsbD 63 then some 0
  else if (apr.extractLsb' 48 15).toNat = o.addr / 8 % 2 ^ 15 ∧ (apr.extractLsb' 40 2).toNat = o.kind ∧
      (apr.extractLsb' 0 12).toNat < Shp.k o.shape then some (apr.extractLsb' 0 12).toNat
  else none

/-- The issue checks of R165, in their order; `shp`, `ka`, `kb` are the indices that the syllable names. Where A and B fail one check together (both
codebooks, both bases), A's value is the EVAL: R165 does not say (DESIGN CHOICE, log 52). -/
def State.mCheck (s : State) (o : MOp) (shp ka kb : Nat) : Option TrapInfo :=
  let x := s.cur
  let apr := x.sys.apr.toList.getD o.acc 0
  let loaded (i : Nat) : Bool := x.f.kbLoaded.toList.getD i false
  let align := if o.mul then 16 else if o.kind = 4 then 32 else 64
  let bases := if o.kind = 0 ∨ o.kind = 1 then [o.ab, o.bb] else if o.kind = 3 then [] else [o.ab]
  let inGroup (rs : List (Nat × Nat)) (g : Nat) : Bool := wholly rs (g * 0x100000) ((g + 1) * 0x100000)
  let t (k : FKind) (v : Word) : TrapInfo := ⟨k, 1, v⟩
  let n (v : Nat) : Word := BitVec.ofNat 64 v
  ([ if o.mul && !(x.f.hValid.toList.getD shp false) then some (t .badshape (n shp)) else none,
     if o.mul && Shp.atype o.shape == 13 && !(loaded ka) then some (t .badcb (n ka)) else none,
     if o.mul && Shp.btype o.shape == 13 && !(loaded kb) then some (t .badcb (n kb)) else none,
     if (o.mul && (aprStart apr o).isNone) || (o.kind == 7 && apr.getLsbD 63) then some (t .accbusy apr) else none,
     (bases.find? (fun b => decide (b.toNat % align ≠ 0))).map (t .spalign),
     if o.kind = 2 ∧ o.bb.toNat % 16 ≠ 0 then some (t .aligng o.bb) else none,
     (lowestIn (scratchRuns o) (fun p len => firstInvalid x s.curTile s.iss.slot p len)).map (fun a => t .sprange (n a)),
     if o.kind = 6 then x.writeFault o.ab.toNat (2048 * tyBytes o.ty) 1 else none,
     if (o.kind = 0 ∨ o.kind = 1) ∧ ((inGroup (aRuns o) 0 ∧ inGroup (bRuns o) 0) ∨ (inGroup (aRuns o) 1 ∧ inGroup (bRuns o) 1)) then
       some (t .banksame o.bb) else none,
     if o.mul then (if !(inGroup (aRuns o) 0) then some (t .bankconf o.ab)
       else if o.kind ≠ 2 ∧ !(inGroup (bRuns o) 1) then some (t .bankconf o.bb) else none)
     else if !(wholly (scratchRuns o) 0 0x200000) then some (t .bankconf o.ab) else none,
     if o.kind = 2 then (lowestIn (bRuns o) (fun p len => if 2 ^ 56 < p + len then some (max p (2 ^ 56)) else none)).map
       (fun a => t .noncanon (n a)) else none ] : List (Option TrapInfo)).findSome? id

/-! ### What a syllable captures at issue (R166) -/

/-- The operation that an M syllable hands to the unit. -/
def State.mOp (s : State) (kind acc : Nat) (f : RRR) (ty : Nat) : MOp :=
  let x := s.cur
  let mul := kind < 3
  let h := if mul then x.f.h.toList.getD f.c.toNat 0 else 0
  let ka := f.t.toNat % 4
  let kb := f.t.toNat / 4 % 4
  let o : MOp := {
    slot := s.iss.slot, kind := kind, acc := acc, shape := h, ab := s.readS 32 f.a, bb := if mul then s.readS 24 f.b else 0,
    kba := if mul then x.f.kb.toList.getD ka 0 else 0, kbb := if mul then x.f.kb.toList.getD kb 0 else 0,
    kbPoison := mul && ((Shp.atype h == 13 && x.f.kbPoison.toList.getD ka false) || (Shp.btype h == 13 && x.f.kbPoison.toList.getD kb false)),
    ty := ty, addr := x.pc.toNat, k := 0, started := false, raced := [], out := [], ue := none }
  { o with k := if mul then (aprStart (x.sys.apr.toList.getD acc 0) o).getD 0 else 0 }

/-! ### Waits (R54, R166, R292) -/

/-- Has the accumulator a matrix result pending in this slot? -/
def State.accResult (s : State) (n : Nat) : Bool :=
  s.curTile.unit.any (fun o => decide (o.slot = s.iss.slot) && decide (o.acc = n) && decide (o.kind ≠ 4) && decide (o.kind ≠ 6))
/-- Is a codebook of this slot pending (R176)? -/
def State.kbPending (s : State) (n : Nat) : Bool :=
  s.curTile.unit.any (fun o => decide (o.slot = s.iss.slot) && decide (o.kind = 4) && decide (o.acc = n))

/-- The unit holds four syllables already (R166). -/
def waitUnit (s : State) : Option Hold := if 4 ≤ s.curTile.unit.length then some ⟨true, id⟩ else none
def waitAcc (n : Nat) (s : State) : Option Hold := if s.accResult n then some ⟨true, id⟩ else none
def waitKb (n : Nat) (s : State) : Option Hold := if s.kbPending n then some ⟨true, id⟩ else none

/-- Sites of a domain (R16). -/
def sitesOf (dom : Nat) : List Nat := (List.range 6144).filter (fun i => decide (domainOf i = dom))
/-- The slew guard: a multiply for an idle unit waits while the reserve is empty, and SLEWHOLD counts its cycles (R292, R293). -/
def waitSlew (s : State) : Option Hold :=
  let dom := domainOf s.iss.site
  if !s.curTile.unit.isEmpty || s.cur.slewGrant then none
  else if KMap.getD s.quantaUsed dom 0 < 256 ∧ (s.slewWaiters dom).isEmpty then none
  else some ⟨true, fun s =>
    (s.setCur { s.cur with slewWait := true }).countHeld s.iss.site s.iss.slot (1 + Config.stall s.tick)⟩

/-- A multiply that issues to an idle unit takes a quantum; one that finds the unit busy takes none, and gives back what it was granted (R292). -/
def State.takeQuantum (s : State) : State :=
  let dom := domainOf s.iss.site
  if !s.curTile.unit.isEmpty then s.leaveSlew s.iss.site s.iss.slot
  else if s.cur.slewGrant then s.setCur { s.cur with slewWait := false, slewGrant := false }
  else
    let s1 := s.setCur { s.cur with slewWait := false }
    let n := KMap.getD s.quantaUsed dom 0
    { s1 with quantaUsed := KMap.set s1.quantaUsed dom (n + 1)
              slewAt := if n = 0 then KMap.set s1.slewAt dom (s.slewGrid dom) else s1.slewAt }

/-- Waits of a multiply, by the fields that it names. -/
def waitMultiply (f : RRR) (s : State) : Option Hold :=
  let h := s.cur.f.h.toList.getD f.c.toNat 0
  firstHold [waitAcc f.d.toNat s, (if Shp.atype h = 13 then waitKb (f.t.toNat % 4) s else none),
    (if Shp.btype h = 13 then waitKb (f.t.toNat / 4 % 4) s else none)]

/-- A multiply waits for its room in the unit, and for its quantum. -/
def waitMultiplyUnit (kind : Nat) (f : RRR) (s : State) : Option Hold :=
  if (s.mCheck (s.mOp kind f.d.toNat f 0) f.c.toNat (f.t.toNat % 4) (f.t.toNat / 4 % 4)).isSome then none
  else firstHold [waitUnit s, waitSlew s]

/-- Hands a checked syllable to the unit with this bundle. -/
def mIssue (o : MOp) (s : State) : Act := .ok (s.setIss { s.iss with mops := s.iss.mops ++ [o] })

/-! ### Syllables (R172 to R179) -/

/-- MSHAPE (R173). -/
def effMshape (f : RRR) (s : State) : Act :=
  let v := s.readS 32 f.a
  if v.getLsbD 63 || !(Shp.typeOk (Shp.atype v)) || !(Shp.typeOk (Shp.btype v)) then .trap ⟨.badshape, 1, v⟩
  else
    let x := s.cur
    .ok (s.setCur { x with f := { x.f with h := x.f.h.setIfInBounds f.d.toNat v, hValid := x.f.hValid.setIfInBounds f.d.toNat true } })

/-- MZERO (R177). -/
def waitMzero (f : RRR) (s : State) : Option Hold := firstHold [waitAcc f.d.toNat s, waitUnit s]
def effMzero (f : RRR) (s : State) : Act := mIssue (s.mOp 3 f.d.toNat f 0) s

def mulAct (kind : Nat) (f : RRR) (s : State) : Act :=
  let o := s.mOp kind f.d.toNat f 0
  match s.mCheck o f.c.toNat (f.t.toNat % 4) (f.t.toNat / 4 % 4) with
  | some t => .trap t
  | none => mIssue o s.takeQuantum

/-- MMA (R174). -/
def waitMma (f : RRR) (s : State) : Option Hold := firstHold [waitMultiply f s, waitMultiplyUnit 0 f s]
def effMma (f : RRR) (s : State) : Act := mulAct 0 f s
/-- MMAT (R174). -/
def waitMmat (f : RRR) (s : State) : Option Hold := firstHold [waitMultiply f s, waitMultiplyUnit 1 f s]
def effMmat (f : RRR) (s : State) : Act := mulAct 1 f s

def scratchAct (kind acc ty : Nat) (f : RRR) (s : State) : Act :=
  let o := s.mOp kind acc f ty
  match s.mCheck o 0 0 0 with
  | some t => .trap t
  | none => mIssue o s

/-- Waits for room, unless a check fails. -/
def waitScratch (kind acc ty : Nat) (f : RRR) (s : State) : Option Hold :=
  if (s.mCheck (s.mOp kind acc f ty) 0 0 0).isSome then none else waitUnit s

/-- MCB (R176). -/
def waitMcb (f : RRR) (s : State) : Option Hold := firstHold [waitKb f.d.toNat s, waitScratch 4 f.d.toNat 0 f s]
def effMcb (f : RRR) (s : State) : Act := scratchAct 4 f.d.toNat 0 f s
/-- MACLD (R177). -/
def waitMacld (f : RRR) (s : State) : Option Hold := firstHold [waitAcc f.d.toNat s, waitScratch 5 f.d.toNat 10 f s]
def effMacld (f : RRR) (s : State) : Act := scratchAct 5 f.d.toNat 10 f s
/-- MACST (R178). -/
def waitMacst (f : RRR) (s : State) : Option Hold := firstHold [waitAcc f.c.toNat s, waitScratch 6 f.c.toNat (rrrT f) f s]
def effMacst (f : RRR) (s : State) : Act := scratchAct 6 f.c.toNat (rrrT f) f s
/-- MACADD (R177). -/
def waitMacadd (f : RRR) (s : State) : Option Hold := firstHold [waitAcc f.d.toNat s, waitScratch 7 f.d.toNat 10 f s]
def effMacadd (f : RRR) (s : State) : Act := scratchAct 7 f.d.toNat 10 f s
/-- MWAIT (R179). -/
def waitMwait (_ : RRR) (s : State) : Option Hold :=
  if s.curTile.unit.any (fun o => decide (o.slot = s.iss.slot)) then some ⟨true, id⟩ else none
def effMwait (_ : RRR) (s : State) : Act := .ok s

/-! ### The arithmetic (R84, R174, R177, R178) -/

/-- An element as x19: exactly (R70). -/
def x19 (t : Nat) (kb : BitVec 256) (bits : Nat) : Fp :=
  if t = 13 then fmtBF16.dec (kb.toNat / 2 ^ (16 * (bits % 16)) % 65536)
  else if t = 0 then let n := (BitVec.ofNat 8 bits).toInt; .fin (decide (n < 0)) n.natAbs 0
  else (fmtOf t).dec bits

/-- Element e of a run whose bytes `byte` gives (R164). -/
def elemBits (t : Nat) (byte : Nat → Byte) (e : Nat) : Nat :=
  if t = 13 then (byte (e / 2)).toNat / (if e % 2 = 0 then 1 else 16) % 16
  else bytesWord ((List.range (tyBytes t)).map (fun i => byte (e * tyBytes t + i)))

/-- A scratch byte as a syllable of the unit reads it: one that has been written since the syllable issued reads as either value (R168). -/
def State.unitByte (s : State) (site : Nat) (o : MOp) (p : Nat) : Byte := s.raceByte o.raced p (40000 + p) (s.scratchByte site o.slot p p)

/-- A element (i, k) of a multiply. -/
def State.aElem (s : State) (site : Nat) (o : MOp) (i k : Nat) : Fp :=
  let t := Shp.atype o.shape
  let (row, e) := if o.kind = 1 then (k, i) else (i, k)
  x19 t o.kba (elemBits t (fun j => s.unitByte site o (o.ab.toNat + Shp.astr o.shape * row + j)) e)

/-- Element j of row k of B, from the bytes of the row. -/
def bElem (o : MOp) (byte : Nat → Byte) (j : Nat) : Fp := x19 (Shp.btype o.shape) o.kbb (elemBits (Shp.btype o.shape) byte j)

/-- Accumulator row i, element j. -/
def accGet (a : Vector (BitVec 2048) 32) (i j : Nat) : BitVec 32 := (a.toList.getD i 0).extractLsb' (32 * j) 32
/-- An accumulator from its elements. -/
def accOf (f : Nat → Nat → BitVec 32) : Vector (BitVec 2048) 32 :=
  Vector.ofFn (fun i => BitVec.ofNat 2048 ((List.range 64).foldr (fun j n => n * 2 ^ 32 + (f i.val j).toNat) 0))

/-- One k-step (R174). -/
def kStep (o : MOp) (a : Nat → Fp) (b : Nat → Fp) (c : Vector (BitVec 2048) 32) : Vector (BitVec 2048) 32 :=
  accOf (fun i j =>
    if i < Shp.m o.shape ∧ j < Shp.n o.shape then
      BitVec.ofNat 32 (fpFma fmtF32 ⟨0, 0⟩ false (a i) (b j) (decF32 (accGet c i j))).bits
    else accGet c i j)

/-- k-steps k, k+1, … of an MMA or MMAT. -/
def State.kSteps (s : State) (site : Nat) (o : MOp) : Nat → Nat → Vector (BitVec 2048) 32 → Vector (BitVec 2048) 32
  | 0, _, c => c
  | n + 1, k, c => State.kSteps s site o n (k + 1)
      (kStep o (fun i => s.aElem site o i k) (bElem o (fun p => s.unitByte site o ((bRow o k).1 + p))) c)

/-- The accumulator of a slot. -/
def Slot.accOf (x : Slot) (n : Nat) : Vector (BitVec 2048) 32 := x.f.acc.toList.getD n (Vector.replicate 32 0)
def Slot.setAcc (x : Slot) (n : Nat) (c : Vector (BitVec 2048) 32) : Slot := { x with f := { x.f with acc := x.f.acc.setIfInBounds n c } }
def Slot.setAccPoison (x : Slot) (n : Nat) (p : Bool) : Slot := { x with f := { x.f with accPoison := x.f.accPoison.setIfInBounds n p } }
def Slot.setApr (x : Slot) (n : Nat) (v : Word) : Slot := { x with sys := { x.sys with apr := x.sys.apr.setIfInBounds n v } }

/-- The first word of the runs with an uncorrectable error (R139, R169). -/
def State.ueIn (s : State) (site slot : Nat) (rs : List (Nat × Nat)) : Option Nat :=
  if s.scratchUE.isEmpty then none
  else rs.findSome? (fun (p, n) => ((List.range ((p % 8 + n + 7) / 8)).map (fun i => p - p % 8 + 8 * i)).find? (fun a =>
    match progByte (s.slotAt site slot) (s.tileAt site) slot a with
    | some b => s.scratchUE.contains (scratchKey site b / 8)
    | none => false))

/-- What MACST writes of an element (R178). -/
def macstBits (ty : Nat) (b : BitVec 32) : Nat := if ty = 10 then b.toNat else (cvtFF 10 ty ⟨0, 0⟩ false false b.toNat).bits

/-- The bytes that a MACST writes (R178). -/
def Slot.macstBytes (x : Slot) (o : MOp) : List Byte :=
  (List.range 2048).flatMap (fun e => wordBytes (tyBytes o.ty) (macstBits o.ty (accGet (x.accOf o.acc) (e / 64) (e % 64))))

/-- Is an accumulator poisoned: it is marked, or an error has struck its storage (R169)? -/
def State.accBad (s : State) (site slot n : Nat) : Bool :=
  (s.slotAt site slot).f.accPoison.toList.getD n false || s.struck.contains (.acc site slot n)
/-- An accumulator is written: an error in its storage has been met and is reported (R169, R391). -/
def State.mendAcc (s : State) (site slot n : Nat) : State :=
  if s.struck.contains (Struck.acc site slot n) then State.reportError { s with struck := s.struck.filter (fun e => e != Struck.acc site slot n) } site else s

/-- What an M syllable does when it leaves the unit; an MMA or MMAT performs its k-steps from k on, an MMAG has performed its own (R169, R174, R176
to R178). A MACADD that reads a word with an uncorrectable error, which R169 does not name, poisons its accumulator and records ECCLOCAL as the
others do (DESIGN CHOICE, log 52). -/
def State.mPerform (s : State) (site : Nat) (o : MOp) : State :=
  let x := s.slotAt site o.slot
  let ue := if o.kind = 3 ∨ o.kind = 6 then none else if o.kind = 2 then o.ue
    else s.ueIn site o.slot (if o.kind < 2 then stepRuns o o.k (Shp.k o.shape) else scratchRuns o)
  let note (s : State) : State := match ue with | some a => s.eccRecord site o.slot a | none => s
  let n := o.acc
  let put (x : Slot) : State := note ((if o.kind = 4 then s else s.mendAcc site o.slot n).setSlotAt site o.slot x)
  let poisoned := s.accBad site o.slot n
  let f32at (i j : Nat) : BitVec 32 := BitVec.ofNat 32 (bytesWord ((List.range 4).map (fun b => s.unitByte site o (o.ab.toNat + 256 * i + 4 * j + b))))
  match o.kind with
  | 0 | 1 => put (((x.setAcc n (s.kSteps site o (Shp.k o.shape - o.k) o.k (x.accOf n))).setApr n 0).setAccPoison n
      (poisoned || ue.isSome || o.kbPoison))
  | 2 => put ((x.setApr n 0).setAccPoison n poisoned)
  | 3 => put (((x.setAcc n (Vector.replicate 32 0)).setApr n 0).setAccPoison n false)
  | 4 =>
    let v := BitVec.ofNat 256 (bytesWord ((List.range 32).map (fun i => s.unitByte site o (o.ab.toNat + i))))
    put { x with f := { x.f with kb := x.f.kb.setIfInBounds n (if ue.isSome then BitVec.ofNat 256 ((List.range 16).foldl (fun a _ => a * 65536 + 0x7FC0) 0) else v)
                                 kbLoaded := x.f.kbLoaded.setIfInBounds n true, kbPoison := x.f.kbPoison.setIfInBounds n ue.isSome } }
  | 5 => put (((x.setAcc n (accOf f32at)).setApr n 0).setAccPoison n ue.isSome)
  | 6 =>
    let w := tyBytes o.ty
    let bs := x.macstBytes o
    let s1 := s.scratchWrite site o.slot o.ab.toNat bs
    if poisoned then
      { s1 with scratchUE := s1.scratchUE ++ (List.range (2048 * w / 8)).filterMap (fun i =>
          (progByte x (s.tileAt site) o.slot (o.ab.toNat + 8 * i)).map (fun b => scratchKey site b / 8)) }
    else s1
  | _ => put ((x.setAcc n (accOf (fun i j =>
      BitVec.ofNat 32 (fpAdd fmtF32 ⟨0, 0⟩ false (decF32 (accGet (x.accOf n) i j)) (decF32 (f32at i j))).bits))).setAccPoison n (poisoned || ue.isSome))

/-- A syllable of the bundle at issue as it enters the unit: what a MACST is to write is settled, since no write of its accumulator is pending
(R54, R168). -/
def State.enterUnit (s : State) (o : MOp) : MOp :=
  { s.ownStores o with out := if o.kind = 6 then s.cur.macstBytes o else [] }

/-- MATRIX_START: the oldest syllable of the unit starts (R166). -/
def execMatrixStart (site : Nat) (s : State) : Host.Outcome State Fault Refusal :=
  let t := s.tileAt site
  match t.unit with
  | o :: r => .next (s.setTileAt site { t with unit := { o with started := true } :: r })
  | [] => .next s

/-- MATRIX_COMPLETE: the executing syllable leaves the unit and its result lands (R166, R167). -/
def execMatrixComplete (site : Nat) (s : State) : Host.Outcome State Fault Refusal :=
  let t := s.tileAt site
  match t.unit with
  | o :: r => if o.started ∧ o.kind ≠ 2 then .next ((s.setTileAt site { t with unit := r }).mPerform site o) else .next s
  | [] => .next s

/-! ### MMAG (R175) -/

/-- The held MMAG of a slot, where the unit executes it. -/
def State.mmagOp (s : State) (site slot : Nat) : Option MOp :=
  match (s.tileAt site).unit with
  | o :: _ => if o.kind = 2 ∧ o.slot = slot ∧ o.started then some o else none
  | [] => none

/-- Parts of row k: none crosses a granule. -/
def rowParts (o : MOp) (k : Nat) : List (Nat × Nat) := partsOf 5 (bRow o k).1 (bRow o k).2

/-- The lowest fault of row k that a request or an arrival has met. -/
def rowBad (r : MmagRun) (k : Nat) : Option (FKind × Nat) :=
  (r.bad.filter (fun b => decide (b.1 = k))).foldl (fun o b => match o with
    | some (kk, va) => if b.2.2 < va then some b.2 else some (kk, va)
    | none => some b.2) none

/-- Has every part of row k arrived that was asked for, and has the row been asked for whole, or as far as the part that has failed? -/
def rowIn (o : MOp) (r : MmagRun) : Bool :=
  (decide (o.k < r.next) || (rowBad r o.k).isSome) && !((rowParts o o.k).any (fun p => r.asked.contains (o.k, p.1)))

/-- Performs one k-step of an MMAG, whose row has arrived (R169, R174). -/
def State.mmagStep (s : State) (site slot : Nat) (o : MOp) (r : MmagRun) : State :=
  let x := s.slotAt site slot
  let byte (p : Nat) : Byte := ((r.rows.filter (fun e => decide (e.1 = o.k))).findSome? (fun e =>
    if e.2.1 ≤ (bRow o o.k).1 + p ∧ (bRow o o.k).1 + p < e.2.1 + e.2.2.length then e.2.2[(bRow o o.k).1 + p - e.2.1]? else none)).getD 0
  let c := kStep o (fun i => s.aElem site o i o.k) (bElem o byte) (x.accOf o.acc)
  let ue := s.ueIn site slot (stepRuns o o.k (o.k + 1))
  let t := s.tileAt site
  ((s.mendAcc site slot o.acc).setTileAt site { t with unit := { o with k := o.k + 1, ue := o.ue.orElse (fun _ => ue) } :: t.unit.tail }).setSlotAt
    site slot { (x.setAcc o.acc c).setAccPoison o.acc (s.accBad site slot o.acc || ue.isSome || o.kbPoison) with
      mmag := some { r with rows := r.rows.filter (fun e => decide (e.1 ≠ o.k)) } }

/-- Performs the k-steps whose rows have arrived, but for the last one, which the bundle performs as it acts; a faulting row stops the MMAG with its
progress recorded (R170, R171, R175). -/
def State.mmagSteps (s : State) (site slot : Nat) : Nat → State
  | 0 => s
  | fuel + 1 =>
    let x := s.slotAt site slot
    match s.mmagOp site slot, x.mmag with
    | some o, some r =>
      if !(rowIn o r) then s
      else match rowBad r o.k with
        | some bad =>
          let s1 := s.stopMmag site slot
          s1.setSlotAt site slot { s1.slotAt site slot with mmag := some { r with stopped := some bad, asked := [], rows := [], bad := [] } }
        | none => if Shp.k o.shape ≤ o.k + 1 then s else State.mmagSteps (s.mmagStep site slot o r) site slot fuel
    | _, _ => s

/-- Requests the parts of one row, translating them in ascending address; it stops at a part whose walk is not done. A part that does not translate
ends the row: the lowest address that faults is not above it (R175). -/
def State.askParts (s : State) (site slot k : Nat) : List (Nat × Nat) → State × Bool
  | [] => (s, true)
  | (va, n) :: ps =>
    let x := s.slotAt site slot
    let r := x.mmag.getD ⟨0, 0, [], [], [], none⟩
    if r.asked.contains (k, va) ∨ r.rows.any (fun e => decide (e.1 = k ∧ e.2.1 = va)) ∨ r.bad.any (fun b => decide (b.1 = k ∧ b.2.2 = va)) then
      State.askParts s site slot k ps
    else match s.known site slot va 0 with
      | .ok t =>
        let s1 := (s.setSlotAt site slot { x with mmag := some { r with asked := r.asked ++ [(k, va)] } }).useTrans site t
        State.askParts (s1.sendMemAt site 0 ⟨x.sys.ctxid, x.sys.incarn, va, t.pa va, .read n, .row site slot ⟨k, r.run⟩ va⟩) site slot k ps
      | .fault e => (s.setSlotAt site slot { x with mmag := some { r with bad := r.bad ++ [(k, e, va)] } }, true)
      | .wait fresh _ => (if fresh then s.askWalk site slot va 0 else s, false)

/-- Requests rows in ascending k, up to 32 beyond the row in use (R167, R175). -/
def State.askRows (s : State) (site slot : Nat) (o : MOp) : Nat → State
  | 0 => s
  | fuel + 1 =>
    let x := s.slotAt site slot
    match x.mmag with
    | some r =>
      if Shp.k o.shape ≤ r.next ∨ o.k + 32 < r.next ∨ !r.bad.isEmpty then s
      else
        let (s1, all) := s.askParts site slot r.next (rowParts o r.next)
        if all then
          match (s1.slotAt site slot).mmag with
          | some r1 => State.askRows (s1.setSlotAt site slot { s1.slotAt site slot with mmag := some { r1 with next := r1.next + 1 } }) site slot o fuel
          | none => s1
        else s1
    | none => s

/-- Is the MMAG held on a migrating page (R341)? -/
def Slot.onMigrating (x : Slot) : Bool := x.walks.any (fun w => w.out == .waiting true)

/-- The wait of an MMAG whose checks hold: it enters the unit, then asks for its rows until row K - 1 has been checked (R175). -/
def waitMmagRun (f : RRR) (s : State) : Option Hold :=
  let o := s.mOp 2 f.d.toNat f 0
  match s.cur.mmag with
  | none =>
    if (s.mCheck o f.c.toNat (f.t.toNat % 4) (f.t.toNat / 4 % 4)).isSome then none
    else match firstHold [waitUnit s, waitSlew s] with
      | some h => some h
      | none => some ⟨true, fun s =>
          let s1 := s.takeQuantum
          let t := s1.curTile
          (s1.setCurTile { t with unit := t.unit ++ [o] }).setCur { s1.cur with mmag := some ⟨s.tick, o.k, [], [], [], none⟩ }⟩
  | some r =>
    if r.stopped.isSome then none
    else match s.mmagOp s.iss.site s.iss.slot with
      | some o1 => if Shp.k o1.shape ≤ o1.k + 1 ∧ rowIn o1 r ∧ (rowBad r o1.k).isNone then none
        else some ⟨!s.cur.onMigrating, fun s => (s.askRows s.iss.site s.iss.slot o1 64).mmagSteps s.iss.site s.iss.slot 4096⟩
      | none => some ⟨true, id⟩

/-- The waits of an MMAG that has not entered the unit. -/
def waitMmagEarly (f : RRR) (s : State) : Option Hold := if s.cur.mmag.isSome then none else waitMultiply f s

/-- MMAG (R174, R175). -/
def waitMmag (f : RRR) (s : State) : Option Hold :=
  if s.cur.mmag.isSome then waitMmagRun f s else firstHold [waitMultiply f s, waitMmagRun f s]

/-- MMAG acts when its last row has been checked: the last k-step is done, APRn clears and the syllable leaves the unit; or it traps at the row that failed. -/
def effMmag (f : RRR) (s : State) : Act :=
  let o := s.mOp 2 f.d.toNat f 0
  match s.cur.mmag with
  | none =>
    match s.mCheck o f.c.toNat (f.t.toNat % 4) (f.t.toNat / 4 % 4) with
    | some t => .trap t
    | none => .ok s
  | some r =>
    match r.stopped with
    | some (k, va) => .trap ⟨k, 1, BitVec.ofNat 64 va⟩
    | none =>
      match s.mmagOp s.iss.site s.iss.slot with
      | some o1 =>
        if Shp.k o1.shape ≤ o1.k + 1 then
          let s0 := s.mmagStep s.iss.site s.iss.slot o1 r
          let t := s0.curTile
          let s1 := (s0.setCurTile { t with unit := t.unit.tail }).mPerform s.iss.site (t.unit.headD o1)
          .ok (s1.setCur { s1.cur with mmag := none })
        else .ok s
      | none => .ok s

/-- MMAG_ROW_ARRIVE: a part of a B row arrives and is checked (R175, R337). One that an earlier run of the MMAG has asked for is discarded. -/
def execMmagRowArrive (site slot ctx inc : Nat) (k : RowRef) (off : Nat) (rep : MemReply) (s : State) : Host.Outcome State Fault Refusal :=
  let x := s.slotAt site slot
  if x.bound ≠ some (ctx, inc) ∨ s.stale (agSite site 0) ctx inc then .next (s.drop ctx)
  else if (s.tileAt site).frozen then .next (s.drop ctx)
  else match x.mmag with
    | some r =>
      if k.run ≠ r.run ∨ !(r.asked.contains (k.k, off)) then .next s
      else
        let bad := match rep.err with | some e => some e | none => if rep.poison then some FKind.poisonld else none
        let r1 := { r with asked := r.asked.erase (k.k, off) }
        let r2 := match bad with
          | some e => { r1 with bad := r1.bad ++ [(k.k, e, off)] }
          | none => { r1 with rows := r1.rows ++ [(k.k, off, rep.data)] }
        .next ((s.setSlotAt site slot { x with mmag := some r2 }).mmagSteps site slot 4096)
    | none => .next s

/-- SLEW_REFILL: at the end of a period of 64 domain cycles the domain's reserve gains a quantum (R292). -/
def execSlewRefill (dom : Nat) (s : State) : Host.Outcome State Fault Refusal :=
  .next (if s.slewDue dom then ({ s with slewAt := KMap.set s.slewAt dom (KMap.getD s.slewAt dom 0 + s.slewPeriod dom) }).giveQuantum dom else s)

/-! The instructions: each acts as its effect says where its guard holds (R33). -/

/-- MSHAPE. -/
def execMshape (h : Hdr) (f : RRR) (s : State) : Host.Outcome State Fault Refusal := asStep h (effMshape f) s
/-- MZERO. -/
def execMzero (h : Hdr) (f : RRR) (s : State) : Host.Outcome State Fault Refusal :=
  asStepW h (waitMzero f) (effMzero f) s
/-- MMA. -/
def execMma (h : Hdr) (f : RRR) (s : State) : Host.Outcome State Fault Refusal :=
  asStepW h (waitMma f) (effMma f) s
/-- MMAT. -/
def execMmat (h : Hdr) (f : RRR) (s : State) : Host.Outcome State Fault Refusal :=
  asStepW h (waitMmat f) (effMmat f) s
/-- MMAG. -/
def execMmag (h : Hdr) (f : RRR) (s : State) : Host.Outcome State Fault Refusal :=
  asStepW h (waitMmag f) (effMmag f) s
/-- MCB. -/
def execMcb (h : Hdr) (f : RRR) (s : State) : Host.Outcome State Fault Refusal :=
  asStepW h (waitMcb f) (effMcb f) s
/-- MACLD. -/
def execMacld (h : Hdr) (f : RRR) (s : State) : Host.Outcome State Fault Refusal :=
  asStepW h (waitMacld f) (effMacld f) s
/-- MACST. -/
def execMacst (h : Hdr) (f : RRR) (s : State) : Host.Outcome State Fault Refusal :=
  asStepW h (waitMacst f) (effMacst f) s
/-- MACADD. -/
def execMacadd (h : Hdr) (f : RRR) (s : State) : Host.Outcome State Fault Refusal :=
  asStepW h (waitMacadd f) (effMacadd f) s
/-- MWAIT. -/
def execMwait (h : Hdr) (f : RRR) (s : State) : Host.Outcome State Fault Refusal :=
  asStepW h (waitMwait f) (effMwait f) s

end Sys2Proof.Machine
end

