-- ==== Sys2Proof/Machine/Channel.lean ====
section
/-! DEFINITION. Stream channels (06_tile_memory R153 to R161). -/

namespace Sys2Proof.Machine


/-! ### The engine (R153, R156, R159) -/

/-- The fault record of a channel (R159). -/
def State.chanRecord (s : State) (site slot n : Nat) (t : TrapInfo) : State :=
  let x := s.slotAt site slot
  let c := x.chan n
  let i (k : Nat) : Nat := Shape.idx c.recd c.elem k
  (s.detect site t.kind).record (x.who slot)
    { kind := t.kind, origin := 3, eval := t.eval, unit := n, dw6 := BitVec.ofNat 64 c.wp
      dw5 := BitVec.ofNat 64 (i 0 + i 1 * 2 ^ 16 + i 2 * 2 ^ 32 + i 3 * 2 ^ 48) }
/-- An access fault freezes the channel and publishes a record (R159). -/
def State.freezeChan (s : State) (site slot n : Nat) (t : TrapInfo) : State :=
  let x := s.slotAt site slot
  ((s.setChan site slot n { x.chan n with st := .frozen, cause := some t.kind, walk := none, beat := none }).rejoinFrom site slot x).chanRecord
    site slot n t

/-- Converts one element (R81, R156): the bits, and the generator after its draw. -/
def convElem (r : ShapeRec) (rng : Word) (bits : Nat) : Nat × Word :=
  if Shape.stype r = Shape.dtype r then (bits, if Shape.rnd r = 5 then (drawRandom rng).1 else rng)
  else if Shape.rnd r = 5 then
    let (rng1, w) := drawRandom rng
    ((convert (Shape.stype r) (Shape.dtype r) ⟨5, w⟩ (Shape.sat r) false bits).bits, rng1)
  else ((convert (Shape.stype r) (Shape.dtype r) ⟨0, 0⟩ (Shape.sat r) false bits).bits, rng)

/-- Converts the elements that source bytes hold: destination bytes and the generator. -/
def convElems (r : ShapeRec) : Nat → Word → List Byte → List Byte × Word
  | 0, rng, _ => ([], rng)
  | n + 1, rng, bs =>
    let k := Shape.esize (Shape.stype r)
    let (v, rng1) := convElem r rng (bytesWord (bs.take k))
    let (rest, rng2) := convElems r n rng1 (bs.drop k)
    (wordBytes (Shape.esize (Shape.dtype r)) v ++ rest, rng2)

/-- The fault of the destination bytes of unit e in scratch. -/
def State.dstFault (s : State) (site slot : Nat) (r : ShapeRec) (e : Nat) : Option TrapInfo :=
  let p := Shape.dstAddr r e
  let n := Shape.esize (Shape.dtype r)
  match s.scratchFault site slot p n n 3 false with
  | some t => some t
  | none => (s.slotAt site slot).writeFault p n 3

/-- The fault of the source bytes of unit e in scratch. -/
def State.srcFault (s : State) (site slot : Nat) (r : ShapeRec) (e : Nat) : Option TrapInfo :=
  s.scratchFault site slot (Shape.srcAddr r e) (Shape.esize (Shape.stype r)) (Shape.esize (Shape.stype r)) 3 true

/-- How many of the next n units have no fault, and the fault of the one after them (R159). -/
def goodUnits (f : Nat → Option TrapInfo) (e : Nat) : Nat → Nat × Option TrapInfo
  | 0 => (0, none)
  | n + 1 =>
    match f e with
    | some t => (0, some t)
    | none => let (k, t) := goodUnits f (e + 1) n; (k + 1, t)

/-- n units have been delivered: wp and the counters advance, the wake latch hears of it (R107), the round may end (R158). -/
def State.advance (s : State) (site slot ch n : Nat) (rng : Word) (tr : Option Trans) : State :=
  let x := s.slotAt site slot
  let c := x.chan ch
  let c1 := { c with elem := c.elem + n, wp := (c.wp + n * Shape.wpSize c.recd) % 2 ^ 64, rng := rng, beat := none, tr := tr }
  let c2 := if Shape.total c.recd ≤ c1.elem then { c1 with st := .ready } else c1
  (s.setSlotAt site slot (if n = 0 then x.setChan ch c2 else (x.setChan ch c2).wake 2)).rejoinFrom site slot x

/-- The bytes of a channel's source in scratch; one stored to since the channel began to run reads as either value (R157). -/
def State.chanSource (s : State) (site slot : Nat) (c : Chan) (p n : Nat) : List Byte :=
  (List.range n).map (fun i => s.raceByte c.racedR (p + i) (60000 + i) (s.scratchByte site slot (p + i) (5000 + i)))
/-- The bytes that a channel leaves at its destination; one stored to since the channel began to run keeps either value (R157). -/
def State.keepStored (s : State) (site slot : Nat) (c : Chan) (p : Nat) (out : List Byte) : List Byte :=
  out.zipIdx.map (fun (b, i) =>
    if c.racedW.contains (p + i) ∧ Config.pick s.tick (70000 + i) % 2 = 1 then s.scratchByte site slot (p + i) (5000 + i) else b)

/-- Delivers n units of source bytes to scratch, as far as no destination faults (R156, R159). -/
def State.deliver (s : State) (site slot ch n : Nat) (bs : List Byte) : State :=
  let c := (s.slotAt site slot).chan ch
  let (k, bad) := goodUnits (s.dstFault site slot c.recd) c.elem n
  let (out, rng) := convElems c.recd k c.rng bs
  let p := Shape.dstAddr c.recd c.elem
  let s1 := (s.scratchWrite site slot p (s.keepStored site slot c p out)).advance site slot ch k rng c.tr
  match bad with
  | some t => s1.freezeChan site slot ch t
  | none => s1

/-! ### Injection ports (R317, R422)

An agent with a port is named by a number: a tile by its site, the hedge agent of stack h by 6,144 + h. -/

def State.tokensAt (s : State) (agent ctx : Nat) : Nat :=
  if agent < 6144 then KMap.getD (s.tileAt agent).tokens ctx 0 else KMap.getD s.hedgeTokens (256 * (agent - 6144) + ctx) 0
def State.setTokens (s : State) (agent ctx n : Nat) : State :=
  if agent < 6144 then s.setTileAt agent { s.tileAt agent with tokens := KMap.set (s.tileAt agent).tokens ctx n }
  else { s with hedgeTokens := KMap.set s.hedgeTokens (256 * (agent - 6144) + ctx) n }
/-- The context whose flit the port served last; 255 after module reset (R422). -/
def State.lastServedAt (s : State) (agent : Nat) : Nat :=
  if agent < 6144 then (s.tileAt agent).lastServed else KMap.getD s.hedgeServed (agent - 6144) 255
def State.setServed (s : State) (agent ctx : Nat) : State :=
  if agent < 6144 then s.setTileAt agent { s.tileAt agent with lastServed := ctx } else { s with hedgeServed := KMap.set s.hedgeServed (agent - 6144) ctx }
/-- Contexts that have a bucket at a port: those bound to the tile; at a hedge agent every ACTIVE one. -/
def State.boundTo (s : State) (agent : Nat) : List Nat :=
  if agent < 6144 then ((List.range 4).filterMap (fun k => (s.slotAt agent k).bound.map (·.1))).eraseDups
  else (s.ctxs.filter (fun p => p.2.st == .active)).map (·.1)

/-- The messages that wait at a port, with their places in the agenda: of an order only the first that still has a port to pass. -/
def State.heldGo (s : State) : Nat → List Nat → List Pending → List (Nat × PortHold)
  | _, _, [] => []
  | i, chans, p :: r =>
    match p.holds with
    | [] => State.heldGo s (i + 1) chans r
    | h :: _ =>
      let here := !(p.behind chans) && decide (p.due ≤ s.time) && (match p.rel with | some w => s.relDone w | none => true)
      (if here then [(i, h)] else []) ++ State.heldGo s (i + 1) (p.chans ++ chans) r
def State.held (s : State) : List (Nat × PortHold) := s.heldGo 0 [] s.agenda

/-- Does a fence of the slot that waits at issue hold back the beats to and from global memory (R151, R361), or has a save stopped the slot's
channels (R158, R306)? A way change or an EXIT that the save waits for lets them go on. -/
def Slot.beatsHeld (x : Slot) (c : Chan) : Bool :=
  (x.stopReq.isSome && x.wait != .ways && !x.exits) ||
  x.held && decide (Shape.dir c.recd ≠ 2) && x.fenced.any (fun p => p.2.hold)
/-- Can the channel's engine go on: RUNNING, no beat on its way, no walk under way, its tile not frozen, no fence in its way? -/
def State.beatFree (s : State) (site slot ch : Nat) : Bool :=
  let x := s.slotAt site slot
  let c := x.chan ch
  c.st == .running && c.beat.isNone && !(s.tileAt site).frozen && x.bound.isSome && !(x.beatsHeld c) &&
  (match c.walk with | some w => (match w.out with | .waiting _ => false | _ => true) | none => true)

/-- The global side of a beat: its fault, or its translation, or nothing while it has none. -/
def chanTrans (x : Slot) (c : Chan) (va kind : Nat) : Except FKind (Option Trans) :=
  if 2 ^ 56 ≤ va then .error .noncanon
  else match c.walk with
    | some ⟨_, _, .fault k⟩ => .error k
    | _ => match c.tr with
      | some t => if t.covers x.sys.ctxid x.sys.incarn va ∧ t.permits kind then .ok (some t) else .ok none
      | none => .ok none

/-- Does the next beat of the channel leave the tile as a flit: toward or from global memory, its page translated, without a fault (R153)? -/
def State.beatIsFlit (s : State) (site slot ch : Nat) : Bool :=
  let x := s.slotAt site slot
  let c := x.chan ch
  let r := c.recd
  match Shape.dir r with
  | 0 => (match chanTrans x c (Shape.srcAddr r c.elem) 0 with | .ok (some _) => true | _ => false)
  | 1 => decide ((goodUnits (s.srcFault site slot r) c.elem (Shape.beat r c.elem)).1 ≠ 0) &&
    (match chanTrans x c (Shape.dstAddr r c.elem) 1 with | .ok (some _) => true | _ => false)
  | _ => false

/-- Is an earlier LSEND of a slot to the same destination, context and name still without its verdict? A later one follows it, so that they are
shown in issue order (R388). -/
def State.sendsBefore (s : State) (site slot : Nat) (q : Queued) : Bool :=
  match q.lsend with
  | some d => s.lsends.any (fun e => decide (e.2.site = site ∧ e.2.slot = slot ∧ e.2.serial ≠ q.serial ∧ (e.2.dom, e.2.module, e.2.dctx) = d ∧ e.2.name = q.name))
  | none => false

/-- May the first publication of a slot's queue offer a flit (R201, R209)? -/
def State.queueFree (s : State) (site slot : Nat) : Bool :=
  let x := s.slotAt site slot
  let t := s.tileAt site
  match x.injq with
  | [] => false
  | q :: _ =>
    x.bound.isSome && !t.frozen && !(s.sendsBefore site slot q) && (q.lsend.isSome || !(t.stalled.contains x.sys.ctxid)) &&
    (!q.rel || (!(s.loadsOut site slot q.lsend.isSome) && !(s.walksOut site x.sys.ctxid) && decide (x.ackC = 0) && (q.lsend.isNone || decide (x.ackCR = 0)) &&
      !(t.lines.any (fun l => l.through && decide (l.ctx = x.sys.ctxid) && decide (l.inc = x.sys.incarn) && (q.lsend.isSome || !(s.far l.pa))))))

/-- Has a channel, or the injection queue as number 16, a flit for the port? -/
def State.canOffer (s : State) (site slot k : Nat) : Bool :=
  if k < 16 then s.beatFree site slot k && s.beatIsFlit site slot k else s.queueFree site slot

/-- What waits at a port: contexts with what each flit or request costs. -/
def State.portQueue (s : State) (agent : Nat) : List (Nat × Nat) :=
  (if agent < 6144 then (List.range 4).flatMap (fun k =>
    ((s.slotAt agent k).port.filter (fun j => s.canOffer agent k j)).map (fun _ => ((s.slotAt agent k).sys.ctxid, 64))) else []) ++
  (s.held.filter (fun e => decide (e.2.agent = agent))).map (fun e => (e.2.ctx, e.2.cost))
/-- Has a context a flit or a request that waits at a port? -/
def State.portWaits (s : State) (agent c : Nat) : Bool := (s.portQueue agent).any (fun e => decide (e.1 = c))

/-- Place of a context in a round that starts after the context served last (R422). -/
def roundPlace (last c : Nat) : Nat := (c + 255 - last) % 256

/-- The period of a port's refill in ns: 1,024 cycles of the domain clock at a tile, of the 2.0 GHz rim clock at a hedge agent (R317). -/
def State.refillPeriod (s : State) (agent : Nat) : Nat := if agent < 6144 then s.cyclesNs agent 1024 else 512
/-- Is a refill of a port due (R317)? -/
def State.refillDue (s : State) (agent : Nat) : Bool := decide (KMap.getD s.refills agent 0 + s.refillPeriod agent ≤ s.time)

/-- Is it a context's turn at a port: it holds tokens for its flit, and no other context that does comes before it in the round (R317, R422)?
A refill that is due comes first. A context without a bucket there, whose binding has ended, passes. -/
def State.portTurn (s : State) (agent ctx cost : Nat) : Bool :=
  let bound := s.boundTo agent
  !(decide (agent < 6144) && (s.tileAt agent).frozen) &&
  (!(bound.contains ctx) ||
    (!(s.refillDue agent) && decide (cost ≤ s.tokensAt agent ctx) &&
      (s.portQueue agent).all (fun e => decide (e.1 = ctx) || !(bound.contains e.1) || decide (s.tokensAt agent e.1 < e.2) ||
        decide (roundPlace (s.lastServedAt agent) ctx < roundPlace (s.lastServedAt agent) e.1))))

/-- A port serves a context: the tokens are spent, and the next round starts after it (R317, R422). -/
def State.portPay (s : State) (agent ctx cost : Nat) : State :=
  if (s.boundTo agent).contains ctx then (s.setTokens agent ctx (s.tokensAt agent ctx - cost)).setServed agent ctx else s

/-- A tile's port injects the flit that a channel, or the injection queue, has put there: 64 tokens. -/
def State.payFlit (s : State) (site slot k : Nat) : State :=
  let x := s.slotAt site slot
  (s.setSlotAt site slot { x with port := x.port.erase k }).portPay site x.sys.ctxid 64

/-- A channel asks the walker for the page of its global side (R156). -/
def State.chanWalk (s : State) (site slot ch va kind : Nat) : State :=
  let x := s.slotAt site slot
  (s.setSlotAt site slot (x.setChan ch { x.chan ch with walk := some ⟨va, kind, .waiting false⟩, tr := none })).toWalker
    ⟨site, slot, x.sys.ctxid, x.sys.incarn, va, kind, some ch⟩

/-- Can the channel go on; and if its beat is a flit, does that wait at the port, whose turn it is (R317)? -/
def State.beatCould (s : State) (site slot ch : Nat) : Bool :=
  let x := s.slotAt site slot
  s.beatFree site slot ch && (!(s.beatIsFlit site slot ch) || (x.port.contains ch && s.portTurn site x.sys.ctxid 64))
/-- Place of a slot in an engine's round, which starts after the slot that it served last (R153). -/
def enginePlace (last slot : Nat) : Nat := (slot + 3 - last) % 4
/-- Can the channel go on, and is it its turn among the slots whose channel of that number can (R153)? -/
def State.beatReady (s : State) (site slot ch : Nat) : Bool :=
  let last := KMap.getD (s.tileAt site).engines ch 3
  s.beatCould site slot ch && (List.range 4).all (fun k =>
    decide (enginePlace last slot ≤ enginePlace last k) || !(s.beatCould site k ch))
/-- Engine `ch` has served a slot. -/
def State.serveEngine (s : State) (site slot ch : Nat) : State :=
  s.setTileAt site { s.tileAt site with engines := KMap.set (s.tileAt site).engines ch slot }

/-- A beat toward a module that no usable link reaches (R377, R378)? -/
def State.noLink (s : State) (pa : Nat) : Bool := s.far pa && (s.linkFrom (linkOf pa (paModule pa)) (paModule pa)).isNone

/-- Order of a channel's writes to one granule. -/
def beatChan (site slot ch pa : Nat) : Nat := chanKey 2 ((pa / 64 * 6144 + site) * 64 + slot * 16 + ch)

/-- A beat toward another module's memory: it may still fail on its way, so the channel counts it as delivered only when the home answers, and goes
on from there (R159, R378; DEDUCED, log 47). -/
def State.sendFar (s : State) (site slot ch k va pa : Nat) : State :=
  let x := s.slotAt site slot
  let c := x.chan ch
  let r := c.recd
  let out := (convElems r k c.rng (s.chanSource site slot c (Shape.srcAddr r c.elem) (k * Shape.esize (Shape.stype r)))).1
  let wp := (c.wp + k * Shape.wpSize r) % 2 ^ 64
  let s1 := (s.payFlit site slot ch).setChan site slot ch
    { c with beat := some ⟨k, va, c.seq⟩, seq := c.seq + 1, unacked := c.unacked ++ [(wp, true)] }
  s1.sendMem (beatChan site slot ch pa) ⟨x.sys.ctxid, x.sys.incarn, va, pa, .write out false, .ackS site slot ch wp true c.seq⟩

/-- Ends the wait of a channel for the answer to a write to another module: the beat is delivered (R159). The generator of SR goes on by one draw an
element, whatever the data (R81). -/
def State.farDone (s : State) (site slot ch seq : Nat) : State :=
  let c := (s.slotAt site slot).chan ch
  match c.beat with
  | some b => if b.seq = seq ∧ Shape.dir c.recd = 1 then s.advance site slot ch b.n (convElems c.recd b.n c.rng []).2 c.tr else s
  | none => s

/-- CHANNEL_BEAT: the engine moves one beat, or asks memory for it (R153, R156, R159). -/
def execChannelBeat (site slot ch : Nat) (s0 : State) : Host.Outcome State Fault Refusal :=
  if !s0.beatReady site slot ch then .next s0
  else
    let s := s0.serveEngine site slot ch
    let x := s.slotAt site slot
    let c := x.chan ch
    let r := c.recd
    let n := Shape.beat r c.elem
    match Shape.dir r with
    | 0 =>
      let va := Shape.srcAddr r c.elem
      match chanTrans x c va 0 with
      | .error k => .next (s.freezeChan site slot ch ⟨k, 3, BitVec.ofNat 64 va⟩)
      | .ok none => .next (s.chanWalk site slot ch va 0)
      | .ok (some t) =>
        let s1 := s.setChan site slot ch { c with beat := some ⟨n, va, c.seq⟩, seq := c.seq + 1 }
        .next ((s1.payFlit site slot ch).sendMem 0
          ⟨x.sys.ctxid, x.sys.incarn, va, t.pa va, .read (n * Shape.esize (Shape.stype r)), .chan site slot ch c.seq⟩)
    | 1 =>
      let (k, bad) := goodUnits (s.srcFault site slot r) c.elem n
      if k = 0 then .next (match bad with | some t => s.freezeChan site slot ch t | none => s)
      else
        let va := Shape.dstAddr r c.elem
        match chanTrans x c va 1 with
        | .error e => .next (s.freezeChan site slot ch ⟨e, 3, BitVec.ofNat 64 va⟩)
        | .ok none => .next (s.chanWalk site slot ch va 1)
        | .ok (some t) =>
          if s.noLink (t.pa va) then .next ((s.payFlit site slot ch).freezeChan site slot ch ⟨.remotedown, 3, BitVec.ofNat 64 va⟩)
          else
          if s.far (t.pa va) then .next (s.sendFar site slot ch k va (t.pa va)) else
          let src := s.chanSource site slot c (Shape.srcAddr r c.elem) (k * Shape.esize (Shape.stype r))
          let (out, rng) := convElems r k c.rng src
          let pa := t.pa va
          let s1 := (s.payFlit site slot ch).advance site slot ch k rng c.tr
          let c1 := (s1.slotAt site slot).chan ch
          let s2 := s1.setChan site slot ch { c1 with unacked := c1.unacked ++ [(c1.wp, false)] }
          .next (s2.sendMem (beatChan site slot ch pa)
            ⟨x.sys.ctxid, x.sys.incarn, va, pa, .write out false, .ackS site slot ch c1.wp false 0⟩)
    | _ =>
      let (k, bad) := goodUnits (s.srcFault site slot r) c.elem n
      if k = 0 then .next (match bad with | some t => s.freezeChan site slot ch t | none => s)
      else .next (s.deliver site slot ch k (s.chanSource site slot c (Shape.srcAddr r c.elem) (k * Shape.esize (Shape.stype r))))

/-- MEMORY_WRITE_ACKNOWLEDGEMENT: a home has performed a write (R358), or a channel's write to another module has failed, which freezes the channel
at that beat where it still runs, and publishes the record alone where it does not (R159, log 47). One for a frozen tile is dropped (R353). -/
def execMemoryWriteAcknowledgement (ctx inc : Nat) (who : Requester) (s : State) : Host.Outcome State Fault Refusal :=
  match who with
  | .ackC site slot far =>
    let x := s.slotAt site slot
    if x.bound ≠ some (ctx, inc) ∨ s.stale (agSite site 0) ctx inc ∨ (s.tileAt site).frozen then .next (s.drop ctx)
    else .next (s.setSlotAt site slot (if far then { x with ackCR := x.ackCR - 1 } else { x with ackC := x.ackC - 1 }))
  | .ackS site slot ch wp far q =>
    let x := s.slotAt site slot
    let c := x.chan ch
    if x.bound ≠ some (ctx, inc) ∨ s.stale (agSite site 0) ctx inc ∨ (s.tileAt site).frozen then .next (s.drop ctx)
    else
      let s1 := s.setChan site slot ch { c with unacked := c.unacked.erase (wp, far) }
      .next (if far && c.st == .running then s1.farDone site slot ch q else s1)
  | .ackBad site slot ch wp far q k va =>
    let x := s.slotAt site slot
    let c := x.chan ch
    if x.bound ≠ some (ctx, inc) ∨ s.stale (agSite site 0) ctx inc ∨ (s.tileAt site).frozen then .next (s.drop ctx)
    else
      let s1 := s.setChan site slot ch { c with unacked := c.unacked.erase (wp, far) }
      .next (if c.st == .running && c.beat.any (fun b => decide (b.seq = q)) then s1.freezeChan site slot ch ⟨k, 3, BitVec.ofNat 64 va⟩
             else s1.chanRecord site slot ch ⟨k, 3, BitVec.ofNat 64 va⟩)
  | _ => .next s

/-- CHANNEL_DATA_ARRIVE: data from memory is checked, converted and delivered (R156, R159, R337). Data for a beat that is no longer
awaited is discarded (R158); an orphan is dropped (R311). -/
def execChannelDataArrive (site slot ch ctx inc seq : Nat) (rep : MemReply) (s : State) : Host.Outcome State Fault Refusal :=
  let x := s.slotAt site slot
  let c := x.chan ch
  if x.bound ≠ some (ctx, inc) ∨ s.stale (agSite site 0) ctx inc then .next (s.drop ctx)
  else if (s.tileAt site).frozen then .next (s.drop ctx)
  else match c.beat with
    | some b =>
      if b.seq ≠ seq ∨ c.st ≠ .running then .next s
      else match (match rep.err with | some k => some k | none => if rep.poison then some FKind.poisonld else none) with
        | some k => .next (s.freezeChan site slot ch ⟨k, 3, BitVec.ofNat 64 b.va⟩)
        | none => .next (s.deliver site slot ch b.n rep.data)
    | none => .next s

/-! ### Syllables (R158, R160, R161) -/

def chTrap (k : FKind) (n : Nat) : Act := .trap ⟨k, 3, BitVec.ofNat 64 n⟩

/-- SCFG (R155, R160). R155 gives no EVAL for the RNGSTATE of RND = 5 with SEED = 0: it is 0 (DESIGN CHOICE, log 52). -/
def effScfg (f : NamF) (s : State) : Act :=
  let n := f.s.toNat
  let c := s.cur.chan n
  let p := (s.readS 32 f.a).toNat
  if c.st == .running || c.st == .frozen then chTrap .chbusy n
  else match s.scratchFault s.iss.site s.iss.slot p 64 64 3 true with
    | some t => .trap t
    | none =>
      let r := BitVec.ofNat 512 (bytesWord (s.curBytes p 64))
      match Shape.badField r with
      | some off => chTrap .chshape off
      | none =>
        if Shape.rnd r = 5 ∧ Shape.seed r = 0 then chTrap .rngstate 0
        else .ok (s.setCur (s.cur.setChan n { c with st := .ready, recd := r, elem := 0, wp := 0, rng := BitVec.ofNat 64 (Shape.seed r)
                                                     cause := none, walk := none, beat := none }))

/-- SGO (R158). -/
def effSgo (f : NamF) (s : State) : Act :=
  let n := f.s.toNat
  let c := s.cur.chan n
  match c.st with
  | .idle => chTrap .chuncfg n
  | .ready => .ok (s.setCur (s.cur.setChan n { c with st := .running, elem := 0, walk := none, beat := none, racedR := [], racedW := [] }))
  | .running => chTrap .chbusy n
  | .frozen => .ok (s.setCur (s.cur.setChan n { c with st := .running, cause := none, walk := none, beat := none }))

/-- SSTOP (R158, R160): a beat moves whole in one event, so the channel is READY at once. A beat that is on its way to another module has left
the engine and counts as delivered (log 47). -/
def effSstop (f : NamF) (s : State) : Act :=
  let n := f.s.toNat
  let c := s.cur.chan n
  match c.st with
  | .idle | .ready => .ok s
  | .running | .frozen =>
    let s1 := match c.beat with | some b => s.farDone s.iss.site s.iss.slot n b.seq | none => s
    .ok (s1.setCur (s1.cur.setChan n { s1.cur.chan n with st := .ready, cause := none, walk := none, beat := none }))

/-- The record with one field rewritten: SRCBASE, DSTBASE, EXT0 to EXT3 (R160). -/
def setField (r : ShapeRec) (f v : Nat) : ShapeRec :=
  let (off, w) := if f = 0 then (0, 64) else if f = 1 then (8, 64) else (0x10 + 2 * (f - 2), 16)
  BitVec.ofNat 512 (r.toNat - Shape.field r off w * 2 ^ (8 * off) + v % 2 ^ w * 2 ^ (8 * off))

/-- SPARM (R158, R160). -/
def effSparm (f : NamF) (s : State) : Act :=
  let n := f.s.toNat
  let c := s.cur.chan n
  let v := (s.readS 32 f.a).toNat
  match c.st with
  | .idle => chTrap .chuncfg n
  | .running | .frozen => chTrap .chbusy n
  | .ready =>
    if 2 ≤ f.i8.toNat ∧ 0xFFFF < v then chTrap .chshape (0x10 + 2 * (f.i8.toNat - 2))
    else
      let r := setField c.recd f.i8.toNat v
      match Shape.badField r with
      | some off => chTrap .chshape off
      | none => .ok (s.setCur (s.cur.setChan n { c with recd := r }))

/-- The mask of SFENCE (R160). -/
def sfMask (f : NamF) : Nat := f.f.toNat * 256 + f.i8.toNat
/-- The first channel of a mask in a state. -/
def Slot.chanOf (x : Slot) (mask : Nat) (st : ChState) : Option Nat :=
  (List.range 16).find? (fun i => mask.testBit i && (x.chan i).st == st)

/-- SFENCE waits until no channel of the mask is RUNNING and their global writes are performed at the scope (R160, R361). -/
def waitSfence (f : NamF) (s : State) : Option Hold :=
  if (s.cur.chanOf (sfMask f) .frozen).isSome then none
  else if (s.cur.chanOf (sfMask f) .running).isSome then some ⟨false, id⟩
  else (s.waitRelease 2 (fenceScope f.t.toNat) (sfMask f) false).map (fun h => { h with count := false })
/-- SFENCE traps with the freeze cause of a FROZEN channel of its mask (R160); of several, of the lowest-numbered (DESIGN CHOICE, log 44). -/
def effSfence (f : NamF) (s : State) : Act :=
  match s.cur.chanOf (sfMask f) .frozen with
  | some i => .trap ⟨(s.cur.chan i).cause.getD .nomap, 3, BitVec.ofNat 64 (s.cur.chan i).wp⟩
  | none => .ok s

/-- WAITWP waits while its channel runs short of x (R161). -/
def waitWaitwp (f : RRR) (s : State) : Option Hold :=
  let n := f.c.toNat % 16
  let c := s.cur.chan n
  let v := (s.readS 32 f.a).toNat
  if c.wp < v ∧ c.st = .running then some ⟨false, fun s => s.setCur { s.cur with wpWait := some (n, v) }⟩ else none
/-- WAITWP (R161). -/
def effWaitwp (f : RRR) (s : State) : Act :=
  let c := s.iss.ch0.getD (f.c.toNat % 16) Chan.idle
  if (s.readS 32 f.a).toNat ≤ c.wp then .ok s
  else match c.st with
    | .frozen => .trap ⟨c.cause.getD .nomap, 3, BitVec.ofNat 64 c.wp⟩
    | _ => .trap ⟨.chidle, 3, BitVec.ofNat 64 c.wp⟩

/-! The instructions: each acts as its effect says where its guard holds (R33). -/

/-- SCFG. -/
def execScfg (h : Hdr) (f : NamF) (s : State) : Host.Outcome State Fault Refusal := asStep h (effScfg f) s
/-- SGO. -/
def execSgo (h : Hdr) (f : NamF) (s : State) : Host.Outcome State Fault Refusal := asStep h (effSgo f) s
/-- SSTOP. -/
def execSstop (h : Hdr) (f : NamF) (s : State) : Host.Outcome State Fault Refusal := asStep h (effSstop f) s
/-- SPARM. -/
def execSparm (h : Hdr) (f : NamF) (s : State) : Host.Outcome State Fault Refusal := asStep h (effSparm f) s
/-- SFENCE. -/
def execSfence (h : Hdr) (f : NamF) (s : State) : Host.Outcome State Fault Refusal :=
  asStepW h (waitSfence f) (effSfence f) s
/-- WAITWP. -/
def execWaitwp (h : Hdr) (f : RRR) (s : State) : Host.Outcome State Fault Refusal :=
  asStepW h (waitWaitwp f) (effWaitwp f) s

end Sys2Proof.Machine
end

