-- ==== Sys2Proof/Machine/Rick.lean ====
section
/-! DEFINITION. Names at their homes (08_name R180 to R182, R188 to R200): which rick is the home, copies and their retention, overflow,
reductions, and the messages that a home sends. -/

namespace Sys2Proof.Machine

/-! ### Homes (R181) -/

/-- home_hash (R181). -/
def homeHash (ctx : Nat) (name : Word) : Nat :=
  ((crcs (crcs 0xFFFFFFFF (wordBytes 8 name.toNat)) [BitVec.ofNat 8 ctx]) ^^^ 0xFFFFFFFF).toNat
/-- home_of (R181): homelist holds the enabled sites in ascending order. -/
def State.homeOf (s : State) (ctx : Nat) (name : Word) : Nat :=
  let l := s.sites
  l.getD (homeHash ctx name * l.length / 2 ^ 32) 0

/-- The space of a name (R180). -/
def spaceOf (name : Word) : Nat := (name.extractLsb' 56 8).toNat
def homeKey (ctx : Nat) (name : Word) : Nat := ctx * 2 ^ 64 + name.toNat
/-- A name of which the home holds nothing. Its first publication takes sequence 0: R190 gives only 'the next' (DESIGN CHOICE, log 52). -/
def HomeName.empty (ctx inc : Nat) (name : Word) : HomeName :=
  { ctx := ctx, inc := inc, name := name, next := 0, copies := [], subs := [], held := [], pins := 0, sysPins := 0, red := none, closing := [], ft := false,
    unicast := false, marks := [], wants := [], freeing := [] }
/-- What the home holds of a name, under which it is kept; an entry of another incarnation counts as none (R206). -/
def State.homeName (s : State) (ctx inc : Nat) (name : Word) : HomeName :=
  match KMap.get? s.homes (homeKey ctx name) with
  | some h => if h.inc = inc then { h with ctx := ctx, name := name } else HomeName.empty ctx inc name
  | none => HomeName.empty ctx inc name
def State.setHome (s : State) (h : HomeName) : State := { s with homes := KMap.set s.homes (homeKey h.ctx h.name) h }
/-- Is an item of a name stale at its home (R310)? -/
def State.staleHome (s : State) (ctx inc : Nat) (name : Word) : Bool := s.stale (agSite (s.homeOf ctx name) 3) ctx inc

/-- A packet of a name is stale, or its home has failed: it is dropped and counted, a fault record by the management controller alone (R182, R310,
R351). -/
def State.dropName (s : State) (ctx : Nat) (name : Word) : State := if spaceOf name = 0xF0 then s.countDropped else s.drop ctx
def State.dropFailed (s : State) (ctx inc : Nat) (name : Word) : State :=
  if spaceOf name = 0xF0 then s.countDropped else s.send 0 (.standInReply (.drop ctx inc name))

/-- A fault record of a home, a router or a hedge agent about a name: EVAL is the name. -/
def State.nameRecord (s : State) (ctx inc : Nat) (kind : FKind) (name : Word) (unit : Nat := 0) : State :=
  s.record ⟨ctx, inc, none⟩ { kind := kind, origin := 3, eval := name, unit := unit }
/-- The record of a failed home; the spec states no EVAL for it (R182, log 23). -/
def State.nohomeRecord (s : State) (ctx inc origin : Nat) : State :=
  s.record ⟨ctx, inc, none⟩ { kind := .nohome, origin := origin, eval := s.freeW 500 }

/-! ### Segments (R189) -/

/-- Segments of a publication, and the bytes of one. -/
def segsOf (size : Nat) : Nat := (size + 4095) / 4096
def segLen (size idx : Nat) : Nat := min 4096 (size - 4096 * idx)
/-- Granule j of some bytes. -/
def granAt (bs : List Byte) (j : Nat) : List Byte := (bs.drop (64 * j)).take 64
/-- The check value of granule j of a segment: check_value(granule, name, g), g counted over the whole publication (R24, R189). -/
def Seg.checkAt (g : Seg) (j : Nat) : BitVec 32 := checkValue (granAt g.bytes j) g.name.toNat (64 * g.idx + j)
/-- A segment with the check values of its bytes. -/
def Seg.seal (g : Seg) : Seg := { g with checks := (List.range (g.bytes.length / 64)).map (Seg.checkAt g) }
/-- The first granule whose check value does not match, poison apart (R187, R205). -/
def Seg.firstBad (g : Seg) : Option Nat :=
  (List.range (g.bytes.length / 64)).find? (fun j => !(g.poison.contains j) && decide (g.checks.getD j 0 ≠ Seg.checkAt g j))
/-- Poisons granule j of a segment. -/
def Seg.strike (g : Seg) (j : Nat) : Seg := { g with poison := if g.poison.contains j then g.poison else g.poison ++ [j] }
/-- A segment as its publisher sends it (R189). -/
def Seg.make (ctx inc : Nat) (name : Word) (tag : Tag) (idx size linger : Nat) (bs : List Byte) (red : Option RedHdr) (sysPins : Nat) : Seg :=
  Seg.seal { ctx := ctx, inc := inc, name := name, tags := [tag], idx := idx, size := size, linger := linger, bytes := bs, checks := [], poison := [],
             red := red, seq := none, sysPins := sysPins }
/-- The segments of a payload. -/
def segsFrom (ctx inc : Nat) (name : Word) (tag : Tag) (linger : Nat) (data : List Byte) (sysPins : Nat := 0) : List Seg :=
  (List.range (segsOf data.length)).map (fun i =>
    Seg.make ctx inc name tag i data.length linger ((data.drop (4096 * i)).take 4096) none sysPins)
/-- Segments in ascending index. -/
def inOrder (l : List Seg) : List Seg := l.mergeSort (fun a b => decide (a.idx ≤ b.idx))

/-! ### Copies (R190, R191) -/

/-- Has every segment arrived? -/
def Copy.complete (c : Copy) : Bool := decide (c.segs.length + c.spilled.length = segsOf c.size)
/-- The current copy: the one that took the last sequence, until it expires (R190, R191). -/
def HomeName.current (h : HomeName) : Option Copy := h.copies.find? (fun c => decide ((c.seq + 1) % 2 ^ 32 = h.next))
def HomeName.putCopy (h : HomeName) (c : Copy) : HomeName := { h with copies := h.copies.map (fun d => if d.seq = c.seq then c else d) }
def HomeName.isCurrent (h : HomeName) (c : Copy) : Bool := match h.current with | some d => decide (d.seq = c.seq) | none => false
/-- Does a held entry refer to a copy (R191)? -/
def HomeName.heldBy (h : HomeName) (c : Copy) : Bool := h.held.any (fun e => e.seq == some c.seq)

/-- Is a copy of the name kept by its pins (R191, R276)? -/
def HomeName.pinned (h : HomeName) (c : Copy) : Bool := h.isCurrent c && (decide (0 < h.pins) || decide (0 < h.sysPins))

/-- Is a copy kept only by its linger or by pins of its context (R192)? -/
def HomeName.quotaCounts (h : HomeName) (t : Nat) (c : Copy) : Bool :=
  c.due.isEmpty && !(h.heldBy c) && (decide (t < c.until_) || (h.isCurrent c && decide (0 < h.pins)))
/-- Do the copies of a name count against the quota of its context? The device's agents publish as a program does (R180); records alone take none
(R351, log 49). -/
def quotaSpace (name : Word) : Bool := spaceOf name != 0xF0
/-- The bytes at a rick that a context keeps only by linger or by pins (R192). -/
def State.quotaUsed (s : State) (rick ctx : Nat) : Nat :=
  s.homes.foldl (fun n (_, h) =>
    if h.ctx = ctx ∧ s.homeOf h.ctx h.name = rick ∧ quotaSpace h.name then
      n + h.copies.foldl (fun n c => if h.quotaCounts s.time c then n + c.size else n) 0
    else n) 0
/-- RICKQUOTA in bytes (R192). -/
def State.quota (s : State) (ctx : Nat) : Nat := (s.ctx ctx).rickquota.toNat % 65536 * 4096

/-- Has a copy expired (R191)? The subscribers that were recorded when it took its sequence keep it, no later ones; a held entry that refers to it
keeps it, and so does a transfer that reads it. -/
def HomeName.expired (h : HomeName) (t : Nat) (c : Copy) : Bool :=
  c.complete && c.due.isEmpty && decide (c.until_ ≤ t) && !(h.pinned c) && !(h.heldBy c) && !(h.wants.any (fun w => w.1.seq == some c.seq))

/-! ### Messages to subscribers -/

/-- Order of the packets of one class between a home and a tile for one name: 0 SUB, 1 PUB, 2 PULL, 3 SYS (R202, R203). -/
def homeChan (cls site ctx : Nat) (name : Word) : Nat := chanKey 8 ((4 * site + cls) * 2 ^ 72 + homeKey ctx name)
/-- Order of the messages of a slot to its home. -/
def slotChan (site slot n : Nat) : Nat := chanKey 16 ((site * 4 + slot) * 16 + n)

/-- A subscriber of a home is a slot of a tile, the scheduler of field site - 6144 for a gate of queue `slot` (R240), or host subscription
site - 8192 (R385). This sends a copy to one, to a slot segment by segment (R190), in class PUB, or in PULL where it answers a pull (R202). -/
def State.unicast (s : State) (h : HomeName) (r : SubRec) (seq : Option Nat) (segs : List Seg) (pulled : Bool := false) : State :=
  if 8192 ≤ r.site then s.send 0 (.hostEventLanding (r.site - 8192) (segs.flatMap (·.bytes)))
  else if 6144 ≤ r.site then s.send 0 (.gateSatisfied h.ctx h.inc ⟨r.slot, r.gate.1, r.gate.2⟩ h.name)
  else segs.foldl (fun s g => s.send (homeChan (if pulled then 2 else 1) r.site h.ctx h.name)
    (.copyAtTilePort r.site (some (r.slot, r.sub)) { g with seq := seq })) s

/-- Is it the record of a subscriber's slot? -/
def SubRec.is (r : SubRec) (site slot sub : Nat) : Bool := decide (r.site = site) && decide (r.slot = slot) && decide (r.sub = sub)

/-! ### Places (R17, R195) -/

/-- Mesh hops between two sites. -/
def siteDist (a b : Nat) : Nat :=
  (siteX a - siteX b) + (siteX b - siteX a) + ((siteY a - siteY b) + (siteY b - siteY a))
/-- Attach site of a rim field (R17). -/
def attachSite (r : Nat) : Nat :=
  let f := rimAbuts r
  match (r - 64) / 6 with
  | 0 => 12 * (f % 8) + 6
  | 1 => 96 * (8 * (f / 8) + 4) + 95
  | 2 => 96 * 63 + 12 * (f % 8) + 6
  | _ => 96 * (8 * (f / 8) + 4)
/-- The rim field nearest a site, ties to the lower number (R17). -/
def nearestRim (site : Nat) : Nat :=
  (List.range 23).foldl (fun b i => if siteDist site (attachSite (65 + i)) < siteDist site (attachSite b) then 65 + i else b) 64
/-- The hedge agent that a home asks (R195), and that agent as one that reads and writes memory. -/
def hedgeOfSite (site : Nat) : Nat := 2 * (nearestRim site - 64)
def State.homeWalker (s : State) (ctx : Nat) (name : Word) : Nat := 64 + hedgeOfSite (s.homeOf ctx name)

/-! ### The overflow area (R193, R200, R206) -/

/-- Slots of the overflow area that a segment may take (R200). The number of the publisher's tag in the hash is site x 65,536 + serial: R200 gives no
layout (DESIGN CHOICE, log 52). -/
def State.ovflSlots (s : State) (ctx : Nat) (name : Word) (g : Seg) : List Nat :=
  let lg := (s.ctx ctx).ovflsize.toNat % 32
  let t := match g.tags with | t :: _ => t.site * 65536 + t.serial % 65536 | [] => 0
  let h := homeHash ctx name ^^^ t ^^^ g.idx
  if lg = 0 then [] else (List.range 8).map (fun i => (h + i) % 2 ^ lg)
def State.ovflData (s : State) (ctx i : Nat) : Nat := (s.ctx ctx).ovflbase.toNat + 4096 * i
def State.ovflHdr (s : State) (ctx i : Nat) : Nat :=
  (s.ctx ctx).ovflbase.toNat + 4096 * 2 ^ ((s.ctx ctx).ovflsize.toNat % 32) + 64 * i

/-- The header of a slot that is in use: VALID, and the context and the incarnation that R206 asks of it, in places of the model's own (log 49); the
rest belongs to the device and is free. -/
def State.ovflHeader (s : State) (ctx inc i : Nat) : List Byte :=
  wordBytes 8 (1 + ctx * 2 ^ 8 + inc * 2 ^ 16) ++ (List.range 56).map (fun j => Config.freeByte s.tick (4000 + i + j))
/-- Does a header say that its slot is in use by the context's incarnation (R200, R206)? -/
def ovflTaken (ctx inc w : Nat) : Bool := decide (w % 2 = 1) && decide (w / 2 ^ 8 % 256 = ctx) && decide (w / 2 ^ 16 % 4096 = inc)

/-- What an agent of the overflow area met: it is done, the area is full, or a page migrates (R335). -/
inductive Spill (α : Type) where
  | ok (a : α)
  | full
  | wait

/-- The first slot with VALID = 0 (R200); a slot whose header cannot be read counts as taken (log 49). -/
def State.ovflFree (s : State) (ctx inc walker : Nat) : List Nat → State × Spill Nat
  | [] => (s, .full)
  | i :: is =>
    match s.sysRead walker ctx inc (s.ovflHdr ctx i) 8 with
    | (s1, .ok bs) => if ovflTaken ctx inc (bytesWord bs) then State.ovflFree s1 ctx inc walker is else (s1, .ok i)
    | (s1, .migrating) => (s1, .wait)
    | (s1, .fault _ _) => State.ovflFree s1 ctx inc walker is

/-- A free slot for each of some segments (R200). -/
def State.ovflPick (s : State) (ctx inc walker : Nat) (name : Word) : List Seg → List Nat → State × Spill (List Nat)
  | [], acc => (s, .ok acc)
  | g :: gs, acc =>
    match s.ovflFree ctx inc walker ((s.ovflSlots ctx name g).filter (fun i => !(acc.contains i))) with
    | (s1, .ok i) => State.ovflPick s1 ctx inc walker name gs (acc ++ [i])
    | (s1, .full) => (s1, .full)
    | (s1, .wait) => (s1, .wait)

/-- Writes the data and the header of each segment into its slot (R200). -/
def State.ovflPut (s : State) (ctx inc walker : Nat) : List (Seg × Nat) → State × Spill Unit
  | [] => (s, .ok ())
  | (g, i) :: r =>
    let (s1, r1) := s.sysWrite walker ctx inc (s.ovflData ctx i) g.bytes
    let (s2, r2) := s1.sysWrite walker ctx inc (s.ovflHdr ctx i) (s.ovflHeader ctx inc i)
    match r1, r2 with
    | .ok _, .ok _ => State.ovflPut s2 ctx inc walker r
    | .migrating, _ => (s, .wait)
    | _, .migrating => (s, .wait)
    | _, _ => (s, .full)

/-- Spills segments: the data of each and its header (R200). What is written counts only where every one of them has a slot. -/
def State.spillGo (s : State) (ctx inc walker : Nat) (name : Word) (gs : List Seg) : State × Spill (List Spilled) :=
  match s.ovflPick ctx inc walker name gs [] with
  | (s1, .full) => (s1, .full)
  | (s1, .wait) => (s1, .wait)
  | (s1, .ok slots) => match s1.ovflPut ctx inc walker (gs.zip slots) with
    | (s2, .ok _) => (s2, .ok ((gs.zip slots).map (fun (g, i) => ⟨{ g with bytes := [] }, i⟩)))
    | (_, .full) => (s1, .full)
    | (_, .wait) => (s1, .wait)

/-- Reads the granules of a spilled segment back: bytes and poisoned granules so far; none where a page migrates. Poison, a failed check and an
uncorrectable error of the memory read come back as poison, any other fault as free bytes, whose check value the landing verifies (log 49). -/
def State.readBackGo (s : State) (ctx inc walker va : Nat) : List Nat → List Byte → List Nat → State × Option (List Byte × List Nat)
  | [], bs, bad => (s, some (bs, bad))
  | j :: js, bs, bad =>
    match s.sysRead walker ctx inc (va + 64 * j) 64 with
    | (s1, .ok b) => State.readBackGo s1 ctx inc walker va js (bs ++ b) bad
    | (s1, .migrating) => (s1, none)
    | (s1, .fault k _) =>
      let free := (List.range 64).map (fun i => Config.freeByte s.tick (70000 + 64 * j + i))
      State.readBackGo s1 ctx inc walker va js (bs ++ free)
        (if k = FKind.poisonld ∨ k = FKind.checkmiss ∨ k = FKind.hbmue then bad ++ [j] else bad)
def State.readBack (s : State) (ctx inc walker : Nat) (p : Spilled) : State × Option Seg :=
  let (s1, r) := s.readBackGo ctx inc walker (s.ovflData ctx p.slot) (List.range (segLen p.seg.size p.seg.idx / 64)) [] p.seg.poison
  (s1, r.map (fun (bs, bad) => { p.seg with bytes := bs, poison := bad.eraseDups }))
/-- Reads spilled segments back, after those that are in the rick. -/
def State.readAll (s : State) (ctx inc walker : Nat) : List Spilled → List Seg → State × Option (List Seg)
  | [], segs => (s, some segs)
  | p :: ps, segs =>
    match s.readBack ctx inc walker p with
    | (s1, some g) => State.readAll s1 ctx inc walker ps (segs ++ [g])
    | (s1, none) => (s1, none)

/-! ### Room in a rick (R193, R199, R201) -/

/-- Bytes of segments that stand in the diversion reserve, or outside it. -/
def segBytes (reserve : List Nat) (inRes : Bool) (l : List Seg) : Nat :=
  (l.filter (fun g => reserve.contains g.idx == inRes)).foldl (fun n g => n + g.bytes.length) 0
def RedOpen.stored (r : RedOpen) (inRes : Bool) : Nat :=
  (r.parts.filter (fun p => p.reserve == inRes)).foldl (fun n p => n + p.bytes.length) 0
/-- Bytes that a name holds at its home in the rick's payload store, or in the diversion reserve. -/
def HomeName.stored (h : HomeName) (inRes : Bool) : Nat :=
  h.copies.foldl (fun n c => n + segBytes c.reserve inRes c.segs) 0 + h.held.foldl (fun n e => n + segBytes e.reserve inRes e.segs) 0 +
  (match h.red with | some r => r.stored inRes | none => 0) + h.closing.foldl (fun n r => n + r.stored inRes) 0
def State.rickStored (s : State) (rick : Nat) (inRes : Bool) : Nat :=
  s.homes.foldl (fun n (_, h) => if s.homeOf h.ctx h.name = rick then n + h.stored inRes else n) 0
/-- Payload bytes that a rick holds (R193), and those in its diversion reserve (R199). -/
def State.rickBytes (s : State) (rick : Nat) : Nat := s.rickStored rick false
def State.reserveBytes (s : State) (rick : Nat) : Nat := s.rickStored rick true
/-- The completion name of phase p of barrier b; phase 0's is the barrier's home name (R268, R269). -/
def barName (b p : Nat) : Word := BitVec.ofNat 64 (0xF2 * 2 ^ 56 + b * 2 ^ 44 + p)
/-- Descriptors that a name takes: copies, held entries and an open reduction that are not spilled, subscriber records, and pins (R193). -/
def HomeName.descs (h : HomeName) : Nat :=
  (h.copies.filter (fun c => c.spilled.isEmpty || !c.segs.isEmpty)).length + (h.held.filter (fun e => e.spilled.isEmpty || !e.segs.isEmpty)).length +
  h.subs.length + (if 0 < h.pins ∨ 0 < h.sysPins then 1 else 0) + h.closing.length +
  (match h.red with | some r => if r.parts.isEmpty || r.parts.any (fun p => p.slot.isNone) then 1 else 0 | none => 0)
/-- Descriptors of a rick that are taken, those of barriers among them (R193). -/
def State.rickDescs (s : State) (rick : Nat) : Nat :=
  s.homes.foldl (fun n (_, h) => if s.homeOf h.ctx h.name = rick then n + h.descs else n)
    ((s.bars.filter (fun b => decide (s.homeOf (b.1 / 4096) (barName (b.1 % 4096) 0) = rick))).length)
/-- Has a rick room for n bytes and d descriptors (R193)? -/
def State.rickHas (s : State) (rick n d : Nat) : Bool := decide (s.rickBytes rick + n ≤ 0x100000) && decide (s.rickDescs rick + d ≤ 4096)

/-- A home finds a context's overflow area full: it tells every tile (R201). -/
def State.stallCtx (s : State) (ctx rick : Nat) : State :=
  match KMap.get? s.ovflStall ctx with
  | some (t, done, rs) => if rs.contains rick then s else { s with ovflStall := KMap.set s.ovflStall ctx (t, done, rs ++ [rick]) }
  | none => s.sites.foldl (fun s i => s.send (chanKey 9 i) (.overflowStallNotice i ⟨ctx, s.incAt (agSite rick 3) ctx⟩))
      { s with ovflStall := KMap.set s.ovflStall ctx (s.time, false, [rick]) }

/-- A home reports space; the stall ends when each that found the area full has (R201). -/
def State.unstallCtx (s : State) (ctx rick : Nat) : State :=
  match KMap.get? s.ovflStall ctx with
  | none => s
  | some (t, done, rs) =>
    if !(rs.contains rick) then s
    else if !(rs.erase rick).isEmpty then { s with ovflStall := KMap.set s.ovflStall ctx (t, done, rs.erase rick) }
    else s.sites.foldl (fun s i => s.send (chanKey 9 i) (.overflowSpaceNotice i ⟨ctx, s.incAt (agSite rick 3) ctx⟩)) { s with ovflStall := KMap.del s.ovflStall ctx }

/-- Has a rick that found a context's area full come to have room for a segment (R201)? -/
def State.spaceAgain (s : State) : List (Nat × Nat) :=
  s.ovflStall.flatMap (fun p => (p.2.2.2.filter (fun rick => s.rickHas rick 4096 1)).map (fun rick => (p.1, rick)))

/-- An entry of a name that may be spilled whole: a copy, a held entry with bytes of its own, the open reduction. -/
inductive Stored where
  | copy (seq : Nat)
  | held (e : HeldEnt)
  | red
  deriving DecidableEq, Repr
structure Victim where
  ctx : Nat
  inc : Nat
  name : Word
  what : Stored
  segs : List Seg
  used : Nat
  deriving DecidableEq, Repr

/-- A part of a reduction as a segment to spill, and back. -/
def RedPart.seg (h : HomeName) (size : Nat) (p : RedPart) : Seg :=
  { ctx := h.ctx, inc := h.inc, name := h.name, tags := [p.tag], idx := p.idx, size := size, linger := 0, bytes := p.bytes, checks := [],
    poison := p.poison, red := none, seq := none, sysPins := 0 }

/-- The entries of a name that may be spilled: those that no transfer reads (R193), and no fault records (R351). -/
def HomeName.victims (h : HomeName) : List Victim :=
  if !h.wants.isEmpty ∨ spaceOf h.name = 0xF0 then []
  else
    (h.copies.filter (fun c => c.complete && !c.segs.isEmpty)).map (fun c => ⟨h.ctx, h.inc, h.name, .copy c.seq, c.segs, c.used⟩) ++
    (h.held.filter (fun e => !e.segs.isEmpty)).map (fun e => ⟨h.ctx, h.inc, h.name, .held e, e.segs, e.used⟩) ++
    (match h.red with
     | some r => (match r.parts.filter (fun p => p.slot.isNone) with
       | [] => []
       | ps => [⟨h.ctx, h.inc, h.name, .red, ps.map (RedPart.seg h r.size), r.used⟩])
     | none => [])
/-- The entries at a rick that may be spilled, the least recently used first. -/
def State.victims (s : State) (rick : Nat) : List Victim :=
  (s.homes.flatMap (fun (_, h) => if s.homeOf h.ctx h.name = rick then h.victims else [])).mergeSort (fun a b => decide (a.used ≤ b.used))

/-- Parts of a reduction whose bytes have gone into overflow slots, in the order of the parts that were in the rick. -/
def spillParts : List RedPart → List Spilled → List RedPart
  | p :: ps, l => if p.slot.isSome then p :: spillParts ps l else match l with
    | q :: qs => { p with bytes := [], slot := some q.slot, reserve := false } :: spillParts ps qs
    | [] => p :: ps
  | [], _ => []
/-- A name one of whose entries has been spilled. -/
def HomeName.spill (h : HomeName) (what : Stored) (l : List Spilled) : HomeName :=
  match what with
  | .copy q => { h with copies := h.copies.map (fun c => if c.seq = q then { c with segs := [], spilled := c.spilled ++ l, reserve := [] } else c) }
  | .held e => { h with held := h.held.map (fun d => if d = e then { d with segs := [], spilled := d.spilled ++ l, reserve := [] } else d) }
  | .red => { h with red := h.red.map (fun r => { r with parts := spillParts r.parts l }) }

/-- What a rick has for a new entry: room, room in the diversion reserve alone, none, or none before a page has moved (R335). -/
inductive Room where
  | rick | reserve | full | wait
  deriving DecidableEq, Repr
/-- May the entry be stored? -/
def Room.ok : Room → Bool
  | .rick | .reserve => true
  | _ => false

/-- Makes room in a rick for n bytes and d descriptors by spilling; a context whose area is found full is passed over from then on (R193). -/
def State.makeRoom (s : State) (rick n d : Nat) (full : List Nat) : List Victim → State × Room
  | [] => (s, if s.rickHas rick n d then .rick else .full)
  | v :: vs =>
    if s.rickHas rick n d then (s, .rick)
    else if full.contains v.ctx then State.makeRoom s rick n d full vs
    else match s.spillGo v.ctx v.inc (64 + hedgeOfSite rick) v.name v.segs with
      | (s1, .ok l) => State.makeRoom (s1.setHome ((s1.homeName v.ctx v.inc v.name).spill v.what l)) rick n d full vs
      | (s1, .wait) => (s1, .wait)
      | (s1, .full) => State.makeRoom (s1.stallCtx v.ctx rick) rick n d (v.ctx :: full) vs

/-- Is there room for n bytes and d descriptors: in the rick after spilling, or in the diversion reserve (R193)? -/
def State.roomFor (s : State) (rick n d : Nat) : State × Room :=
  match s.makeRoom rick n d [] (s.victims rick) with
  | (s1, .full) => (s1, if s1.reserveBytes rick + n ≤ 0x10000 ∧ s1.rickDescs rick + d ≤ 4096 then .reserve else .full)
  | r => r

/-- SPILL_READ_BACK of held entries, of a reduction, and of the slots that are still to be freed goes by these numbers in place of a sequence. -/
def heldKey : Nat := 2 ^ 32
def redKey : Nat := 2 ^ 33
def freeKey : Nat := 2 ^ 34

/-- Clears the headers of overflow slots; those whose page migrates are left. -/
def State.freeSlots (s : State) (ctx inc walker : Nat) : List Nat → State × List Nat
  | [] => (s, [])
  | i :: is =>
    let (s1, r) := s.sysWrite walker ctx inc (s.ovflHdr ctx i) (wordBytes 8 0)
    let (s2, left) := State.freeSlots s1 ctx inc walker is
    (s2, match r with | .migrating => i :: left | _ => left)
/-- Frees the overflow slots of an entry, those on a migrating page when it has moved (R193, R335); the home then has space for the context
(R201). -/
def State.freeOvfl (s : State) (ctx inc : Nat) (name : Word) (slots : List Nat) : State :=
  if slots.isEmpty then s
  else
    let (s1, left) := s.freeSlots ctx inc (s.homeWalker ctx name) slots
    let s2 := if left.length < slots.length then s1.unstallCtx ctx (s.homeOf ctx name) else s1
    if left.isEmpty then s2
    else
      let h := s2.homeName ctx inc name
      (s2.setHome { h with freeing := h.freeing ++ left }).sendAt (s2.time + 2000) 0 (.spillReadBack ctx name freeKey)

/-! ### Sending copies -/

/-- Sends a copy to a subscriber: once it has arrived whole (R190), and reading it back first where it is spilled. A gate needs no bytes (R240). -/
def State.serve (s : State) (ctx inc : Nat) (name : Word) (r : SubRec) (c : Copy) (pulled : Bool := false) : State :=
  let h := s.homeName ctx inc name
  let m : SlotMsg := ⟨ctx, inc, name, r.site, r.slot, r.sub, none, some c.seq, false⟩
  if !c.complete then s.setHome { h with wants := h.wants ++ [(m, pulled)] }
  else if c.spilled.isEmpty || (decide (6144 ≤ r.site) && decide (r.site < 8192)) then
    (s.setHome (h.putCopy { c with used := s.tick })).unicast h r (some c.seq) (inOrder c.segs) pulled
  else (s.setHome { h with wants := h.wants ++ [(m, pulled)] }).send 0 (.spillReadBack ctx name c.seq)

/-- Sends the bytes that a held entry keeps. -/
def State.serveHeld (s : State) (h : HomeName) (r : SubRec) (e : HeldEnt) (pulled : Bool := false) : State :=
  if e.spilled.isEmpty then s.unicast h r e.seq (inOrder e.segs) pulled
  else
    let m : SlotMsg := ⟨h.ctx, h.inc, h.name, r.site, r.slot, r.sub, none, e.seq, false⟩
    let h1 := s.homeName h.ctx h.inc h.name
    (s.setHome { h1 with wants := h1.wants ++ [(m, pulled)] }).send 0 (.spillReadBack h.ctx h.name heldKey)

/-- Is sequence a later than b, modulo 2^32 (R190)? -/
def seqAfter (a b : Nat) : Bool := decide (0 < (a + 2 ^ 32 - b) % 2 ^ 32) && decide ((a + 2 ^ 32 - b) % 2 ^ 32 < 2 ^ 31)

/-- Does a held entry belong to a subscriber's slot? -/
def HeldEnt.of (e : HeldEnt) (site slot sub : Nat) : Bool := decide (e.site = site ∧ e.slot = slot ∧ e.sub = sub)
/-- Does it keep bytes of its own? -/
def HeldEnt.own (e : HeldEnt) : Bool := !e.segs.isEmpty || !e.spilled.isEmpty
/-- Is a held entry a record of a cut area, which keeps its own bytes under its sequence until it is acknowledged (R262, R263)? -/
def HeldEnt.isRecord (e : HeldEnt) : Bool := e.seq.isSome && e.own
/-- The held entry that a message of a slot is about. -/
def HeldEnt.mine (e : HeldEnt) (m : SlotMsg) : Bool := e.of m.site m.slot m.sub && (!e.isRecord || e.seq == m.seq)
/-- A held entry that refers to a copy of the home. -/
def HeldEnt.ref (site slot sub : Nat) (c : Copy) (t : Nat) : HeldEnt := ⟨site, slot, sub, some c.seq, c.tags, [], [], [], false, t⟩

/-- The copy that a persistent subscriber is to be shown next (R188): the first of those that it awaits, or the first after its last one. -/
def HomeName.nextFor (h : HomeName) (r : SubRec) : Option Copy :=
  match r.last with
  | none => h.copies.find? (fun c => c.awaited.contains (r.site, r.slot, r.sub))
  | some q => h.copies.find? (fun c => seqAfter c.seq q)
/-- The record that a restored persistent subscriber is to be shown before its copies (R263). -/
def HomeName.nextRecord (h : HomeName) (r : SubRec) : Option HeldEnt :=
  h.held.find? (fun e => e.of r.site r.slot r.sub && e.isRecord && (match r.last with | none => true | some q => seqAfter (e.seq.getD 0) q))

/-- The mark of a subscriber's slot: copies from m on wait for the restore (R261). -/
def HomeName.markOf (h : HomeName) (r : SubRec) : Option Nat :=
  (h.marks.find? (fun k => decide (k.uid = r.uid ∧ k.sub = r.sub ∧ 0 < r.uid))).map (·.at_)
/-- May a copy be delivered to a subscriber now? -/
def HomeName.mayShow (h : HomeName) (r : SubRec) (seq : Nat) : Bool :=
  !r.moving && (match h.markOf r with | some m => decide (seq ≠ m) && !(seqAfter seq m) | none => true)
/-- Keeps a copy as a held entry of a marked slot (R261). -/
def HomeName.holdFor (h : HomeName) (r : SubRec) (c : Copy) : HomeName :=
  if h.held.any (fun e => decide (e.site = r.site ∧ e.slot = r.slot ∧ e.sub = r.sub) && (e.seq == some c.seq)) then h
  else { h with held := h.held ++ [HeldEnt.ref r.site r.slot r.sub c c.used] }

/-- The subscriber's record once it has been sent a sequence. -/
def HomeName.sent (h : HomeName) (r : SubRec) (seq : Nat) : HomeName :=
  { h with subs := h.subs.map (fun q => if q.is r.site r.slot r.sub then { q with ready := false, last := some seq } else q) }

/-- Sends a ready persistent subscriber its next record or copy, whichever is earlier, if that has arrived whole (R188, R263). -/
def State.serveNext (s : State) (ctx inc : Nat) (name : Word) (r : SubRec) : State :=
  let h := s.homeName ctx inc name
  let copy (c : Copy) : State :=
    if c.complete ∧ r.ready ∧ h.mayShow r c.seq then (s.setHome (h.sent r c.seq)).serve ctx inc name r c else s
  match h.nextRecord r, h.nextFor r with
  | some e, c =>
    let q := e.seq.getD 0
    if c.any (fun c => seqAfter q c.seq) then (match c with | some c => copy c | none => s)
    else if r.ready ∧ h.mayShow r q then (s.setHome (h.sent r q)).serveHeld h r e
    else s
  | none, some c => copy c
  | none, none => s

/-! ### Routers (R23, R24, R184) -/

/-- The neighbour of a site through a port, and the port by which packets arrive there. -/
def neighbour (site : Nat) : Port → Nat × Port
  | .north => (site - 96, .south)
  | .south => (site + 96, .north)
  | .east => (site + 1, .west)
  | .west => (site - 1, .east)
  | .tile => (site, .tile)

/-- Order of the packets of one class and name that leave a site by a port (R203). -/
def linkChan (cls site : Nat) (p : Port) (ctx : Nat) (name : Word) : Nat :=
  chanKey (12 + cls) ((site * 5 + p.ctorIdx) * 2 ^ 72 + homeKey ctx name)

def Match.count (m : Match) : Port → Nat
  | .tile => m.cl | .north => m.cn | .east => m.ce | .south => m.cs | .west => m.cw
/-- Counts are bounded: 0 to 64 for the tile's slots, 0 to 8,191 for the other ports (R184). -/
def portMax : Port → Nat | .tile => 64 | _ => 8191
def Match.add (m : Match) (p : Port) (d : Int) : Match :=
  let f (n : Nat) : Nat := ((n : Int) + d).toNat
  match p with
  | .tile => { m with cl := f m.cl } | .north => { m with cn := f m.cn } | .east => { m with ce := f m.ce }
  | .south => { m with cs := f m.cs } | .west => { m with cw := f m.cw }
def Match.empty (m : Match) : Bool := decide (m.cn + m.ce + m.cs + m.cw + m.cl = 0)
def Match.is (m : Match) (ctx inc : Nat) (name : Word) : Bool := decide (m.ctx = ctx ∧ m.inc = inc ∧ m.name = name)

def State.matchAt (s : State) (site ctx inc : Nat) (name : Word) : Option Match :=
  (KMap.getD s.matches_ site []).find? (fun m => m.is ctx inc name)
/-- Changes a count of a match entry; an entry whose counts are all zero is freed, and one is made where there is none (R184). -/
def State.matchAdd (s : State) (site ctx inc : Nat) (name : Word) (p : Port) (d : Int) : State :=
  let ms := KMap.getD s.matches_ site []
  let ms1 := match ms.find? (fun m => m.is ctx inc name) with
    | some _ => ms.map (fun (m : Match) => if m.is ctx inc name then m.add p d else m)
    | none => if 0 < d then ms ++ [({ ctx := ctx, inc := inc, name := name, cn := 0, ce := 0, cs := 0, cw := 0, cl := 0 } : Match).add p d] else ms
  { s with matches_ := KMap.set s.matches_ site (ms1.filter (fun m => !m.empty)) }

/-- One copy out of each port of a match entry but the arrival port (R24, R184). -/
def State.branch (s : State) (site : Nat) (arrival : Option Port) (e : Match) (g : Seg) : State :=
  let out (p : Port) (s : State) : State :=
    if e.count p = 0 ∨ arrival = some p then s
    else if p = .tile then s.send (homeChan 1 site g.ctx g.name) (.copyAtTilePort site none g)
    else s.send (linkChan 1 site p g.ctx g.name) (.segmentAtRouter (neighbour site p).1 (neighbour site p).2 false g)
  out .tile (out .west (out .south (out .east (out .north s))))

/-! ### Publishing (R190, R192) -/

/-- Is a subscriber to be served by unicast when a copy has arrived whole: with U or PERSIST (R185), with the unicast flag of its name (R205), with a
mark that leaves it this copy, and a slot of the publisher's own tile, which no branch reaches, the tile port being the arrival port there (R24,
R190, log 24)? -/
def HomeName.byUnicast (h : HomeName) (c : Copy) (r : SubRec) : Bool :=
  r.u || h.unicast || (h.markOf r).isSome || c.tags.any (fun t => decide (t.site = r.site))

/-- The record of the subscriber that a message names, as the home has it. -/
def HomeName.recOf (h : HomeName) (m : SlotMsg) : SubRec :=
  (h.subs.find? (fun q => q.is m.site m.slot m.sub)).getD ⟨m.site, m.slot, m.sub, false, false, false, none, false, false, 0, (0, 0), 0⟩

/-- A copy has arrived whole: pulls that wait for it are answered, and unicast subscribers, and persistent ones whose turn it is, are sent it
(R187, R190). -/
def State.copyComplete (s : State) (ctx inc : Nat) (name : Word) (seq : Nat) : State :=
  let h := s.homeName ctx inc name
  match h.copies.find? (fun c => decide (c.seq = seq)) with
  | none => s
  | some c =>
    let mine := h.wants.filter (fun w => w.1.seq == some seq)
    let s0 := mine.foldl (fun s w => s.unicast h (h.recOf w.1) (some seq) (inOrder c.segs) w.2)
      (s.setHome { h with wants := h.wants.filter (fun w => !(w.1.seq == some seq)) })
    h.subs.foldl (fun s r =>
      if (h.markOf r).isSome ∧ !(h.mayShow r seq) ∧ c.awaited.contains (r.site, r.slot, r.sub) then
        let s1 := (s.roomFor (s.homeOf ctx name) 0 1).1
        s1.setHome ((s1.homeName ctx inc name).holdFor r c)
      else if r.persist then s.serveNext ctx inc name r
      else if h.byUnicast c r ∧ !r.moving ∧ c.awaited.contains (r.site, r.slot, r.sub) then s.serve ctx inc name r c
      else s) s0

/-- A home reports to the governor the copies of a step event that have met condition 1 of R191 (R286). -/
def State.reportDelivered (s : State) (ctx inc : Nat) (name : Word) (n : Nat) : State :=
  if spaceOf name = 0xF3 then (List.range n).foldl (fun s _ => s.send 0 (.copyDeliveredReport ctx inc name)) s else s

/-- Order notices go to the publishers that a segment names (R190). -/
def State.notifyOrder (s : State) (g : Seg) : State :=
  g.tags.foldl (fun s t => if t.site < 6144 then s.send 0 (.orderNotice g.ctx g.inc t) else s) s

/-- Slots that hold a copy which branched off before its home took it into its order learn its sequence (R190, R212). -/
def SubSlot.learn (u : SubSlot) (g : Seg) (q : Nat) : SubSlot :=
  if u.name ≠ g.name then u
  else if u.tag.isSome && u.tag == g.tags.head? then { u with seq := q, lastAck := some q, tag := none }
  else match u.recv with
    | some r => if r.tag.isSome && r.tag == g.tags.head? && r.seq.isNone then { u with recv := some { r with seq := some q } } else u
    | none => u
/-- A copy of the publication that is on its way learns it too. -/
def Seg.learn (g : Seg) (q : Nat) (c : Seg) : Seg :=
  if c.seq.isNone ∧ c.ctx = g.ctx ∧ c.inc = g.inc ∧ c.name = g.name ∧ c.tags.head? = g.tags.head? then { c with seq := some q } else c
/-- A copy's segment on its way to slots, changed by `f`. -/
def Instr.onCopy (f : Seg → Seg) : Instr → Instr
  | .segmentAtRouter site port false g => .segmentAtRouter site port false (f g)
  | .copyAtTilePort site target g => .copyAtTilePort site target (f g)
  | e => e
def State.learnSeq (s : State) (g : Seg) (q : Nat) : State :=
  { s with agenda := s.agenda.map (fun p => { p with ev := Instr.onCopy (Seg.learn g q) p.ev })
           slots := s.slots.map (fun (k, x) =>
      (k, if x.bound = some (g.ctx, g.inc) then { x with sub := x.sub.map (fun u => u.learn g q) } else x)) }

/-- Is a segment the publication of a fall-through (R195)? -/
def Seg.ofFt (g : Seg) : Bool := g.tags.any (fun t => decide (6202 ≤ t.site) && decide (t.slot = 1))

/-- A home takes a publication into its order (R190, R192): the copy, its linger and its pins. -/
def State.takeOrder (s : State) (g : Seg) : State :=
  let h := s.homeName g.ctx g.inc g.name
  let rick := s.homeOf g.ctx g.name
  let counted := quotaSpace g.name
  let used := (s.setHome { h with pins := 0 }).quotaUsed rick g.ctx
  let overL := counted && decide (0 < g.linger) && decide (s.quota g.ctx < used + g.size)
  let overP := counted && decide (0 < h.pins) && decide (s.quota g.ctx < used + g.size)
  let waits := (h.subs.filter (fun r => r.persist || r.last.isNone)).map (fun r => (r.site, r.slot, r.sub))
  let c : Copy :=
    { seq := h.next, size := g.size, tags := g.tags, segs := [], until_ := s.time + (if overL then 0 else g.linger * 512), awaited := waits
      spilled := [], reserve := [], used := s.tick, due := waits }
  let s1 := s.setHome { h with next := (h.next + 1) % 2 ^ 32, copies := h.copies ++ [c], pins := if overP then 0 else h.pins,
                               sysPins := h.sysPins + g.sysPins, ft := h.ft && !(Seg.ofFt g) }
  let s2 := if overL then s1.nameRecord g.ctx g.inc .lingermax g.name else s1
  let s3 := if overP then s2.nameRecord g.ctx g.inc .lingermax g.name else s2
  ((s3.reportDelivered g.ctx g.inc g.name (if c.due.isEmpty then 1 else 0)).learnSeq g h.next).notifyOrder g

/-- The copy that a segment belongs to: the last one with its tags that still lacks it. -/
def HomeName.copyOf (h : HomeName) (g : Seg) : Option Copy :=
  h.copies.reverse.find? (fun c => decide (c.tags.head? = g.tags.head?) && !(c.segs.any (fun e => decide (e.idx = g.idx))) &&
    !(c.spilled.any (fun p => decide (p.seg.idx = g.idx))))

/-- Stores a segment in its copy (R190); `res` puts it in the diversion reserve. -/
def State.storeSeg (s : State) (g : Seg) (res : Bool) : State :=
  let h := s.homeName g.ctx g.inc g.name
  match h.copyOf g with
  | none => s
  | some c =>
    let c1 := { c with segs := c.segs ++ [{ g with seq := some c.seq }], reserve := if res then c.reserve ++ [g.idx] else c.reserve }
    let s1 := s.setHome (h.putCopy c1)
    if c1.complete then s1.copyComplete g.ctx g.inc g.name c.seq else s1

/-- The sequence of the copy that a segment goes into. -/
def State.seqOf (s : State) (g : Seg) : Option Nat := ((s.homeName g.ctx g.inc g.name).copyOf g).map (·.seq)

/-- The home takes a segment for which it has room: into its order, into its rick, and on by the ports of its match entry (R24, R190). A segment
whose publication it has not taken goes nowhere. -/
def State.homeTake (s : State) (port : Option Port) (g : Seg) (res : Bool) : State :=
  let s1 := if g.idx = 0 then s.takeOrder g else s
  match s1.seqOf g with
  | none => s1
  | some q =>
    let home := s.homeOf g.ctx g.name
    match s.matchAt home g.ctx g.inc g.name with
    | some e => (s1.storeSeg g res).branch home port e { g with seq := some q }
    | none => s1.storeSeg g res

/-- SEGMENT_AT_HOME: the home takes the publication into its order, stores the segment and forwards it (R190 to R193). A publication of a name with
an open reduction is dropped (R196). While nothing has room for it, or the result of a closed reduction is still to be published before it (R198), it
waits at the head of the home's input (R204). -/
def execSegmentAtHome (port : Option Port) (g : Seg) (s : State) : Host.Outcome State Fault Refusal :=
  let home := s.homeOf g.ctx g.name
  let h := s.homeName g.ctx g.inc g.name
  if s.staleHome g.ctx g.inc g.name then .next (s.dropName g.ctx g.name)
  else if s.failedRicks.contains home then .next (s.dropFailed g.ctx g.inc g.name)
  else if g.idx = 0 ∧ h.red.isSome ∧ spaceOf g.name < 0xF0 then
    .next (((s.setHome { h with ft := h.ft && !(Seg.ofFt g) }).nameRecord g.ctx g.inc .reducemix g.name).notifyOrder g)
  else if g.idx ≠ 0 ∧ (s.seqOf g).isNone then .next s
  else if g.idx = 0 ∧ !h.closing.isEmpty then .next (s.retry (linkChan 2 home .tile g.ctx g.name) (.segmentAtHome port g))
  else
    let (s0, room) := s.roomFor home g.bytes.length (if g.idx = 0 then 1 else 0)
    if !room.ok then .next (s0.retry (linkChan 2 home .tile g.ctx g.name) (.segmentAtHome port g))
    else .next (s0.homeTake port g (room == .reserve))

/-! ### Reductions (R90, R196, R198) -/

/-- Combines two elements (R90). -/
def redOp (op : Nat) (a b : BitVec 32) : BitVec 32 :=
  match op with
  | 0 => BitVec.ofNat 32 (fpAdd fmtF32 ⟨0, 0⟩ false (decF32 a) (decF32 b)).bits
  | 1 => a + b
  | 2 => if isNaN32 a || isNaN32 b then 0x7FC00000 else if fKey a < fKey b then b else a
  | _ => if isNaN32 a || isNaN32 b then 0x7FC00000 else if fKey b < fKey a then b else a

/-- Combines two payloads word by word. -/
def redBytes (op : Nat) (a b : List Byte) : List Byte :=
  (List.range (a.length / 4)).flatMap (fun i =>
    wordBytes 4 (redOp op (BitVec.ofNat 32 (bytesWord ((a.drop (4 * i)).take 4))) (BitVec.ofNat 32 (bytesWord ((b.drop (4 * i)).take 4)))).toNat)

/-- A single NaN contribution of a max or min gives the canonical NaN (R90). -/
def redLeaf (op : Nat) (a : List Byte) : List Byte :=
  if op < 2 then a else (List.range (a.length / 4)).flatMap (fun i =>
    let w := bytesWord ((a.drop (4 * i)).take 4)
    wordBytes 4 (if isNaN32 (BitVec.ofNat 32 w) then 0x7FC00000 else w))

/-- Two parts of a segment combined; a poisoned granule of either is poisoned (R205). -/
def RedPart.join (op : Nat) (a b : RedPart) : RedPart :=
  { a with mult := a.mult + b.mult, bytes := redBytes op a.bytes b.bytes, poison := (a.poison ++ b.poison).eraseDups }
/-- In ascending index, each part is combined as soon as every lower index has been (R198). -/
def joinAscending (op : Nat) (a : RedPart) : List RedPart → List RedPart
  | [] => [a]
  | b :: r => if b.who = a.who + a.mult then joinAscending op (RedPart.join op a b) r else a :: b :: r
/-- The parts of one segment, combined as far as the mode allows (R198); with bytes in the overflow area among them, they are kept apart until the
reduction completes. -/
def settleParts (op : Nat) (det : Bool) (ps : List RedPart) : List RedPart :=
  if ps.any (fun p => p.slot.isSome) then ps
  else if det then
    match ps.mergeSort (fun a b => decide (a.who ≤ b.who)) with
    | a :: r => if a.who = 0 then joinAscending op a r else a :: r
    | [] => []
  else match ps with
    | a :: r => [r.foldl (RedPart.join op) a]
    | [] => []
/-- An open reduction with one more part of segment p.idx. -/
def RedOpen.add (r : RedOpen) (p : RedPart) (t : Nat) : RedOpen :=
  { r with parts := r.parts.filter (fun q => decide (q.idx ≠ p.idx)) ++ settleParts r.op r.det (r.parts.filter (fun q => decide (q.idx = p.idx)) ++ [p])
           used := t }

/-- The result of one segment: contributions in ascending index in deterministic mode, in arrival order otherwise (R198). -/
def RedOpen.result (r : RedOpen) (idx : Nat) : List RedPart :=
  settleParts r.op r.det (r.parts.filter (fun p => decide (p.idx = idx)))

/-- Multiplicity received of a segment. -/
def RedOpen.count (r : RedOpen) (idx : Nat) : Nat := r.parts.foldl (fun n p => if p.idx = idx then n + p.mult else n) 0
/-- Is every segment there with the full multiplicity? -/
def RedOpen.complete (r : RedOpen) : Bool := (List.range (segsOf r.size)).all (fun i => decide (r.n ≤ r.count i))
/-- Has a contribution of an index been received (R196)? -/
def RedOpen.has (r : RedOpen) (who : Nat) : Bool := r.parts.any (fun p => decide (p.idx = 0 ∧ p.who ≤ who ∧ who < p.who + p.mult))

/-- Does a contribution differ from the open reduction (R196)? -/
def RedOpen.mixes (r : RedOpen) (q : RedHdr) (size : Nat) : Bool :=
  decide (r.op ≠ q.op) || decide (r.n ≠ q.n) || decide (r.size ≠ size) || (r.det != q.det)
/-- The reduction that a first contribution opens (R196). -/
def RedOpen.opened (q : RedHdr) (g : Seg) (t : Nat) : RedOpen := ⟨q.op, q.n, g.size, q.det, g.linger, [], [], t⟩
/-- Why a contribution, by its first segment, is dropped (R196). -/
def RedOpen.refuses (r : RedOpen) (q : RedHdr) (g : Seg) : Option FKind :=
  if r.mixes q g.size then some .reducemix
  else if r.n < r.count 0 + q.mult ∨ (r.det ∧ r.has q.idx) then some .reducecount
  else none
/-- An open reduction once a segment of a contribution has been counted. -/
def RedOpen.take (r : RedOpen) (q : RedHdr) (g : Seg) (res : Bool) (t : Nat) : RedOpen :=
  { r.add ⟨g.idx, q.idx, q.mult, g.tags.headD ⟨0, 0, 0⟩, redLeaf r.op g.bytes, g.poison, none, res⟩ t with
    linger := max r.linger g.linger, accepted := if g.idx = 0 then r.accepted ++ g.tags else r.accepted }

/-- Reads the spilled parts of a reduction back. -/
def State.readParts (s : State) (h : HomeName) (size : Nat) : List RedPart → List RedPart → State × Option (List RedPart)
  | [], acc => (s, some acc)
  | p :: ps, acc =>
    match p.slot with
    | none => State.readParts s h size ps (acc ++ [p])
    | some i =>
      match s.readBack h.ctx h.inc (s.homeWalker h.ctx h.name) ⟨RedPart.seg h size p, i⟩ with
      | (s1, some g) => State.readParts s1 h size ps (acc ++ [{ p with bytes := g.bytes, poison := g.poison, slot := none }])
      | (s1, none) => (s1, none)

/-- The result of a closed reduction as the publication of its segment i (R198). -/
def RedOpen.resultSeg (r : RedOpen) (ctx inc : Nat) (name : Word) (serial i : Nat) : Seg :=
  Seg.seal { ctx := ctx, inc := inc, name := name, tags := [⟨6200, 0, serial⟩], idx := i, size := r.size, linger := r.linger
             bytes := ((r.result i).head?.map (·.bytes)).getD [], checks := [], poison := ((r.result i).head?.map (·.poison)).getD []
             red := none, seq := none, sysPins := 0 }

/-- Publishes the results of the reductions of a name that have closed, the oldest first (R198); while a page migrates or the result has no room,
it waits. -/
def State.finishReduction (s : State) (ctx inc : Nat) (name : Word) : State :=
  let h := s.homeName ctx inc name
  let later (s : State) : State := s.sendAt (s.time + 2000) 0 (.spillReadBack ctx name redKey)
  match h.closing with
  | [] => s
  | r :: rest =>
    match s.readParts h r.size r.parts [] with
    | (s1, none) => later s1
    | (s1, some ps) =>
      let r1 := { r with parts := ps }
      match (s1.setHome { h with closing := rest }).roomFor (s.homeOf ctx name) r.size 1 with
      | (s2, room) =>
        if !room.ok then later (s2.setHome { s2.homeName ctx inc name with closing := r :: rest })
        else
          let s3 := (List.range (segsOf r.size)).foldl (fun s i => s.homeTake none (r1.resultSeg ctx inc name s2.tick i) (room == .reserve)) s2
          let s4 := s3.freeOvfl ctx inc name (r.parts.filterMap (·.slot))
          if rest.isEmpty then s4 else s4.send 0 (.spillReadBack ctx name redKey)

/-- An open reduction that is complete closes, so that the next contribution opens a new one, and its result is published (R198). -/
def State.closeReduction (s : State) (ctx inc : Nat) (name : Word) : State :=
  let h := s.homeName ctx inc name
  match h.red with
  | none => s
  | some r =>
    let s1 := s.setHome { h with red := none, closing := h.closing ++ [r] }
    if h.closing.isEmpty then s1.finishReduction ctx inc name else s1

/-- CONTRIBUTION_AT_HOME (R190, R196, R198): the first segment of a contribution decides for all of them. -/
def execContributionAtHome (g : Seg) (s : State) : Host.Outcome State Fault Refusal :=
  if s.staleHome g.ctx g.inc g.name then .next (s.drop g.ctx)
  else if s.failedRicks.contains (s.homeOf g.ctx g.name) then .next (s.dropFailed g.ctx g.inc g.name)
  else match g.red with
    | none => .next s
    | some q =>
      let rick := s.homeOf g.ctx g.name
      let h := s.homeName g.ctx g.inc g.name
      let r := h.red.getD (RedOpen.opened q g s.tick)
      if g.idx ≠ 0 ∧ !(g.tags.any (fun t => r.accepted.contains t)) then .next s
      else match (if g.idx = 0 then r.refuses q g else none) with
        | some k => .next ((s.nameRecord g.ctx g.inc k g.name).notifyOrder g)
        | none =>
          let (s1, room) := s.roomFor rick ((r.take q g false 0).stored false - r.stored false) (if h.red.isSome then 0 else 1)
          if !room.ok then .next (s1.retry (linkChan 2 rick .tile g.ctx g.name) (.contributionAtHome g))
          else
            let h1 := s1.homeName g.ctx g.inc g.name
            let r1 := (h1.red.getD r).take q g (room == .reserve) s.tick
            let s2 := s1.setHome { h1 with red := some r1 }
            let s3 := if g.idx = 0 then s2.notifyOrder g else s2
            .next (if r1.complete then s3.closeReduction g.ctx g.inc g.name else s3)

/-! ### What is read back (R193) -/

/-- A spilled copy is read back for the transfers that want it; it stays in the rick where that has room for it again, and its overflow slots are
freed then (R193). -/
def State.copyBack (s : State) (ctx : Nat) (name : Word) (h : HomeName) (c : Copy) : State :=
  let rick := s.homeOf ctx name
  match s.readAll ctx h.inc (s.homeWalker ctx name) c.spilled c.segs with
  | (s1, none) => s1.sendAt (s1.time + 2000) 0 (.spillReadBack ctx name c.seq)
  | (s1, some segs) =>
    let mine := h.wants.filter (fun w => w.1.seq == some c.seq)
    let s2 := mine.foldl (fun s w => s.unicast h (h.recOf w.1) (some c.seq) (inOrder segs) w.2) s1
    let h1 := s2.homeName ctx h.inc name
    let h2 := { h1 with wants := h1.wants.filter (fun w => !(w.1.seq == some c.seq)) }
    if s2.rickHas rick (c.spilled.foldl (fun n p => n + segLen p.seg.size p.seg.idx) 0) 1 then
      (s2.setHome (h2.putCopy { c with segs := segs, spilled := [], used := s.tick })).freeOvfl ctx h.inc name (c.spilled.map (·.slot))
    else s2.setHome (h2.putCopy { c with used := s.tick })

/-- A spilled held entry is read back for the transfer that wants it; one that is no record of a cut area ends with that (R187, R199). -/
def State.heldBack (s : State) (ctx : Nat) (name : Word) (inc : Nat) (w : SlotMsg × Bool) : State :=
  let h := s.homeName ctx inc name
  match h.held.find? (fun e => e.mine w.1 && !e.spilled.isEmpty) with
  | none => if h.copies.any (fun c => w.1.seq == some c.seq) then s else s.setHome { h with wants := h.wants.erase w }
  | some e =>
    match s.readAll ctx inc (s.homeWalker ctx name) e.spilled e.segs with
    | (s1, none) => s1.sendAt (s1.time + 2000) 0 (.spillReadBack ctx name heldKey)
    | (s1, some segs) =>
      let s2 := s1.unicast h (h.recOf w.1) e.seq (inOrder segs) w.2
      let h1 := s2.homeName ctx inc name
      let h2 := { h1 with wants := h1.wants.erase w }
      if e.isRecord then s2.setHome h2
      else (s2.setHome { h2 with held := h2.held.erase e }).freeOvfl ctx inc name (e.spilled.map (·.slot))

/-- SPILL_READ_BACK: what a home has spilled is read back (R193): a copy by its sequence, held entries, or a reduction that has closed; or
slots are freed. A page that migrates is awaited (R335). -/
def execSpillReadBack (ctx : Nat) (name : Word) (seq : Nat) (s : State) : Host.Outcome State Fault Refusal :=
  match KMap.get? s.homes (homeKey ctx name) with
  | none => .next s
  | some h =>
    if seq = redKey then
      .next (s.finishReduction ctx h.inc name)
    else if seq = freeKey then .next ((s.setHome { h with freeing := [] }).freeOvfl ctx h.inc name h.freeing)
    else if seq = heldKey then .next (h.wants.foldl (fun s w => s.heldBack ctx name h.inc w) s)
    else match h.copies.find? (fun c => decide (c.seq = seq)) with
      | none => .next s
      | some c => .next (s.copyBack ctx name h c)

/-! ### System publications -/

/-- Order of what the device's agents publish under a name. -/
def pubChan (ctx : Nat) (name : Word) : Nat := chanKey 7 (homeKey ctx name)
/-- A device agent publishes 64 bytes of doublewords under a name (R180): they reach the home of the name. -/
def State.publish (s : State) (ctx inc : Nat) (name : Word) (linger : Nat) (dws : List Word) (sysPins : Nat := 0) : State :=
  s.send (pubChan ctx name) (.segmentAtHome none
    (Seg.make ctx inc name ⟨6201, 0, s.tick⟩ 0 64 linger ((List.range 8).flatMap (fun i => wordBytes 8 (dws.getD i 0).toNat)) none sysPins))

/-! ### Backed names (R194, R195) -/

/-- Is a backing entry with V = 1 valid (R194)? -/
def backValid (d0 : Word) : Bool := decide ((d0.extractLsb' 59 4).toNat ≤ 12) && decide (d0.extractLsb' 56 3 = 0)
/-- The entry that backs a space: the lowest-numbered valid one, or else an invalid one, whose fall-throughs fail (R194, R195). -/
def Ctx.backs (c : Ctx) (space : Nat) : Option (Word × Word) :=
  if 0xF0 ≤ space then none
  else
    let es := c.backing.filter (fun (d0, d1) => d0.getLsbD 63 && decide ((d1.extractLsb' 56 8).toNat = space))
    (es.find? (fun e => backValid e.1)).orElse (fun _ => es.head?)

/-- A subscription that finds neither a current copy nor a fall-through of a backed name starts one (R195); while the table is being reread after a
write of BACKBASE, it waits for the new one (R194). -/
def State.fallThrough (s : State) (ctx inc : Nat) (name : Word) : State :=
  let h := s.homeName ctx inc name
  let hedge := hedgeOfSite (s.homeOf ctx name)
  let x := s.ctx ctx
  if h.current.isSome ∨ h.ft then s
  else if 0 < x.rereads then (if x.ftWait.contains name then s else s.setCtx ctx { x with ftWait := x.ftWait ++ [name] })
  else match x.backs (spaceOf name) with
    | none => s
    | some (d0, d1) =>
      (s.setHome { h with ft := true }).sendHeld [⟨6144 + hedge, ctx, 64 * 2 ^ (d0.extractLsb' 59 4).toNat, 1⟩] (chanKey 10 hedge)
        (.fallthroughRequest hedge ctx inc { name := name, d0 := d0, d1 := d1 }) none

/-- A reread of the backing table is over; with the last one, the subscriptions that have come meanwhile fall through by what it gave (R194). -/
def State.rereadOver (s : State) (ctx inc : Nat) : State :=
  let x := s.ctx ctx
  let s1 := s.setCtx ctx { x with rereads := x.rereads - 1, ftWait := if x.rereads ≤ 1 then [] else x.ftWait }
  if x.rereads ≤ 1 then x.ftWait.foldl (fun s name => s.fallThrough ctx inc name) s1 else s1

/-- BACKING_TABLE_REREAD: the 64 entries are read again; a fault leaves no space of the context backed and is recorded (R194). -/
def execBackingTableReread (ctx inc : Nat) (s : State) : Host.Outcome State Fault Refusal :=
  if s.stale (agHedge 0) ctx inc then .next (s.drop ctx)
  else
    let (s1, r) := s.sysRead 64 ctx inc (s.ctx ctx).backbase.toNat 1024
    match r with
    | .migrating => .next (s1.sendAt (s.time + 2000) (chanKey 5 ctx) (.backingTableReread ctx inc))
    | .fault k va =>
      .next ((State.rereadOver (s1.setCtx ctx { s1.ctx ctx with backing := [] }) ctx inc).record ⟨ctx, inc, none⟩
        { kind := k, origin := 3, eval := BitVec.ofNat 64 (va - va % 64) })
    | .ok bs =>
      let ds := dwords bs
      .next (State.rereadOver (s1.setCtx ctx { s1.ctx ctx with
        backing := (List.range 64).map (fun i => (BitVec.ofNat 64 (ds.getD (2 * i) 0), BitVec.ofNat 64 (ds.getD (2 * i + 1) 0))) }) ctx inc)

/-- What the hedge agent has of the granule of a fall-through: all of it, a fault, a page that migrates, or a part in another module, which it asks
for (R195, R379). -/
inductive FtRes where
  | ok (bs : List Byte)
  | fault (k : FKind)
  | migrating (got : List Byte)
  | asked
/-- The hedge agent reads the granule of a fall-through in parts; for one in another module, of at most 128 bytes, it sends a remote read, whose answer
goes on (R195, R377 to R379). -/
def State.ftGo (s : State) (hedge ctx inc : Nat) (b : Backed) : List (Nat × Nat) → List Byte → State × FtRes
  | [], got => (s, .ok got)
  | (va, n) :: r, got =>
    let (s1, o) := s.transFor (64 + hedge) ctx inc va 0
    match o with
    | .waiting _ => (s1, .migrating got)
    | .fault k => (s1, .fault k)
    | .done t =>
      let pa := t.pa va
      if s1.far pa then
        let m := match r with | (v2, n2) :: _ => if pa % 128 = 0 ∧ n = 64 ∧ v2 < t.vbase + 2 ^ t.bits then n + n2 else n | [] => n
        (s1.sendRemote ⟨ctx, inc, va, pa, .read m, .ft hedge { b with got := got }⟩, .asked)
      else if s1.staleAt ctx inc pa then (s1.drop ctx, .asked)
      else
        let (s2, rep) := s1.homeRead ctx inc (paLocal pa) n
        match rep.err with
        | some k => (s2, .fault k)
        | none => if rep.poison then (s2, .fault .poisonld) else State.ftGo s2 hedge ctx inc b r (got ++ rep.data)

/-- FALLTHROUGH_REQUEST: the hedge agent translates and reads the granule, by the table entry of when the fall-through began (R194, R195, R334); what
lies in another module it asks for over a link (R379). -/
def execFallthroughRequest (hedge ctx inc : Nat) (b : Backed) (s : State) : Host.Outcome State Fault Refusal :=
  if s.stale (agHedge hedge) ctx inc then .next (s.drop ctx)
  else
    let fail (k : FKind) (s : State) : State := s.send 0 (.fallthroughData ctx inc b.name 0 { data := [], poison := false, err := some k })
    let size := 64 * 2 ^ (b.d0.extractLsb' 59 4).toNat
    let key := (b.name.extractLsb' 0 56).toNat
    let base := (b.d0.extractLsb' 0 56).toNat
    let va := base + key * size + b.got.length
    if !(backValid b.d0) ∨ (b.d1.extractLsb' 0 48).toNat ≤ key ∨ base % size ≠ 0 then .next (fail .backmiss s)
    else if 2 ^ 56 < base + key * size + size then .next (fail .noncanon s)
    else match s.ftGo hedge ctx inc b (partsOf (size / 64 + 2) va (size - b.got.length)) b.got with
      | (s1, .ok bs) =>
        .next (s1.send 0 (.fallthroughData ctx inc b.name (b.d1.extractLsb' 48 8).toNat { data := bs, poison := false, err := none }))
      | (s1, .fault k) => .next (fail k s1)
      | (s1, .migrating got) =>
        .next (s1.sendAt (s1.time + 2000) (chanKey 10 hedge) (.fallthroughRequest hedge ctx inc { b with got := got }))
      | (s1, .asked) => .next s1

/-- Side of a rim field, as the port by which its packets enter the attach site's router. -/
def rimPort (r : Nat) : Port := match (r - 64) / 6 with | 0 => .north | 1 => .east | 2 => .south | _ => .west

/-- A hedge agent publishes a payload under a name, segment by segment, from the rim beside its home, or from the rim field named (R190, R195,
R388); `ft` tells a fall-through. -/
def State.hedgePublish (s : State) (ctx inc : Nat) (name : Word) (linger : Nat) (data : List Byte) (ft : Nat := 0) (at_ : Option Nat := none) : State :=
  let rim := at_.getD (nearestRim (s.homeOf ctx name))
  (segsFrom ctx inc name ⟨6202 + rim, ft, s.tick⟩ linger data).foldl (fun s1 g =>
    s1.send (chanKey 11 (homeKey ctx name)) (.segmentAtRouter (attachSite rim) (rimPort rim) true g)) s

/-- FALLTHROUGH_DATA: the hedge agent publishes the granule, or records BACKMISS (R195, R379). -/
def execFallthroughData (ctx inc : Nat) (name : Word) (linger : Nat) (r : MemReply) (s : State) : Host.Outcome State Fault Refusal :=
  let rim := nearestRim (s.homeOf ctx name)
  if s.stale (agHedge (2 * (rim - 64))) ctx inc then .next (s.drop ctx)
  else if r.err.isSome ∨ r.poison then
    .next ((s.setHome { s.homeName ctx inc name with ft := false }).nameRecord ctx inc .backmiss name)
  else
    .next (s.hedgePublish ctx inc name linger r.data 1)

/-! ### Requests at the home -/

/-- The mark of a slot whose subscription or reinstall reaches its home while a group of its instance is CUTTING (R261). -/
def State.lateMark (s : State) (m : SubMsg) (h : HomeName) : List CutMark :=
  match (s.inst (m.uid - 1)).bind (fun i => ((groupsOf i.groups).find? (fun g => (s.group i.ctx g).st == .cutting)).map (fun g => (i, g))) with
  | some (i, g) =>
    if 0 < m.uid ∧ i.place = some (m.site, m.slot) ∧
        !(h.marks.any (fun k => decide (k.uid = m.uid ∧ k.sub = m.sub)))
    then [⟨m.uid, m.sub, h.next, g⟩] else []
  | none => []

/-- Does a publication of a name wait at its home's input? A subscription passes it there (R202, R204), and is then sent the copy by unicast, for the
publication may have gone by the routers before it (R188). -/
def State.pubWaits (s : State) (ctx inc : Nat) (name : Word) : Bool :=
  s.agenda.any (fun p => match p.ev with | .segmentAtHome _ g => decide (g.ctx = ctx ∧ g.inc = inc ∧ g.name = name) | _ => false)

/-- SUB_AT_HOME: the home records the subscriber, returns the install notice and answers with the current copy (R185, R188, R195); the slot of a
member of a group that is CUTTING is marked on arrival (R261). It waits for a descriptor (R204). A subscription that its own reinstall has overtaken
is recorded already (R227). -/
def execSubAtHome (m : SubMsg) (s : State) : Host.Outcome State Fault Refusal :=
  if s.staleHome m.ctx m.inc m.name then .next (s.drop m.ctx)
  else if s.failedRicks.contains (s.homeOf m.ctx m.name) then .next (s.send 0 (.standInReply (.sub m)))
  else
    let (sr, room) := s.roomFor (s.homeOf m.ctx m.name) 0 1
    if !room.ok then .next (sr.retry (homeChan 0 m.site m.ctx m.name) (.subAtHome m))
    else
      let h := sr.homeName m.ctx m.inc m.name
      let r : SubRec := ⟨m.site, m.slot, m.sub, m.persist, m.u || sr.pubWaits m.ctx m.inc m.name, m.waiter, none, true, false, m.uid,
        (m.lastAck.getD 0, m.q.getD 0), 0⟩
      if h.subs.any (fun q => decide (0 < m.uid ∧ q.uid = m.uid ∧ q.sub = m.sub ∧ 0 < q.early)) then .next (sr.send 0 (.installNotice m false))
      else
      let others := if m.site < 8192 then h.subs else h.subs.filter (fun q => !(q.is m.site m.slot m.sub))
      let s0 := sr.setHome { h with subs := others ++ [r], marks := h.marks ++ sr.lateMark m h }
      let s1 := if m.site < 6144 then s0.send 0 (.installNotice m false) else s0
      let h1 := s1.homeName m.ctx m.inc m.name
      match h1.current with
      | some c =>
        let aw := { c with awaited := c.awaited ++ [(m.site, m.slot, m.sub)] }
        let s2 := s1.setHome (h1.putCopy aw)
        .next (if m.persist then s2.serveNext m.ctx m.inc m.name r else if c.complete then s2.serve m.ctx m.inc m.name r aw
          else s2.setHome { h1.putCopy aw with subs := h1.subs.map (fun q => if q.is m.site m.slot m.sub then { q with u := true } else q) })
      | none => .next (s1.fallThrough m.ctx m.inc m.name)

/-- An acknowledgement takes a subscriber off the copies that await it (R191). -/
def HomeName.ack (h : HomeName) (site slot sub : Nat) (upTo : Option Nat) : HomeName :=
  { h with copies := h.copies.map (fun c =>
      match upTo with
      | some q => if seqAfter c.seq q then c else { c with
          awaited := c.awaited.filter (fun a => a != (site, slot, sub))
          due := c.due.filter (fun a => a != (site, slot, sub)) }
      | none => { c with awaited := c.awaited.filter (fun a => a != (site, slot, sub)), due := c.due.filter (fun a => a != (site, slot, sub)) }) }

/-- Copies that an acknowledgement has left with no subscriber of R286. -/
def HomeName.newlyDelivered (old new : HomeName) : Nat :=
  (old.copies.filter (fun c => !c.due.isEmpty)).length - (new.copies.filter (fun c => !c.due.isEmpty)).length

/-- Held entries end, and the overflow slots of those that were spilled are freed. -/
def State.endHeld (s : State) (ctx inc : Nat) (name : Word) (gone : List HeldEnt) : State :=
  s.freeOvfl ctx inc name (gone.flatMap (fun e => e.spilled.map (·.slot)))

/-- LANDING_ACK_AT_HOME (R188, R191); the landing of a registered waiter releases a system pin (R255, R276). -/
def execLandingAckAtHome (m : SlotMsg) (s : State) : Host.Outcome State Fault Refusal :=
  if s.staleHome m.ctx m.inc m.name then .next (s.drop m.ctx)
  else if s.failedRicks.contains (s.homeOf m.ctx m.name) then .next (s.send 0 (.standInReply (.drop m.ctx m.inc m.name)))
  else
    let h := s.homeName m.ctx m.inc m.name
    let persist := h.subs.any (fun r => r.is m.site m.slot m.sub && r.persist)
    let h1 := if persist then h.ack m.site m.slot m.sub m.seq else h.ack m.site m.slot m.sub none
    let stays (e : HeldEnt) : Bool :=
      !(e.of m.site m.slot m.sub) || (persist && (match e.seq, m.seq with | some a, some b => seqAfter a b | _, _ => false))
    .next (((s.reportDelivered m.ctx m.inc m.name (h.newlyDelivered h1)).setHome { h1 with
      sysPins := if m.waiter then h1.sysPins - 1 else h1.sysPins
      held := h1.held.filter stays
      subs := h1.subs.map (fun r => if r.is m.site m.slot m.sub ∧ !persist then { r with last := some h1.next } else r) }).endHeld m.ctx m.inc m.name
        (h1.held.filter (fun e => !(stays e))))

/-- DIVERTED_COPY_AT_HOME: a held entry, which refers to the home's copy where it still has it, or keeps the bytes: in the rick, in the context's
overflow area, or in the diversion reserve; where none of these has room, it is lost (R25, R199), and a full overflow area stalls the context (R201).
A record goes into no overflow area (R351). The bytes of a copy whose page of the area migrates stay with the home until they can be spilled: a
packet of class PULL is never held (R204). -/
def execDivertedCopyAtHome (m : SlotMsg) (g : Seg) (s : State) : Host.Outcome State Fault Refusal :=
  if s.staleHome m.ctx m.inc m.name then .next (s.dropName m.ctx m.name)
  else if s.failedRicks.contains (s.homeOf m.ctx m.name) then .next (s.dropFailed m.ctx m.inc m.name)
  else
    let h := s.homeName m.ctx m.inc m.name
    let mine (e : HeldEnt) : Bool := e.of m.site m.slot m.sub && !e.isRecord
    let copy := h.copies.find? (fun c => (m.seq == some c.seq) || decide (c.tags.head? = g.tags.head?))
    if h.held.any (fun e => e.of m.site m.slot m.sub && e.isRecord && e.seq == m.seq) then .next s
    else match copy with
    | some c =>
      let s1 := if h.held.any mine then s else (s.roomFor (s.homeOf m.ctx m.name) 0 1).1
      let h1 := s1.homeName m.ctx m.inc m.name
      .next (s1.setHome { h1 with held := h1.held.filter (fun e => !(mine e)) ++ [HeldEnt.ref m.site m.slot m.sub c s.tick] })
    | none =>
      let rick := s.homeOf m.ctx m.name
      let (s1, room) := s.roomFor rick g.bytes.length 1
      let h1 := s1.homeName m.ctx m.inc m.name
      let old := (h1.held.find? mine).getD ⟨m.site, m.slot, m.sub, none, g.tags, [], [], [], false, s.tick⟩
      let rest := h1.held.filter (fun e => !(mine e))
      let put (s : State) (e : HeldEnt) : State := s.setHome { s.homeName m.ctx m.inc m.name with held := rest ++ [{ e with used := s.tick }] }
      let reserve := decide (s1.reserveBytes rick + g.bytes.length ≤ 0x10000)
      let inReserve (s : State) : State := put s { old with segs := old.segs ++ [g], reserve := old.reserve ++ [g.idx] }
      if old.lost then .next s1
      else if room = .rick then .next (put s1 { old with segs := old.segs ++ [g] })
      else match (if spaceOf m.name = 0xF0 then (s1, .full) else s1.spillGo m.ctx m.inc (s1.homeWalker m.ctx m.name) m.name [g]) with
        | (s2, .ok l) => .next (put s2 { old with spilled := old.spilled ++ l })
        | (s2, .wait) => .next (if reserve then inReserve s2 else put s2 { old with segs := old.segs ++ [g] })
        | (s2, .full) =>
          .next ((if reserve then inReserve s2
            else ((put s2 { old with segs := [], spilled := [], reserve := [], lost := true }).endHeld m.ctx m.inc m.name [old]).nameRecord
              m.ctx m.inc .ovflfull m.name m.sub) |> fun t => if spaceOf m.name = 0xF0 then t else t.stallCtx m.ctx rick)

/-- PULL_AT_HOME: the subscriber pulls its held entry (R187, R199). -/
def execPullAtHome (m : SlotMsg) (s : State) : Host.Outcome State Fault Refusal :=
  if s.staleHome m.ctx m.inc m.name then .next (s.drop m.ctx)
  else if s.failedRicks.contains (s.homeOf m.ctx m.name) then .next (s.send 0 (.standInReply (.drop m.ctx m.inc m.name)))
  else
    let h := s.homeName m.ctx m.inc m.name
    let ent := h.held.find? (fun e => e.mine m)
    let seq := match ent with | some e => e.seq | none => m.seq
    let copy := seq.bind (fun q => h.copies.find? (fun c => decide (c.seq = q)))
    let s1 := s.setHome { h with held := h.held.filter (fun e => !(e.mine m) || e.isRecord || !e.spilled.isEmpty) }
    match ent, copy with
    | some e, some c => .next (if e.isRecord then s1.serveHeld h (h.recOf m) e true else s1.serve m.ctx m.inc m.name (h.recOf m) c true)
    | none, some c => .next (s1.serve m.ctx m.inc m.name (h.recOf m) c true)
    | some e, none => .next (s1.serveHeld h (h.recOf m) e true)
    | none, none => .next s1

/-- Is it the record of a subscription slot of the instance that is in a slot of a tile? A request of a moved slot can reach the home before the slot's
reinstall (R227). -/
def State.recMoved (s : State) (m : SlotMsg) (r : SubRec) : Bool :=
  match (s.slotAt m.site m.slot).inst with
  | some u => decide (r.uid = u + 1 ∧ r.sub = m.sub) && r.moving
  | none => false

/-- NEXT_REQUEST_AT_HOME: a persistent slot asks for the copy after the one that it has acknowledged (R187, R188). That of a moved slot whose reinstall
is still to come is noted in its record. -/
def execNextRequestAtHome (m : SlotMsg) (s : State) : Host.Outcome State Fault Refusal :=
  if s.staleHome m.ctx m.inc m.name then .next (s.drop m.ctx)
  else if s.failedRicks.contains (s.homeOf m.ctx m.name) then .next (s.send 0 (.standInReply (.drop m.ctx m.inc m.name)))
  else
    let h := s.homeName m.ctx m.inc m.name
    let s1 := s.setHome { h with subs := h.subs.map (fun r => if r.is m.site m.slot m.sub ∨ s.recMoved m r then { r with ready := true } else r) }
    match (s1.homeName m.ctx m.inc m.name).subs.find? (fun r => r.is m.site m.slot m.sub) with
    | some r => .next (s1.serveNext m.ctx m.inc m.name r)
    | none => .next s1

/-- The place under which a home keeps the record of a subscriber whose instance has left its slot, until the reinstall (R227). -/
def movedSite (uid : Nat) : Nat := 2 ^ 20 + uid
/-- Replaces the first of the places that are `a`. -/
def replaceOne (a b : Nat × Nat × Nat) : List (Nat × Nat × Nat) → List (Nat × Nat × Nat)
  | [] => []
  | x :: l => if x = a then b :: l else x :: replaceOne a b l
/-- The place of a subscriber's record. -/
def SubRec.place (r : SubRec) : Nat × Nat × Nat := (r.site, r.slot, r.sub)
/-- The record of a subscriber takes another place, and with it what the home keeps for it (R227). -/
def HomeName.replace (h : HomeName) (r r1 : SubRec) : HomeName :=
  { h with
    subs := h.subs.erase r ++ [r1]
    held := h.held.map (fun e => if e.of r.site r.slot r.sub then { e with site := r1.site, slot := r1.slot, sub := r1.sub } else e)
    copies := h.copies.map (fun c => { c with awaited := replaceOne r.place r1.place c.awaited, due := replaceOne r.place r1.place c.due })
    wants := h.wants.filter (fun w => !(r.is w.1.site w.1.slot w.1.sub)) }
/-- The record of a slot whose reinstall has overtaken this moving withdrawal, if one has (R227). -/
def HomeName.overtaken (h : HomeName) (m : SubMsg) : Option SubRec :=
  if m.moving then h.subs.find? (fun r => decide (0 < m.uid ∧ r.uid = m.uid ∧ r.sub = m.sub ∧ 0 < r.early)) else none
/-- The record that a withdrawal is about: of the slot's own instance, or, where the instance has ended on no tile, wherever it is (R186, R227). -/
def HomeName.withdrawn (h : HomeName) (m : SubMsg) : Option SubRec :=
  h.subs.find? (fun r => decide (r.uid = m.uid) && (if movedSite 0 ≤ m.site then decide (r.sub = m.sub) else r.is m.site m.slot m.sub))

/-- Removes a subscriber's record; a moving withdrawal keeps it, with what the home holds for it (R186, R227). The withdrawal of a waiter that has
not landed releases its system pin (R255). -/
def State.forgetSub (s : State) (m : SubMsg) : State :=
  let h := s.homeName m.ctx m.inc m.name
  let pins (h : HomeName) : HomeName := if m.waiter ∧ !m.moving then { h with sysPins := h.sysPins - 1 } else h
  match h.overtaken m, h.withdrawn m with
  | some r, _ => s.setHome { h with subs := h.subs.map (fun q => if q = r then { q with early := q.early - 1 } else q) }
  | none, none => s.setHome (pins h)
  | none, some r =>
    if m.moving then s.setHome (h.replace r { r with site := movedSite m.uid, slot := 0, moving := true })
    else
      let rest := h.subs.erase r
      let h1 := { (pins h) with subs := rest, marks := h.marks.filter (fun k => !(decide (k.uid = m.uid ∧ k.sub = m.sub ∧ 0 < m.uid))) }
      if rest.any (fun q => q.is r.site r.slot r.sub) then s.setHome h1
      else
        let h2 := h1.ack r.site r.slot r.sub none
        ((s.reportDelivered m.ctx m.inc m.name (h.newlyDelivered h2)).setHome { h2 with
          held := h2.held.filter (fun e => !(e.of r.site r.slot r.sub)) }).endHeld m.ctx m.inc m.name
            (h2.held.filter (fun e => e.of r.site r.slot r.sub))

/-! ### Pins (R192, R211) -/

/-- Sends the reply of a name request to the register that waits for it (R211, R311). -/
def State.nameReply (s : State) (who : Asker) (ctx inc v : Nat) : State :=
  s.send 0 (.interlockedResultLand who.site who.slot ctx inc who.dst (BitVec.ofNat 1024 v) .plain)

/-- NHOLD_AT_HOME. A first pin takes a descriptor, for which it waits (R193, R204). -/
def execNholdAtHome (ctx inc : Nat) (name : Word) (who : Asker) (s : State) : Host.Outcome State Fault Refusal :=
  if s.staleHome ctx inc name then .next (s.drop ctx)
  else if s.failedRicks.contains (s.homeOf ctx name) then .next (s.send 0 (.standInReply (.pin ctx inc name who)))
  else
    let h := s.homeName ctx inc name
    match h.current with
    | none => .next (s.nameReply who ctx inc (h.pins + 2 ^ 62))
    | some c =>
      if h.pins = 65535 then .next (s.nameReply who ctx inc (h.pins + 2 ^ 61))
      else
        let extra := if h.quotaCounts s.time c then 0 else c.size
        if s.quota ctx < s.quotaUsed (s.homeOf ctx name) ctx + extra ∨ s.quota ctx = 0 then
          .next (s.nameReply who ctx inc (h.pins + 2 ^ 63))
        else
          let (s1, room) := if 0 < h.pins ∨ 0 < h.sysPins then (s, .rick) else s.roomFor (s.homeOf ctx name) 0 1
          if !room.ok then .next (s1.retry (homeChan 0 who.site ctx name) (.nholdAtHome ctx inc name who))
          else .next ((s1.setHome { s1.homeName ctx inc name with pins := h.pins + 1 }).nameReply who ctx inc (h.pins + 1))

/-- NRELS_AT_HOME. -/
def execNrelsAtHome (ctx inc : Nat) (name : Word) (who : Asker) (s : State) : Host.Outcome State Fault Refusal :=
  if s.staleHome ctx inc name then .next (s.drop ctx)
  else if s.failedRicks.contains (s.homeOf ctx name) then .next (s.send 0 (.standInReply (.pin ctx inc name who)))
  else
    let h := s.homeName ctx inc name
    if h.pins = 0 then .next (s.nameReply who ctx inc (2 ^ 62))
    else .next ((s.setHome { h with pins := h.pins - 1 }).nameReply who ctx inc (h.pins - 1))

/-- LINGER_EXPIRE: a copy that nothing keeps any longer leaves the rick (R191); a spilled one frees its overflow slots. -/
def execLingerExpire (ctx : Nat) (name : Word) (seq : Nat) (s : State) : Host.Outcome State Fault Refusal :=
  match KMap.get? s.homes (homeKey ctx name) with
  | none => .next s
  | some h =>
    match h.copies.find? (fun c => decide (c.seq = seq)) with
    | none => .next s
    | some c =>
      if h.expired s.time c then
        .next ((s.setHome { h with copies := h.copies.filter (fun d => decide (d.seq ≠ seq)) }).freeOvfl ctx h.inc name (c.spilled.map (·.slot)))
      else .next s

/-- STAND_IN_REPLY: what the router of a failed home answers or drops, with a NOHOME record (R182). -/
def execStandInReply (r : StandIn) (s : State) : Host.Outcome State Fault Refusal :=
  match r with
  | .sub m => .next ((if m.site < 6144 then s.send 0 (.installNotice { m with u := true } true) else s).nohomeRecord m.ctx m.inc 3)
  | .pin ctx inc _ who => .next ((s.nameReply who ctx inc (2 ^ 60)).nohomeRecord ctx inc 3)
  | .barrier b isWait sub land arrival =>
    let reply := if isWait then Reply.bwait b.id sub land b.phase (some .nohome) false b.orig else .plain
    let s1 := s.send 0 (.interlockedResultLand b.who.site b.who.slot b.ctx b.inc b.who.dst (BitVec.ofNat 1024 (7 * 2 ^ 29)) reply)
    .next (if arrival then s1.record ⟨b.ctx, b.inc, none⟩ { kind := .nohome, origin := 0, eval := b.orig } else s1.nohomeRecord b.ctx b.inc 0)
  | .drop ctx inc _ => .next (s.nohomeRecord ctx inc 3)

/-- RICK_FAILED_MARK (R182). -/
def execRickFailedMark (site : Nat) (s : State) : Host.Outcome State Fault Refusal :=
  .next (if s.failedRicks.contains site then s else { s with failedRicks := s.failedRicks ++ [site] })

end Sys2Proof.Machine
end

