-- ==== Sys2Proof/Machine/Name.lean ====
section
/-! DEFINITION. Names on the way and at the tile (08_name R183 to R187, R199, R201, R205, R207 to R212; 01_machine R23 to R26): routers,
match entries, subscription slots, injection, and the name syllables. -/

namespace Sys2Proof.Machine

/-! ### Routing (R23, R24, R184) -/

/-- The port toward a site: the detour table, else X first and then Y (R23). -/
def State.portTo (s : State) (site dest : Nat) : Port :=
  match s.detour.find? (fun d => decide (d.1 = site) && decide (d.2.1 = dest)) with
  | some d => d.2.2
  | none =>
    if siteX site < siteX dest then .east
    else if siteX dest < siteX site then .west
    else if siteY site < siteY dest then .south
    else if siteY dest < siteY site then .north else .tile

/-- SUB_AT_ROUTER: installs where it can, then goes on toward the home (R23, R185). It stays behind the publications of its name that left by the
same way before it (R203: one name's traffic keeps its order on every link), so that it meets each on its path or finds it at the home (R188);
a publication may pass it (R202), and at the home it passes those that wait for room (R204). -/
def execSubAtRouter (site : Nat) (port : Port) (m : SubMsg) (s : State) : Host.Outcome State Fault Refusal :=
  if s.stale (agSite site 2) m.ctx m.inc then .next (s.drop m.ctx)
  else
    let home := s.homeOf m.ctx m.name
    let room := match s.matchAt site m.ctx m.inc m.name with
      | some e => decide (e.count port < portMax port)
      | none => decide ((KMap.getD s.matches_ site []).length < 4096)
    let (s1, m1) :=
      if m.persist || m.u then (s, m)
      else if room then (s.matchAdd site m.ctx m.inc m.name port 1, { m with count := m.count + 1 })
      else (s, { m with u := true })
    if site = home then .next (s1.send (homeChan 0 site m.ctx m.name)
      (if m.moving then .reinstallAtHome m1 else .subAtHome m1))
    else
      let p := s.portTo site home
      .next (s1.sendAfter (linkChan 1 site p m.ctx m.name) (linkChan 0 site p m.ctx m.name) (.subAtRouter (neighbour site p).1 (neighbour site p).2 m1))

/-- WITHDRAWAL: takes the subscription back along its path, then at the home (R186). -/
def execWithdrawal (site : Nat) (port : Port) (m : SubMsg) (s : State) : Host.Outcome State Fault Refusal :=
  if s.stale (agSite site 2) m.ctx m.inc then .next (s.drop m.ctx)
  else
    let home := s.homeOf m.ctx m.name
    let (s1, m1) := if 0 < m.count then (s.matchAdd site m.ctx m.inc m.name port (-1), { m with count := m.count - 1 }) else (s, m)
    if site = home then
      if s.failedRicks.contains home then .next (s1.send 0 (.standInReply (.drop m.ctx m.inc m.name)))
      else .next (s1.forgetSub m1)
    else
      let p := s.portTo site home
      .next (s1.send (linkChan 0 site p m.ctx m.name) (.withdrawal (neighbour site p).1 (neighbour site p).2 m1))

/-- SEGMENT_AT_ROUTER: copies leave by the ports of the match entry, and a publication goes on to its home (R24). -/
def execSegmentAtRouter (site : Nat) (port : Port) (toHome : Bool) (g : Seg) (s : State) : Host.Outcome State Fault Refusal :=
  if s.stale (agSite site 2) g.ctx g.inc then .next (s.dropName g.ctx g.name)
  else
    let home := s.homeOf g.ctx g.name
    if toHome && site == home then
      .next (s.send (linkChan 2 site .tile g.ctx g.name) (if g.red.isSome then .contributionAtHome g else .segmentAtHome (some port) g))
    else
      let s1 := match s.matchAt site g.ctx g.inc g.name with
        | some e => if g.red.isSome then s else s.branch site (some port) e g
        | none => s
      if toHome then
        let p := s.portTo site home
        .next (s1.send (linkChan 1 site p g.ctx g.name) (.segmentAtRouter (neighbour site p).1 (neighbour site p).2 true g))
      else .next s1

/-! ### Subscription slots (R183, R187) -/


/-- The message that speaks of a slot to the home. -/
def Slot.subMsg (x : Slot) (site slot n : Nat) : SubMsg :=
  let u := x.subAt n
  ⟨x.sys.ctxid, x.sys.incarn, u.name, site, slot, n, u.persist, u.bytes, u.count, u.u, u.waiter, false, u.q, u.lastAck,
    match x.inst with | some n => n + 1 | none => 0⟩
def Slot.slotMsg (x : Slot) (site slot n : Nat) (tag : Option Tag) (seq : Option Nat) : SlotMsg :=
  ⟨x.sys.ctxid, x.sys.incarn, (x.subAt n).name, site, slot, n, tag, seq, (x.subAt n).waiter⟩

/-- Is the area of a slot free (R183)? -/
def Slot.areaFree (x : Slot) (n : Nat) : Bool :=
  let u := x.subAt n
  (List.range 16).all (fun m => decide (m = n) ||
    let v := x.subAt m
    !(v.st == .landed || (v.st == .armed && v.recv.isSome)) || decide (v.land + v.bytes ≤ u.land) || decide (u.land + u.bytes ≤ v.land))

/-- A withdrawal is sent once the install notice has arrived; until then the tile holds it (R186). A landing or an UNSUB that finds all 64 places of the
tile taken holds its withdrawal beyond them (log 53, DESIGN CHOICE): R186 makes only a SUB wait. -/
def State.withdraw (s : State) (site slot n : Nat) (moving : Bool) : State :=
  let x := s.slotAt site slot
  let u := x.subAt n
  let m := { x.subMsg site slot n with moving := moving }
  if u.inst then s.sendPort site m.ctx (linkChan 0 site .tile m.ctx m.name) (.withdrawal site .tile m)
  else s.setTileAt site { s.tileAt site with withheld := (s.tileAt site).withheld ++ [m] }

/-- Areas that have become free: WAITSPACE slots are ARMED again and pull their held copy, once every segment of it has been diverted (R187, R199,
log 53). -/
def State.freeAreas (s : State) (site slot : Nat) : State :=
  (List.range 16).foldl (fun s n =>
    let x := s.slotAt site slot
    let u := x.subAt n
    if u.st == .waitspace && u.recv.all (fun r => decide (r.got.length = segsOf r.size)) && x.areaFree n && !(s.tileAt site).frozen then
      (s.setSub site slot n { u with st := .armed, recv := none, q := none }).sendPort site x.sys.ctxid (slotChan site slot n)
        (.pullAtHome (x.slotMsg site slot n none u.q))
    else s) s

/-- Bytes of segment idx of an area that have landed: the whole of each in `got`, and the granules before the one that failed. -/
def landedOf (got : List Nat) (size : Nat) (part : Option (Nat × Nat)) (idx : Nat) : Nat :=
  if got.contains idx then segLen size idx else match part with | some (i, j) => if i = idx then 64 * j else 0 | none => 0

/-- A landing fault: FAILED, the granules of the area that did not land are undefined, and a record is published (R137, R187); `part` is the segment
of a mismatch and its granules before it. A template slot that fails before its instance first runs makes the instance FAULTED (R225), unless another
has already, or a kill, a cancel or a save claims it (R343). -/
def State.failSub (s : State) (site slot n : Nat) (k : FKind) (size : Nat) (part : Option (Nat × Nat) := none) : State :=
  let x := s.slotAt site slot
  let u := x.subAt n
  let got := match u.recv with | some r => r.got | none => []
  let s1 := s.setSub site slot n { u with st := .failed, fkind := k.ctorIdx % 16, size := size, recv := none }
  let s2 := (List.range (segsOf u.bytes)).foldl (fun s i =>
    let done := landedOf got size part i
    s.scratchForget site slot (u.land + 4096 * i + done) (segLen u.bytes i - done)) s1
  let first := x.templ.contains n && !x.ran && x.inst.isSome && x.stopReq.isNone && x.cancelReq.isNone && x.st != .faulted
  let s3 := (s2.detect site k).record (x.who slot) { kind := k, origin := 3, eval := u.name, unit := n, fatal := first }
  if first then s3.setSlotAt site slot { s3.slotAt site slot with st := .faulted, fatal := FKind.cause k 3 }
  else (s3.freeAreas site slot).rejoinFrom site slot x

/-- Diverts a segment to the home (R187, R199). -/
def State.divert (s : State) (site slot n : Nat) (g : Seg) : State :=
  s.send (slotChan site slot n) (.divertedCopyAtHome ((s.slotAt site slot).slotMsg site slot n g.tags.head? g.seq) g)

/-- Marks the words of a segment's poisoned granules, which land with an uncorrectable check code (R205). -/
def State.landPoison (s : State) (site slot p : Nat) (g : Seg) : State :=
  { s with scratchUE := s.scratchUE ++ g.poison.flatMap (fun j => (List.range 8).filterMap (fun i =>
      (progByte (s.slotAt site slot) (s.tileAt site) slot (p + 64 * j + 8 * i)).map (fun b => scratchKey site b / 8))) }

/-- Writes bytes that have come for an area, and the dirty bit of their block. -/
def State.landBytes (s : State) (site slot p : Nat) (bs : List Byte) : State :=
  let s1 := s.scratchWrite site slot p bs
  s1.setSlotAt site slot ((s1.slotAt site slot).touch p)

/-- Writes one segment of a copy into an area, granule by granule, each once its check value has been verified (R25, R187, R189, R205). -/
def State.landSeg (s : State) (site slot n : Nat) (g : Seg) (r : Receiving) : State :=
  let u := (s.slotAt site slot).subAt n
  if r.got.contains g.idx then s
  else
    let p := u.land + 4096 * g.idx
    match Seg.firstBad g with
    | some j =>
      let s1 := ((s.landBytes site slot p (g.bytes.take (64 * j))).landPoison site slot p { g with poison := g.poison.filter (fun i => decide (i < j)) })
      (s1.setSub site slot n { u with recv := some r }).failSub site slot n .pubcheck g.size (some (g.idx, j))
    | none =>
      let r1 : Receiving := { r with got := r.got ++ [g.idx], poison := r.poison || !g.poison.isEmpty, seq := r.seq.orElse (fun _ => g.seq) }
      let s2 := ((s.landBytes site slot p g.bytes).landPoison site slot p g).setSub site slot n { u with recv := some r1 }
      if r1.got.length = segsOf r1.size then s2.send 0 (.copyLanded site slot n) else s2

/-- Does a cut mark keep a copy from a slot (R261)? A copy that branched off before its home has no sequence yet; it stays at the home. -/
def State.marked (s : State) (site slot n : Nat) (g : Seg) : Bool :=
  match (s.slotAt site slot).inst with
  | none => false
  | some u =>
    (s.homeName g.ctx g.inc g.name).marks.any (fun k => decide (k.uid = u + 1 ∧ k.sub = n) &&
      (match g.seq with | some q => decide (q = k.at_) || seqAfter q k.at_ | none => true))

/-- A copy's segment at one slot (table of R187). A slot in WAITSPACE diverts the other segments of its copy too, and notes them in `got` (R199). -/
def State.copyAtSub (s : State) (site slot n : Nat) (g : Seg) : State :=
  let x := s.slotAt site slot
  let u := x.subAt n
  match u.st with
  | .armed =>
    match u.recv with
    | some r =>
      if r.tag ≠ g.tags.head? then s
      else if (s.tileAt site).frozen then s.divert site slot n g
      else s.landSeg site slot n g r
    | none =>
      if g.idx ≠ 0 ∨ s.marked site slot n g then s
      else if x.areaFree n && !(s.tileAt site).frozen then
        if u.bytes < g.size then s.failSub site slot n .landsmall g.size
        else s.landSeg site slot n g ⟨g.seq, g.size, [], g.tags.head?, none, false⟩
      else
        (s.setSub site slot n { u with st := .waitspace, recv := some ⟨g.seq, g.size, [0], g.tags.head?, none, false⟩, q := g.seq }).divert site slot n g
  | .waitspace =>
    match u.recv with
    | some r =>
      if r.tag = g.tags.head? ∧ !(r.got.contains g.idx) then
        ((s.setSub site slot n { u with recv := some { r with got := r.got ++ [g.idx] } }).divert site slot n g).freeAreas site slot
      else s
    | none => s
  | _ => s

/-- COPY_AT_TILE_PORT: a copy reaches the slots it is for, or is dropped as an orphan (R187, R199, R311). -/
def execCopyAtTilePort (site : Nat) (target : Option (Nat × Nat)) (g : Seg) (s : State) : Host.Outcome State Fault Refusal :=
  if s.stale (agSite site 0) g.ctx g.inc then .next (s.dropName g.ctx g.name)
  else
    let here (k : Nat) : Bool := (s.slotAt site k).bound == some (g.ctx, g.inc)
    match target with
    | some (k, n) =>
      if here k && ((s.slotAt site k).subAt n).name == g.name then .next (s.copyAtSub site k n g) else .next s
    | none =>
      .next ((List.range 64).foldl (fun s i =>
        let u := (s.slotAt site (i / 16)).subAt (i % 16)
        if here (i / 16) && u.name == g.name && !u.persist && u.st != .idle then s.copyAtSub site (i / 16) (i % 16) g else s) s)

/-- A WAITING instance whose template slots are all LANDED becomes READY (R225). -/
def State.templatesDone (s : State) (site slot : Nat) : State :=
  let x := s.slotAt site slot
  if x.st = .waiting ∧ x.templ.all (fun n => (x.subAt n).st == .landed) then s.becomeReady site slot else s

/-- The sequence that a home has given to the publication of a tag (R190). A copy that branched off before the home can land before it is known
there. -/
def State.homeSeq (s : State) (ctx inc : Nat) (name : Word) (t : Option Tag) : Option Nat :=
  ((s.homeName ctx inc name).copies.reverse.find? (fun c => t.isSome && c.tags.head? == t)).map (·.seq)

/-- COPY_LANDED: the payload has landed in full: it is reported and acknowledged, and a one-shot slot withdraws (R187). -/
def execCopyLanded (site slot n : Nat) (s : State) : Host.Outcome State Fault Refusal :=
  let x := s.slotAt site slot
  let u := x.subAt n
  match u.recv with
  | none => .next s
  | some r =>
    if u.st ≠ .armed ∨ r.got.length ≠ segsOf r.size ∨ (s.tileAt site).frozen then .next s
    else
      let known := r.seq.orElse (fun _ => s.homeSeq x.sys.ctxid x.sys.incarn u.name r.tag)
      let seq := known.getD ((s.freeW 520).toNat % 2 ^ 32)
      let s1 := s.setSlotAt site slot ((x.setSub n { u with st := .landed, recv := none, size := r.size, seq := seq
                                                            lastAck := some seq, waiter := false
                                                            tag := if known.isSome then none else r.tag }).wake 1)
      let s2 := s1.sendPort site x.sys.ctxid (slotChan site slot n) (.landingAckAtHome (x.slotMsg site slot n r.tag known))
      let s3 := if r.poison then (s2.detect site .netecc).record (x.who slot) { kind := .netecc, origin := 3, eval := u.name, unit := n } else s2
      let s4 := if u.persist then s3 else s3.withdraw site slot n false
      .next ((s4.templatesDone site slot).rejoinFrom site slot x)

/-- INSTALL_NOTICE: the slot keeps the install count and U; a withdrawal that waited for it goes out (R185, R186). With n withdrawals waiting the
notice is for the oldest, which is the slot's present subscription only where that is a one-shot one that has landed and no other waits. -/
def execInstallNotice (m : SubMsg) (nh : Bool) (s : State) : Host.Outcome State Fault Refusal :=
  if s.stale (agSite m.site 0) m.ctx m.inc ∨ (s.tileAt m.site).frozen then .next (s.drop m.ctx)
  else
    let t := s.tileAt m.site
    let ws := t.withheld.filter (fun w => decide (w.ctx = m.ctx ∧ w.inc = m.inc ∧ w.name = m.name ∧ w.slot = m.slot ∧ w.sub = m.sub))
    let x := s.slotAt m.site m.slot
    let u := x.subAt m.sub
    let own := if u.st = .landed ∧ !u.persist ∧ !u.inst then 1 else 0
    let s1 := if x.bound = some (m.ctx, m.inc) ∧ u.name = m.name ∧ u.st ≠ .idle ∧ ws.length = own then
        s.setSub m.site m.slot m.sub { u with inst := true, count := m.count, u := m.u, nh := nh }
      else s
    match ws with
    | w :: _ =>
      .next ((s1.setTileAt m.site { s1.tileAt m.site with withheld := t.withheld.erase w }).sendPort m.site m.ctx
        (linkChan 0 m.site .tile m.ctx m.name) (.withdrawal m.site .tile { w with count := m.count, u := m.u }))
    | [] => .next s1

/-- ORDER_NOTICE: the slot awaits one notice less (R190). -/
def execOrderNotice (ctx inc : Nat) (t : Tag) (s : State) : Host.Outcome State Fault Refusal :=
  let x := s.slotAt t.site t.slot
  if x.bound ≠ some (ctx, inc) ∨ s.stale (agSite t.site 0) ctx inc ∨ (s.tileAt t.site).frozen then .next (s.drop ctx)
  else .next (s.setSlotAt t.site t.slot { x with awaitOrder := x.awaitOrder.erase t.serial })

/-- OVERFLOW_STALL_NOTICE: the tile stops injecting for the context, and STATUS.OVFLSTALL is set in its slots (R201). -/
def execOverflowStallNotice (site : Nat) (o : CtxInc) (s : State) : Host.Outcome State Fault Refusal :=
  if s.stale (agSite site 0) o.ctx o.inc then .next (s.drop o.ctx)
  else
  let t := s.tileAt site
  let s1 := s.setTileAt site { t with stalled := if t.stalled.contains o.ctx then t.stalled else t.stalled ++ [o.ctx] }
  .next ((List.range 4).foldl (fun s k =>
    let x := s.slotAt site k
    if x.bound.isSome ∧ x.sys.ctxid = o.ctx then s.setSlotAt site k (x.event 2) else s) s1)
/-- OVERFLOW_SPACE_NOTICE: the stall of the tile ends (R201). -/
def execOverflowSpaceNotice (site : Nat) (o : CtxInc) (s : State) : Host.Outcome State Fault Refusal :=
  if s.stale (agSite site 0) o.ctx o.inc then .next (s.drop o.ctx)
  else .next (s.setTileAt site { s.tileAt site with stalled := (s.tileAt site).stalled.erase o.ctx })
/-- OVERFLOW_STALL_TIMEOUT: a stall that has lasted 1 ms is recorded, once (R201). -/
def execOverflowStallTimeout (ctx : Nat) (s : State) : Host.Outcome State Fault Refusal :=
  match KMap.get? s.ovflStall ctx with
  | some (t, false, rs) =>
    if t + 1000000 ≤ s.time then
      .next ({ s with ovflStall := KMap.set s.ovflStall ctx (t, true, rs) }.record ⟨ctx, (s.ctx ctx).inc, none⟩ { kind := .ovflfull, origin := 3, eval := 0 })
    else .next s
  | _ => .next s

/-- MATCH_ENTRY_ECC: the entry is freed, NETECC is published, and the home delivers the name by unicast from then on (R205). The record's
EVAL is free: the spec states none (log 23). -/
def execMatchEntryEcc (site ctx : Nat) (name : Word) (s : State) : Host.Outcome State Fault Refusal :=
  match (KMap.getD s.matches_ site []).find? (fun m => decide (m.ctx = ctx ∧ m.name = name)) with
  | none => .next s
  | some e =>
    let s1 := { s with matches_ := KMap.set s.matches_ site ((KMap.getD s.matches_ site []).erase e) }
    let s2 := s1.setHome { s1.homeName e.ctx e.inc e.name with unicast := true }
    .next (s2.record ⟨e.ctx, e.inc, none⟩ { kind := .netecc, origin := 3, eval := s.freeW 501 })

/-- The segment of a message on its way, with its granules poisoned as `f` says. -/
def Instr.onSeg (f : Seg → Seg) : Instr → Instr
  | .segmentAtRouter a b c g => .segmentAtRouter a b c (f g)
  | .segmentAtHome a g => .segmentAtHome a (f g)
  | .contributionAtHome g => .contributionAtHome (f g)
  | .copyAtTilePort a b g => .copyAtTilePort a b (f g)
  | .divertedCopyAtHome m g => .divertedCopyAtHome m (f g)
  | e => e

/-- MESH_ECC: an uncorrectable error in mesh buffers poisons a granule of a segment on its way, freely picked (R205). -/
def execMeshEcc (i : Nat) (s : State) : Host.Outcome State Fault Refusal :=
  .next { s with agenda := (s.agenda.zip (List.range s.agenda.length)).map (fun (p, j) =>
    if j = i then { p with ev := Instr.onSeg (fun g => Seg.strike g (Config.pick s.tick 650 % (g.bytes.length / 64))) p.ev } else p) }

/-- May two waiting segments merge (R197)? -/
def mergeable (a b : Pending) : Option (Nat × Port × Bool × Seg × Seg × RedHdr × RedHdr) :=
  match a.ev, b.ev with
  | .segmentAtRouter s1 p1 h1 g1, .segmentAtRouter s2 p2 h2 g2 =>
    match g1.red, g2.red with
    | some r1, some r2 =>
      if s1 = s2 ∧ p1 = p2 ∧ h1 = h2 ∧ !r1.det ∧ !r2.det ∧ g1.ctx = g2.ctx ∧ g1.inc = g2.inc ∧ g1.name = g2.name ∧ r1.op = r2.op ∧
          g1.size = g2.size ∧ r1.n = r2.n ∧ g1.idx = g2.idx then some (s1, p1, h1, g1, g2, r1, r2) else none
    | _, _ => none
  | _, _ => none

/-- ROUTER_MERGE: two contributions that wait in one input queue become one (R197). -/
def execRouterMerge (i j : Nat) (s : State) : Host.Outcome State Fault Refusal :=
  match s.agenda[i]?, s.agenda[j]? with
  | some a, some b =>
    if i < j then
      match mergeable a b with
      | some (site, port, toHome, g1, g2, r1, r2) =>
        let g : Seg := Seg.seal { g1 with bytes := redBytes r1.op g1.bytes g2.bytes, tags := g1.tags ++ g2.tags, linger := max g1.linger g2.linger
                                          poison := (g1.poison ++ g2.poison).eraseDups, red := some { r1 with mult := r1.mult + r2.mult } }
        .next { s with agenda := (s.agenda.eraseIdx j).set i { a with ev := .segmentAtRouter site port toHome g } }
      | none => .next s
    else .next s
  | _, _ => .next s

/-! ### Injection (R209, R317, R387) -/

/-- May the first publication of a slot's queue inject a flit now: it waits at the port, whose turn it is (R201, R209, R317)? -/
def State.injectReady (s : State) (site slot : Nat) : Bool :=
  let x := s.slotAt site slot
  s.queueFree site slot && x.port.contains 16 && s.portTurn site x.sys.ctxid 64

/-- PUB_INJECT: the tile reads one granule of the first publication of the queue and injects it; a segment leaves with its last flit, its granules'
check values with it (R24, R209). An LSEND's segments leave through the agent that `lsendOut` names. -/
def State.injectFlit (s : State) (site slot : Nat) (lsendOut : Queued → Nat → List Byte → State → State) : State :=
  let x := s.slotAt site slot
  match x.injq with
  | [] => s
  | q :: qs =>
    let granule := (List.range 64).map (fun i =>
      s.raceByte q.raced (q.addr + q.sent + i) (60000 + i) (s.scratchByte site slot (q.addr + q.sent + i) (6000 + i)))
    let buf := q.buf ++ granule
    let sent := q.sent + 64
    let last := decide (q.size ≤ sent)
    let full := last || decide (4096 ≤ buf.length)
    let q1 := { q with sent := sent, buf := if full then [] else buf }
    let s1 := (s.setSlotAt site slot { x with injq := if last then qs else q1 :: qs }).payFlit site slot 16
    if !full then s1
    else
      let idx := q.sent / 4096
      match q.lsend with
      | some _ => lsendOut q idx buf s1
      | none =>
        s1.send (linkChan 1 site .tile x.sys.ctxid q.name) (.segmentAtRouter site .tile true
          (Seg.make x.sys.ctxid x.sys.incarn q.name ⟨site, slot, q.serial⟩ idx q.size q.linger buf q.red 0))

/-! ### Syllables (R207 to R212) -/

def nTrap (k : FKind) (v : Word) : Act := .trap ⟨k, 3, v⟩

/-- The name operand. -/
def State.nameOf (s : State) (f : NamF) : Word := s.readS 40 f.n

/-- The lowest byte of a landing area that is not valid or lies in a lent way (R135, R208). -/
def areaInvalid (x : Slot) (t : Tile) (slot a n : Nat) : Option Nat :=
  (firstInvalid x t slot a (min n (0x200000 - a))).orElse (fun _ => if 0x200000 < a + n then some (max a 0x200000) else none)

/-- SUB waits while the tile's 64 places for withdrawals are taken (R186), unless a check fails. -/
def subCheck (f : NamF) (s : State) : Option TrapInfo :=
  let x := s.cur
  let name := s.nameOf f
  let a := (s.readS 32 f.a).toNat
  let n := (s.readS 24 f.b).toNat
  let t (k : FKind) (v : Nat) : Option TrapInfo := some ⟨k, 3, BitVec.ofNat 64 v⟩
  let slotNo := f.s.toNat
  if 0xF6 ≤ spaceOf name then t .nameSpace name.toNat
  else if a % 64 ≠ 0 then t .spalign a
  else if n % 64 ≠ 0 then t .spalign n
  else if n = 0 ∨ 262144 < n then t .landsmall n
  else match areaInvalid x s.curTile s.iss.slot a n with
    | some b => t .sprange b
    | none =>
      if a < x.codeSize then t .codewrite a
      else if (x.subAt slotNo).st != .idle || (x.subAt slotNo).reserved then t .subfull slotNo
      else if (List.range 16).any (fun m => (x.subAt m).st != .idle && (x.subAt m).name == name) then t .dupsub slotNo
      else none

def waitSubscribe (f : NamF) (s : State) : Option Hold :=
  if (subCheck f s).isNone ∧ 64 ≤ s.curTile.withheld.length then some ⟨true, id⟩ else none

/-- SUB: the slot is ARMED and the subscription is sent (R187, R208). -/
def effSubscribe (f : NamF) (s : State) : Act :=
  match subCheck f s with
  | some t => .trap t
  | none =>
    let n := f.s.toNat
    let u : SubSlot := { SubSlot.idle with st := .armed, name := s.nameOf f, land := (s.readS 32 f.a).toNat, bytes := (s.readS 24 f.b).toNat
                                           persist := f.f.getLsbD 0 }
    let s1 := s.setCur (s.cur.setSub n u)
    .ok (s1.sendPort s.iss.site s.cur.sys.ctxid (linkChan 0 s.iss.site .tile s.cur.sys.ctxid u.name) (.subAtRouter s.iss.site .tile (s1.cur.subMsg s.iss.site s.iss.slot n)))

/-- Ends a slot's subscription: IDLE, partial bytes discarded (R187). -/
def State.endSub (s : State) (site slot n : Nat) (withdraw : Bool) : State :=
  let u := (s.slotAt site slot).subAt n
  let s1 := if withdraw then s.withdraw site slot n false else s
  let s2 := match u.st, u.recv with
    | .armed, some _ => s1.scratchForget site slot u.land u.bytes
    | _, _ => s1
  ((s2.setSub site slot n SubSlot.idle).freeAreas site slot).rejoinFrom site slot (s.slotAt site slot)

/-- UNSUB (R187, R208). -/
def effUnsub (f : NamF) (s : State) : Act :=
  let n := f.s.toNat
  let u := s.cur.subAt n
  match u.st with
  | .idle => .ok s
  | .landed => .ok (s.endSub s.iss.site s.iss.slot n u.persist)
  | _ => .ok (s.endSub s.iss.site s.iss.slot n true)

/-- The checks that PUB, PUBR and LSEND share: size, alignment, range (R209, R210, R387). -/
def payloadCheck (s : State) (a n : Nat) (b : Word) : Option TrapInfo :=
  if n = 0 ∨ n % 64 ≠ 0 ∨ 262144 < n then some ⟨.pubsize, 3, b⟩
  else if a % 64 ≠ 0 then some ⟨.spalign, 3, BitVec.ofNat 64 a⟩
  else (firstInvalid s.cur s.curTile s.iss.slot a n).map (fun p => ⟨.sprange, 3, BitVec.ofNat 64 p⟩)

def pubCheck (f : NamF) (s : State) : Option TrapInfo :=
  let b := s.readS 24 f.b
  if 0xF0 ≤ spaceOf (s.nameOf f) then some ⟨.nameSpace, 3, s.nameOf f⟩
  else if b.toNat / 2 ^ 19 ≠ 0 then some ⟨.rsvfield, 3, b⟩
  else payloadCheck s (s.readS 32 f.a).toNat b.toNat b

def pubrCheck (f : NamF) (s : State) : Option TrapInfo :=
  let b := s.readS 24 f.b
  let n := (b.extractLsb' 32 16).toNat
  let i := (b.extractLsb' 48 16).toNat
  if 0xF0 ≤ spaceOf (s.nameOf f) then some ⟨.nameSpace, 3, s.nameOf f⟩
  else if b.extractLsb' 19 13 ≠ 0 then some ⟨.rsvfield, 3, b⟩
  else if n = 0 ∨ (f.f.getLsbD 1 ∧ n ≤ i) then some ⟨.reducecount, 3, b⟩
  else payloadCheck s (s.readS 32 f.a).toNat (b.toNat % 2 ^ 19) b

/-- The injection queue holds eight (R209); a wait behind the stall of R201 does not count for WATCHDOG (R341). -/
def waitQueue (check : Option TrapInfo) (s : State) : Option Hold :=
  if check.isNone ∧ 8 ≤ s.cur.injq.length then some ⟨!(s.curTile.stalled.contains s.cur.sys.ctxid), id⟩ else none

/-- Enters a publication in the queue; with REL the release part of path C begins at once (R209). -/
def State.enqueue (s : State) (q : Queued) (remote : Bool) : State :=
  let x := s.cur
  let s1 := s.setCur { x with injq := x.injq ++ [{ q with serial := x.serial }], serial := (x.serial + 1) % 65536
                              awaitOrder := if q.lsend.isSome then x.awaitOrder else x.awaitOrder ++ [x.serial]
                              awaitSend := if q.lsend.isSome then x.awaitSend + 1 else x.awaitSend }
  if q.rel then s1.beginRelease (if remote then .system else .wafer) else s1

/-- PUB (R209). -/
def waitPub (f : NamF) (s : State) : Option Hold := waitQueue (pubCheck f s) s
def effPub (f : NamF) (s : State) : Act :=
  match pubCheck f s with
  | some t => .trap t
  | none => .ok (s.enqueue ⟨s.nameOf f, (s.readS 32 f.a).toNat, (s.readS 24 f.b).toNat, f.i8.toNat, none, none, f.f.getLsbD 0, 0, 0, [], []⟩ false)

/-- PUBR (R196, R210). -/
def waitPubr (f : NamF) (s : State) : Option Hold := waitQueue (pubrCheck f s) s
def effPubr (f : NamF) (s : State) : Act :=
  match pubrCheck f s with
  | some t => .trap t
  | none =>
    let b := s.readS 24 f.b
    .ok (s.enqueue ⟨s.nameOf f, (s.readS 32 f.a).toNat, b.toNat % 2 ^ 19, f.i8.toNat,
      some ⟨f.t.toNat, (b.extractLsb' 32 16).toNat, (b.extractLsb' 48 16).toNat, f.f.getLsbD 1, 1⟩, none, f.f.getLsbD 0, 0, 0, [], []⟩ false)

/-- NHOLD and NRELS send a request to the name's home (R211). -/
def pinAct (f : NamF) (s : State) (ev : Nat → Nat → Word → Asker → Instr) : Act :=
  let name := s.nameOf f
  if 0xF0 ≤ spaceOf name then nTrap .nameSpace name
  else
    let d := dstS f.a
    let s1 := s.setCur (s.cur.await d)
    .ok (s1.sendPort s.iss.site s.cur.sys.ctxid (homeChan 0 s.iss.site s.cur.sys.ctxid name) (ev s.cur.sys.ctxid s.cur.sys.incarn name ⟨s.iss.site, s.iss.slot, d⟩))
/-- NHOLD (R211). -/
def effNhold (f : NamF) (s : State) : Act := pinAct f s Instr.nholdAtHome
/-- NRELS (R211). -/
def effNrels (f : NamF) (s : State) : Act := pinAct f s Instr.nrelsAtHome

/-- The NPOLL result (R212). -/
def SubSlot.poll (u : SubSlot) : Nat :=
  let shown := u.st == .landed
  let b (x : Bool) (n : Nat) : Nat := if x then 2 ^ n else 0
  (if shown then u.seq % 65536 * 2 ^ 48 else 0) + (if u.st == .failed then u.fkind % 16 * 2 ^ 44 else 0) +
  (if shown || u.st == .failed then u.size % 2 ^ 19 * 2 ^ 20 else 0) +
  (if u.st == .idle then 0 else b u.nh 6 + b u.inst 5 + b u.u 4 + b u.persist 3) + u.st.ctorIdx

/-- NPOLL (R212). -/
def effNpoll (f : NamF) (s : State) : Act :=
  .ok (s.selfReply (dstS f.a) (BitVec.ofNat 1024 (s.cur.subAt f.s.toNat).poll) .plain)
/-- NPOLL.ack: the state is reported, then the slot is acknowledged (R187, R212). -/
def effNpollAck (f : NamF) (s : State) : Act :=
  let n := f.s.toNat
  let u := s.cur.subAt n
  let s1 := s.selfReply (dstS f.a) (BitVec.ofNat 1024 u.poll) .plain
  match u.st with
  | .landed =>
    if u.persist then
      let s2 := s1.setSub s.iss.site s.iss.slot n { u with st := .armed, size := 0, recv := none }
      .ok ((s2.sendPort s.iss.site s.cur.sys.ctxid (slotChan s.iss.site s.iss.slot n) (.nextRequestAtHome (s1.cur.slotMsg s.iss.site s.iss.slot n none (some u.seq)))).freeAreas s.iss.site s.iss.slot)
    else .ok (s1.endSub s.iss.site s.iss.slot n false)
  | .failed => .ok (s1.endSub s.iss.site s.iss.slot n true)
  | _ => .ok s1
/-- NPOLL.inj: queued publications whose payload has not been wholly read (R212). -/
def effNpollInj (f : NamF) (s : State) : Act :=
  .ok (s.selfReply (dstS f.a) (BitVec.ofNat 1024 s.cur.injq.length) .plain)

/-! The instructions: each acts as its effect says where its guard holds (R33). -/

/-- SUBSCRIBE. -/
def execSubscribe (h : Hdr) (f : NamF) (s : State) : Host.Outcome State Fault Refusal :=
  asStepW h (waitSubscribe f) (effSubscribe f) s
/-- UNSUB. -/
def execUnsub (h : Hdr) (f : NamF) (s : State) : Host.Outcome State Fault Refusal := asStep h (effUnsub f) s
/-- PUB. -/
def execPub (h : Hdr) (f : NamF) (s : State) : Host.Outcome State Fault Refusal :=
  asStepW h (waitPub f) (effPub f) s
/-- PUBR. -/
def execPubr (h : Hdr) (f : NamF) (s : State) : Host.Outcome State Fault Refusal :=
  asStepW h (waitPubr f) (effPubr f) s
/-- NHOLD. -/
def execNhold (h : Hdr) (f : NamF) (s : State) : Host.Outcome State Fault Refusal := asStep h (effNhold f) s
/-- NRELS. -/
def execNrels (h : Hdr) (f : NamF) (s : State) : Host.Outcome State Fault Refusal := asStep h (effNrels f) s
/-- NPOLL. -/
def execNpoll (h : Hdr) (f : NamF) (s : State) : Host.Outcome State Fault Refusal := asStep h (effNpoll f) s
/-- NPOLL_ACK. -/
def execNpollAck (h : Hdr) (f : NamF) (s : State) : Host.Outcome State Fault Refusal := asStep h (effNpollAck f) s
/-- NPOLL_INJ. -/
def execNpollInj (h : Hdr) (f : NamF) (s : State) : Host.Outcome State Fault Refusal := asStep h (effNpollInj f) s

end Sys2Proof.Machine
end

