-- ==== Sys2Proof/Machine/Kernel.lean ====
section
/-! DEFINITION. Kernels and instances (09_kernel R213 to R235): the image, placement and loading, entry, parking, LAUNCH, YIELD, EXIT, and how an
instance ends. -/

namespace Sys2Proof.Machine

/-- v raised to a multiple of m. -/
def roundUp (v m : Nat) : Nat := (v + m - 1) / m * m

/-! ### The image (R213 to R218) -/

/-- Reserved bits of the header's doublewords, and of bytes 0x48 to 0x7F (R214). -/
def hdrRsv : List Nat :=
  [0xFFFF000000000000, 0xFFFFFFFFFFF80000, 0x7FFFFFFFFFFC0007, 0xFFFFFC0000000000, 0xFFFE0000FFE00000, 0xFFFF000000000000, 0xFFFFFE0000000000,
   0xFFFFFFF000000000, 0xFFFFFFFF00000000, 0xFFFFFFFFFFFFFFFF, 0xFFFFFFFFFFFFFFFF, 0xFFFFFFFFFFFFFFFF, 0xFFFFFFFFFFFFFFFF, 0xFFFFFFFFFFFFFFFF,
   0xFFFFFFFFFFFFFFFF, 0xFFFFFFFF00000000]

/-- A signed 32-bit coefficient. -/
def coef (n : Nat) : Int := (BitVec.ofNat 32 n).toInt

/-- Template i from its four doublewords (R215). -/
def templOf (i d0 d1 d2 d3 : Nat) : Templ :=
  ⟨i, bitsOf d0 63 56, bitsOf d0 55 0, coef (bitsOf d1 31 0), coef (bitsOf d1 63 32), coef (bitsOf d2 31 0), coef (bitsOf d2 63 32),
   bitsOf d3 20 0, bitsOf d3 39 21, bitsOf d3 47 40, d3.testBit 48⟩

/-- The templates of a mask, from doubleword `at_` of the image on. -/
def templsOf (ds : List Nat) (at_ mask : Nat) : List Templ :=
  ((List.range 16).filter (fun i => mask.testBit i)).map (fun i =>
    templOf i (ds.getD (at_ + 4 * i) 0) (ds.getD (at_ + 4 * i + 1) 0) (ds.getD (at_ + 4 * i + 2) 0) (ds.getD (at_ + 4 * i + 3) 0))

/-- The image's header and templates as fields (R214, R215). -/
def kernOf (ds : List Nat) : Kern :=
  let d (i : Nat) : Nat := ds.getD i 0
  { code := bitsOf (d 1) 18 0, image := [], trap := BitVec.ofNat 64 (d 2), scrA := bitsOf (d 3) 20 0, scrB := bitsOf (d 3) 41 21,
    land := bitsOf (d 4) 20 0, args := bitsOf (d 4) 46 32, landB := (d 4).testBit 47, yld := (d 4).testBit 48,
    cost := bitsOf (d 6) 31 0, prio := bitsOf (d 6) 35 32, pure := (d 6).testBit 36, acc := bitsOf (d 6) 40 37,
    groups := (List.range 4).map (fun i => if (d 7).testBit (32 + i) then some (bitsOf (d 7) (8 * i + 7) (8 * i)) else none),
    subs := templsOf ds 16 (bitsOf (d 8) 15 0), pubs := templsOf ds 80 (bitsOf (d 8) 31 16) }

/-- CODESIZE (R136). -/
def Kern.codeSize (k : Kern) : Nat := roundUp k.code 4096
/-- LANDBASE, the park area, NEEDA and NEEDB (R218). -/
def Kern.landBase (k : Kern) : Nat := if k.landB then 0x100000 + k.scrB else k.codeSize + k.scrA
def Kern.endB (k : Kern) : Nat := k.scrB + (if k.landB then k.land else 0)
def Kern.parkAt (k : Kern) : Nat := 0x100000 + roundUp k.endB 128
def Kern.needA (k : Kern) : Nat := k.codeSize + k.scrA + (if k.landB then 0 else k.land)
def Kern.needB (k : Kern) : Nat := if k.yld then roundUp k.endB 128 + 4736 else k.endB

/-- IMAGECHK over the bytes of an image (R217). -/
def imageChk (bs : List Byte) : Nat :=
  ((crcs 0xFFFFFFFF ((bs.zip (List.range bs.length)).map (fun (b, j) => if 0x78 ≤ j ∧ j < 0x7C then 0 else b))) ^^^ 0xFFFFFFFF).toNat

/-- A bit of the doubleword other than the ones listed is set in a template (R215). -/
def templRsv (sub : Bool) (d3 : Nat) : Bool := decide (d3 / 2 ^ 49 ≠ 0) || (sub && decide (bitsOf d3 48 40 ≠ 0))

/-- The image offset of the first field that makes BADKERNEL (R216). -/
def badKernel (ds : List Nat) (bs : List Byte) (nx ny nz : Nat) : Option Nat :=
  let d (i : Nat) : Nat := ds.getD i 0
  let k := kernOf ds
  let argEnd := roundUp k.args 64
  let subAt (t : Templ) : Nat := 0x80 + 32 * t.i
  let pubAt (t : Templ) : Nat := 0x280 + 32 * t.i
  let dw3 (off : Nat) : Nat := d (off / 8 + 3)
  let both : List (Templ × Nat × Bool) := k.subs.map (fun t => (t, subAt t, true)) ++ k.pubs.map (fun t => (t, pubAt t, false))
  let first (l : List (Bool × Nat)) : Option Nat := (l.find? (·.1)).map (·.2)
  first ([(decide (bitsOf (d 0) 47 32 ≠ 1), 0)] ++
    (List.range 16).map (fun i => (decide (d i &&& hdrRsv.getD i 0 ≠ 0), 8 * i)) ++
    [(decide (k.code % 8 ≠ 0 ∨ k.code < 8 ∨ 262144 < k.code), 0x08),
     ((d 2).testBit 63 && decide (k.code ≤ bitsOf (d 2) 17 3 * 8), 0x10),
     (decide (k.scrA % 4096 ≠ 0 ∨ k.scrB % 4096 ≠ 0), 0x18),
     (decide (k.land % 64 ≠ 0 ∨ k.args % 8 ≠ 0 ∨ 16384 < k.args), 0x20),
     (decide (k.land < argEnd), 0x20),
     (decide (0x100000 < k.needA ∨ 0x100000 < k.needB), 0x18),
     (decide (11 < k.prio), 0x30)] ++
    both.map (fun (t, at_, sub) =>
      (templRsv sub (dw3 at_) || decide (t.size % 64 ≠ 0 ∨ t.size < 64 ∨ 262144 < t.size ∨ t.off % 64 ≠ 0), at_ + 0x18)) ++
    k.subs.map (fun t => (decide (0xF5 < t.space), subAt t)) ++
    k.subs.map (fun t => (decide (t.off < argEnd ∨ k.land < t.off + t.size), subAt t + 0x18)) ++
    k.pubs.map (fun t => (decide (0xEF < t.space), pubAt t)) ++
    [(decide (bitsOf (d 5) 15 0 < nx ∨ bitsOf (d 5) 31 16 < ny ∨ bitsOf (d 5) 47 32 < nz ∨ 2 ^ 24 < (nx + 1) * (ny + 1) * (nz + 1)), 0x28),
     (decide (imageChk bs ≠ bitsOf (d 15) 31 0), 0x78)])

/-- What reading and checking an image gives (R216): the kernel, a fault that discards the record, or a wait for a migrating page. -/
inductive ImageRes where
  | ok (k : Kern)
  | bad (kind : FKind) (origin : Nat) (eval : Nat)
  | migrating

/-- The fault of an image read as R216 reports it. -/
def imageFault (image : Nat) (k : FKind) (va : Nat) : ImageRes :=
  if k = FKind.nomap ∨ k = FKind.permr then .bad .nokernel 0 image else .bad k 2 (va - va % 64)

/-- Does the walk of some page of an image end in NOMAP or PERMR (R216)? -/
def State.imageGone (s : State) (walker ctx inc a n : Nat) : Bool :=
  (pagesOf a n).any (fun va => match (s.walkNow walker ctx inc va 0).out with | .fault .nomap => true | .fault .permr => true | _ => false)

/-- Reads and checks an image at expansion (R216, R217): NOKERNEL comes before any other fault of the read. -/
def State.checkImage (s : State) (walker ctx inc : Nat) (image : Word) (nx ny nz : Nat) : State × ImageRes :=
  let a := image.toNat
  if 2 ^ 56 ≤ a ∨ a % 256 ≠ 0 then (s, .bad .nokernel 0 a)
  else
    let (s1, r1) := s.sysRead walker ctx inc a 64
    match r1 with
    | .migrating => (s1, .migrating)
    | .fault k va => (s1, if s1.imageGone walker ctx inc a 0x480 then .bad .nokernel 0 a else imageFault a k va)
    | .ok g =>
      let code := bitsOf ((dwords g).getD 1 0) 18 0
      let n := 0x480 + code
      if bitsOf ((dwords g).getD 0 0) 31 0 ≠ 0x5A4C4F50 ∨ s1.imageGone walker ctx inc a n then (s1, .bad .nokernel 0 a)
      else
        let (s2, r2) := s1.sysRead walker ctx inc (a + 64) (n - 64)
        match r2 with
        | .migrating => (s2, .migrating)
        | .fault k va => (s2, imageFault a k va)
        | .ok rest =>
          let bs := g ++ rest
          let ds := dwords (bs.take 0x480)
          match badKernel ds bs nx ny nz with
          | some off => (s2, .bad .badkernel 0 off)
          | none => (s2, .ok { kernOf ds with image := bs.drop 0x480 })

/-- The name of a template for an instance (R215). -/
def Templ.nameAt (t : Templ) (i : Inst) : Word :=
  let key : Int := (t.k0 : Int) + t.kx * i.x + t.ky * i.y + t.kz * i.z + t.ks * i.step
  BitVec.ofNat 64 (t.space * 2 ^ 56 + (key % (2 ^ 56 : Int)).toNat)

/-! ### Placement (R221, R222, R246, R257) -/

/-- Has an instance reached FAULTED, which is terminal, on the tile that it is still on (R225)? -/
def State.ended (s : State) (u : Nat) (i : Inst) : Bool :=
  match i.place with
  | some (site, k) => (s.slotAt site k).st == .faulted && (s.slotAt site k).inst == some u
  | none => false
/-- Members of a group that are placed and not terminated, and those that are DEFINED (R246, R289). -/
def State.placedOf (s : State) (c g : Nat) : Nat :=
  (s.insts.filter (fun e => decide (e.2.ctx = c) && e.2.place.isSome && (groupsOf e.2.groups).contains g && !(s.ended e.1 e.2))).length
def State.definedOf (s : State) (c g : Nat) : Nat :=
  (s.insts.filter (fun e => decide (e.2.ctx = c) && e.2.st == .defined && (groupsOf e.2.groups).contains g)).length

/-- The slots that could take an instance (R221), and the sum of mesh hops of each. -/
def State.openSlots (s : State) (i : Inst) : List (Nat × Nat × Nat) :=
  let homes := i.kern.subs.map (fun t => s.homeOf i.ctx (t.nameAt i))
  s.slots.filterMap (fun (key, x) =>
    let site := key / 4
    if x.bound = some (i.ctx, i.inc) ∧ x.inst.isNone ∧ !(s.disabled.contains site) ∧ !(s.mgmt.defective.contains site) ∧
        !(s.insts.any (fun e => e.2.place == some (site, key % 4))) ∧ i.kern.needA ≤ x.sys.sizeA ∧ i.kern.needB ≤ x.sys.sizeB
    then some (site, key % 4, homes.foldl (fun n h => n + siteDist site h) 0) else none)

/-- The slot that R221 takes: the smallest sum, ties to the lower site, hot tiles last. -/
def State.bestSlot (s : State) (i : Inst) : Option (Nat × Nat) :=
  let all := s.openSlots i
  let cool := all.filter (fun e => !(s.mgmt.hot.contains e.1))
  let l := if cool.isEmpty then all else cool
  (l.foldl (fun (o : Option (Nat × Nat × Nat)) e => match o with
    | none => some e
    | some b => if e.2.2 < b.2.2 ∨ (e.2.2 = b.2.2 ∧ e.1 < b.1) then some e else o) none).map (fun e => (e.1, e.2.1))

/-- Is the instance held for the restore or the cancel of a cut (R246, R260)? -/
def State.cutHeld (s : State) (i : Inst) : Bool :=
  (groupsOf i.groups).any (fun g => (s.group i.ctx g).st == .cutting || (s.group i.ctx g).st == .cut)
/-- Does a live-instance cap hold the instance back (R246, R257)? -/
def State.capHeld (s : State) (i : Inst) : Bool :=
  (groupsOf i.groups).any (fun g => decide (min (s.group i.ctx g).cap (s.group i.ctx g).gcap ≤ s.placedOf i.ctx g))

/-- Waits for placement: DEFINED, EVICTED, or MIGRATING. -/
def Inst.unplaced (i : Inst) : Bool := i.place.isNone && (i.st == .defined || i.st == .evicted || i.st == .migrating)

/-- The first of a context's instances, in placement order, that can be placed now; one that its cap holds back stops those behind it (R246). -/
def State.placeGo (s : State) : List (Nat × Inst) → Option (Nat × Nat × Nat)
  | [] => none
  | (u, i) :: r =>
    if s.cutHeld i then State.placeGo s r
    else if s.capHeld i then none
    else match s.bestSlot i with
      | some (site, k) => some (u, site, k)
      | none => State.placeGo s r

/-- Instances of a context that wait for placement: highest level first, then expansion order and linear index (R246). -/
def State.placeList (s : State) (c : Nat) : List (Nat × Inst) :=
  let l := s.insts.filter (fun e => decide (e.2.ctx = c) && e.2.unplaced)
  (List.range 16).reverse.flatMap (fun lvl => l.filter (fun e => decide (e.2.base = lvl)))

/-- The placement that the scheduler of a context makes next. -/
def State.nextPlace (s : State) (c : Nat) : Option (Nat × Nat × Nat) := s.placeGo (s.placeList c)

/-- Scheduler of an instance: that of its queue (R236). -/
def Inst.field (i : Inst) : Nat := (i.ctx + i.q) % 64
/-- Order of the messages from schedulers to one tile (R222). -/
def tileChan (site : Nat) : Nat := chanKey 19 site

/-- Orders an EVICT under way to take an instance that has been placed in its fields (R323). -/
def State.evictNew (s : State) (uid ctx inc site : Nat) : State :=
  match s.evicts.find? (fun e => decide (e.ctx = ctx) && decide (e.inc = inc) && e.mask.getLsbD (fieldOf site) && !(e.ordered.contains uid)) with
  | some op =>
    ({ s with evicts := s.evicts.map (fun e => if e = op then { e with ordered := e.ordered ++ [uid], waiting := e.waiting ++ [uid] } else e) }).send
      (tileChan site) (.saveOrderAtTile uid .evict)
  | none => s

/-- Placement messages of a field's scheduler that wait to leave on the heath (R222). -/
def State.heathWaits (s : State) (field : Nat) : Nat :=
  (s.agenda.filter (fun p => match p.ev with
    | .placementMessage ⟨u, false⟩ _ _ => (match s.inst u with | some i => decide (i.field = field) | none => false)
    | _ => false)).length

/-- Does the next placement message for a tile travel on the mesh: the heath attachment is full, or the tile has not acknowledged every earlier
mesh message (R222)? The order of a tile's messages holds on either network. -/
def State.onMesh (s : State) (field site : Nat) : Bool :=
  decide (KMap.getD s.placeOut (8192 * field + site) 0 ≠ 0) || decide (256 ≤ s.heathWaits field)

/-- INSTANCE_PLACE: the scheduler grants a slot and sends the placement message (R221, R222, R246). -/
def execInstancePlace (uid site slot : Nat) (s : State) : Host.Outcome State Fault Refusal :=
  match s.inst uid with
  | none => .next s
  | some i =>
    if s.nextPlace i.ctx = some (uid, site, slot) then
      let key := 8192 * i.field + site
      let mesh := s.onMesh i.field site
      let s1 := if mesh then { s with placeOut := KMap.set s.placeOut key (KMap.getD s.placeOut key 0 + 1) } else s
      let s2 := s1.setInst uid { i with st := .placed, place := some (site, slot) }
      .next ((s2.send (tileChan site) (.placementMessage ⟨uid, mesh⟩ i.ctx i.inc)).evictNew uid i.ctx i.inc site)
    else .next s

/-- PLACEMENT_ACKNOWLEDGEMENT: the tile has a placement message that came on the mesh (R222). -/
def execPlacementAcknowledgement (field site : Nat) (s : State) : Host.Outcome State Fault Refusal :=
  let key := 8192 * field + site
  .next { s with placeOut := KMap.set s.placeOut key (KMap.getD s.placeOut key 0 - 1) }

/-! ### Loading (R223) -/

/-- Every 4 KiB block of the slot's windows and lent ways (R305). -/
def Slot.allBlocks (x : Slot) (t : Tile) (slot : Nat) : List Nat :=
  (List.range (x.sys.sizeA / 4096)) ++ (List.range (x.sys.sizeB / 4096)).map (· + 256) ++
  ((List.range 10).filter (fun w => t.lentTo slot w)).flatMap (fun w => (List.range 16).map (· + 512 + 16 * w))

/-- The slot as its tile sets it up for an instance (R218, R223, R224): what the binding gives stays. -/
def Slot.forInst (x : Slot) (uid : Nat) (i : Inst) (dbg : Bool) : Slot :=
  { Slot.empty with
    bound := x.bound, inst := some uid, st := .placed, codeSize := i.kern.codeSize, parkAt := i.kern.parkAt, yld := i.kern.yld
    codeOf := x.codeOf, serial := x.serial, awaitOrder := x.awaitOrder, awaitSend := x.awaitSend, ackC := x.ackC, ackCR := x.ackCR
    ackA := x.ackA, ackAR := x.ackAR, acquiring := x.acquiring, templ := i.kern.subs.map (·.i)
    ch := x.ch.map (fun c => { Chan.idle with unacked := c.unacked, seq := c.seq })
    sys := { SysRegs.reset with
      dbgen := dbg, privc := x.sys.privc, ctxid := i.ctx, incarn := i.inc, instIdx := i.idx, kernId := i.image
      stepId := BitVec.ofNat 64 i.step, prioBase := i.base, prioLevel := i.base, groups := i.groups, trapbase := i.kern.trap
      baseA := x.sys.baseA, sizeA := x.sys.sizeA, baseB := x.sys.baseB, sizeB := x.sys.sizeB, landBase := i.kern.landBase
      share := x.sys.share, ctxsel := i.ctx } }

/-- PLACEMENT_MESSAGE: the slot takes the instance, and the tile begins to load it; one that was saved waits for its restore (R222, R223,
R225). -/
def execPlacementMessage (p : Placing) (ctx inc : Nat) (s : State) : Host.Outcome State Fault Refusal :=
  match s.inst p.uid with
  | none => .next s
  | some i =>
    match i.place with
    | none => .next s
    | some (site, k) =>
      if s.stale (agSite site 0) ctx inc then .next (s.drop ctx)
      else
        let x := s.slotAt site k
        let s1 := s.setSlotAt site k (x.forInst p.uid i (s.tileAt site).dbgOn)
        let s2 := if p.mesh then s1.send 0 (.placementAcknowledgement i.field site) else s1
        .next (if i.kept.isSome then s2 else s2.send 0 (.loadDone p.uid))

/-- Takes the load of an instance off the agenda (R225). -/
def State.abandonLoad (s : State) (uid : Nat) : State :=
  { s with agenda := s.agenda.filter (fun p => match p.ev with | .loadDone u => decide (u ≠ uid) | _ => true) }

/-- A fatal fault of a slot's instance: FAULTED, with its record (R225, R348). -/
def State.faultSlot (s : State) (site slot : Nat) (k : FKind) (origin : Nat) (eval : Word) (addr : Nat := 0) : State :=
  let x := s.slotAt site slot
  ((s.setSlotAt site slot { x with st := .faulted, held := false, fatal := FKind.cause k origin }).detect site k).record (x.who slot)
    { kind := k, origin := origin, eval := eval, fatal := true, addr := addr }

/-- Installs the template subscriptions (R223). -/
def State.installTemplates (s : State) (site slot : Nat) (i : Inst) : State :=
  i.kern.subs.foldl (fun s t =>
    let u : SubSlot := { SubSlot.idle with st := .armed, name := t.nameAt i, land := i.kern.landBase + t.off, bytes := t.size }
    let s1 := s.setSub site slot t.i u
    s1.send (linkChan 0 site .tile i.ctx u.name) (.subAtRouter site .tile ((s1.slotAt site slot).subMsg site slot t.i))) s

/-- The code that a load puts in place (R223): the image's, or free bytes where it is no longer what was checked when the oldest live instance of
the image was created. -/
def State.loadedCode (s : State) (k : Kern) (code : List Byte) : List Byte :=
  if code = k.image then code else (List.range k.code).map (fun j => Config.freeByte s.tick (20000 + j))

/-- Has the image of a live instance been written since it was checked (R223)? -/
def State.imageWritten (s : State) (walker : Nat) (i : Inst) : Bool :=
  match (s.sysRead walker i.ctx i.inc (i.image.toNat + 0x480) i.kern.code).2 with
  | .ok bs => decide (bs ≠ i.kern.image)
  | _ => false

/-- LOAD_DONE: code and argument block are in, the template subscriptions go out, and the instance is WAITING or READY (R223, R225). On a frozen
tile nothing loads (R353). A slot whose code region holds the image keeps it, unless the image has been written since: its code is free then. -/
def execLoadDone (uid : Nat) (s : State) : Host.Outcome State Fault Refusal :=
  match s.inst uid with
  | none => .next s
  | some i =>
    match i.place with
    | none => .next s
    | some (site, k) =>
      let x := s.slotAt site k
      if x.inst ≠ some uid ∨ x.st ≠ .placed ∨ (s.tileAt site).frozen then .next s
      else
        let w := fieldOf site
        let have_ := x.codeOf == some (i.ctx, i.inc, i.image, i.kern.image)
        let (s1, r1) := if have_ then (s, SysRes.ok []) else s.sysRead w i.ctx i.inc (i.image.toNat + 0x480) i.kern.code
        let (s2, r2) := s1.sysRead w i.ctx i.inc i.args.toNat i.kern.args
        match r1, r2 with
        | .migrating, _ => .next (s1.sendAt (s.time + 2000) 0 (.loadDone uid))
        | .fault f va, _ => .next (s1.faultSlot site k f 2 (BitVec.ofNat 64 (va - va % 64)))
        | .ok _, .migrating => .next (s2.sendAt (s.time + 2000) 0 (.loadDone uid))
        | .ok _, .fault f va => .next (s2.faultSlot site k f 2 (BitVec.ofNat 64 (va - va % 64)))
        | .ok code, .ok args =>
          let holds := if have_ then !(s.imageWritten w i) else decide (code = i.kern.image)
          let s3 := if have_ && holds then s2
            else s2.scratchWrite site k 0 (s.loadedCode i.kern code ++ List.replicate (i.kern.codeSize - i.kern.code) 0)
          let s4 := (s3.scratchWrite site k i.kern.landBase args).installTemplates site k i
          let y := s4.slotAt site k
          let s5 := s4.setSlotAt site k { y with st := .waiting, codeOf := if holds then some (i.ctx, i.inc, i.image, i.kern.image) else none, dirty := y.allBlocks (s4.tileAt site) k }
          .next (s5.templatesDone site k)

/-! ### Entry (R224) -/

/-- The state with which an instance enters RUNNING for the first time. -/
def State.enter (s : State) (site slot : Nat) : State :=
  let x := s.slotAt site slot
  let fw (n : Nat) : Word := s.freeW n
  let g := x.sys.groups.findSome? id
  let (ix, iy, iz) := match s.instOf site slot with | some (_, i) => (i.x, i.y, i.z) | none => (0, 0, 0)
  let f : Files :=
    { a := Vector.ofFn (fun i : Fin 64 => match i.val with
        | 0 => 0 | 1 => BitVec.ofNat 64 ix | 2 => BitVec.ofNat 64 iy | 3 => BitVec.ofNat 64 iz | 4 => x.sys.stepId
        | 5 => BitVec.ofNat 64 x.sys.landBase
        | 6 => match g with | some n => BitVec.ofNat 64 n | none => -1
        | n => fw (1000 + n))
      o := Vector.ofFn (fun i : Fin 8 => fw (1100 + i.val))
      y := Vector.ofFn (fun i : Fin 4 => fw (1110 + i.val))
      v := Vector.ofFn (fun i : Fin 32 => Config.freeVec s.tick (1200 + i.val))
      w := Vector.ofFn (fun i : Fin 8 => Config.freeVec s.tick (1240 + i.val))
      yv := Config.freeVec s.tick 1250
      p := Vector.ofFn (fun i : Fin 8 => decide (i.val = 0) || (fw 1120).getLsbD i.val)
      acc := Vector.ofFn (fun i : Fin 4 => Vector.ofFn (fun j : Fin 32 => Config.freeRow s.tick (1300 + 32 * i.val + j.val)))
      accPoison := Vector.replicate 4 false, h := Vector.ofFn (fun i : Fin 8 => fw (1130 + i.val)), hValid := Vector.replicate 8 false
      kb := Vector.ofFn (fun i : Fin 4 => (Config.freeVec s.tick (1260 + i.val)).truncate 256)
      kbLoaded := Vector.replicate 4 false, kbPoison := Vector.replicate 4 false }
  let s1 := s.setSlotAt site slot { x with f := f, pc := 0, ran := true, latch := 0, lockLost := false, sys := { x.sys with events := 0 } }
  ((List.range 10).filter (fun w => (s.tileAt site).lentTo slot w)).foldl (fun s w => s.tileForget site (0x200000 + 0x10000 * w) 0x10000) s1

/-! ### Parking (R231, R232) -/

/-- Does the condition of a park hold? -/
def Slot.parkHolds (x : Slot) (t : Nat) : ParkCond → Bool
  | .slot n => let u := (x.subAt n).st; u == .landed || u == .failed || u == .idle
  | .wp n v => decide (v ≤ (x.chan n).wp) || (x.chan n).st != .running
  | .any => decide (x.latch.toNat % 8 ≠ 0)
  | .time v => decide (v ≤ t)

/-- Takes issue away from a slot. -/
def State.stopIssue (s : State) (site slot : Nat) : State :=
  let t := s.tileAt site
  if t.issuing = some slot then s.setTileAt site { t with issuing := none } else s

/-- The slot at issue with the channels and the subscription slots that its bundle reads (R49). -/
def State.atIssue (s : State) : Slot :=
  { s.cur with ch := Vector.ofFn (fun i : Fin 16 => s.iss.ch0.getD i.val Chan.idle)
               sub := Vector.ofFn (fun i : Fin 16 => s.iss.sub0.getD i.val SubSlot.idle) }

/-- A YIELD: a NOP where its condition holds, else the instance parks once its bundle has acted (R231, R232). -/
def yieldAct (c : ParkCond) (chk : Option TrapInfo) (s : State) : Act :=
  let x := s.atIssue
  if !x.yld || x.sys.intrap then .trap ⟨.resident, 0, 0⟩
  else match chk with
    | some t => .trap t
    | none =>
      if x.parkHolds s.time c then .ok (match c with | .any => s.setCur { s.cur with latch := 0 } | _ => s)
      else .ok (s.setCur { s.cur with park := some c })

/-- YIELD.slot (R231). -/
def effYieldSlot (f : RRR) (s : State) : Act := yieldAct (.slot (f.b.toNat % 16)) none s
/-- YIELD.wp: CHIDLE for a channel that cannot reach the value (R231, R232). -/
def effYieldWp (f : RRR) (s : State) : Act :=
  let n := f.b.toNat % 16
  let v := (s.readS 32 f.a).toNat
  let c := s.atIssue.chan n
  yieldAct (.wp n v) (if (c.st == .idle || c.st == .ready) && decide (c.wp < v) then some ⟨.chidle, 3, BitVec.ofNat 64 c.wp⟩ else none) s
/-- YIELD.any (R231). -/
def effYieldAny (_ : RRR) (s : State) : Act := yieldAct .any none s
/-- YIELD.time (R231). -/
def effYieldTime (f : RRR) (s : State) : Act := yieldAct (.time (s.readS 32 f.a).toNat) none s

/-- Code of a mark in a park or save record (R232). -/
def markCode (ms : List Mark) (r : Reg) : Nat :=
  match ms.find? (fun m => m.reg == r) with
  | some m => match m.kind with | .remotedown => 2 | .remotetmo => 3 | _ => 1
  | none => 0
/-- Two-bit marks of registers, lowest first. -/
def markBits (ms : List Mark) (rs : List Reg) : Nat := (rs.zip (List.range rs.length)).foldl (fun n (r, i) => n + markCode ms r * 4 ^ i) 0
/-- Marks read back: an address is no longer known (R142). -/
def marksOf (bits : Nat) (rs : List Reg) : List Mark :=
  (rs.zip (List.range rs.length)).filterMap (fun (r, i) => match bits / 4 ^ i % 4 with
    | 1 => some ⟨r, .poisonld, 0⟩ | 2 => some ⟨r, .remotedown, 0⟩ | 3 => some ⟨r, .remotetmo, 0⟩ | _ => none)
def aRegs : List Reg := (List.range 64).map Reg.a
def oRegs : List Reg := (List.range 8).map Reg.o
def vRegs : List Reg := (List.range 32).map Reg.v
def wRegs : List Reg := (List.range 8).map Reg.w

def predBits (f : Files) : Nat := (List.range 8).foldl (fun n i => if f.getP i then n + 2 ^ i else n) 0

/-- The park record (R232). -/
def Slot.parkRecord (x : Slot) : List Byte :=
  let w (n : Nat) : List Byte := wordBytes 8 n
  x.f.v.toList.flatMap (fun v => bytesOf 128 v.toNat) ++ (List.range 64).flatMap (fun i => w (x.f.getA i).toNat) ++
  w (predBits x.f + x.sys.events.toNat * 4096) ++ w x.sys.fpstatus.toNat ++ w x.sys.fptrapen.toNat ++ w x.sys.rngseed.toNat ++
  w x.sys.cycle ++ w x.pc.toNat ++ bytesOf 16 (markBits x.marks aRegs) ++ w (markBits x.marks vRegs) ++ w x.sys.trapbase.toNat ++
  w x.sys.epc.toNat ++ w x.sys.cause.toNat ++ w x.sys.eval.toNat ++ w x.sys.slewhold ++
  w (x.latch.toNat + (if x.lockLost then 256 else 0)) ++ w 0

/-- Is the slot's M work gone from the unit? -/
def State.unitFree (s : State) (site slot : Nat) : Bool := !((s.tileAt site).unit.any (fun o => decide (o.slot = slot)))

/-- May the park record be written: results and multiplies are done (R55, R171)? -/
def State.parkReady (s : State) (site slot : Nat) : Bool :=
  let x := s.slotAt site slot
  x.park.isSome && !x.parkDone && x.st == .running && x.pend.isEmpty && s.unitFree site slot

/-- PARK_COMPLETE: the park record is written and the slot gives up issue (R232). -/
def execParkComplete (site slot : Nat) (s : State) : Host.Outcome State Fault Refusal :=
  if s.parkReady site slot then
    let x := (s.slotAt site slot).drain
    let s1 := (s.setSlotAt site slot { x with st := .parked, parkDone := true }).scratchWrite site slot x.parkAt x.parkRecord
    .next (s1.stopIssue site slot)
  else .next s

/-- PARK_WAKE: the condition of a PARKED instance holds, and it is READY (R225, R231, R232). -/
def execParkWake (site slot : Nat) (s : State) : Host.Outcome State Fault Refusal :=
  let x := s.slotAt site slot
  match x.park with
  | some c =>
    if x.st = .parked ∧ x.parkHolds s.time c then
      .next ((s.setSlotAt site slot { x with park := none, latch := match c with | .any => 0 | _ => x.latch }).becomeReady site slot)
    else .next s
  | none => .next s

/-- A slot with the registers of its park record; what the record does not hold is undefined or cleared (R46, R171, R232). -/
def State.unpark (s : State) (x : Slot) (bs : List Byte) : Slot :=
  let w (off : Nat) : Nat := bytesWord ((bs.drop off).take 8)
  let m := w 0x1200
  { s.forgetY x 1400 with
    parkDone := false, park := none, st := .running
    pc := BitVec.ofNat 64 (w 0x1228)
    marks := marksOf (bytesWord ((bs.drop 0x1230).take 16)) aRegs ++ marksOf (w 0x1240) vRegs
    f := { (s.forgetY x 1400).f with
      v := Vector.ofFn (fun i : Fin 32 => BitVec.ofNat 1024 (bytesWord ((bs.drop (128 * i.val)).take 128)))
      a := Vector.ofFn (fun i : Fin 64 => if i.val = 0 then 0 else BitVec.ofNat 64 (w (0x1000 + 8 * i.val)))
      p := Vector.ofFn (fun i : Fin 8 => decide (i.val = 0) || m.testBit i.val)
      o := Vector.ofFn (fun i : Fin 8 => s.freeW (1420 + i.val))
      w := Vector.ofFn (fun i : Fin 8 => Config.freeVec s.tick (1430 + i.val))
      acc := Vector.ofFn (fun i : Fin 4 => Vector.ofFn (fun j : Fin 32 => Config.freeRow s.tick (1500 + 32 * i.val + j.val)))
      accPoison := Vector.replicate 4 false
      h := Vector.ofFn (fun i : Fin 8 => s.freeW (1440 + i.val)), hValid := Vector.replicate 8 false
      kb := Vector.ofFn (fun i : Fin 4 => (Config.freeVec s.tick (1450 + i.val)).truncate 256)
      kbLoaded := Vector.replicate 4 false, kbPoison := Vector.replicate 4 false }
    sys := { x.sys with
      events := x.sys.events ||| BitVec.ofNat 4 (m / 4096), fpstatus := BitVec.ofNat 64 (w 0x1208), fptrapen := BitVec.ofNat 64 (w 0x1210)
      rngseed := BitVec.ofNat 64 (w 0x1218), cycle := w 0x1220, trapbase := BitVec.ofNat 64 (w 0x1248), epc := BitVec.ofNat 64 (w 0x1250)
      cause := BitVec.ofNat 64 (w 0x1258), eval := BitVec.ofNat 64 (w 0x1260), slewhold := w 0x1268, apr := Vector.replicate 4 0 } }

/-- PARK_RESTORE: a selected instance takes its registers back from its park record (R232). -/
def execParkRestore (site slot : Nat) (s : State) : Host.Outcome State Fault Refusal :=
  let x := s.slotAt site slot
  if x.parkDone ∧ (x.st = .ready ∨ x.st = .running) ∧ (s.tileAt site).issuing = some slot then
    .next (s.setSlotAt site slot (s.unpark x (s.scratchRead site slot x.parkAt 4736 7000)))
  else .next s

/-! ### How an instance ends (R225, R234, R235) -/

/-- Order of the group requests and terminal updates of a slot (R252, R265). -/
def groupChan (site slot ctx g : Nat) : Nat := chanKey 18 ((site * 4 + slot) * 65536 + ctx * 256 + g)

/-- Keeps the CYCLE counts of the last 16 retired instances of a kernel (R287). -/
def estAdd (ctx : Nat) (kern : Word) (c : Nat) : List (Nat × Word × List Nat) → List (Nat × Word × List Nat)
  | [] => [(ctx, kern, [c])]
  | e :: r => if e.1 = ctx ∧ e.2.1 = kern then (ctx, kern, (c :: e.2.2).take 16) :: r else e :: estAdd ctx kern c r

/-- The name of a context event (R315): 1 ACTIVE, 2 KILLED, 3 RECLAIMED, 4 FREED, 5 EVICTED. -/
def ctxEventName (kind c inc : Nat) : Word := BitVec.ofNat 64 (0xF5 * 2 ^ 56 + kind * 2 ^ 52 + c * 2 ^ 44 + inc * 2 ^ 32)

/-- A slot loses its binding (R301): its lent ways become CACHE (R146), and registers of the next binding start afresh. -/
def State.unbind (s : State) (site slot : Nat) : State :=
  let s := s.returnWays site slot
  let x := s.slotAt site slot
  let t := s.tileAt site
  (s.setSlotAt site slot { Slot.empty with serial := x.serial }).setTileAt site { t with tokens := KMap.del t.tokens x.sys.ctxid, pass := KMap.del t.pass x.sys.ctxid }

/-- The result of an EVICT (R323). -/
def EvictOp.result (e : EvictOp) : Nat := e.saved % 2 ^ 16 + e.failed % 2 ^ 16 * 2 ^ 16 + e.blocks % 2 ^ 32 * 2 ^ 32

/-- The slots of a context in the fields of a mask that hold no instance. -/
def State.idleSlots (s : State) (c : Nat) (mask : Word) : List (Nat × Nat) :=
  s.slots.filterMap (fun (key, x) =>
    if mask.getLsbD (fieldOf (key / 4)) && (match x.bound with | some b => decide (b.1 = c) | none => false) && x.inst.isNone &&
        !(s.insts.any (fun e => e.2.place == some (key / 4, key % 4)))
    then some (key / 4, key % 4) else none)

/-- EVICTs that wait for no save any longer end: bindings go where asked, EVICTED is published, and D lands (R315, R323). -/
def State.finishEvicts (s : State) : State :=
  (s.evicts.filter (fun e => e.waiting.isEmpty)).foldl (fun s e =>
    let s1 := { s with evicts := s.evicts.erase e }
    let s2 := if e.unbind then (s1.idleSlots e.ctx e.mask).foldl (fun s p => s.unbind p.1 p.2) s1 else s1
    (s2.publish e.issuer.1 e.issuer.2 (ctxEventName 5 e.ctx (s.ctx e.ctx).inc) 255 [BitVec.ofNat 64 s.time, BitVec.ofNat 64 e.result]).send 0
      (.interlockedResultLand e.who.site e.who.slot e.issuer.1 e.issuer.2 e.who.dst (BitVec.ofNat 1024 e.result) .plain)) s

/-- An instance leaves the lists of those that wait for it: EVICTs and cuts. -/
def State.forgetWaits (s : State) (uid : Nat) : State :=
  { s with evicts := s.evicts.map (fun e => { e with waiting := e.waiting.erase uid })
           groups := s.groups.map (fun (k, g) => (k, { g with saving := g.saving.erase uid })) }

/-- The slot's hold on an instance ends: subscriptions are withdrawn, channels are IDLE (R235, R225). -/
def State.freeSlot (s : State) (site slot : Nat) : State :=
  let s1 := (List.range 16).foldl (fun s n =>
    let u := (s.slotAt site slot).subAt n
    if u.st = .idle then s else s.endSub site slot n (!(u.st == .landed && !u.persist))) s
  let s1 := s1.leaveSlew site slot
  let x := s1.slotAt site slot
  ((s1.setSlotAt site slot { x with
    inst := none, st := .retired, wait := .none, park := none, parkDone := false, held := false, walks := [], mmag := none, infl := [], pend := []
    marks := [], stopReq := none, cancelReq := none, templ := [], ran := false, bg := false, joining := [], leaving := [], bw := none
    wayChange := [], injq := [], fenced := [], waited := 0, after := none, chkp := []
    ch := x.ch.map (fun c => { Chan.idle with unacked := c.unacked, seq := c.seq }), sub := Vector.replicate 16 SubSlot.idle }).stopIssue site slot).clearEcc site slot

/-- An instance that is on no tile ends: its homes are told to drop the records of its moved subscription slots, with what they hold for them
(R227, R255, R259, R286). -/
def State.endMoved (s : State) (uid : Nat) (i : Inst) : State :=
  match i.kept with
  | none => s
  | some x => (List.range 16).foldl (fun s n =>
      let u := x.subAt n
      if u.st == .idle || (u.st == .landed && !u.persist) then s
      else s.send 0 (.withdrawal (s.homeOf i.ctx u.name) .tile
        ⟨i.ctx, i.inc, u.name, movedSite (uid + 1), 0, n, u.persist, u.bytes, 0, u.u, u.waiter, false, none, none, uid + 1⟩)) s

/-- Sends the terminal updates of an instance to its groups (R28, R253): `how` is 0 RETIRED, 1 FAULTED, 2 CANCELLED. -/
def State.terminal (s : State) (site slot ctx inc : Nat) (gs : List (Option Nat)) (how cause : Nat) : State :=
  (groupsOf gs).foldl (fun s g => s.send (groupChan site slot ctx g) (.memberTerminalUpdate ctx inc g how cause)) s

/-- Has every interlocked result of the slot landed, but for that of an IDLE that still waits (R107)? -/
def Slot.settled (x : Slot) : Bool :=
  x.pend.isEmpty || (match x.wait with | .idle _ _ _ => decide (x.pend.length = 1) | _ => false)

/-- How the instance of a slot may end now: cancelled, FAULTED or retired (R225, R234, R343). -/
def State.endReady (s : State) (site slot : Nat) : Option Nat :=
  let x := s.slotAt site slot
  if x.bound.isNone then none
  else if x.cancelReq.isSome then
    (if x.settled && x.injq.isEmpty && x.joining.isEmpty && x.leaving.isEmpty then some 2 else none)
  else if x.st = .faulted then (if x.injq.isEmpty && x.joining.isEmpty && x.leaving.isEmpty && s.unitFree site slot then some 1 else none)
  else if x.wait = .exiting then
    (if x.pend.isEmpty && x.injq.isEmpty && x.joining.isEmpty && x.leaving.isEmpty && s.unitFree site slot && x.wayChange.isEmpty &&
        !(x.ch.toList.any (fun c => c.st == .running)) then some 0 else none)
  else none

/-- RETIRE: the instance of a slot ends (R225, R234, R235). A member cancelled while RUNNING or PARKED publishes a record (R341). -/
def execRetire (site slot : Nat) (s : State) : Host.Outcome State Fault Refusal :=
  match s.endReady site slot with
  | none => .next s
  | some how =>
    let s0 := if how = 2 ∧ (s.slotAt site slot).mmag.isSome then s.stopMmag site slot else s
    let x := (s0.slotAt site slot).drain
    let cause := if how = 1 then x.fatal else if how = 2 then FKind.cause .cancelled 0 else 0
    let s1 := if how = 2 ∧ x.ran then
        (s0.detect site .cancelled).record (x.who slot)
          { kind := .cancelled, origin := 0, eval := BitVec.ofNat 64 (x.cancelReq.getD 0), group := x.cancelReq, addr := (epcOf x.pc).toNat }
      else s0
    let s2 := if how = 0 then { s1 with est := estAdd x.sys.ctxid x.sys.kernId x.sys.cycle s1.est } else s1
    let s3 := match x.inst with
      | some u =>
        let s2 := match s2.inst u with | some i => s2.endMoved u i | none => s2
        { (s2.abandonLoad u).forgetWaits u with insts := KMap.del s2.insts u }
      | none => s2
    let t := s3.tileAt site
    let s4 := s3.setTileAt site { t with unit := t.unit.filter (fun o => decide (o.slot ≠ slot)) }
    .next ((s4.terminal site slot x.sys.ctxid x.sys.incarn x.sys.groups how cause).freeSlot site slot).finishEvicts

/-- A member that is on no tile is CANCELLED by its scheduler (R28, R225). -/
def State.cancelUnplaced (s : State) (uid : Nat) (i : Inst) : State :=
  let s0 := s.endMoved uid i
  let s1 := { (s0.abandonLoad uid).forgetWaits uid with insts := KMap.del s0.insts uid }
  ((groupsOf i.groups).foldl (fun s g =>
    s.send (chanKey 21 (i.ctx * 256 + g)) (.memberTerminalUpdate i.ctx i.inc g 2 (FKind.cause .cancelled 0))) s1).finishEvicts

/-- CANCEL_AT_TILE: the instance ends at its next bundle boundary, unless an EXIT or a fault has come first (R28, R29, R343). One that has left
the tile is cancelled where it is. -/
def execCancelAtTile (uid g : Nat) (s : State) : Host.Outcome State Fault Refusal :=
  match s.inst uid with
  | none => .next s
  | some i =>
    match i.place with
    | none => .next (s.cancelUnplaced uid i)
    | some (site, k) =>
      let x := s.slotAt site k
      if s.stale (agSite site 0) i.ctx i.inc then .next (s.drop i.ctx)
      else if x.inst ≠ some uid then .next (s.send (tileChan site) (.cancelAtTile uid g))
      else
        let ending := x.st == .faulted || x.exits
        .next (if ending || x.cancelReq.isSome then s else (s.abandonLoad uid).setSlotAt site k { x with cancelReq := some g })

/-! ### EXIT (R233) -/

/-- The publication templates of the instance at issue. -/
def State.pubTempls (s : State) : List Templ := match s.instOf s.iss.site s.iss.slot with | some (_, i) => i.kern.pubs | none => []

/-- Enters the templates of an EXIT.pub in the injection queue while it has room (R233). -/
def State.exitEnter (s : State) (site slot : Nat) : State :=
  let x := s.slotAt site slot
  match x.wait with
  | .exitPub (n :: ns) =>
    if x.injq.length < 8 then
      match s.instOf site slot with
      | some (_, i) =>
        match i.kern.pubs.find? (fun t => decide (t.i = n)) with
        | some t =>
          let s1 := (s.setIss { s.iss with site := site, slot := slot }).enqueue
            ⟨t.nameAt i, t.off, t.size, t.linger, none, none, t.rel, 0, 0, [], []⟩ false
          (s1.setSlotAt site slot { s1.slotAt site slot with wait := if ns.isEmpty then .exiting else .exitPub ns }).setIss s.iss
        | none => s.setSlotAt site slot { x with wait := if ns.isEmpty then .exiting else .exitPub ns }
      | none => s.setSlotAt site slot { x with wait := .exiting }
    else s
  | _ => s

/-- The templates of an EXIT.pub enter the injection queue, as many as it has room for (R233). -/
def State.exitTemplates (s : State) (site slot : Nat) : State :=
  match (s.slotAt site slot).wait with
  | .exitPub ns => ns.foldl (fun s _ => s.exitEnter site slot) s
  | _ => s

/-- The check of publication template t: PUB steps 4 and 5 (R209, R233). -/
def State.exitCheck (s : State) (t : Templ) : Option TrapInfo :=
  if t.off % 64 ≠ 0 then some ⟨.spalign, 3, BitVec.ofNat 64 t.i⟩
  else (firstInvalid s.cur s.curTile s.iss.slot t.off t.size).map (fun _ => ⟨.sprange, 3, BitVec.ofNat 64 t.i⟩)

/-- EXIT (R233, R234): what its bundle leaves decides the instance's fate; with PUB its templates enter the injection queue once the other
syllables of the bundle have acted. -/
def effExitS (f : RRR) (s : State) : Act :=
  if f.c.getLsbD 0 then
    let ts := s.pubTempls
    match ts.findSome? (fun t => s.exitCheck t) with
    | some t => .trap t
    | none =>
      .ok (s.setCur { s.cur with wait := if ts.isEmpty then .exiting else .exitPub (ts.map (·.i)) })
  else .ok (s.setCur { s.cur with wait := .exiting })

/-! ### LAUNCH (R230) -/

/-- Order of the records of one slot to one queue (R241). -/
def queueChan (site slot ctx q : Nat) : Nat := chanKey 17 ((site * 4 + slot) * 16384 + ctx * 64 + q)

/-- A record with its check (R239): bytes 0x38 to 0x3F hold RCHK. -/
def recCheck (ctx q : Nat) (r : List Word) : Nat :=
  (checkValue ((r.take 7).flatMap (fun w => wordBytes 8 w.toNat) ++ List.replicate 8 0) (ctx * 256 + q) 0).toNat
def withCheck (ctx q : Nat) (r : List Word) : List Word := r.take 7 ++ [BitVec.ofNat 64 (recCheck ctx q r)]

/-- Sends a record to its queue's scheduler, with REL after the release part for paths C and S (R230, R249). -/
def State.sendRecord (s : State) (q : Nat) (rel : Bool) (r : List Word) (src : RecSrc) : State :=
  let c := s.cur.sys.ctxid
  let s1 := if rel then s.beginRelease .system else s
  s1.sendRel (queueChan s.iss.site s.iss.slot c q) (.recordAppend c s.cur.sys.incarn q (withCheck c q r) src) (s.relWait rel true)

/-- LAUNCH (R230). -/
def effLaunch (f : RRR) (s : State) : Act :=
  let d := dstS f.d
  let none_ : Word := -1
  let rec_ : List Word := [s.readS 32 f.a, s.readS 24 f.b, s.readS 16 f.c, none_, none_, none_, s.readS 40 f.d]
  let s1 := s.setCur (s.cur.await d)
  .ok (s1.sendRecord (f.t.toNat % 64) (f.t.getLsbD 6) rec_ (.launch s.iss.site s.iss.slot d))

/-! The instructions: each acts as its effect says where its guard holds (R33). -/

/-- EXIT. -/
def execExitS (h : Hdr) (f : RRR) (s : State) : Host.Outcome State Fault Refusal := asStep h (effExitS f) s
/-- YIELD_SLOT. -/
def execYieldSlot (h : Hdr) (f : RRR) (s : State) : Host.Outcome State Fault Refusal := asStep h (effYieldSlot f) s
/-- YIELD_WP. -/
def execYieldWp (h : Hdr) (f : RRR) (s : State) : Host.Outcome State Fault Refusal := asStep h (effYieldWp f) s
/-- YIELD_ANY. -/
def execYieldAny (h : Hdr) (f : RRR) (s : State) : Host.Outcome State Fault Refusal := asStep h (effYieldAny f) s
/-- YIELD_TIME. -/
def execYieldTime (h : Hdr) (f : RRR) (s : State) : Host.Outcome State Fault Refusal := asStep h (effYieldTime f) s
/-- LAUNCH. -/
def execLaunch (h : Hdr) (f : RRR) (s : State) : Host.Outcome State Fault Refusal := asStep h (effLaunch f) s

end Sys2Proof.Machine
end

