-- ==== Sys2Proof/Machine/Queue.lean ====
section
/-! DEFINITION. Queues (10_queue R236 to R251): appending, gates, expansion, events, QPOST and QCTL. -/

namespace Sys2Proof.Machine

/-! ### The queue at its scheduler (R236, R237, R251) -/

/-- Compute field of the scheduler of queue q, and of group g, of context c (R236, R252). -/
def schedOf (c q : Nat) : Nat := (c + q) % 64
def State.queue (s : State) (c q : Nat) : Queue := KMap.getD s.queues (64 * c + q) Queue.reset
def State.setQueue (s : State) (c q : Nat) (x : Queue) : State := { s with queues := KMap.set s.queues (64 * c + q) x }

/-- The status word (R251). -/
def Queue.status (x : Queue) (refused : Bool) : Nat :=
  x.cseq * 2 ^ 42 + x.recs.length * 2 ^ 25 + (if refused then 2 ^ 18 else 0) +
  (if (match x.gates with | some (_ :: _) => true | _ => false) then 2 ^ 17 else 0) + (if x.fixed then 2 ^ 16 else 0) + x.lvl * 2 ^ 12 +
  x.lg * 2 ^ 5 + x.st.ctorIdx

/-- A queue event (R245): 1 DRAINED, 2 CLOSED, 3 EXPANDED, 4 DISCARDED. -/
def State.queueEvent (s : State) (ctx inc q kind seq n cause : Nat) : State :=
  let x := s.queue ctx q
  s.publish ctx inc (BitVec.ofNat 64 (0xF4 * 2 ^ 56 + kind * 2 ^ 52 + q * 2 ^ 46 + x.cseq * 2 ^ 24 + seq % 2 ^ 24)) 255
    [BitVec.ofNat 64 (x.status false), BitVec.ofNat 64 seq, BitVec.ofNat 64 n, BitVec.ofNat 64 cause]

/-! ### Gates (R240) -/

def noGate : Word := -1
/-- The gates of a record. -/
def gatesOf (r : List Word) : List Word := ((r.drop 3).take 3).filter (fun g => g != noGate)

/-- The subscription of a gate as its home sees it: it carries CSEQ and the sequence of the record that waits, which the notice brings back. -/
def gateMsg (ctx inc q i cseq seq : Nat) (name : Word) : SubMsg :=
  ⟨ctx, inc, name, 6144 + schedOf ctx q, q, i, false, 64, 0, true, false, false, some seq, some cseq, 0⟩

/-- A record becomes the head of an OPEN or DRAINING queue: its gates are subscribed to (R240). -/
def State.headUp (s : State) (ctx inc q : Nat) : State :=
  let x := s.queue ctx q
  match x.recs with
  | [] => s
  | (seq, r) :: _ =>
    if x.gates.isSome ∨ (x.st ≠ .open_ ∧ x.st ≠ .draining) then s
    else
      let gs := gatesOf r
      (gs.zip (List.range gs.length)).foldl (fun s (g, i) => s.send (homeChan 0 (6144 + schedOf ctx q) ctx g)
          (.subAtHome (gateMsg ctx inc q i x.cseq seq g)))
        (s.setQueue ctx q { x with gates := some gs })

/-- Ends the subscriptions of gates (R237, R240). -/
def State.dropGates (s : State) (ctx inc q : Nat) (gs : List Word) : State :=
  (List.range 3).foldl (fun s i => gs.foldl (fun s g =>
    s.send (homeChan 0 (6144 + schedOf ctx q) ctx g) (.withdrawal (s.homeOf ctx g) .tile (gateMsg ctx inc q i 0 0 g))) s) s

/-- GATE_SATISFIED: a copy of the gate's name has been shown to the queue, for the record that is its head still (R240). -/
def execGateSatisfied (ctx inc : Nat) (r : HeadRef) (name : Word) (s : State) : Host.Outcome State Fault Refusal :=
  if s.stale (agSched (schedOf ctx r.q)) ctx inc then .next (s.drop ctx)
  else
    let x := s.queue ctx r.q
    if x.cseq ≠ r.cseq ∨ (x.recs.head?.map (·.1)) ≠ some r.seq then .next s
    else match x.gates with
    | some gs => .next ((s.setQueue ctx r.q { x with gates := some (gs.filter (fun g => g != name)) }).dropGates ctx inc r.q [name])
    | none => .next s

/-! ### Append (R241, R242) -/

/-- The kind with which a record is discarded at append (R241); of several, CHECKMISS before RSVFIELD before NAMESPACE, which R241 does not order
(DESIGN CHOICE, log 52). -/
def recordBad (ctx q : Nat) (r : List Word) : Option FKind :=
  let d (i : Nat) : Word := r.getD i 0
  if (d 7).extractLsb' 0 32 ≠ BitVec.ofNat 32 (recCheck ctx q r) then some .checkmiss
  else if (d 1).extractLsb' 54 10 ≠ 0 ∨ (d 7).extractLsb' 32 32 ≠ 0 ∨ ((d 1).getLsbD 52 ∧ 11 < ((d 1).extractLsb' 48 4).toNat) then some .rsvfield
  else if (gatesOf r).any (fun g => decide (0xF6 ≤ spaceOf g)) then some .nameSpace
  else none

/-- Answers the source of a record: the cause of a refusal or 0, and for QPOST the sequence (R230, R242, R249). -/
def State.recordReply (s : State) (ctx inc : Nat) (src : RecSrc) (refused : Option FKind) (seq : Nat) : State :=
  let cause := match refused with | some k => FKind.cause k 0 | none => 0
  match src with
  | .launch site slot dst => s.send 0 (.interlockedResultLand site slot ctx inc dst (BitVec.ofNat 1024 cause) .plain)
  | .qpost site slot dst =>
    s.send 0 (.interlockedResultLand site slot ctx inc dst (BitVec.ofNat 1024 (cause + (if refused.isSome then 0 else seq * 2 ^ 32))) .plain)
  | .host _ off => match refused with
    | some k => s.record ⟨ctx, inc, none⟩ { kind := k, origin := 0, eval := BitVec.ofNat 64 off }
    | none => s

/-- Discards a record: its fault record and its DISCARDED event (R241, R245). -/
def State.discardRecord (s : State) (ctx inc q seq : Nat) (k : FKind) (origin : Nat) (eval : Word) : State :=
  (s.record ⟨ctx, inc, none⟩ { kind := k, origin := origin, eval := eval }).queueEvent ctx inc q 4 seq 0 (FKind.cause k origin)

/-- RECORD_APPEND (R237, R241). A record that is discarded takes a sequence too, which its event and its fault record name. -/
def execRecordAppend (ctx inc q : Nat) (rec_ : List Word) (src : RecSrc) (s : State) : Host.Outcome State Fault Refusal :=
  let f := schedOf ctx q
  if s.stale (agSched f) ctx inc then .next (s.drop ctx)
  else
    let x := s.queue ctx q
    if x.st ≠ .open_ then .next (s.recordReply ctx inc src (some .qclosed) 0)
    else if 2 ^ x.lg ≤ x.recs.length then .next (s.recordReply ctx inc src (some .qfull) 0)
    else
      let seq := x.next
      let x1 := { x with next := (seq + 1) % 2 ^ 32 }
      match recordBad ctx q rec_ with
      | some k =>
        .next (((s.setQueue ctx q x1).discardRecord ctx inc q seq k 0 (BitVec.ofNat 64 seq)).recordReply ctx inc src none seq)
      | none =>
        let (s1, r) := s.sysWrite f ctx inc (x.base + 64 * (seq % 2 ^ x.lg)) (rec_.flatMap (fun w => wordBytes 8 w.toNat))
        match r with
        | .migrating => .next (s1.retry (match src with
            | .launch site slot _ => queueChan site slot ctx q | .qpost site slot _ => queueChan site slot ctx q
            | .host port _ => chanKey 20 port) (.recordAppend ctx inc q rec_ src))
        | .fault k _ =>
          .next (((s1.setQueue ctx q x1).discardRecord ctx inc q seq k 2 (BitVec.ofNat 64 seq)).recordReply ctx inc src none seq)
        | .ok _ =>
          .next (((s1.setQueue ctx q { x1 with recs := x.recs ++ [(seq, rec_)] }).recordReply ctx inc src none seq).headUp ctx inc q)

/-- The status word that a host reads in the append window; any other read there gives 0 (R242). -/
def State.windowRead (s : State) (off n : Nat) : List Byte :=
  if n = 8 ∧ off % 64 = 0 then wordBytes 8 ((s.queue (off / 4096 % 256) (off / 64 % 64)).status false) else List.replicate n 0

/-- HOST_APPEND_WRITE: a write in the append window through a PCIe port, whose records are appended in its order (R241, R242, R383). -/
def execHostAppendWrite (w : WindowAt) (bytes : List Byte) (s : State) : Host.Outcome State Fault Refusal :=
  let ctx := w.off / 4096 % 256
  let inc := (s.ctx ctx).inc
  if !(s.hostOk w.port) then .next s
  else if bytes.length = 64 ∧ w.off % 64 = 0 then
    .next (s.send (chanKey 20 w.port) (.recordAppend ctx inc (w.off / 64 % 64) ((dwords bytes).map (BitVec.ofNat 64)) (.host w.port w.off)))
  else .next (s.record ⟨ctx, inc, none⟩ { kind := .rsvfield, origin := 0, eval := BitVec.ofNat 64 w.off })

/-! ### Memberships (R253) -/

/-- Memberships reserved and not yet joined. -/
def Group.reservedSum (g : Group) : Nat := g.reserved.foldl (fun n e => n + e.2) 0
/-- n memberships more, which start a use of an IDLE group (R253). -/
def Group.join (g : Group) (n : Nat) : Group :=
  if g.st = .idle then { g with st := .active, live := n, ret := 0, fau := 0, can := 0, first := 0, waits := 0 } else { g with live := g.live + n }

/-- MEMBERSHIP_RESERVE: a group's scheduler reserves n memberships for the head of a queue, or refuses them; the
answer goes to the queue (R253). -/
def execMembershipReserve (o : CtxInc) (r : HeadRef) (g n : Nat) (s : State) : Host.Outcome State Fault Refusal :=
  let x := s.queue o.ctx r.q
  if s.stale (agSched (schedOf o.ctx g)) o.ctx o.inc then .next (s.drop o.ctx)
  else if !(x.asked.contains g) ∨ x.cseq ≠ r.cseq ∨ (x.recs.head?.map (·.1)) ≠ some r.seq then .next s
  else
    let e := s.group o.ctx g
    if e.live + e.reservedSum + n ≤ 16777215 then
      .next ((s.setGroup o.ctx g { e with reserved := KMap.set e.reserved r.q n }).setQueue o.ctx r.q
        { x with asked := x.asked.erase g, granted := x.granted ++ [g] })
    else .next (s.setQueue o.ctx r.q { x with asked := x.asked.erase g, refused := some g })

/-- Releases the memberships reserved for a queue. -/
def State.releaseReserved (s : State) (ctx q : Nat) : State :=
  (s.queue ctx q).granted.foldl (fun s g => s.setGroup ctx g { s.group ctx g with reserved := KMap.del (s.group ctx g).reserved q }) s

/-! ### Expansion (R220, R243, R244) -/

/-- Extents less one, and the memberships that a record gives (R220). -/
def recNx (r : List Word) : Nat := ((r.getD 1 0).extractLsb' 0 16).toNat
def recNy (r : List Word) : Nat := ((r.getD 1 0).extractLsb' 16 16).toNat
def recNz (r : List Word) : Nat := ((r.getD 1 0).extractLsb' 32 16).toNat
def recGroups (k : Kern) (r : List Word) : List (Option Nat) :=
  (List.range 4).map (fun i =>
    let v := ((r.getD 6 0).extractLsb' (8 * i + 32) 8).toNat
    if v = 0xFF then k.groups.getD i none else some v)

/-- PRIO.BASE of a record's instances (R244). -/
def recLevel (k : Kern) (x : Queue) (r : List Word) (priv : Bool) : Nat :=
  let l := if (r.getD 1 0).getLsbD 52 then ((r.getD 1 0).extractLsb' 48 4).toNat else if x.fixed then x.lvl else k.prio
  if 10 ≤ l ∧ !priv then 9 else l

/-- The head record leaves the queue; a DRAINING queue that is empty then closes (R237). -/
def State.popHead (s : State) (ctx q : Nat) : State :=
  let x := s.queue ctx q
  let rest := x.recs.drop 1
  let x1 := { x with recs := rest, gates := none, kern := none, asked := [], granted := [], refused := none }
  s.setQueue ctx q (if x.st = .draining ∧ rest.isEmpty then { x1 with st := .closed } else x1)

/-- The head record has been handled: the next one is the head, then `ev` publishes what became of the record, with the status after it, and a
DRAINING queue that is empty publishes DRAINED (R237, R243, R245). -/
def State.afterHead (s : State) (ctx inc q : Nat) (ev : State → State) : State :=
  let was := (s.queue ctx q).st
  let s1 := s.popHead ctx q
  if was = .draining ∧ (s1.queue ctx q).st = .closed then (ev s1).queueEvent ctx inc q 1 0 0 0 else ev (s1.headUp ctx inc q)

/-- Discards the head record at expansion (R216, R243, R253). -/
def State.discardHead (s : State) (ctx inc q seq : Nat) (k : FKind) (origin : Nat) (eval : Word) : State :=
  (s.releaseReserved ctx q).afterHead ctx inc q (fun s => s.discardRecord ctx inc q seq k origin eval)

/-- The instances of a record, linear index by linear index (R220). -/
def instsOf (proto : Inst) (nx ny : Nat) (uid0 : Nat) : Nat → List (Nat × Inst)
  | 0 => []
  | n + 1 => instsOf proto nx ny uid0 n ++ [(uid0 + n, { proto with idx := n, x := n % nx, y := n / nx % ny, z := n / nx / ny })]

/-- Creates the instances of the head record and joins them to their groups at once (R28, R220, R253, R259). While another instance of the image is
live, the image counts as it was checked for that one (R223). -/
def State.createInsts (s : State) (ctx inc q seq : Nat) (k : Kern) (r : List Word) : State :=
  let x := s.queue ctx q
  let n := (recNx r + 1) * (recNy r + 1) * (recNz r + 1)
  let gs := recGroups k r
  let dead := (groupsOf gs).any (fun g => (s.group ctx g).cancelling)
  let k := match s.insts.find? (fun e => decide (e.2.ctx = ctx ∧ e.2.inc = inc ∧ e.2.image = r.getD 0 0) && !(s.ended e.1 e.2)) with
    | some e => { k with image := e.2.kern.image }
    | none => k
  let s1 := (groupsOf gs).foldl (fun s g =>
    let e := s.group ctx g
    s.setGroup ctx g { e.join n with reserved := KMap.del e.reserved q }) s
  let proto : Inst :=
    { ctx := ctx, inc := inc, q := q, image := r.getD 0 0, kern := k, idx := 0, x := 0, y := 0, z := 0,
      step := ((r.getD 6 0).extractLsb' 0 32).toNat, groups := gs, base := recLevel k x r (s.ctx ctx).priv, args := r.getD 2 0, st := .defined,
      place := none, from_ := none, rec_ := none, kept := none, cut := none }
  let s2 := if dead then
      (List.range n).foldl (fun s _ => (groupsOf gs).foldl (fun s g =>
        s.send (chanKey 21 (ctx * 256 + g)) (.memberTerminalUpdate ctx inc g 2 (FKind.cause .cancelled 0))) s) s1
    else { s1 with insts := s1.insts ++ instsOf proto (recNx r + 1) (recNy r + 1) s1.nextUid n, nextUid := s1.nextUid + n }
  s2.afterHead ctx inc q (fun s => if (r.getD 1 0).getLsbD 53 then s.queueEvent ctx inc q 3 seq n 0 else s)

/-- Can the head record of a queue be handled: its gates are satisfied, its reservations answered, and no group of it is CUTTING or CUT (R240,
R253, R260)? -/
def State.expandReady (s : State) (ctx q : Nat) : Bool :=
  let x := s.queue ctx q
  (x.st == .open_ || x.st == .draining) && x.gates == some [] && decide (x.hold ≤ s.time) && x.asked.isEmpty &&
  (match x.recs, x.kern with
   | [], _ => false
   | (_, r) :: _, some k => x.refused.isSome || !((groupsOf (recGroups k r)).any (fun g => (s.group ctx g).st == .cutting || (s.group ctx g).st == .cut))
   | _, none => true)

/-- RECORD_EXPAND: the image is checked, the memberships are reserved, and the instances are created, or the record is discarded (R216, R243,
R253). -/
def execRecordExpand (ctx q : Nat) (s : State) : Host.Outcome State Fault Refusal :=
  let x := s.queue ctx q
  let inc := (s.ctx ctx).inc
  if !(s.expandReady ctx q) then .next s
  else match x.recs, x.kern with
    | [], _ => .next s
    | (seq, r) :: _, some k =>
      match x.refused with
      | some g => .next (s.discardHead ctx inc q seq .groupmax 0 (BitVec.ofNat 64 (g + seq * 2 ^ 32)))
      | none => .next (s.createInsts ctx inc q seq k r)
    | (seq, r) :: _, none =>
      let (s1, res) := s.checkImage (schedOf ctx q) ctx inc (r.getD 0 0) (recNx r) (recNy r) (recNz r)
      match res with
      | .migrating => .next (s1.setQueue ctx q { x with hold := s.time + 2000 })
      | .bad k o e => .next (s1.discardHead ctx inc q seq k o (BitVec.ofNat 64 e))
      | .ok k =>
        let gs := groupsOf (recGroups k r)
        if gs.isEmpty then .next (s1.createInsts ctx inc q seq k r)
        else .next (gs.foldl (fun s g => s.send (chanKey 21 (ctx * 256 + g))
            (.membershipReserve ⟨ctx, inc⟩ ⟨q, x.cseq, seq⟩ g ((recNx r + 1) * (recNy r + 1) * (recNz r + 1)))) (s1.setQueue ctx q { x with kern := some k, asked := gs }))

/-! ### QCTL at the scheduler (R237, R250) -/

/-- Discards every pending record of a queue that closes, with its CLOSED event (R237, R245). -/
def State.closeQueue (s : State) (ctx inc q : Nat) : State :=
  let x := s.queue ctx q
  let s1 := (s.releaseReserved ctx q).dropGates ctx inc q (x.gates.getD [])
  let s2 := s1.setQueue ctx q { x with st := .closed, recs := [], gates := none, kern := none, asked := [], granted := [], refused := none }
  s2.queueEvent ctx inc q 2 0 x.recs.length 0

/-- One event of a queue (R237): the state after it, and whether it was refused. -/
def State.queueOp (s : State) (ctx inc q : Nat) (op : QOp) : State × Bool :=
  let x := s.queue ctx q
  match op with
  | .create ring lg lvl fixed =>
    if x.st = .none ∨ x.st = .closed then
      (s.setQueue ctx q { Queue.reset with st := .open_, base := ring, lg := lg, lvl := lvl, fixed := fixed, cseq := (x.cseq + 1) % 2 ^ 22 }, false)
    else (s, true)
  | .drain => match x.st with
    | .none | .closed => (s, true)
    | .open_ => if x.recs.isEmpty then ((s.setQueue ctx q { x with st := .closed }).queueEvent ctx inc q 1 0 0 0, false)
                else (s.setQueue ctx q { x with st := .draining }, false)
    | .draining => (s, false)
  | .close => match x.st with
    | .none => (s, true)
    | .closed => (s, false)
    | _ => (s.closeQueue ctx inc q, false)
  | .level lvl fixed => match x.st with
    | .none | .closed => (s, true)
    | _ => (s.setQueue ctx q { x with lvl := lvl, fixed := fixed }, false)
  | .query => (s, false)

/-- QUEUE_OPERATION_AT_SCHEDULER (R237, R250). -/
def execQueueOperationAtScheduler (ctx inc q : Nat) (op : QOp) (who : Asker) (s : State) : Host.Outcome State Fault Refusal :=
  if s.stale (agSched (schedOf ctx q)) ctx inc then .next (s.drop ctx)
  else
    let (s1, refused) := s.queueOp ctx inc q op
    .next (s1.send 0 (.interlockedResultLand who.site who.slot ctx inc who.dst (BitVec.ofNat 1024 ((s1.queue ctx q).status refused)) .plain))

/-! ### Syllables (R249, R250) -/

def cTrap (k : FKind) (v : Word) : Act := .trap ⟨k, 0, v⟩

/-- QPOST (R249). -/
def effQpost (f : RRR) (s : State) : Act :=
  let p := (s.readS 32 f.a).toNat
  match s.scratchFault s.iss.site s.iss.slot p 64 64 0 true with
  | some t => .trap t
  | none =>
    let r := (dwords (s.curBytes p 64)).map (BitVec.ofNat 64)
    let d1 := r.getD 1 0
    if d1.extractLsb' 54 10 ≠ 0 ∨ (d1.getLsbD 52 ∧ 11 < (d1.extractLsb' 48 4).toNat) then cTrap .rsvfield d1
    else match (gatesOf r).find? (fun g => decide (0xF6 ≤ spaceOf g)) with
      | some g => cTrap .nameSpace g
      | none =>
        let d := dstS f.d
        .ok ((s.setCur (s.cur.await d)).sendRecord (f.t.toNat % 64) (f.t.getLsbD 6) r (.qpost s.iss.site s.iss.slot d))

/-- A QCTL goes to its queue's scheduler (R250). -/
def qctlAct (f : RRR) (op : QOp) (s : State) : Act :=
  let d := dstS f.d
  let c := s.cur.sys.ctxid
  let q := f.t.toNat % 64
  .ok ((s.setCur (s.cur.await d)).send (queueChan s.iss.site s.iss.slot c q)
    (.queueOperationAtScheduler c s.cur.sys.incarn q op ⟨s.iss.site, s.iss.slot, d⟩))

/-- A level of 10 or 11 needs privilege; the spec states no EVAL (R250, R266, log 23). -/
def privLevel (lvl : Nat) (s : State) (k : Act) : Act := if 10 ≤ lvl ∧ !s.cur.sys.privc then cTrap .priv (s.freeW 600) else k

/-- QCTL.create (R250). -/
def effQctlCreate (f : RRR) (s : State) : Act :=
  let a := s.readS 32 f.a
  let b := s.readS 24 f.b
  let lg := b.toNat % 32
  let lvl := (b.extractLsb' 8 4).toNat
  if a.toNat % 4096 ≠ 0 ∨ 2 ^ 56 ≤ a.toNat then cTrap .rsvfield a
  else if lg < 4 ∨ 16 < lg ∨ 11 < lvl ∨ b &&& 0xFFFFFFFFFFFFE0E0 ≠ 0 then cTrap .rsvfield b
  else privLevel lvl s (qctlAct f (.create a.toNat lg lvl (b.getLsbD 12)) s)
/-- QCTL.drain (R250). -/
def effQctlDrain (f : RRR) (s : State) : Act := qctlAct f .drain s
/-- QCTL.close (R250). -/
def effQctlClose (f : RRR) (s : State) : Act := qctlAct f .close s
/-- QCTL.level (R250). -/
def effQctlLevel (f : RRR) (s : State) : Act :=
  let a := s.readS 32 f.a
  if 11 < a.toNat % 16 ∨ 32 ≤ a.toNat then cTrap .rsvfield a
  else privLevel (a.toNat % 16) s (qctlAct f (.level (a.toNat % 16) (a.getLsbD 4)) s)
/-- QCTL.query (R250). -/
def effQctlQuery (f : RRR) (s : State) : Act := qctlAct f .query s

/-! The instructions: each acts as its effect says where its guard holds (R33). -/

/-- QPOST. -/
def execQpost (h : Hdr) (f : RRR) (s : State) : Host.Outcome State Fault Refusal := asStep h (effQpost f) s
/-- QCTL_CREATE. -/
def execQctlCreate (h : Hdr) (f : RRR) (s : State) : Host.Outcome State Fault Refusal := asStep h (effQctlCreate f) s
/-- QCTL_DRAIN. -/
def execQctlDrain (h : Hdr) (f : RRR) (s : State) : Host.Outcome State Fault Refusal := asStep h (effQctlDrain f) s
/-- QCTL_CLOSE. -/
def execQctlClose (h : Hdr) (f : RRR) (s : State) : Host.Outcome State Fault Refusal := asStep h (effQctlClose f) s
/-- QCTL_LEVEL. -/
def execQctlLevel (h : Hdr) (f : RRR) (s : State) : Host.Outcome State Fault Refusal := asStep h (effQctlLevel f) s
/-- QCTL_QUERY. -/
def execQctlQuery (h : Hdr) (f : RRR) (s : State) : Host.Outcome State Fault Refusal := asStep h (effQctlQuery f) s

end Sys2Proof.Machine
end

