-- ==== Sys2Proof/Machine/Group.lean ====
section
/-! DEFINITION. Groups (11_group R252 to R267): membership, completion, cancel, levels and caps, the cut-marker snapshot and its restore, and the
reinstall of a moved subscription (09_kernel R227). -/

namespace Sys2Proof.Machine

/-! ### Status, events, completion (R254 to R256) -/

/-- The status word (R256). -/
def Group.status (x : Group) (refused already : Bool) (midx : Nat) : Nat :=
  x.use * 2 ^ 48 + x.st.ctorIdx * 2 ^ 46 + (if x.cancelling then 2 ^ 45 else 0) + (if refused then 2 ^ 44 else 0) + midx * 2 ^ 42 +
  (if already then 2 ^ 41 else 0) + x.live

/-- The name of a group event (R255): 1 COMPLETE, 2 CUT. -/
def groupName (kind g use : Nat) : Word := BitVec.ofNat 64 (0xF1 * 2 ^ 56 + kind * 2 ^ 52 + g * 2 ^ 44 + use * 2 ^ 28)

/-- Members of a group that have not reached a terminal state, by number. -/
def State.members (s : State) (c g : Nat) : List (Nat × Inst) :=
  s.insts.filter (fun e => decide (e.2.ctx = c) && (groupsOf e.2.groups).contains g && !(s.ended e.1 e.2))

/-- Publishes the CUT event (R262). -/
def State.cutEvent (s : State) (ctx inc g n : Nat) : State :=
  let e := s.group ctx g
  s.publish ctx inc (groupName 2 g e.use) 255
    [BitVec.ofNat 64 n, BitVec.ofNat 64 e.records, BitVec.ofNat 64 e.used, BitVec.ofNat 64 e.left]

/-- The header of a cut area (R262). -/
def cutHeader (n records used g use : Nat) : List Byte :=
  wordBytes 8 n ++ wordBytes 8 records ++ wordBytes 8 used ++ wordBytes 8 (g + use * 2 ^ 16) ++ List.replicate 32 0

/-- A slot whose mark has gone and whose instance has left the group (R265) is shown what its home has kept from m on (R261, R263). -/
def State.showKept (s : State) (k : CutMark) (h : HomeName) : State :=
  match h.subs.find? (fun r => decide (r.uid = k.uid ∧ r.sub = k.sub) && !r.moving) with
  | none => s
  | some r =>
    if r.persist then s.serveNext h.ctx h.inc h.name r
    else
      let late (e : HeldEnt) : Bool := e.of r.site r.slot r.sub && (match e.seq with | some q => decide (q = k.at_) || seqAfter q k.at_ | none => false)
      match h.held.find? late with
      | none => s
      | some e =>
        let s1 := s.setHome { h with held := h.held.erase e }
        match h.copies.find? (fun c => e.seq == some c.seq) with
        | some c => s1.serve h.ctx h.inc h.name r c
        | none => s1.serveHeld h r e

/-- Takes the marks of a group's cut off every name of the context (R259, R263). The slots of its members are shown what has been kept for them when
they are installed again, those of instances that have left the group now. -/
def State.clearMarks (s : State) (ctx g : Nat) : State :=
  let us := (s.members ctx g).map (fun e => e.1 + 1)
  let gone := s.homes.flatMap (fun (_, h) =>
    if h.ctx = ctx then (h.marks.filter (fun k => decide (k.g = g) && !(us.contains k.uid))).map (fun k => (h.inc, h.name, k)) else [])
  let s1 := { s with homes := s.homes.map (fun (k, h) => (k, if h.ctx = ctx then { h with marks := h.marks.filter (fun m => decide (m.g ≠ g)) } else h)) }
  gone.foldl (fun s (inc, name, k) => s.showKept k (s.homeName ctx inc name)) s1

/-- COMPLETE is published with a system pin for each waiter, the governor is told, and USE advances (R254, R255, R282); the marks of a cut that ends
with no members are removed (R263). -/
def State.finishGroup (s : State) (ctx inc g : Nat) : State :=
  let e := s.group ctx g
  let s2 := s.publish ctx inc (groupName 1 g e.use) 255
    [BitVec.ofNat 64 e.ret, BitVec.ofNat 64 e.fau, BitVec.ofNat 64 e.can, BitVec.ofNat 64 e.first] e.waits
  let s3 := (s2.clearMarks ctx g).send (chanKey 22 0) (.completionNotice ctx inc g s.time)
  s3.setGroup ctx g { e with st := .idle, cancelling := false, use := (e.use + 1) % 65536, marks := 0, saving := [], writes := 0, ordered := false,
                             sent := false, cancelLater := false, leftAt := [], cutList := [] }

/-- A group whose LIVE is 0 completes: in CUTTING the cut ends first, with no members, once its header is written, for which a page that migrates is
awaited (R254, R262). -/
def State.completeGroup (s : State) (ctx inc g : Nat) : State :=
  let e := s.group ctx g
  if e.st = .cutting then
    match s.sysWrite (schedOf ctx g) ctx inc e.base (cutHeader 0 0 64 g e.use) with
    | (s1, .migrating) => s1.setGroup ctx g { s1.group ctx g with hold := s1.time + 2000 }
    | (s1, _) => ((s1.setGroup ctx g { s1.group ctx g with records := 0, used := 64, left := 0 }).cutEvent ctx inc g 0).finishGroup ctx inc g
  else s.finishGroup ctx inc g

/-- Completes the group if its last member has gone. -/
def State.checkLive (s : State) (ctx inc g : Nat) : State :=
  let e := s.group ctx g
  if e.live = 0 ∧ e.st ≠ .idle then s.completeGroup ctx inc g else s

/-- MEMBER_TERMINAL_UPDATE (R29, R253, R254): `how` is 0 RETIRED, 1 FAULTED, 2 CANCELLED. -/
def execMemberTerminalUpdate (ctx inc g how cause : Nat) (s : State) : Host.Outcome State Fault Refusal :=
  if s.stale (agSched (schedOf ctx g)) ctx inc then .next (s.drop ctx)
  else
    let e := s.group ctx g
    let c32 (n : Nat) : Nat := (n + 1) % 2 ^ 32
    let e1 := match how with
      | 0 => { e with ret := c32 e.ret }
      | 1 => { e with fau := c32 e.fau, first := if e.fau = 0 then cause else e.first }
      | _ => { e with can := c32 e.can }
    .next ((s.setGroup ctx g { e1 with live := e.live - 1 }).checkLive ctx inc g)

/-! ### Cancel and level (R258, R259) -/

/-- Applies R28 to every member of a group that is cancelled. -/
def State.cancelMembers (s : State) (ctx g : Nat) : State :=
  (s.members ctx g).foldl (fun s (u, i) =>
    match i.place with
    | some (site, _) => s.send (tileChan site) (.cancelAtTile u g)
    | none => s.cancelUnplaced u i) s


/-- Cancel of a group (R259). -/
def State.cancelGroup (s : State) (ctx g : Nat) : State :=
  let e := s.group ctx g
  match e.st with
  | .idle => s
  | .cutting => s.setGroup ctx g { e with cancelLater := true }
  | .cut => ((s.clearMarks ctx g).setGroup ctx g { e with cancelling := true }).cancelMembers ctx g
  | .active => (s.setGroup ctx g { e with cancelling := true }).cancelMembers ctx g

/-- Sets PRIO.BASE of every member (R258). -/
def State.setLevel (s : State) (ctx g lvl : Nat) : State :=
  (s.members ctx g).foldl (fun s (u, i) =>
    let s1 := s.setInst u { i with base := lvl }
    match i.place with
    | some (site, k) =>
      let x := s1.slotAt site k
      if x.inst = some u then s1.setSlotAt site k { x with sys := { x.sys with prioBase := lvl } } else s1
    | none => s1) s

/-- Changes a membership of the instance that asked, as its scheduler keeps it. -/
def State.setMember (s : State) (who : Asker) (idx : Nat) (g : Option Nat) : State :=
  match s.instOf who.site who.slot with
  | some (u, i) => s.setInst u { i with groups := i.groups.set idx g }
  | none => s

/-! ### The cut (R260 to R262) -/

/-- The smallest area that a cut of n members takes (R260). -/
def cutNeed (n : Nat) : Nat := roundUp (0x40 + 16 * n) 64

/-- Does a member belong to another group that is CUTTING or CUT (R260)? -/
def State.cutElsewhere (s : State) (ctx g : Nat) : Bool :=
  (s.members ctx g).any (fun e => (groupsOf e.2.groups).any (fun h => decide (h ≠ g) &&
    ((s.group ctx h).st == .cutting || (s.group ctx h).st == .cut)))

/-- A cut is accepted: the marks of the placed members' slots go to their homes (R260). -/
def State.startCut (s : State) (ctx inc g base size : Nat) : State :=
  let placed := (s.members ctx g).filterMap (fun (u, i) => i.place.map (fun p => (u, p)))
  let marks := placed.flatMap (fun (u, p) =>
    let x := s.slotAt p.1 p.2
    if x.inst = some u then ((List.range 16).filter (fun n => (x.subAt n).st != .idle)).map (fun n => (u, n, (x.subAt n).name)) else [])
  let e := s.group ctx g
  let s1 := s.setGroup ctx g { e with st := .cutting, base := base, size := size, marks := marks.length, saving := placed.map (·.1), writes := 0,
                                      records := 0, used := 0, written := [], left := 0, leftAt := [], cutList := [], ordered := false, sent := false }
  let s2 := marks.foldl (fun s (u, n, name) => s.send (chanKey 23 (ctx * 256 + g)) (.cutMarkAtHome ⟨ctx, inc⟩ ⟨g, e.use⟩ name u n)) s1
  if marks.isEmpty then s2.send (chanKey 23 (ctx * 256 + g)) (.cutMarksConfirmed ⟨ctx, inc⟩ ⟨g, e.use⟩) else s2

/-- CUT_MARK_AT_HOME: the home splits its order for the slot at the next sequence (R260, R261). A mark of a cut that has ended is of another USE. -/
def execCutMarkAtHome (o : CtxInc) (c : CutRef) (name : Word) (uid sub : Nat) (s : State) : Host.Outcome State Fault Refusal :=
  let e := s.group o.ctx c.g
  if s.staleHome o.ctx o.inc name then .next (s.drop o.ctx)
  else if e.st ≠ .cutting ∨ e.use ≠ c.use ∨ e.marks = 0 then .next s
  else
    let h := s.homeName o.ctx o.inc name
    let s1 := if s.failedRicks.contains (s.homeOf o.ctx name) then s else s.setHome { h with marks := h.marks ++ [⟨uid + 1, sub, h.next, c.g⟩] }
    let s2 := s1.setGroup o.ctx c.g { e with marks := e.marks - 1 }
    .next (if e.marks = 1 then s2.send (chanKey 23 (o.ctx * 256 + c.g)) (.cutMarksConfirmed o c) else s2)

/-- CUT_MARKS_CONFIRMED: every home has confirmed; the members are ordered to save (R260). -/
def execCutMarksConfirmed (o : CtxInc) (c : CutRef) (s : State) : Host.Outcome State Fault Refusal :=
  let e := s.group o.ctx c.g
  if s.stale (agSched (schedOf o.ctx c.g)) o.ctx o.inc then .next (s.drop o.ctx)
  else if e.st ≠ .cutting ∨ e.use ≠ c.use ∨ e.ordered ∨ e.marks ≠ 0 then .next s
  else .next (e.saving.foldl (fun s u => match (s.inst u).bind (·.place) with
      | some (site, _) => s.send (tileChan site) (.saveOrderAtTile u .cut)
      | none => s) (s.setGroup o.ctx c.g { e with ordered := true }))

/-- Members of a cut, in ascending INSTIDX (R262). -/
def State.cutMembers (s : State) (ctx g : Nat) : List (Nat × Inst) :=
  (s.members ctx g).mergeSort (fun a b => decide (a.2.idx ≤ b.2.idx))

/-- A copy that a marked slot had not landed (R262): its sequence, its segments in the rick and in the overflow area, and the home's copy where the
record stands for one. -/
structure ChanRec where
  seq : Nat
  segs : List Seg
  spilled : List Spilled
  copy : Option Copy
  deriving DecidableEq, Repr

/-- Poisoned granules of a payload, by their number in it. -/
def poisonOf (segs : List Seg) : List Nat := segs.flatMap (fun g => g.poison.map (fun j => 64 * g.idx + j))

/-- Leaves a record at the home, as a held entry of the slot, which takes a descriptor (R193, R262). -/
def State.leaveRecord (s : State) (ctx g uid sub : Nat) (h : HomeName) (r : SubRec) (c : ChanRec) : State :=
  let s1 := match c.copy with
    | some d =>
      let s0 := (s.roomFor (s.homeOf ctx h.name) 0 1).1
      s0.setHome ((s0.homeName ctx h.inc h.name).holdFor r d)
    | none => s
  let e := s1.group ctx g
  s1.setGroup ctx g { e with left := e.left + 1, leftAt := e.leftAt ++ [(uid, sub, c.seq)] }

/-- A record has been written: the home keeps nothing more of it for the slot (R262). -/
def State.dropRecord (s : State) (ctx : Nat) (h : HomeName) (r : SubRec) (seq : Nat) : State :=
  let h1 := s.homeName ctx h.inc h.name
  let gone (d : HeldEnt) : Bool := d.of r.site r.slot r.sub && d.seq == some seq
  (s.setHome { h1 with
    held := h1.held.filter (fun d => !(gone d))
    copies := h1.copies.map (fun d => if d.seq = seq then { d with awaited := d.awaited.filter (fun a => a != r.place) } else d) }).endHeld
      ctx h.inc h.name (h1.held.filter gone)

/-- Writes one record of a marked slot into the cut area, or leaves it at the home (R262); none while a page migrates. -/
def State.cutRecord (s : State) (ctx g uid sub : Nat) (h : HomeName) (r : SubRec) (c : ChanRec) : Option State :=
  let e := s.group ctx g
  let walker := s.homeWalker ctx h.name
  match s.readAll ctx h.inc walker c.spilled c.segs with
  | (_, none) => none
  | (s0, some segs) =>
    let bs := (inOrder segs).flatMap (·.bytes)
    let n := 64 + bs.length
    if e.size * 4096 < e.used + n then some (s0.leaveRecord ctx g uid sub h r c)
    else
      let num := (e.cutList.findIdx? (fun m => decide (m.1 = uid))).getD 0
      let hdr := wordBytes 8 num ++ wordBytes 8 h.name.toNat ++ wordBytes 8 (c.seq + sub * 2 ^ 32 + bs.length * 2 ^ 36) ++ List.replicate 40 (0 : Byte)
      let bad (va : Nat) : Bool := (poisonOf segs).any (fun j => decide (va / 64 = (e.base + e.used + 64) / 64 + j))
      match s0.sysWrite walker ctx h.inc (e.base + e.used) (hdr ++ bs) bad with
      | (_, .migrating) => none
      | (s1, .fault _ _) => some (s1.leaveRecord ctx g uid sub h r c)
      | (s1, .ok _) =>
        some ((s1.dropRecord ctx h r c.seq).setGroup ctx g
          { e with used := e.used + n, records := e.records + 1, written := e.written ++ [(e.used, hdr)] })

/-- A diverted copy that its home no longer has in its order has no sequence left to it, and takes a free one (log 46). -/
def HomeName.nameOwn (h : HomeName) (r : SubRec) (seq : Nat) : HomeName :=
  { h with held := h.held.map (fun e => if e.of r.site r.slot r.sub && e.own && e.seq.isNone then { e with seq := some seq } else e) }

/-- The channel state of a marked slot at its home, in ascending sequence, without what has been left at the home (R262): diverted copies, and the
copies below m that the slot has not landed. -/
def HomeName.channelState (h : HomeName) (r : SubRec) (m : Nat) (last : Option Nat) (left : List Nat) : List ChanRec :=
  let own := (h.held.filter (fun e => e.of r.site r.slot r.sub && e.isRecord)).map (fun e => (⟨e.seq.getD 0, e.segs, e.spilled, none⟩ : ChanRec))
  let below := (h.copies.filter (fun (c : Copy) => seqAfter m c.seq && c.awaited.contains r.place &&
    (match last with | some q => !r.persist || seqAfter c.seq q | none => true) && !(own.any (fun e => decide (e.seq = c.seq))))).map
      (fun c => (⟨c.seq, c.segs, c.spilled, some c⟩ : ChanRec))
  ((own ++ below).filter (fun e => !(left.contains e.seq))).mergeSort (fun a b => !(seqAfter a.seq b.seq))

/-- Writes the records of a slot one after the other; false while one has to wait: for a page that migrates, or for a copy that has not arrived whole
(R262, R335). -/
def State.cutRecords (s : State) (ctx g uid sub : Nat) (h : HomeName) (r : SubRec) : List ChanRec → State × Bool
  | [] => (s, true)
  | c :: cs =>
    if (match c.copy with | some d => !d.complete | none => false) then (s, false)
    else match s.cutRecord ctx g uid sub h r c with
      | some s1 => State.cutRecords s1 ctx g uid sub h r cs
      | none => (s, false)

/-- CUT_RECORD_WRITE: a home writes the channel state of one marked slot into the cut area (R262): the copies below m that the slot had not landed
when its instance saved. -/
def execCutRecordWrite (o : CtxInc) (c : CutRef) (name : Word) (uid sub : Nat) (s : State) : Host.Outcome State Fault Refusal :=
  let g := c.g
  let e := s.group o.ctx g
  if s.staleHome o.ctx o.inc name then .next (s.drop o.ctx)
  else if e.st ≠ .cutting ∨ e.use ≠ c.use ∨ e.writes = 0 then .next s
  else
    let h := s.homeName o.ctx o.inc name
    let (s1, done) := match h.marks.find? (fun k => decide (k.uid = uid + 1 ∧ k.sub = sub ∧ k.g = g)), h.subs.find? (fun (r : SubRec) => decide (r.uid = uid + 1 ∧ r.sub = sub)) with
      | some k, some r =>
        let last := ((s.inst uid).bind (·.kept)).bind (fun x => (x.subAt sub).lastAck)
        let h1 := h.nameOwn r ((s.freeW 521).toNat % 2 ^ 32)
        let left := e.leftAt.filterMap (fun (l : Nat × Nat × Nat) => if l.1 = uid ∧ l.2.1 = sub then some l.2.2 else none)
        (s.setHome h1).cutRecords o.ctx g uid sub h1 r (h1.channelState r k.at_ last left)
      | _, _ => (s, true)
    .next (if done then s1.setGroup o.ctx g { s1.group o.ctx g with writes := (s1.group o.ctx g).writes - 1 }
      else s1.retry (chanKey 24 (o.ctx * 256 + g)) (.cutRecordWrite o c name uid sub))

/-- The doublewords of the member entry of a saved or of a DEFINED member (R262). -/
def memberEntry (i : Inst) : Nat × Nat :=
  match i.st, i.rec_ with
  | .defined, _ => (2 ^ 64 - 1, i.idx + 2 ^ 32)
  | _, some (h, _) => (h, i.idx)
  | _, none => (2 ^ 64 - 1, i.idx)
/-- The header and the member entries of a cut (R262). -/
def Group.cutBytes (e : Group) (g : Nat) : List Byte :=
  cutHeader e.cutList.length e.records e.used g e.use ++ e.cutList.flatMap (fun m => wordBytes 8 m.2.1 ++ wordBytes 8 m.2.2)

/-- Can the cut of a group go on: its members have saved, its records are written, or its last member has gone? -/
def State.cutReady (s : State) (ctx g : Nat) : Bool :=
  let e := s.group ctx g
  e.st == .cutting && decide (e.hold ≤ s.time) && (decide (e.live = 0) || (e.ordered && e.saving.isEmpty && (!e.sent || decide (e.writes = 0))))

/-- The slots whose channel state the homes are to write: those of the members that have been saved, by the cut's order or by one that came before it,
but for one-shot slots that have landed (R262). A slot that has no mark has nothing to write. -/
def State.cutSlots (s : State) (ctx g : Nat) : List (Nat × Nat × Word) :=
  (s.members ctx g).flatMap (fun (u, i) => match i.kept with
    | some x => ((List.range 16).filter (fun n =>
        (x.subAt n).st != .idle && (!((x.subAt n).st == .landed) || (x.subAt n).persist))).map (fun n => (u, n, (x.subAt n).name))
    | none => [])

/-- CUT_COMPLETE: once every member has saved, the homes are told to write their records; once these are written, the scheduler writes the header
and the member entries, and publishes the CUT event (R260, R262). A cancel that came meanwhile is applied then (R259). The scheduler acts in the
incarnation that it holds (R30). -/
def execCutComplete (ctx g : Nat) (s : State) : Host.Outcome State Fault Refusal :=
  let e := s.group ctx g
  let inc := s.incAt (agSched (schedOf ctx g)) ctx
  if !(s.cutReady ctx g) then .next s
  else if e.live = 0 then .next (s.completeGroup ctx inc g)
  else if !e.sent then
    let slots := s.cutSlots ctx g
    let ms := s.cutMembers ctx g
    .next (slots.foldl (fun s (u, n, name) => s.send (chanKey 24 (ctx * 256 + g)) (.cutRecordWrite ⟨ctx, inc⟩ ⟨g, e.use⟩ name u n))
      (s.setGroup ctx g { e with sent := true, writes := slots.length, used := cutNeed ms.length, cutList := ms.map (fun m => (m.1, memberEntry m.2)) }))
  else
    let bytes := e.cutBytes g
    match s.sysWrite (schedOf ctx g) ctx inc e.base bytes with
    | (s1, .migrating) => .next (s1.setGroup ctx g { e with hold := s1.time + 2000 })
    | (s1, _) =>
      let s2 := (s1.setGroup ctx g { e with st := .cut, written := e.written ++ [(0, bytes)] }).cutEvent ctx inc g e.cutList.length
      .next (if e.cancelLater then (s2.setGroup ctx g { s2.group ctx g with cancelLater := false }).cancelGroup ctx g else s2)

/-! ### Restore of a cut (R263) -/

/-- One record of a cut area as the restore finds it: it becomes a held entry of the slot's subscriber at the home, if the member is still there. -/
def State.restoreRecord (s : State) (ctx inc : Nat) (us : List Nat) (d0 d1 d2 : Nat) (bs : List Byte) (bad : List Nat) : State :=
  match us[d0]? with
  | none => s
  | some u =>
    let name := BitVec.ofNat 64 d1
    let seq := d2 % 2 ^ 32
    let sub := d2 / 2 ^ 32 % 16
    let h := s.homeName ctx inc name
    match h.subs.find? (fun r => decide (r.uid = u + 1 ∧ r.sub = sub)) with
    | none => s
    | some r =>
      let segs := (segsFrom ctx inc name ⟨6200, 0, s.tick⟩ 0 bs).map (fun g =>
        { g with tags := [], seq := some seq, poison := bad.filterMap (fun j => if j / 64 = g.idx then some (j % 64) else none) })
      s.setHome { h with held := h.held ++ [⟨r.site, r.slot, r.sub, some seq, [], segs, [], [], false, s.tick⟩] }

/-- Reads the records of a cut area, from offset `off` on, n of them; none while a page migrates. -/
def State.restoreGo (s : State) (ctx inc walker base : Nat) (us : List Nat) : Nat → Nat → Option State
  | 0, _ => some s
  | n + 1, off =>
    match s.sysRead walker ctx inc (base + off) 64 with
    | (_, .migrating) => none
    | (s1, .fault _ _) => some s1
    | (s1, .ok hdr) =>
      let ds := dwords hdr
      let size := ds.getD 2 0 / 2 ^ 36 % 2 ^ 19
      match s1.readBackGo ctx inc walker (base + off + 64) (List.range (size / 64)) [] [] with
      | (_, none) => none
      | (s2, some (bs, bad)) =>
        State.restoreGo (s2.restoreRecord ctx inc us (ds.getD 0 0) (ds.getD 1 0) (ds.getD 2 0) bs bad) ctx inc walker base us n (off + 64 + size)

/-- Are bytes of the cut area as the cut wrote them? None while a page migrates. -/
def State.areaIntact (s : State) (ctx inc walker base : Nat) : List (Nat × List Byte) → State × Option Bool
  | [] => (s, some true)
  | w :: ws =>
    match s.sysRead walker ctx inc (base + w.1) w.2.length with
    | (s1, .migrating) => (s1, none)
    | (s1, .fault _ _) => (s1, some false)
    | (s1, .ok bs) => if bs = w.2 then State.areaIntact s1 ctx inc walker base ws else (s1, some false)
/-- Are the header, the member entries and the record headers as the cut left them (R263)? -/
def State.cutIntact (s : State) (ctx inc g base size : Nat) : State × Option Bool :=
  let e := s.group ctx g
  if base = e.base ∧ size = e.size then s.areaIntact ctx inc (schedOf ctx g) base e.written else (s, some false)

/-- What the marked slots of a group are shown where the program has changed a header or an entry (R263): each is given any number of payloads of
free sizes and bytes, or none. -/
def State.restoreFree (s : State) (ctx inc g : Nat) : State :=
  let e := s.group ctx g
  let us := e.cutList.map (·.1)
  us.zipIdx.foldl (fun s (m, num) =>
    (List.range 16).foldl (fun (s : State) n =>
      match ((s.inst m).bind (·.kept)).map (fun x => x.subAt n) with
      | some u =>
        let key := 16 * m + n
        let count := if u.st = .idle then 0 else Config.pick s.tick (2000 + key) % (e.size * 64 + 1)
        (List.range count).foldl (fun s j =>
          let size := 64 * (1 + Config.pick s.tick (2 ^ 24 * (key + 1) + j) % (e.size * 64))
          s.restoreRecord ctx inc us num u.name.toNat ((2 ^ 32 - count + j) % 2 ^ 32 + n * 2 ^ 32 + size * 2 ^ 36)
            ((List.range size).map (fun i => Config.freeByte s.tick (2 ^ 48 * (key + 1) + 2 ^ 24 * j + i))) []) s
      | none => s) s) s

/-- A restore is accepted: the area is read as it stands, the marks are removed, and the members return to placement (R263). The records stand
before the entries that the home has held. None while a page migrates. -/
def State.restoreGroup (s : State) (ctx inc g base size : Nat) : Option State :=
  let e := s.group ctx g
  let s1 : Option State := match s.cutIntact ctx inc g base size with
    | (s0, some true) => s0.restoreGo ctx inc (schedOf ctx g) base (e.cutList.map (·.1)) e.records (cutNeed e.cutList.length)
    | (s0, some false) => some (s0.restoreFree ctx inc g)
    | (_, none) => none
  s1.map (fun (s1 : State) =>
    let s2 := s1.clearMarks ctx g
    let s3 := s2.setGroup ctx g { e with st := .active, marks := 0, ordered := false, sent := false, leftAt := [], cutList := [] }
    { s3 with insts := s3.insts.map (fun (u, i) => (u, if i.cut = some g ∧ i.ctx = ctx then { i with cut := none } else i)) })

/-! ### Requests (R253, R257, R259, R265, R266, R267) -/

/-- Order of the replies of a group to a slot. -/
def replyChan (site slot ctx g : Nat) : Nat := chanKey 27 ((site * 4 + slot) * 65536 + ctx * 256 + g)
/-- Sends the status word to who asked. -/
def State.groupReply (s : State) (ctx inc g : Nat) (who : Asker) (refused : Bool) (midx : Nat) (then_ : Reply) : State :=
  s.send (replyChan who.site who.slot ctx g) (.interlockedResultLand who.site who.slot ctx inc who.dst (BitVec.ofNat 1024 ((s.group ctx g).status refused false midx)) then_)

/-- GROUP_REQUEST_AT_SCHEDULER. The GLEAVE of a membership whose GJOIN the group has refused changes nothing and is refused too: the spec does not say
(DESIGN CHOICE, log 46). -/
def execGroupRequestAtScheduler (ctx inc g : Nat) (op : GOp) (who : Asker) (midx : Nat) (s : State) : Host.Outcome State Fault Refusal :=
  if s.stale (agSched (schedOf ctx g)) ctx inc then .next (s.drop ctx)
  else
    let e := s.group ctx g
    match op with
    | .join =>
      if 16777215 < e.live + e.reservedSum + 1 ∨ e.cancelling ∨ e.st = .cutting ∨ e.st = .cut then
        .next (s.groupReply ctx inc g who true midx (.joined midx g))
      else .next (((s.setGroup ctx g (e.join 1)).setMember who midx (some g)).groupReply ctx inc g who false midx (.joined midx g))
    | .leave =>
      if (match s.instOf who.site who.slot with | some (_, i) => i.groups.getD midx none == some g | none => false) then
        let saving := match s.instOf who.site who.slot with | some (u, _) => e.saving.erase u | none => e.saving
        .next ((((s.setGroup ctx g { e with live := e.live - 1, saving := saving }).setMember who midx none).checkLive ctx inc g).groupReply ctx inc g who false midx (.left g))
      else .next (s.groupReply ctx inc g who true midx (.left g))
    | .cancel => .next ((s.cancelGroup ctx g).groupReply ctx inc g who false 0 .plain)
    | .prio lvl => .next ((s.setLevel ctx g lvl).groupReply ctx inc g who false 0 .plain)
    | .cap c => .next ((s.setGroup ctx g { e with cap := c }).groupReply ctx inc g who false 0 .plain)
    | .cut base size =>
      if e.st ≠ .active ∨ s.cutElsewhere ctx g ∨ size * 4096 < cutNeed e.live then .next (s.groupReply ctx inc g who true 0 .plain)
      else .next ((s.startCut ctx inc g base size).groupReply ctx inc g who false 0 .plain)
    | .restore base size =>
      if e.st ≠ .cut then .next (s.groupReply ctx inc g who true 0 .plain)
      else match s.restoreGroup ctx inc g base size with
        | none => .next (s.retry (groupChan who.site who.slot ctx g) (.groupRequestAtScheduler ctx inc g (.restore base size) who midx))
        | some s1 => .next (s1.groupReply ctx inc g who false 0 .plain)
    | .query => .next (s.groupReply ctx inc g who false 0 .plain)
    | .wait sub land =>
      if e.st = .idle then .next (s.groupReply ctx inc g who false 0 (.gwait g sub land e.use false))
      else .next ((s.setGroup ctx g { e with waits := (e.waits + 1) % 65536 }).groupReply ctx inc g who false 0 (.gwait g sub land e.use true))
    | .unwait use =>
      if e.use = use ∧ e.st ≠ .idle then .next (s.setGroup ctx g { e with waits := e.waits - 1 })
      else .next (s.send 0 (.pinReleaseMessage ctx inc (groupName 1 g use)))

/-! ### Reinstall after a move (R227) -/

/-- The instance of a slot whose reinstall finds nothing: placed afresh where its kernel is pure, else FAULTED with EVICTFAIL. Nothing happens to an
instance that has left the slot since, or that ends (R234, R343). -/
def State.moveFailed (s : State) (m : SubMsg) : State :=
  let x := s.slotAt m.site m.slot
  match s.instOf m.site m.slot with
  | some (u, i) =>
    if m.uid ≠ u + 1 ∨ x.exits ∨ x.st = .faulted ∨ x.cancelReq.isSome then s
    else if i.kern.pure then
      (s.freeSlot m.site m.slot).setInst u { i with st := .defined, place := none, from_ := none, rec_ := none, kept := none }
    else s.faultSlot m.site m.slot .evictfail 0 m.name
  | none => s

/-- What a home first answers to the reinstall of a one-shot slot (R227, R263): an entry that it has held for it, the copy of sequence q, one that
still awaits the slot, or a later current copy. -/
inductive Again where
  | held (e : HeldEnt)
  | copy (c : Copy)
  | nothing
def HomeName.again (h : HomeName) (m : SubMsg) : Again :=
  match (h.held.filter (fun e => e.of m.site m.slot m.sub && !e.lost)).mergeSort (fun a b => !(seqAfter (a.seq.getD 0) (b.seq.getD 0))) with
  | e :: _ =>
    (match (if e.own then none else e.seq.bind (fun (q : Nat) => h.copies.find? (fun (c : Copy) => decide (c.seq = q)))) with
     | some c => .copy c
     | none => .held e)
  | [] =>
    let awaited := h.copies.find? (fun (c : Copy) => c.awaited.contains (m.site, m.slot, m.sub))
    let later (q : Nat) : Option Copy := h.current.bind (fun c => if seqAfter c.seq q then some c else none)
    match (match m.q with
      | some q => ((h.copies.find? (fun (c : Copy) => decide (c.seq = q))).orElse (fun _ => later q))
      | none => awaited) with
    | some c => .copy c
    | none => .nothing

/-- REINSTALL_AT_HOME: the subscriber's record, its held entries and the copies that await it move to the new place; the home then answers with
what it has kept for it, with the copy of sequence q, or with a later current copy (R227, R263). The slot of a member of a group that is CUTTING is
marked on arrival (R261). A subscription that is new to the home waits for a descriptor (R204). A reinstall can arrive before the moving withdrawal,
or before the subscription itself; the record then expects it. -/
def execReinstallAtHome (m : SubMsg) (s : State) : Host.Outcome State Fault Refusal :=
  if s.staleHome m.ctx m.inc m.name then .next (s.drop m.ctx)
  else if s.failedRicks.contains (s.homeOf m.ctx m.name) then .next (s.send 0 (.standInReply (.sub m)))
  else
    let old := (s.homeName m.ctx m.inc m.name).subs.find? (fun (r : SubRec) => decide (r.uid = m.uid ∧ r.sub = m.sub ∧ 0 < m.uid))
    let (sr, room) := if old.isSome then (s, .rick) else s.roomFor (s.homeOf m.ctx m.name) 0 1
    if !room.ok then .next (sr.retry (homeChan 0 m.site m.ctx m.name) (.reinstallAtHome m))
    else
      let h := sr.homeName m.ctx m.inc m.name
      let ready := match old with | some o => o.ready | none => false
      let early := match old with | some o => if o.moving then o.early else o.early + 1 | none => 1
      let r : SubRec := ⟨m.site, m.slot, m.sub, m.persist, m.u, m.waiter, if m.persist then m.lastAck else none,
        ready || !(m.persist && m.q.isSome && m.q == m.lastAck), false, m.uid, (0, 0), early⟩
      let h0 := match old with | some o => h.replace o r | none => { h with subs := h.subs ++ [r] }
      let h1 := { (match m.persist, m.lastAck with | true, some q => h0.ack m.site m.slot m.sub (some q) | _, _ => h0) with
        marks := h0.marks ++ sr.lateMark m h0 }
      let s1 := ((sr.reportDelivered m.ctx m.inc m.name (h0.newlyDelivered h1)).setHome h1).send 0 (.installNotice m false)
      if m.persist then .next (s1.serveNext m.ctx m.inc m.name r)
      else match h1.again m with
        | .held e =>
          let s2 := if e.isRecord || !e.spilled.isEmpty then s1 else s1.setHome { h1 with held := h1.held.erase e }
          .next (s2.serveHeld h1 r e)
        | .copy c =>
          let h2 := { h1 with held := h1.held.filter (fun e => !(e.of m.site m.slot m.sub && e.seq == some c.seq && !e.own)) }
          let c1 := if c.awaited.contains (m.site, m.slot, m.sub) then c else { c with awaited := c.awaited ++ [(m.site, m.slot, m.sub)] }
          let s2 := s1.setHome (h2.putCopy c1)
          .next (if c1.complete then s2.serve m.ctx m.inc m.name r c1
            else s2.setHome { h2.putCopy c1 with subs := h2.subs.map (fun (q : SubRec) => if q.is m.site m.slot m.sub then { q with u := true } else q) })
        | .nothing =>
          .next (if m.q.isNone then s1
            else if ((s.ctx m.ctx).backs (spaceOf m.name)).isSome then s1.fallThrough m.ctx m.inc m.name
            else s1.moveFailed m)

/-! ### Syllables (R264 to R267) -/

/-- Group index, and the slot's request to it. -/
def gIdx (f : RRR) (s : State) : Nat := (s.readS 32 f.a).toNat % 256
def State.askGroup (s : State) (f : RRR) (op : GOp) (midx : Nat) : State :=
  let d := dstS f.d
  let c := s.cur.sys.ctxid
  (s.setCur (s.cur.await d)).send (groupChan s.iss.site s.iss.slot c (gIdx f s))
    (.groupRequestAtScheduler c s.cur.sys.incarn (gIdx f s) op ⟨s.iss.site, s.iss.slot, d⟩ midx)

/-- read(A)[63:8] must be 0 (R264). -/
def gCheck (f : RRR) (s : State) (k : Act) : Act :=
  if 256 ≤ (s.readS 32 f.a).toNat then cTrap .rsvfield (s.readS 32 f.a) else k

/-- Memberships of the slot, with those asked for by a GJOIN on its way: index and group (R265). -/
def Slot.holds (x : Slot) (g : Nat) : Option Nat :=
  match (List.range 4).find? (fun i => x.sys.groups.getD i none == some g) with
  | some i => some i
  | none => (x.joining.find? (fun n => decide (n % 256 = g))).map (· / 256)
/-- The lowest membership index that is neither valid nor asked for. -/
def Slot.freeMember (x : Slot) : Option Nat :=
  (List.range 4).find? (fun i => (x.sys.groups.getD i none).isNone && !(x.joining.any (fun n => decide (n / 256 = i))))

/-- GJOIN (R265): a group that the instance already holds is reported, its status word from the group's scheduler. -/
def effGjoin (f : RRR) (s : State) : Act :=
  gCheck f s (
    let g := gIdx f s
    let x := s.cur
    match x.holds g with
    | some i =>
      let e := s.group x.sys.ctxid g
      .ok (s.selfReply (dstS f.d) (BitVec.ofNat 1024 (e.status false true i)) .plain)
    | none => match x.freeMember with
      | none => cTrap .groupmax (BitVec.ofNat 64 g)
      | some i => .ok ((s.setCur { x with joining := x.joining ++ [i * 256 + g] }).askGroup f .join i))

/-- GLEAVE (R265). A membership whose GLEAVE is on its way no longer counts for a second one. -/
def effGleave (f : RRR) (s : State) : Act :=
  gCheck f s (
    let g := gIdx f s
    let x := s.cur
    match x.holds g with
    | some i => if x.leaving.contains (i * 256 + g) then cTrap .groupfree (BitVec.ofNat 64 g)
                else .ok ((s.setCur { x with leaving := x.leaving ++ [i * 256 + g] }).askGroup f .leave i)
    | none => cTrap .groupfree (BitVec.ofNat 64 g))

/-- GCTL.cancel (R259, R266). -/
def effGctlCancel (f : RRR) (s : State) : Act := gCheck f s (.ok (s.askGroup f .cancel 0))
/-- GCTL.prio (R258, R266). -/
def effGctlPrio (f : RRR) (s : State) : Act :=
  let b := s.readS 24 f.b
  gCheck f s (if 11 < b.toNat then cTrap .rsvfield b else privLevel b.toNat s (.ok (s.askGroup f (.prio b.toNat) 0)))
/-- GCTL.cap (R257, R266). -/
def effGctlCap (f : RRR) (s : State) : Act :=
  let b := s.readS 24 f.b
  gCheck f s (if 2 ^ 24 ≤ b.toNat then cTrap .rsvfield b else .ok (s.askGroup f (.cap b.toNat) 0))
/-- The operands of cut and restore (R266). -/
def cutOperands (f : RRR) (s : State) (op : Nat → Nat → GOp) : Act :=
  let a := s.readS 32 f.a
  let b := s.readS 24 f.b
  let size := (a.extractLsb' 24 24).toNat
  if a &&& 0xFFFF000000FFFF00 ≠ 0 ∨ size = 0 then cTrap .rsvfield a
  else if b.toNat % 4096 ≠ 0 ∨ 2 ^ 56 ≤ b.toNat then cTrap .rsvfield b
  else .ok (s.askGroup f (op b.toNat size) 0)
/-- GCTL.cut (R260, R266). -/
def effGctlCut (f : RRR) (s : State) : Act := cutOperands f s .cut
/-- GCTL.restore (R263, R266). -/
def effGctlRestore (f : RRR) (s : State) : Act := cutOperands f s .restore
/-- GCTL.query (R256, R266). -/
def effGctlQuery (f : RRR) (s : State) : Act := gCheck f s (.ok (s.askGroup f .query 0))

/-- SUB steps 2, 4 and 5 with 64 landing bytes, then SUBFULL (R208, R267, R276), by the subscription slots as the bundle finds them (R49). -/
def State.landCheck (s : State) (n a : Nat) : Option TrapInfo :=
  let x := s.atIssue
  let t (k : FKind) (v : Nat) : Option TrapInfo := some ⟨k, 3, BitVec.ofNat 64 v⟩
  if a % 64 ≠ 0 then t .spalign a
  else match (match firstInvalid x s.curTile s.iss.slot a 64 with
      | some b => some b
      | none => if 0x200000 < a + 64 then some (max a 0x200000) else none) with
    | some b => t .sprange b
    | none =>
      if a < x.codeSize then t .codewrite a
      else if (x.subAt n).st != .idle || (x.subAt n).reserved then t .subfull n else none

/-- GWAIT: the slot is reserved until the reply has been applied (R267). -/
def effGwait (f : RRR) (s : State) : Act :=
  gCheck f s (
    let n := f.c.toNat % 16
    let a := s.readS 24 f.b
    match s.landCheck n a.toNat with
    | some t => .trap t
    | none => .ok ((s.setCur (s.cur.setSub n { s.cur.subAt n with reserved := true })).askGroup f (.wait n a) 0))

/-- A waiter subscribes a slot, one-shot, to a name of 64 bytes (R267, R276). A SUB of the same bundle that has taken the slot is ended first
(DESIGN CHOICE, log 57). -/
def State.subscribeWaiter (s : State) (site slot n : Nat) (name land : Word) : State :=
  let u := (s.slotAt site slot).subAt n
  let s := if u.st == .idle then s else s.endSub site slot n (!(u.st == .landed && !u.persist))
  let x := s.slotAt site slot
  let u : SubSlot := { SubSlot.idle with st := .armed, name := name, land := land.toNat, bytes := 64, waiter := true }
  let s1 := s.setSlotAt site slot (x.setSub n u)
  s1.sendPort site x.sys.ctxid (linkChan 0 site .tile x.sys.ctxid name) (.subAtRouter site .tile ((s1.slotAt site slot).subMsg site slot n))

/-- Does another slot of the instance hold a name? -/
def Slot.nameHeld (x : Slot) (n : Nat) (name : Word) : Bool :=
  (List.range 16).any (fun m => decide (m ≠ n) && (x.subAt m).st != .idle && (x.subAt m).name == name)

/-- What the landing of a GWAIT reply does beside D (R267): the word that D receives, and the state. -/
def State.gwaitLand (s : State) (site slot g sub : Nat) (land : Word) (use : Nat) (registered : Bool) (val : VReg) : State × VReg :=
  let x := s.slotAt site slot
  let s0 := s.setSlotAt site slot (x.setSub sub { x.subAt sub with reserved := false })
  if !registered then (s0, val)
  else if x.nameHeld sub (groupName 1 g use) then
    (s0.send (groupChan site slot x.sys.ctxid g) (.groupRequestAtScheduler x.sys.ctxid x.sys.incarn g (.unwait use) ⟨site, slot, .dead⟩ 0),
     val ||| BitVec.ofNat 1024 (2 ^ 44))
  else (s0.subscribeWaiter site slot sub (groupName 1 g use) land, val)

/-! The instructions: each acts as its effect says where its guard holds (R33). -/

/-- GJOIN. -/
def execGjoin (h : Hdr) (f : RRR) (s : State) : Host.Outcome State Fault Refusal := asStep h (effGjoin f) s
/-- GLEAVE. -/
def execGleave (h : Hdr) (f : RRR) (s : State) : Host.Outcome State Fault Refusal := asStep h (effGleave f) s
/-- GCTL_CANCEL. -/
def execGctlCancel (h : Hdr) (f : RRR) (s : State) : Host.Outcome State Fault Refusal := asStep h (effGctlCancel f) s
/-- GCTL_PRIO. -/
def execGctlPrio (h : Hdr) (f : RRR) (s : State) : Host.Outcome State Fault Refusal := asStep h (effGctlPrio f) s
/-- GCTL_CAP. -/
def execGctlCap (h : Hdr) (f : RRR) (s : State) : Host.Outcome State Fault Refusal := asStep h (effGctlCap f) s
/-- GCTL_CUT. -/
def execGctlCut (h : Hdr) (f : RRR) (s : State) : Host.Outcome State Fault Refusal := asStep h (effGctlCut f) s
/-- GCTL_RESTORE. -/
def execGctlRestore (h : Hdr) (f : RRR) (s : State) : Host.Outcome State Fault Refusal := asStep h (effGctlRestore f) s
/-- GCTL_QUERY. -/
def execGctlQuery (h : Hdr) (f : RRR) (s : State) : Host.Outcome State Fault Refusal := asStep h (effGctlQuery f) s
/-- GWAIT. -/
def execGwait (h : Hdr) (f : RRR) (s : State) : Host.Outcome State Fault Refusal := asStep h (effGwait f) s

end Sys2Proof.Machine
end

