-- ==== Sys2Proof/Machine/Barrier.lean ====
section
/-! DEFINITION. Barriers (12_barrier R268 to R276): their state at the home, BINIT, BARV and BWAIT. -/

namespace Sys2Proof.Machine

/-! ### The barrier at its home (R268 to R272) -/

def barKey (ctx id : Nat) : Nat := 4096 * ctx + id
/-- A barrier; none is UNINIT (R268). One of an earlier incarnation has ended (R28). -/
def State.bar (s : State) (ctx inc id : Nat) : Option Bar :=
  (KMap.get? s.bars (barKey ctx id)).bind (fun b => if b.inc = inc then some b else none)
def State.setBar (s : State) (ctx id : Nat) (b : Bar) : State := { s with bars := KMap.set s.bars (barKey ctx id) b }

/-- Reasons of a refusal (R272). -/
def reasonOf : FKind → Nat
  | .barphase => 1 | .barcount => 2 | .nohome => 3 | _ => 0

/-- The status word (R272). -/
def barStatus (b : Option Bar) (refused : Option FKind) (completed next : Bool) : Nat :=
  let (p, a, i) := match b with | some b => (b.phase, b.arr, 2 ^ 26) | none => (0, 0, 0)
  p * 2 ^ 32 + (match refused with | some k => reasonOf k * 2 ^ 30 + 2 ^ 29 | none => 0) + (if completed then 2 ^ 28 else 0) +
  (if next then 2 ^ 27 else 0) + i + a

/-- Classes of a request's phase (R270). -/
inductive PhaseClass where
  | current | next | past | far
  deriving DecidableEq, Repr

def phaseClass (p phase : Nat) : PhaseClass :=
  let d := (p + 2 ^ 32 - phase) % 2 ^ 32
  if d = 0 then .current else if d = 1 then .next else if 2 ^ 31 ≤ d then .past else .far

/-- "Complete" of R271, at most n rounds: whether a phase completed. -/
def State.completeBar (s : State) (ctx inc id : Nat) : Nat → State × Bool
  | 0 => (s, false)
  | n + 1 =>
    match s.bar ctx inc id with
    | none => (s, false)
    | some b =>
      if b.arr < b.count then (s, false)
      else
        let s1 := s.publish ctx inc (barName id b.phase) 255
          [BitVec.ofNat 64 b.phase, BitVec.ofNat 64 b.count, BitVec.ofNat 64 s.time] b.w0
        let s2 := s1.setBar ctx id { b with phase := (b.phase + 1) % 2 ^ 32, arr := b.ahead, ahead := 0, w0 := b.w1, w1 := 0 }
        ((State.completeBar s2 ctx inc id n).1, true)

/-- Home of a barrier (R268). -/
def State.barHome (s : State) (ctx id : Nat) : Nat := s.homeOf ctx (barName id 0)

/-- Sends a status word to who asked (R269). -/
def State.barReply (s : State) (r : BarReq) (v : Nat) (then_ : Reply) : State :=
  s.send 0 (.interlockedResultLand r.who.site r.who.slot r.ctx r.inc r.who.dst (BitVec.ofNat 1024 v) then_)

/-- Order of the requests of a slot to a barrier (R269). -/
def barChan (site slot ctx id : Nat) : Nat := chanKey 25 ((site * 4 + slot) * 2 ^ 20 + barKey ctx id)

/-- BINIT_AT_HOME (R270). A barrier that is new takes a descriptor, for which it waits (R193, R204). -/
def execBinitAtHome (r : BarReq) (n : Nat) (s : State) : Host.Outcome State Fault Refusal :=
  if s.staleHome r.ctx r.inc (barName r.id 0) then .next (s.drop r.ctx)
  else if s.failedRicks.contains (s.barHome r.ctx r.id) then .next (s.send 0 (.standInReply (.barrier r false 0 0 false)))
  else match s.bar r.ctx r.inc r.id with
    | none =>
      let (s0, room) := s.roomFor (s.barHome r.ctx r.id) 0 1
      let s1 := s0.setBar r.ctx r.id ⟨r.inc, n, 0, 0, 0, 0, 0⟩
      if !room.ok then .next (s0.retry (barChan r.who.site r.who.slot r.ctx r.id) (.binitAtHome r n))
      else .next (s1.barReply r (barStatus (s1.bar r.ctx r.inc r.id) none false false) .plain)
    | some b =>
      if n < b.ahead then .next (s.barReply r (barStatus (some b) (some .barcount) false false) .plain)
      else
        let (s1, done) := (s.setBar r.ctx r.id { b with count := n }).completeBar r.ctx r.inc r.id 2
        .next (s1.barReply r (barStatus (s1.bar r.ctx r.inc r.id) none done false) .plain)

/-- The record of a refused arrival (R275). -/
def State.refuseArrival (s : State) (r : BarReq) (b : Option Bar) (k : FKind) : State :=
  (s.barReply r (barStatus b (some k) false false) .plain).record ⟨r.ctx, r.inc, none⟩ { kind := k, origin := 0, eval := r.orig }

/-- ARRIVAL_AT_HOME (R270, R275). -/
def execArrivalAtHome (r : BarReq) (s : State) : Host.Outcome State Fault Refusal :=
  if s.staleHome r.ctx r.inc (barName r.id 0) then .next (s.drop r.ctx)
  else if s.failedRicks.contains (s.barHome r.ctx r.id) then .next (s.send 0 (.standInReply (.barrier r false 0 0 true)))
  else match s.bar r.ctx r.inc r.id with
    | none => .next (s.refuseArrival r none .barcount)
    | some b =>
      match phaseClass r.phase b.phase with
      | .current =>
        let (s1, done) := (s.setBar r.ctx r.id { b with arr := b.arr + 1 }).completeBar r.ctx r.inc r.id 2
        .next (s1.barReply r (barStatus (s1.bar r.ctx r.inc r.id) none done false) .plain)
      | .next =>
        if b.ahead = b.count then .next (s.refuseArrival r (some b) .barcount)
        else .next ((s.setBar r.ctx r.id { b with ahead := b.ahead + 1 }).barReply r (barStatus (some b) none false true) .plain)
      | .past | .far => .next (s.refuseArrival r (some b) .barphase)

/-- BWAIT_AT_HOME (R270, R276). A request whose register is `dead` takes a waiter off its count again; where its phase has completed, it
releases the pin at the completion name's home. -/
def execBwaitAtHome (r : BarReq) (sub : Nat) (land : Word) (s : State) : Host.Outcome State Fault Refusal :=
  let undo := decide (r.who.dst = Reg.dead)
  if s.staleHome r.ctx r.inc (barName r.id 0) then .next (s.drop r.ctx)
  else if s.failedRicks.contains (s.barHome r.ctx r.id) then
    .next (if undo then s else s.send 0 (.standInReply (.barrier r true sub land false)))
  else
    let reply (b : Option Bar) (refused : Option FKind) (completed : Bool) (s : State) : State :=
      s.barReply r (barStatus b refused completed false) (.bwait r.id sub land r.phase refused completed r.orig)
    match s.bar r.ctx r.inc r.id with
    | none => .next (if undo then s else reply none (some .barcount) false s)
    | some b =>
      match phaseClass r.phase b.phase with
      | .current => .next (if undo then s.setBar r.ctx r.id { b with w0 := b.w0 - 1 }
          else reply (some b) none false (s.setBar r.ctx r.id { b with w0 := b.w0 + 1 }))
      | .next => .next (if undo then s.setBar r.ctx r.id { b with w1 := b.w1 - 1 }
          else reply (some b) none false (s.setBar r.ctx r.id { b with w1 := b.w1 + 1 }))
      | .past => .next (if undo then s.send (homeChan 3 (s.homeOf r.ctx (barName r.id r.phase)) r.ctx (barName r.id r.phase))
            (.pinReleaseMessage r.ctx r.inc (barName r.id r.phase))
          else reply (some b) none true s)
      | .far => .next (if undo then s else reply (some b) (some .barphase) false s)

/-- PIN_RELEASE_MESSAGE: the home of a completion name releases one system pin (R255, R276). -/
def execPinReleaseMessage (ctx inc : Nat) (name : Word) (s : State) : Host.Outcome State Fault Refusal :=
  if s.staleHome ctx inc name then .next (s.drop ctx)
  else
    let h := s.homeName ctx inc name
    .next (s.setHome { h with sysPins := h.sysPins - 1 })

/-! ### Syllables (R273 to R276) -/

/-- The request of the slot at issue for the barrier in read(A). -/
def State.barReq (s : State) (d : Reg) (a : Word) : BarReq :=
  ⟨s.cur.sys.ctxid, s.cur.sys.incarn, a.toNat % 4096, a.toNat / 2 ^ 32, a, ⟨s.iss.site, s.iss.slot, d⟩⟩

def State.sendBar (s : State) (r : BarReq) (ev : Instr) (rel : Option RelWait) : State :=
  s.sendHeld [⟨s.iss.site, r.ctx, 64, 1⟩] (barChan s.iss.site s.iss.slot r.ctx r.id) ev rel

/-- BINIT (R273, R274). -/
def effBinit (f : RRR) (s : State) : Act :=
  let a := s.readS 32 f.a
  let b := s.readS 24 f.b
  if 4096 ≤ a.toNat then cTrap .rsvfield a
  else if b = 0 ∨ 16777215 < b.toNat then cTrap .barcount b
  else
    let d := dstS f.d
    let s1 := s.setCur (s.cur.await d)
    .ok (s1.sendBar (s.barReq d a) (.binitAtHome (s.barReq d a) b.toNat) none)

/-- Bits [31:12] of read(A) must be 0 (R273). -/
def barCheck (a : Word) : Bool := decide (a &&& 0xFFFFF000 = 0)

/-- BARV: with REL the arrival leaves after the release part for paths C and S (R275). -/
def effBarv (f : RRR) (s : State) : Act :=
  let a := s.readS 32 f.a
  if !(barCheck a) then cTrap .rsvfield a
  else
    let d := dstS f.d
    let rel := f.c.getLsbD 0
    let s1 := s.setCur (s.cur.await d)
    let s2 := if rel then s1.beginRelease .wafer else s1
    .ok (s2.sendBar (s.barReq d a) (.arrivalAtHome (s.barReq d a)) (s2.relWait rel false))

/-- The checks of BWAIT at issue (R273, R276). -/
def bwaitCheck (f : RRR) (s : State) : Option TrapInfo :=
  let a := s.readS 32 f.a
  if !(barCheck a) then some ⟨.rsvfield, 0, a⟩ else s.landCheck (f.c.toNat % 16) (s.readS 24 f.b).toNat

/-- The wait of a BWAIT for its home's reply, which its first issue asks for (R276). It is taken once every other wait and check of the bundle
is over. -/
def waitBwaitReply (f : RRR) (s : State) : Option Hold :=
  match bwaitCheck f s, s.cur.bw with
  | some _, _ => none
  | none, some _ => none
  | none, none =>
    let d := dstS f.d
    let r := s.barReq d (s.readS 32 f.a)
    some ⟨false, fun s => if s.cur.pend.contains d then s
      else (s.setCur (s.cur.await d)).sendBar r (.bwaitAtHome r (f.c.toNat % 16) (s.readS 24 f.b)) none⟩

def waitBwait (f : RRR) (s : State) : Option Hold := waitBwaitReply f s

/-- BWAIT acts on its home's reply (R276). -/
def effBwait (f : RRR) (s : State) : Act :=
  match bwaitCheck f s with
  | some t => .trap t
  | none =>
    let a := s.readS 32 f.a
    let d := dstS f.d
    let n := f.c.toNat % 16
    match s.cur.bw with
    | none => .ok s
    | some (_, some k, _) => .trap ⟨k, 0, a⟩
    | some (st, none, completed) =>
      let s0 := s.setCur { s.cur with bw := none }
      let name := barName (a.toNat % 4096) (a.toNat / 2 ^ 32)
      if completed then .ok (s0.selfReply d (st.zeroExtend 1024) .plain)
      else if s.cur.nameHeld n name then
        let r := { s.barReq d a with who := ⟨s.iss.site, s.iss.slot, .dead⟩ }
        .ok ((s0.selfReply d (st.zeroExtend 1024 ||| BitVec.ofNat 1024 (2 ^ 29)) .plain).sendBar r (.bwaitAtHome r n 0) none)
      else
        let s1 := (s0.selfReply d (st.zeroExtend 1024) .plain).subscribeWaiter s.iss.site s.iss.slot n name (s.readS 24 f.b)
        let x := s1.cur
        .ok (s1.setCur (if x.yld && !x.sys.intrap then { x with park := some (.slot n) } else { x with wait := .bwait n }))

/-! The instructions: each acts as its effect says where its guard holds (R33). -/

/-- BINIT. -/
def execBinit (h : Hdr) (f : RRR) (s : State) : Host.Outcome State Fault Refusal := asStep h (effBinit f) s
/-- BARV. -/
def execBarv (h : Hdr) (f : RRR) (s : State) : Host.Outcome State Fault Refusal := asStep h (effBarv f) s
/-- BWAIT. -/
def execBwait (h : Hdr) (f : RRR) (s : State) : Host.Outcome State Fault Refusal :=
  asStepW h (waitBwait f) (effBwait f) s

end Sys2Proof.Machine
end

