-- ==== Sys2Proof/Machine/StepGov.lean ====
section
/-! DEFINITION. Steps, deadlines and the governor (13_step_governor R278 to R297). -/

namespace Sys2Proof.Machine

/-! ### Fractions: the governor's estimates are exact -/

/-- A number num / den, den not 0. -/
structure Frac where
  num : Nat
  den : Nat
  deriving DecidableEq, Repr

def Frac.zero : Frac := ⟨0, 1⟩
def Frac.add (a b : Frac) : Frac :=
  let n := a.num * b.den + b.num * a.den
  let d := a.den * b.den
  ⟨n / Nat.gcd n d, d / Nat.gcd n d⟩
def Frac.le (a b : Frac) : Bool := decide (a.num * b.den ≤ b.num * a.den)

/-! ### Step entries and events (R281 to R286) -/

def stepKey (ctx id : Nat) : Nat := 16 * ctx + id
/-- A step entry; none is FREE. -/
def State.stepAt (s : State) (ctx inc id : Nat) : Option StepEnt :=
  (KMap.get? s.steps (stepKey ctx id)).bind (fun e => if e.inc = inc then some e else none)
def State.setStep (s : State) (ctx id : Nat) (e : StepEnt) : State := { s with steps := KMap.set s.steps (stepKey ctx id) e }

/-- The name of a step event (R283): 1 RISK, 2 MET, 3 MISSED, 4 CLOSED. -/
def stepName (kind id seq : Nat) : Word := BitVec.ofNat 64 (0xF3 * 2 ^ 56 + kind * 2 ^ 52 + id * 2 ^ 48 + seq * 2 ^ 20)
/-- The handle of a step (R295). -/
def stepHandle (id seq : Nat) : Nat := id * 2 ^ 48 + seq * 2 ^ 20

/-- Publishes an event of a step and counts its copy (R283, R286). A step that no decision has seen has no slack: the value is free (log 23). -/
def State.stepEvent (s : State) (ctx inc id : Nat) (e : StepEnt) (kind : Nat) : State :=
  let slack : Word := match e.slack with | some v => BitVec.ofInt 64 v | none => s.freeW 700
  (s.publish ctx inc (stepName kind id e.seq) 255
    [BitVec.ofNat 64 s.time, BitVec.ofNat 64 e.dl, slack, BitVec.ofNat 64 e.why, BitVec.ofNat 64 e.dom, BitVec.ofNat 64 e.done,
     BitVec.ofNat 64 (if kind = 4 then e.outcome.ctorIdx else 0), 0]).setStep ctx id { e with copies := e.copies + 1 }

/-- Sets STATUS.DLRISK, and DLCAP where the reason has CAP, in every resident slot that holds a member (R285). -/
def State.warnMembers (s : State) (ctx g why : Nat) : State :=
  (s.members ctx g).foldl (fun s (u, i) => match i.place with
    | some (site, k) => if (s.slotAt site k).inst = some u
        then s.setSlotAt site k ((s.slotAt site k).event (if why.testBit 1 then 12 else 8)) else s
    | none => s) s

/-- COMPLETION_NOTICE: each OPEN step that follows the group is decided by the first completion later than its T0 (R282, R284, R285). -/
def execCompletionNotice (ctx inc g stamp : Nat) (s : State) : Host.Outcome State Fault Refusal :=
  if s.stale agGov ctx inc then .next (s.drop ctx)
  else .next ((List.range 16).foldl (fun s id =>
    match s.stepAt ctx inc id with
    | some e =>
      if e.open_ ∧ e.group = g ∧ e.t0 < stamp ∧ e.done = 0 then
        if e.outcome = .pending ∧ stamp ≤ e.dl then s.stepEvent ctx inc id { e with done := stamp, outcome := .met } 2
        else s.setStep ctx id { e with done := stamp }
      else s
    | none => s) s)

/-- COPY_DELIVERED_REPORT: one copy of an opening's events is delivered; a CLOSED step whose last it was becomes FREE (R284, R286). -/
def execCopyDeliveredReport (ctx inc : Nat) (name : Word) (s : State) : Host.Outcome State Fault Refusal :=
  if s.stale agGov ctx inc then .next (s.drop ctx)
  else
    let id := (name.extractLsb' 48 4).toNat
    match s.stepAt ctx inc id with
    | some e =>
      if e.seq ≠ (name.extractLsb' 20 28).toNat then .next s
      else if !e.open_ ∧ e.copies ≤ 1 then .next { s with steps := KMap.del s.steps (stepKey ctx id) }
      else .next (s.setStep ctx id { e with copies := e.copies - 1 })
    | none => .next s

/-- The boundary of a step's deadline check (R285). -/
def checkBoundary (dl : Nat) : Nat := (dl + 2000 + 7999) / 8000 * 8000

/-- Has every completion of the step's group stamped at or before DL reached the governor (R282)? -/
def State.noticesIn (s : State) (ctx inc : Nat) (e : StepEnt) : Bool :=
  !(s.agenda.any (fun p => match p.ev with
    | .completionNotice c i g t => decide (c = ctx) && decide (i = inc) && decide (g = e.group) && decide (t ≤ e.dl)
    | _ => false))

/-- Is the deadline check of a step due at boundary b? -/
def State.deadlineDue (s : State) (ctx id b : Nat) : Bool :=
  match s.stepAt ctx (s.ctx ctx).inc id with
  | some e => e.open_ && e.outcome == .pending && decide (checkBoundary e.dl ≤ b) && decide (b ≤ s.time)
  | none => false

/-- DEADLINE_CHECK: work still pending at the first boundary 2,000 ns past DL is MISSED (R284, R285); every completion stamped by DL has reached the
governor by then. -/
def execDeadlineCheck (ctx id b : Nat) (s : State) : Host.Outcome State Fault Refusal :=
  let inc := (s.ctx ctx).inc
  if !(s.deadlineDue ctx id b) then .next s
  else match s.stepAt ctx inc id with
    | none => .next s
    | some e =>
      let s0 := { s with agenda := s.agenda.filter (fun p => match p.ev with
        | .completionNotice c i g t => !(decide (c = ctx) && decide (i = inc) && decide (g = e.group) && decide (t ≤ e.dl))
        | _ => true) }
      let early := s.agenda.filterMap (fun p => match p.ev with
        | .completionNotice c i g t => if c = ctx ∧ i = inc ∧ g = e.group ∧ t ≤ e.dl then some t else none
        | _ => none)
      match early with
      | t :: _ => execCompletionNotice ctx inc e.group t { s0 with agenda := s.agenda.eraseP (fun p => match p.ev with
          | .completionNotice c i g u => decide (c = ctx) && decide (i = inc) && decide (g = e.group) && decide (u = t)
          | _ => false) }
      | [] =>
        let s1 := (s.stepEvent ctx inc id { e with outcome := .missed } 3).warnMembers ctx e.group e.why
        .next (s1.record ⟨ctx, inc, none⟩ { kind := .deadline, origin := 0, eval := BitVec.ofNat 64 (stepHandle id e.seq), group := some e.group })

/-! ### Requests (R294 to R297) -/

/-- The slack that a SLACK syllable reports (R297); `now` is TIME at the governor. -/
def StepEnt.report (e : StepEnt) (now : Nat) : Int :=
  match e.outcome with
  | .pending => e.slack.getD ((e.dl : Int) - now)
  | .met => (e.dl : Int) - e.done
  | .missed => (e.dl : Int) - (if e.done ≠ 0 then e.done else now)

/-- The OPEN step that an ID and a SEQ name. -/
def State.openStep (s : State) (ctx inc id seq : Nat) : Option StepEnt :=
  (s.stepAt ctx inc id).bind (fun e => if e.open_ ∧ e.seq = seq then some e else none)

/-- STEP_REQUEST_AT_GOVERNOR (R284, R295 to R297). -/
def execStepRequestAtGovernor (ctx inc : Nat) (op : StepOp) (who : Asker) (s : State) : Host.Outcome State Fault Refusal :=
  if s.stale agGov ctx inc then .next (s.drop ctx)
  else match op with
    | .open_ g t0 dl =>
      match (List.range 16).find? (fun id => (s.stepAt ctx inc id).isNone) with
      | none => .next (s.nameReply who ctx inc 352)
      | some id =>
        let q := (s.ctx ctx).nseq
        let s1 := (s.setCtx ctx { s.ctx ctx with nseq := (q + 1) % 2 ^ 28 }).setStep ctx id
          { inc := inc, open_ := true, seq := q, group := g, dl := dl, t0 := t0, outcome := .pending, done := 0, risked := false, copies := 0,
            slack := none, why := 0, dom := 0 }
        .next (s1.nameReply who ctx inc (stepHandle id q))
    | .close id seq =>
      match s.openStep ctx inc id seq with
      | none => .next (s.nameReply who ctx inc 352)
      | some e =>
        .next ((s.stepEvent ctx inc id { e with open_ := false } 4).nameReply who ctx inc (stepHandle id seq + e.outcome.ctorIdx * 2 ^ 10))
    | .slack id seq =>
      match s.openStep ctx inc id seq with
      | none => .next (s.nameReply who ctx inc (2 ^ 63))
      | some e => .next (s.nameReply who ctx inc (BitVec.ofInt 64 (e.report s.time)).toNat)

/-! ### The decision at a boundary (R287 to R291) -/

/-- est(k) (R287). -/
def State.estOf (s : State) (ctx : Nat) (i : Inst) : Frac :=
  match s.est.find? (fun e => decide (e.1 = ctx) && decide (e.2.1 = i.image) && !e.2.2.isEmpty) with
  | some (_, _, cs) => ⟨cs.foldl (· + ·) 0, cs.length⟩
  | none => ⟨i.kern.cost, 1⟩

/-- rem(i) of a member on a tile (R287); one that has not been restored yet has the CYCLE of its save. -/
def State.remOf (s : State) (u : Nat) (i : Inst) : Frac :=
  let e := s.estOf i.ctx i
  let cyc := match i.kept, i.place with
    | some k, _ => k.sys.cycle
    | none, some (site, k) => if (s.slotAt site k).inst = some u then (s.slotAt site k).sys.cycle else 0
    | none, none => 0
  let left : Frac := ⟨e.num - cyc * e.den, e.den⟩
  let floor : Frac := ⟨e.num / (16 * e.den), 1⟩
  if floor.le left then left else floor

/-- A step with its key and its load on each tile (R287). -/
structure StepLoad where
  key : Nat
  ent : StepEnt
  loads : List (Nat × Frac)
  deriving DecidableEq, Repr

/-- The loads of a step. -/
def State.loadOf (s : State) (key : Nat) (e : StepEnt) : StepLoad :=
  let ms := s.members (key / 16) e.group
  let on := ms.filterMap (fun (u, i) => match i.place, i.st with
    | some (site, _), .placed => some (u, i, site)
    | _, _ => none)
  let off := ms.filter (fun (_, i) => i.place.isNone || i.st != .placed)
  let tiles := (on.map (·.2.2)).eraseDups
  let n := tiles.length
  let u := off.foldl (fun a (_, i) => a.add (s.estOf i.ctx i)) Frac.zero
  ⟨key, e, tiles.map (fun t => (t, (on.filter (fun m => m.2.2 == t)).foldl (fun a (v, i, _) => a.add (s.remOf v i)) ⟨u.num, u.den * n⟩))⟩

/-- The OPEN, PENDING steps with their loads. -/
def State.stepLoads (s : State) : List StepLoad :=
  (s.steps.filter (fun p => p.2.open_ && p.2.outcome == .pending)).map (fun (k, e) => s.loadOf k e)

def StepLoad.on (l : StepLoad) (t : Nat) : Frac := ((l.loads.find? (fun p => decide (p.1 = t))).map (·.2)).getD Frac.zero
/-- L of R287: the load on a tile of every step that is due no later. -/
def bigL (tab : List StepLoad) (dl t : Nat) : Frac :=
  tab.foldl (fun a l => if l.ent.dl ≤ dl then a.add (l.on t) else a) Frac.zero

/-- Does L take no more than p hundredths of t ns at point m (R278)? -/
def fits (l : Frac) (m : Nat) (p t : Int) : Bool := decide ((l.num : Int) * 1000 ≤ p * t * (l.den * (5 + m)))
/-- The point of a load (R287), and whether it is late. -/
def pointFor (l : Frac) (t : Int) : Nat × Bool :=
  match (List.range 16).find? (fun m => fits l m 95 t) with
  | some m => (m, false)
  | none => (15, !(fits l 15 100 t))

/-- deadline_points: points by domain where a step has load, and the keys of late steps (R287). -/
def deadlinePoints (tab : List StepLoad) (b : Nat) : KMap Nat × List Nat :=
  tab.foldl (fun acc l => l.loads.foldl (fun (acc : KMap Nat × List Nat) (t, f) =>
    if f.num = 0 then acc
    else
      let (m, late) := pointFor (bigL tab l.ent.dl t) ((l.ent.dl : Int) - b)
      (KMap.set acc.1 (domainOf t) (max (KMap.getD acc.1 (domainOf t) 0) m), if late ∧ !(acc.2.contains l.key) then acc.2 ++ [l.key] else acc.2)) acc)
    ([], [])

/-- Does a domain hold a slot that is a candidate now (R280)? -/
def State.candidateDomains (s : State) : List Nat :=
  ((s.slots.filter (fun p => p.2.candidate && p.2.bound.isSome)).map (fun p => domainOf (p.1 / 4))).eraseDups

/-- need(d) of every compute domain (R280, R287). -/
def State.needPoints (s : State) (pts : KMap Nat) : List Nat :=
  let busy := s.busy ++ s.candidateDomains
  (List.range 128).map (fun d => match KMap.get? pts d with
    | some m => m
    | none => if busy.contains d then s.mgmt.defop else 0)

/-- Nanoseconds, rounded up, that a load takes at point m. -/
def loadNs (l : Frac) (m : Nat) : Nat := (l.num * 10 + l.den * (5 + m) - 1) / (l.den * (5 + m))

/-- fin(s) under points, with the tile that finishes last, of equal ones that of the lower domain (R430); none without load (R291). -/
def finOf (tab : List StepLoad) (op : List Nat) (l : StepLoad) : Option (Nat × Nat) :=
  (l.loads.filter (fun p => decide (p.2.num ≠ 0))).foldl (fun (o : Option (Nat × Nat)) (t, _) =>
    let n := loadNs (bigL tab l.ent.dl t) (op.getD (domainOf t) 0)
    match o with
    | some (m, u) => if m < n ∨ (m = n ∧ domainOf t < domainOf u) then some (n, t) else o
    | none => some (n, t)) none

/-- slack(s) under points at boundary b (R291). -/
def slackOf (tab : List StepLoad) (op : List Nat) (b : Nat) (l : StepLoad) : Int :=
  (l.ent.dl : Int) - b - (match finOf tab op l with | some (n, _) => n | none => 0)

/-- The power of a domain predicted for point m, in W (R288). -/
def predictDom (pm c m : Nat) : Frac := ⟨pm * ((5 + m) * (55 + 2 * m) ^ 2), (5 + c) * (55 + 2 * c) ^ 2⟩
/-- predict(op) (R288). -/
def State.predict (s : State) (op : List Nat) : Frac :=
  (op.zip (List.range op.length)).foldl (fun a (m, d) => a.add (predictDom (Config.domainPower s.tick d) (s.opOf d) m)) ⟨Config.restPower s.tick, 1⟩
/-- predict(op) - saved is at most the cap. -/
def underCap (p : Frac) (saved : Int) (cap : Nat) : Bool := decide ((p.num : Int) ≤ (cap + saved) * p.den)

/-- Inserts a step in descending slack, ties to the lower context, then the lower id. -/
def bySlack (tab : List StepLoad) (op : List Nat) (b : Nat) : List StepLoad :=
  (tab.filter (fun l => decide (0 < slackOf tab op b l))).mergeSort (fun x y =>
    decide (slackOf tab op b y < slackOf tab op b x) || (decide (slackOf tab op b x = slackOf tab op b y) && decide (x.key ≤ y.key)))

/-- The group caps of cap_points (R289): the state, what they save, and whether the cap is met. -/
def State.lowerCaps (s : State) (p : Frac) : List StepLoad → Int → State × Int × Bool
  | [], saved => (s, saved, false)
  | l :: r, saved =>
    let c := l.key / 16
    let e := s.group c l.ent.group
    let placed := s.placedOf c l.ent.group
    let n := max 1 (placed / 2)
    let (s1, saved1) := if n < e.gcap then
        (s.setGroup c l.ent.group { e with gcap := n },
         saved + (Config.tilePower s.tick l.key : Int) * min (s.definedOf c l.ent.group : Int) ((placed : Int) - n))
      else (s, saved)
    if underCap p saved1 s.mgmt.modcap then (s1, saved1, true) else State.lowerCaps s1 p r saved1

/-- The least slack of a domain under points; none without load (R289). -/
def domSlack (tab : List StepLoad) (op : List Nat) (b d : Nat) : Option Int :=
  (tab.filter (fun l => l.loads.any (fun p => decide (p.2.num ≠ 0) && decide (domainOf p.1 = d)))).foldl (fun (o : Option Int) l =>
    let v := slackOf tab op b l
    match o with | some m => some (min m v) | none => some v) none

/-- The domain whose point R289 lowers next: the largest least slack, a domain without load first, ties to the lower number. -/
def lowerNext (tab : List StepLoad) (op : List Nat) (b : Nat) : Option Nat :=
  let ds := (List.range op.length).filter (fun d => decide (0 < op.getD d 0))
  match ds.find? (fun d => (domSlack tab op b d).isNone) with
  | some d => some d
  | none => (ds.foldl (fun (o : Option (Nat × Int)) d =>
      let v := (domSlack tab op b d).getD 0
      match o with | some (_, m) => if m < v then some (d, v) else o | none => some (d, v)) none).map (·.1)

/-- Lowers points one at a time until the cap is met (R289). -/
def State.lowerPoints (s : State) (tab : List StepLoad) (b : Nat) (saved : Int) : Nat → List Nat → List Nat
  | 0, op => op
  | n + 1, op =>
    if underCap (s.predict op) saved s.mgmt.modcap then op
    else match lowerNext tab op b with
      | some d => State.lowerPoints s tab b saved n (op.set d (op.getD d 0 - 1))
      | none => op

/-- cap_points (R289). -/
def State.capPoints (s : State) (tab : List StepLoad) (b : Nat) (need : List Nat) : State × List Nat :=
  let p := s.predict need
  if underCap p 0 s.mgmt.modcap then (s, need)
  else
    let (s1, saved, ok) := s.lowerCaps p (bySlack tab need b) 0
    (s1, if ok then need else s.lowerPoints tab b saved 1920 need)

/-- The release of caps (R290): after four boundaries in a row with predict(need) at most 90 % of MODCAP every cap is doubled; one that reaches
LIVE is no cap any longer. -/
def State.releaseCaps (s : State) (need : List Nat) : State :=
  let p := s.predict need
  if 10 * p.num ≤ 9 * s.mgmt.modcap * p.den then
    if s.calm < 3 then { s with calm := s.calm + 1 }
    else { s with
      calm := 0
      groups := s.groups.map (fun (k, g) =>
        (k, if g.gcap = 16777215 then g else { g with gcap := if g.live ≤ 2 * g.gcap then 16777215 else 2 * g.gcap })) }
  else { s with calm := 0 }

/-- What the decision finds of one step (R284, R291). -/
def State.decideStep (s : State) (tab : List StepLoad) (b : Nat) (need op : List Nat) (late : List Nat) (l : StepLoad) : State :=
  let c := l.key / 16
  let doms := ((l.loads.filter (fun p => decide (p.2.num ≠ 0))).map (fun p => domainOf p.1)).eraseDups
  let slack := slackOf tab op b l
  let why := (if late.contains l.key then 1 else 0) +
    (if doms.any (fun d => decide (op.getD d 0 < need.getD d 0) || s.mgmt.held.contains d) then 2 else 0) +
    (if doms.any (fun d => decide (0 < KMap.getD s.slewHeld d 0)) then 4 else 0)
  let dom := match finOf tab op l with | some (_, t) => domainOf t + 256 * op.getD (domainOf t) 0 | none => 0
  let e := { l.ent with slack := some slack, why := why, dom := dom }
  if 0 ≤ slack then s.setStep c (l.key % 16) { e with risked := false }
  else if e.risked then s.setStep c (l.key % 16) e
  else
    let e1 := { e with risked := true }
    let s1 := if 65531 < e.copies then s.setStep c (l.key % 16) e1 else s.stepEvent c e.inc (l.key % 16) e1 1
    s1.warnMembers c e.group why

/-- May the governor decide at its next boundary: TIME has reached it, and no deadline check is due there? -/
def State.decisionDue (s : State) : Bool :=
  decide (s.boundary ≤ s.time) && !(s.steps.any (fun p => s.deadlineDue (p.1 / 16) (p.1 % 16) s.boundary))

/-- GOVERNOR_DECISION: the governor projects the steps, settles the points against the cap, publishes RISK events and requests the points (R279,
R287 to R291). A domain held by the management controller stays at OP0 (R390). -/
def execGovernorDecision (b : Nat) (s : State) : Host.Outcome State Fault Refusal :=
  if b ≠ s.boundary ∨ s.time < b then .next s
  else
    let s := { s with mgmt := { s.mgmt with modcap := s.mgmt.modcapNext, defop := s.mgmt.defopNext } }
    let tab := s.stepLoads
    let (pts, late) := deadlinePoints tab b
    let need := s.needPoints pts
    let (s1, op0) := s.capPoints tab b need
    let op := (op0.zip (List.range 128)).map (fun (m, d) => if s.mgmt.held.contains d then 0 else m)
    let s2 := tab.foldl (fun s l => s.decideStep tab b need op late l) (s1.releaseCaps need)
    let settled := s2.steps.map (fun (k, e) => (k, if e.open_ ∧ e.outcome ≠ .pending then { e with risked := false } else e))
    let req := (List.range 128).filterMap (fun d => if op.getD d 0 = s.opOf d then none else some (d, op.getD d 0))
    .next { s2 with steps := settled, opReq := req, boundary := b + 8000, busy := s.candidateDomains, slewHeld := [] }

/-- The counts of a slot that are kept in domain cycles, brought up to TIME at the point that still holds (R279): the timeout of an IDLE (R107)
and the wait that ages its level (R248). -/
def State.countCycles (s : State) (site : Nat) (x : Slot) : Slot :=
  { x with aged := x.aged + s.nsCycles site (s.time - x.since), since := s.time
           wait := match x.wait with | .idle d n t => .idle d (n - s.nsCycles site (s.time - t)) s.time | w => w }

/-- OP_CHANGE_COMPLETE: a domain reaches the point that the governor has requested; counts kept in cycles go on (R279). -/
def execOpChangeComplete (dom : Nat) (s : State) : Host.Outcome State Fault Refusal :=
  match KMap.get? s.opReq dom with
  | some m =>
    let s := (s.slewWaiters dom).foldl (fun s p => s.countAway p.1 p.2 true) s
    let quantum := if KMap.getD s.quantaUsed dom 0 = 0 then s.slewGrid dom else KMap.getD s.slewAt dom 0
    .next { s with ops := KMap.set s.ops dom m, opReq := KMap.del s.opReq dom
                   slewAt := KMap.set s.slewAt dom (s.time - ((s.time - quantum) * (5 + s.opOf dom) / 10 * 10 + (4 + m)) / (5 + m))
                   refills := s.refills.map (fun p =>
                     if p.1 < 6144 ∧ domainOf p.1 = dom then
                       (p.1, s.time - (s.nsCycles p.1 (s.time - p.2) * 10 + (4 + m)) / (5 + m))
                     else p)
                   slots := s.slots.map (fun p => (p.1, if domainOf (p.1 / 4) = dom then s.countCycles (p.1 / 4) p.2 else p.2)) }
  | none => .next s

/-! ### Syllables (R294 to R297) -/

/-- Order of the step requests of a slot (R294). -/
def stepChan (site slot : Nat) : Nat := chanKey 26 (4 * site + slot)

def State.askGovernor (s : State) (d : Reg) (op : StepOp) : State :=
  (s.setCur (s.cur.await d)).send (stepChan s.iss.site s.iss.slot)
    (.stepRequestAtGovernor s.cur.sys.ctxid s.cur.sys.incarn op ⟨s.iss.site, s.iss.slot, d⟩)

/-- STEPO (R295). -/
def effStepo (f : RRR) (s : State) : Act :=
  let a := s.readS 32 f.a
  let b := s.readS 24 f.b
  if 256 ≤ a.toNat then cTrap .rsvfield a
  else if b = 0 ∨ 2 ^ 48 ≤ b.toNat then cTrap .rsvfield b
  else .ok (s.askGovernor (dstS f.d) (.open_ a.toNat s.time (s.time + b.toNat)))

/-- ID and SEQ of a handle (R296). -/
def handleId (a : Word) : Nat := (a.extractLsb' 48 4).toNat
def handleSeq (a : Word) : Nat := (a.extractLsb' 20 28).toNat

/-- STEPC (R296). -/
def effStepc (f : RRR) (s : State) : Act :=
  let a := s.readS 32 f.a
  .ok (s.askGovernor (dstS f.d) (.close (handleId a) (handleSeq a)))
/-- SLACK (R297). -/
def effSlack (f : RRR) (s : State) : Act :=
  let a := s.readS 32 f.a
  .ok (s.askGovernor (dstS f.d) (.slack (handleId a) (handleSeq a)))

/-! The instructions: each acts as its effect says where its guard holds (R33). -/

/-- STEPO. -/
def execStepo (h : Hdr) (f : RRR) (s : State) : Host.Outcome State Fault Refusal := asStep h (effStepo f) s
/-- STEPC. -/
def execStepc (h : Hdr) (f : RRR) (s : State) : Host.Outcome State Fault Refusal := asStep h (effStepc f) s
/-- SLACK. -/
def execSlack (h : Hdr) (f : RRR) (s : State) : Host.Outcome State Fault Refusal := asStep h (effSlack f) s

end Sys2Proof.Machine
end

