-- ==== Sys2Proof/Machine/Context.lean ====
section
/-! DEFINITION. Contexts and incarnations (14_context R298 to R324): starting, killing and reclaiming a context, the save area, eviction,
migration and restore, the token buckets, and CTXK, RECLM, CTXR, EVICT and CHKP. -/

namespace Sys2Proof.Machine

/-! ### Status and events (R315, R319) -/

/-- The context status word (R319). -/
def State.ctxStatus (s : State) (c cause drops : Nat) : Nat :=
  let x := s.ctx c
  min drops (2 ^ 32 - 1) * 2 ^ 32 + x.inc * 2 ^ 16 + x.st.ctorIdx * 2 ^ 9 + cause

/-- Answers a CTXK, RECLM or CTXR of a slot of another context (R319). -/
def State.ctxReply (s : State) (w : Asker × Nat × Nat) (c cause drops : Nat) : State :=
  s.send 0 (.interlockedResultLand w.1.site w.1.slot w.2.1 w.2.2 w.1.dst (BitVec.ofNat 1024 (s.ctxStatus c cause drops)) .plain)

/-- Publishes a context event (R315). -/
def State.ctxEvent (s : State) (w : Asker × Nat × Nat) (kind c drops : Nat) : State :=
  s.publish w.2.1 w.2.2 (ctxEventName kind c (s.ctx c).inc) 255 [BitVec.ofNat 64 s.time, BitVec.ofNat 64 drops]

/-- Causes of refusals (R320). -/
def causeCtxstate : Nat := FKind.cause .ctxstate 0
def causeIncstale : Nat := FKind.cause .incstale 0

/-! ### Agents (R310, R312) -/

/-- Every agent of the module that holds an incarnation table (R310): tile ports, L1s and ricks of enabled sites, routers that work, schedulers,
the governor, hedge agents, memory controllers and link ports. -/
def State.agents (s : State) : List Nat :=
  s.sites.flatMap (fun i => [agSite i 0, agSite i 1, agSite i 3]) ++
  ((List.range 6144).filter (fun i => !(s.deadRouters.contains i))).map (fun i => agSite i 2) ++ (List.range 64).map agSched ++ [agGov] ++
  (List.range 48).map agHedge ++ (List.range 48).map agMem ++ (List.range 74).map agLink

/-- A slot of a killed context: its instance has stopped, and only its binding is left (R28, R310). -/
def Slot.killed (x : Slot) (inc : Nat) : Slot :=
  { Slot.empty with
    bound := x.bound.map (fun b => (b.1, inc)), serial := x.serial
    ch := x.ch.map (fun c => { Chan.idle with seq := c.seq })
    sys := { SysRegs.reset with
      dbgen := x.sys.dbgen, privc := x.sys.privc, ctxid := x.sys.ctxid, incarn := inc, baseA := x.sys.baseA, sizeA := x.sys.sizeA
      baseB := x.sys.baseB, sizeB := x.sys.sizeB, share := x.sys.share, ctxsel := x.sys.ctxid } }

/-- The sweep of a tile port (R310); translations of the context leave its table as well (R314, R331). -/
def State.sweepTile (s : State) (site c inc : Nat) : State :=
  let s1 := (List.range 4).foldl (fun s k =>
    let x := s.slotAt site k
    match x.bound with
    | some (d, i) =>
      if d = c ∧ i ≠ inc then
        let s1 := (s.returnWays site k).stopIssue site k
        let t := s1.tileAt site
        let s2 := s1.setTileAt site { t with unit := t.unit.filter (fun o => decide (o.slot ≠ k)) }
        let s3 := s2.setSlotAt site k (x.killed inc)
        match x.inst with
        | some u => { s3.abandonLoad u with insts := KMap.del s3.insts u }
        | none => s3
      else s
    | none => s) s
  let t := s1.tileAt site
  s1.setTileAt site { t with tokens := KMap.del t.tokens c, tlb := t.tlb.filter (fun e => decide (e.ctx ≠ c)), stalled := t.stalled.erase c, withheld := t.withheld.filter (fun m => decide (m.ctx ≠ c)) }

/-- What an agent's storage loses when it sweeps (R310). -/
def State.sweep (s : State) (agent c inc : Nat) : State :=
  let old (d i : Nat) : Bool := decide (d = c) && decide (i ≠ inc)
  if agent < agSched 0 then
    let site := agent / 4
    match agent % 4 with
    | 0 => s.sweepTile site c inc
    | 1 =>
      let t := s.tileAt site
      s.setTileAt site { t with lines := t.lines.filter (fun l => !(old l.ctx l.inc)), walks := t.walks.filter (fun w => decide (w.ctx ≠ c)) }
    | 2 => { s with matches_ := KMap.upd s.matches_ site (fun ms => ms.filter (fun m => !(old m.ctx m.inc))) }
    | _ => { s with
        homes := s.homes.filter (fun p => !(old p.2.ctx p.2.inc) || decide (s.homeOf c p.2.name ≠ site))
        bars := s.bars.filter (fun p => !(old (p.1 / 4096) p.2.inc) || decide (s.barHome c (p.1 % 4096) ≠ site)) }
  else if agent < agGov then
    let f := agent - agSched 0
    { s with
      queues := s.queues.filter (fun p => decide (p.1 / 64 ≠ c) || decide (schedOf c (p.1 % 64) ≠ f))
      groups := s.groups.filter (fun p => decide (p.1 / 256 ≠ c) || decide (schedOf c (p.1 % 256) ≠ f))
      insts := s.insts.filter (fun p => !(old p.2.ctx p.2.inc) || decide (p.2.field ≠ f) ||
        (match p.2.place with | some (site, k) => (s.slotAt site k).inst == some p.1 | none => false)) }
  else if agent = agGov then { s with steps := s.steps.filter (fun p => decide (p.1 / 16 ≠ c)), est := s.est.filter (fun e => decide (e.1 ≠ c)) }
  else if agHedge 0 ≤ agent ∧ agent < agMem 0 then
    { s with hedges := KMap.upd s.hedges (agent - agHedge 0) (fun ts => ts.filter (fun t => !(old t.ctx t.inc))) }
  else if agLink 0 ≤ agent then
    let l := agent - agLink 0
    let own (f : Flit) : Bool := decide (f.src = s.modnum) && old f.ctx f.inc && (decide (f.ty < 3) || decide (f.ty = 5))
    let x := s.link l
    let s1 := if (KMap.get? s.links l).isSome then
        s.setLink l { x with retry := x.retry.map (fun f => if own f then { f with req := none, seg := none } else f)
                             txq := x.txq.filter (fun f => !(own f)) }
      else s
    { s1 with lsends := s1.lsends.filter (fun p => !(old p.2.ctx p.2.inc)) }
  else s

/-- The items of an older incarnation that an agent's sweep drops, one for each entry of its storage that R310 names. What a tile's port does to its slots
drops none: their subscription slots and channels are state of the slot (log 25). -/
def State.itemsAt (s : State) (agent c inc : Nat) : Nat :=
  let old (d i : Nat) : Bool := decide (d = c) && decide (i ≠ inc)
  if agent < agSched 0 then
    let site := agent / 4
    match agent % 4 with
    | 0 => 0
    | 1 => ((s.tileAt site).lines.filter (fun l => old l.ctx l.inc)).length
    | 2 => ((KMap.getD s.matches_ site []).filter (fun m => old m.ctx m.inc)).length
    | _ => s.homes.foldl (fun n p =>
        let h := p.2
        if old h.ctx h.inc ∧ s.homeOf c h.name = site then
          n + h.copies.length + h.held.length + h.subs.length + h.pins + h.closing.length + (match h.red with | some _ => 1 | none => 0)
        else n) (s.bars.filter (fun p => old (p.1 / 4096) p.2.inc && decide (s.barHome c (p.1 % 4096) = site))).length
  else if agent < agGov then
    let f := agent - agSched 0
    (s.queues.filter (fun p => decide (p.1 / 64 = c) && decide (schedOf c (p.1 % 64) = f))).length +
    (s.groups.filter (fun p => decide (p.1 / 256 = c) && decide (schedOf c (p.1 % 256) = f))).length +
    (s.insts.filter (fun p => old p.2.ctx p.2.inc && decide (p.2.field = f) && p.2.st == .defined)).length
  else if agent = agGov then (s.steps.filter (fun p => decide (p.1 / 16 = c))).length
  else if agHedge 0 ≤ agent ∧ agent < agMem 0 then ((KMap.getD s.hedges (agent - agHedge 0) []).filter (fun t => old t.ctx t.inc)).length
  else if agLink 0 ≤ agent then
    (((s.link (agent - agLink 0)).retry ++ (s.link (agent - agLink 0)).txq).filter (fun f =>
      decide (f.src = s.modnum) && old f.ctx f.inc && (decide (f.ty < 3) || decide (f.ty = 5)))).length
  else 0

/-- INCARNATION_BROADCAST: an agent writes its table and sweeps; with the last one the CTXK ends and KILLED is published (R312, R315, R320). -/
def execIncarnationBroadcast (agent c : Nat) (s : State) : Host.Outcome State Fault Refusal :=
  let x := s.ctx c
  if x.st ≠ .killed ∨ x.told.contains agent then .next s
  else
    let y := { x with told := x.told ++ [agent], fence := if agLink 0 ≤ agent ∧ agent < agWalker 0 then s.time else x.fence }
    let s1 := ((s.setCtx c y).sweep agent c x.inc).send (chanKey 28 agent) (.sweepDone agent c (s.itemsAt agent c x.inc))
    if s.agents.all (fun a => y.told.contains a) then
      match x.killWho with
      | some w => .next ((s1.ctxReply w c 0 0).ctxEvent w 2 c 0)
      | none => .next s1
    else .next s1

/-- SWEEP_DONE (R310, R312). -/
def execSweepDone (agent c drops : Nat) (s : State) : Host.Outcome State Fault Refusal :=
  let x := s.ctx c
  if x.st ≠ .killed ∨ x.swept.contains agent then .next s
  else .next (s.setCtx c { x with swept := x.swept ++ [agent], drops := x.drops + drops })

/-- Is the link fence over: 1 ms since the last link port had the new incarnation (R313)? -/
def State.fenceOver (s : State) (c : Nat) : Bool :=
  let x := s.ctx c
  x.st == .killed && x.linkUse && !x.fenceOk && (List.range 74).all (fun l => x.told.contains (agLink l)) && decide (x.fence + 1000000 ≤ s.time)

/-- LINK_FENCE_EXPIRE (R313). -/
def execLinkFenceExpire (c : Nat) (s : State) : Host.Outcome State Fault Refusal :=
  .next (if s.fenceOver c then s.setCtx c { s.ctx c with fenceOk := true } else s)

/-- Do the reclaim conditions hold (R313)? -/
def State.reclaimReady (s : State) (c : Nat) : Bool :=
  let x := s.ctx c
  x.st == .killed && s.agents.all (fun a => x.swept.contains a) && (!x.linkUse || x.fenceOk)

/-- The context that a message belongs to; one that names a slot or an instance alone finds it gone. -/
def ctxOfEv (s : State) : Instr → Option Nat
  | .interlockedResultLand _ _ c _ _ _ _ | .mmagRowArrive _ _ c _ _ _ _ | .l1Fill _ c _ _ _ | .channelDataArrive _ _ _ c _ _ _ => some c
  | .subAtRouter _ _ m | .subAtHome m | .installNotice m _ | .withdrawal _ _ m | .reinstallAtHome m => some m.ctx
  | .segmentAtRouter _ _ _ g | .segmentAtHome _ g | .contributionAtHome g | .copyAtTilePort _ _ g => some g.ctx
  | .landingAckAtHome m | .divertedCopyAtHome m _ | .pullAtHome m | .nextRequestAtHome m => some m.ctx
  | .orderNotice c _ _ | .nholdAtHome c _ _ _ | .nrelsAtHome c _ _ _ | .overflowStallNotice _ ⟨c, _⟩ | .overflowSpaceNotice _ ⟨c, _⟩ => some c
  | .fallthroughRequest _ c _ _ | .fallthroughData c _ _ _ _ | .backingTableReread c _ | .spillReadBack c _ _ => some c
  | .standInReply (.sub m) => some m.ctx
  | .standInReply (.pin c _ _ _) => some c
  | .standInReply (.barrier r _ _ _ _) => some r.ctx
  | .standInReply (.drop c _ _) => some c
  | .recordAppend c _ _ _ _ | .placementMessage _ c _ | .memberTerminalUpdate c _ _ _ _ | .cutMarkAtHome ⟨c, _⟩ _ _ _ _ | .cutRecordWrite ⟨c, _⟩ _ _ _ _ => some c
  | .binitAtHome r _ | .arrivalAtHome r | .bwaitAtHome r _ _ => some r.ctx
  | .pinReleaseMessage c _ _ | .completionNotice c _ _ _ | .copyDeliveredReport c _ _ | .cutMarksConfirmed ⟨c, _⟩ _ => some c
  | .pageWalk w | .migRewalk w => some w.ctx
  | .memoryRequestAtHome r => some r.ctx
  | .groupRequestAtScheduler c _ _ _ _ _ | .queueOperationAtScheduler c _ _ _ _ | .stepRequestAtGovernor c _ _ _ | .memoryWriteAcknowledgement c _ _ => some c
  | .descriptorReadDone _ _ c _ _ | .gateSatisfied c _ _ _ | .membershipReserve ⟨c, _⟩ _ _ _ => some c
  | .copyLanded site slot _ => (s.slotAt site slot).bound.map (·.1)
  | _ => none

/-- A context whose start another asked for that is gone before its descriptor has been read is as it was (R298). -/
def State.unstart (s : State) (p : Pending) : State :=
  match p.ev with
  | .descriptorReadDone d _ _ _ _ => if (s.ctx d).st = .creating then s.setCtx d { s.ctx d with st := (s.ctx d).prev } else s
  | _ => s

/-- Nothing of a killed context is left: messages under way and windows of fault records are dropped and counted, and no table keeps an entry (R30,
R310, R313, R314). -/
def State.purge (s : State) (c : Nat) : State :=
  let mine (p : Pending) : Bool := decide (ctxOfEv s p.ev = some c)
  let gone := s.agenda.filter mine
  let open_ := s.windows.filter (fun w => decide (w.ctx = c))
  let s1 := gone.foldl (fun s p => s.unstart p) s
  let x := s1.ctx c
  { s1.setCtx c { x with drops := x.drops + gone.length + open_.length, rereads := 0, ftWait := [], couldWrite := [] } with
    windows := s.windows.filter (fun w => decide (w.ctx ≠ c)), est := s.est.filter (fun e => decide (e.1 ≠ c))
    agenda := s.agenda.filter (fun p => !(mine p)), insts := s.insts.filter (fun p => decide (p.2.ctx ≠ c)), ovflStall := KMap.del s.ovflStall c
    out := s.out.filter (fun p => decide (p.2.2.ctx ≠ c)), lsendIn := s.lsendIn.filter (fun e => decide (e.dctx ≠ c))
    walkers := s.walkers.map (fun p => (p.1, p.2.filter (fun e => decide (e.ctx ≠ c)))) }

/-- RECLAIM: bindings are released, RECLAIMED is published, and every RECLM of the context ends (R298, R315, R321). -/
def execReclaim (c : Nat) (s : State) : Host.Outcome State Fault Refusal :=
  if !(s.reclaimReady c) then .next s
  else
    let x := s.ctx c
    let p := s.purge c
    let s1 := p.setCtx c { p.ctx c with st := .reclaimed, reclWho := [] }
    let s2 := (s1.slots.filter (fun p => match p.2.bound with | some b => decide (b.1 = c) | none => false)).foldl (fun s p => s.unbind (p.1 / 4) (p.1 % 4)) s1
    let n := (p.ctx c).drops
    let s3 := match x.killWho with | some w => s2.ctxEvent w 3 c n | none => s2
    .next (x.reclWho.foldl (fun s w => s.ctxReply w c 0 n) s3)

/-! ### Starting a context (R299, R300) -/

/-- A context descriptor (R299). -/
structure Desc where
  slot : Nat
  priv : Bool
  share : Nat
  fields : Word
  baseA : Nat
  sizeA : Nat
  baseB : Nat
  sizeB : Nat
  rsv : Bool
  deriving DecidableEq, Repr

def descOf (ds : List Nat) : Desc :=
  let d (i : Nat) : Nat := ds.getD i 0
  { slot := bitsOf (d 0) 1 0, priv := (d 0).testBit 8, share := bitsOf (d 0) 24 16, fields := BitVec.ofNat 64 (d 1)
    baseA := bitsOf (d 2) 7 0, sizeA := bitsOf (d 2) 28 8, baseB := bitsOf (d 3) 7 0, sizeB := bitsOf (d 3) 28 8
    rsv := decide (d 0 &&& 0xFFFFFFFFFE00FEFC ≠ 0) || decide (d 2 / 2 ^ 29 ≠ 0) || decide (d 3 / 2 ^ 29 ≠ 0) ||
      decide (d 4 + d 5 + d 6 + d 7 ≠ 0) }

/-- The enabled sites of the fields of a mask. -/
def State.sitesIn (s : State) (mask : Word) : List Nat := s.sites.filter (fun i => mask.getLsbD (fieldOf i))

/-- Do two windows overlap? -/
def overlap (b1 s1 b2 s2 : Nat) : Bool :=
  decide (0 < s1) && decide (0 < s2) && decide (b1 * 4096 < b2 * 4096 + s2) && decide (b2 * 4096 < b1 * 4096 + s1)

/-- Windows and slots that other contexts are being given on enabled tiles of a mask and do not hold yet (R300, R301): slot, then the windows. -/
def State.comingBindings (s : State) (c : Nat) (mask : Word) : List (Nat × Nat × Nat × Nat × Nat) :=
  (s.ctxs.filter (fun p => decide (p.1 ≠ c) && p.2.st == .creating &&
    p.2.toBind.any (fun i => mask.getLsbD (fieldOf i) && !(s.disabled.contains i)))).map (fun p => (p.2.slot, p.2.baseA, p.2.sizeA, p.2.baseB, p.2.sizeB))

/-- The cause of R300, cases 2 to 4; 0 where the descriptor passes. -/
def State.descCause (s : State) (c : Nat) (d : Desc) : Nat :=
  if d.rsv ∨ 256 < d.share ∨ d.fields = 0 ∨ d.sizeA % 4096 ≠ 0 ∨ d.sizeB % 4096 ≠ 0 ∨ 0x100000 < d.baseA * 4096 + d.sizeA ∨
      0x100000 < d.baseB * 4096 + d.sizeB then FKind.cause .rsvfield 0
  else
    let near := s.slots.filter (fun p => p.2.bound.isSome && d.fields.getLsbD (fieldOf (p.1 / 4)) && !(s.disabled.contains (p.1 / 4)))
    let soon := s.comingBindings c d.fields
    if soon.any (fun b => decide (b.1 = d.slot)) then causeCtxstate
    else if near.any (fun p => decide (p.1 % 4 = d.slot) && (match p.2.bound with | some b => decide (b.1 ≠ c) | none => false)) then causeCtxstate
    else if near.any (fun p => decide (p.1 % 4 ≠ d.slot) &&
        (overlap d.baseA d.sizeA p.2.sys.baseA p.2.sys.sizeA || overlap d.baseB d.sizeB p.2.sys.baseB p.2.sys.sizeB)) then causeCtxstate
    else if soon.any (fun (_, a, n, b, m) => overlap d.baseA d.sizeA a n || overlap d.baseB d.sizeB b m) then causeCtxstate
    else 0

/-- DESCRIPTOR_READ_DONE: the descriptor is read and checked; bindings are to be sent, or the start is refused (R299, R300). At the start the
context's queues, groups, barriers and steps are cleared. -/
def execDescriptorReadDone (c : Nat) (who : Asker) (issuer issuerInc va : Nat) (s : State) : Host.Outcome State Fault Refusal :=
  let w := (who, issuer, issuerInc)
  let x := s.ctx c
  if x.st ≠ .creating ∨ x.startWho.isSome then .next s
  else if s.stale (agSched (fieldOf who.site)) issuer issuerInc then .next ((s.setCtx c { x with st := x.prev }).drop issuer)
  else
    let refuse (cause : Nat) (s : State) : State := (s.setCtx c { s.ctx c with st := x.prev }).ctxReply w c cause 0
    if va % 64 ≠ 0 then .next (refuse (FKind.cause .aligng 2) s)
    else
      let (s1, r) := s.sysRead (fieldOf who.site) issuer issuerInc va 64
      match r with
      | .migrating => .next (s1.sendAt (s1.time + 2000) 0 (.descriptorReadDone c who issuer issuerInc va))
      | .fault k _ => .next (refuse (FKind.cause k 2) s1)
      | .ok bs =>
        let d := descOf (dwords bs)
        let cause := s1.descCause c d
        if cause ≠ 0 then .next (refuse cause s1)
        else
          let s2 := s1.setCtx c { s1.ctx c with
            priv := d.priv, slot := d.slot, share := d.share, fields := d.fields, baseA := d.baseA, sizeA := d.sizeA, baseB := d.baseB
            sizeB := d.sizeB, linkUse := false, told := [], swept := [], drops := 0, fenceOk := false, killWho := none, reclWho := []
            startWho := some w, toBind := s1.sitesIn d.fields, nseq := 0, rereads := 0, ftWait := [] }
          .next { s2 with queues := s2.queues.filter (fun p => decide (p.1 / 64 ≠ c)), groups := s2.groups.filter (fun p => decide (p.1 / 256 ≠ c))
                          bars := s2.bars.filter (fun p => decide (p.1 / 4096 ≠ c)), steps := s2.steps.filter (fun p => decide (p.1 / 16 ≠ c)) }

/-- BINDING_INSTALL: a tile installs the binding and acknowledges it (R300, R301); its token bucket starts at 0 (R317). -/
def execBindingInstall (site c : Nat) (s : State) : Host.Outcome State Fault Refusal :=
  let x := s.ctx c
  if !(x.toBind.contains site) then .next s
  else
    let y := s.slotAt site x.slot
    let t := s.tileAt site
    let s1 := s.setSlotAt site x.slot { Slot.empty with
      bound := some (c, x.inc), serial := y.serial
      sys := { SysRegs.reset with
        dbgen := t.dbgOn, privc := x.priv, ctxid := c, incarn := x.inc, baseA := x.baseA, sizeA := x.sizeA, baseB := x.baseB
        sizeB := x.sizeB, share := x.share, ctxsel := c } }
    .next ((s1.setTileAt site { t with tokens := KMap.set t.tokens c 0 }).setCtx c { x with toBind := x.toBind.erase site })

/-- BINDINGS_ACKNOWLEDGED: the context is ACTIVE (R298, R300, R322). -/
def execBindingsAcknowledged (c : Nat) (s : State) : Host.Outcome State Fault Refusal :=
  let x := s.ctx c
  match x.startWho with
  | some w =>
    if x.st = .creating ∧ x.toBind.isEmpty then
      let s1 := s.setCtx c { x with st := .active, startWho := none }
      .next ((s1.ctxReply w c 0 0).ctxEvent w 1 c 0)
    else .next s
  | none => .next s

/-! ### The save area (R303 to R307) -/

/-- RECBYTES (R303). -/
def Slot.recBytes (x : Slot) : Nat := roundUp (0x10000 + x.sys.sizeA + x.sys.sizeB + 0x80000) 0x10000
def State.recAddr (s : State) (x : Slot) (c h : Nat) : Nat := (s.ctx c).savebase.toNat + 0x10000 + h * x.recBytes

/-- Save handles in use by a context: an instance that has ended, FAULTED on its tile too, holds none (R306). -/
def State.recsUsed (s : State) (c : Nat) : List Nat :=
  s.insts.filterMap (fun e => if e.2.ctx = c ∧ !(s.ended e.1 e.2) then e.2.rec_.map (·.1) else none)

/-- What taking a record gives. -/
inductive RecTake where
  | got (h : Nat)
  | full
  | migrating
  | fault (k : FKind) (va : Nat)

/-- The instance's own record, or the lowest free one of the NREC that the header gives (R303, R306). -/
def State.takeRec (s : State) (walker : Nat) (i : Inst) : State × RecTake :=
  match i.rec_ with
  | some (h, _) => (s, .got h)
  | none =>
    let (s1, r) := s.sysRead walker i.ctx i.inc (s.ctx i.ctx).savebase.toNat 8
    match r with
    | .migrating => (s1, .migrating)
    | .fault k va => (s1, .fault k va)
    | .ok bs =>
      let used := s1.recsUsed i.ctx
      match (List.range (used.length + 1)).find? (fun h => !(used.contains h)) with
      | some h => (s1, if h < min (bytesWord bs) 65536 then .got h else .full)
      | none => (s1, .full)

/-- Where a 4 KiB block of the slot's windows and lent ways lies in its record (R304). -/
def blockOff (x : Slot) (t : Tile) (slot b : Nat) : Nat :=
  let p := 4096 * b
  if p < 0x100000 then 0x10000 + p
  else if p < 0x200000 then 0x10000 + x.sys.sizeA + (p - 0x100000)
  else
    let w := (p - 0x200000) / 0x10000
    0x10000 + x.sys.sizeA + x.sys.sizeB + 0x10000 * (((List.range w).filter (fun v => t.lentTo slot v)).length) + p % 0x10000

/-- The bytes of one block. -/
def State.blockBytes (s : State) (site slot b : Nat) : List Byte := s.scratchRead site slot (4096 * b) 4096 0

/-- Dirty blocks that lie in the slot's memory now, ascending. -/
def State.dirtyBlocks (s : State) (site slot : Nat) : List Nat :=
  let x := s.slotAt site slot
  (x.allBlocks (s.tileAt site) slot).filter (fun b => x.dirty.contains b)

/-- Bytes whose layout is the device's own: free values (R304). -/
def State.opaqueBytes (s : State) (place n : Nat) : List Byte := (List.range n).map (fun i => Config.freeByte s.tick (place + i))

/-- The fixed blocks of a record that the spec lays out, as (offset, bytes) (R304); an accumulator that ACCMASK does not name is not written
(R225). -/
def State.fixedParts (s : State) (x : Slot) (acc : Nat) : List (Nat × List Byte) :=
  let w (n : Nat) : List Byte := wordBytes 8 n
  [ (0, s.opaqueBytes 20000 0x100),
    (0x100, (List.range 64).flatMap (fun i => w (x.f.getA i).toNat)),
    (0x300, (List.range 8).flatMap (fun i => w (x.f.getO i).toNat)),
    (0x340, w (predBits x.f + x.latch.toNat * 256 + (if x.lockLost then 65536 else 0)) ++ w x.sys.fpstatus.toNat ++ w x.sys.fptrapen.toNat ++
      w x.sys.rngseed.toNat ++ w x.sys.cycle ++ w x.sys.slewhold ++ w 0 ++ w 0),
    (0x400, x.f.v.toList.flatMap (fun v => bytesOf 128 v.toNat)),
    (0x1400, x.f.w.toList.flatMap (fun v => bytesOf 128 v.toNat)),
    (0x1800, s.opaqueBytes 20256 0xF00),
    (0x2700, bytesOf 16 (markBits x.marks aRegs) ++ bytesOf 2 (markBits x.marks oRegs) ++ bytesOf 8 (markBits x.marks vRegs) ++
      bytesOf 2 (markBits x.marks wRegs) ++ bytesOf 4 0 ++ s.opaqueBytes 24096 22752) ] ++
  ((List.range 4).filter (fun i => acc.testBit i)).map (fun i => (0x8000 + 0x2000 * i, (x.accOf i).toList.flatMap (fun r => bytesOf 256 r.toNat)))

/-- What a slot does to or from its record has met a page that migrates: it goes on 2 us later (R335). -/
def State.recLater (s : State) (site slot : Nat) : State := s.setSlotAt site slot { s.slotAt site slot with retryAt := s.time + 2000 }

/-- Writes parts of a record in order; the first that does not go through ends it (R307). -/
def State.writeParts (s : State) (walker c inc base : Nat) : List (Nat × List Byte) → State × SysRes
  | [] => (s, .ok [])
  | (off, bs) :: r =>
    let (s1, x) := s.sysWrite walker c inc (base + off) bs (toll := false)
    match x with
    | .ok _ => State.writeParts s1 walker c inc base r
    | e => (s1, e)

/-! ### Eviction (R225, R306, R307) -/

/-- The state with a slot at issue, for operations that look at it. -/
def State.atSlot (s : State) (site slot : Nat) : State := s.setIss { s.iss with site := site, slot := slot }

/-- May a slot's instance be saved now: it has stopped at a bundle boundary, its own results and syllables are done, its publications are read, and
the release part of its move is done, which covers every write of its channels (R55, R171, R306, R364)? -/
def State.stoppable (s : State) (site slot : Nat) : Bool :=
  let x := s.slotAt site slot
  x.stopReq.isSome && x.cancelReq.isNone && x.after.isNone && decide (x.retryAt ≤ s.time) && !(s.tileAt site).frozen &&
  (x.st == .waiting || x.st == .ready || x.st == .running || x.st == .parked) &&
  (match x.wait with | .exiting => false | .exitPub _ => false | .ways => false | _ => true) &&
  x.settled && x.injq.isEmpty && x.wayChange.isEmpty && x.joining.isEmpty && x.leaving.isEmpty && decide (x.acquiring = 0) &&
  !(x.ch.toList.any (fun c => c.beat.isSome && decide (Shape.dir c.recd = 1))) &&
  (s.atSlot site slot).released 31 .domain 65535 true { (s.atSlot site slot).fenceSnap false with wps := List.replicate 16 (2 ^ 64) }

/-- Stops one multiply of the slot: k-steps that a started one has completed are done, and its progress and operands are recorded (R171). -/
def State.stopMul (s : State) (site slot : Nat) (o : MOp) : State :=
  let left := Shp.k o.shape - o.k
  let n := if o.started && decide (0 < left) then Config.pick s.tick (30000 + o.acc) % left else 0
  let x := s.slotAt site slot
  let ue := if n = 0 then none else s.ueIn site slot (stepRuns o o.k (o.k + n))
  let x1 := if n = 0 then x else
    (x.setAcc o.acc (s.kSteps site o n o.k (x.accOf o.acc))).setAccPoison o.acc (s.accBad site slot o.acc || ue.isSome || o.kbPoison)
  let o1 := { o with k := o.k + n, started := false }
  let s1 := s.setSlotAt site slot { x1.setApr o.acc (aprOf o1) with aprCap := KMap.set x1.aprCap o.acc o1 }
  match ue with | some a => s1.eccRecord site slot a | none => s1

/-- Stops every multiply of a slot; the other syllables that the unit holds for it complete in their order (R171). -/
def State.stopMuls (s : State) (site slot : Nat) : State :=
  let s0 := if (s.slotAt site slot).mmag.isSome then s.stopMmag site slot else s
  let t := s0.tileAt site
  let s1 := s0.setTileAt site { t with unit := t.unit.filter (fun o => decide (o.slot ≠ slot)) }
  (t.unit.filter (fun o => decide (o.slot = slot))).foldl (fun s o =>
    if o.kind < 2 then s.stopMul site slot o else if o.kind = 2 then s else s.mPerform site o) s1
/-- The marks of a slot's accumulators with the errors that have struck their storage (R169). -/
def State.accMarks (s : State) (site slot : Nat) : Vector Bool 4 := Vector.ofFn (fun i => s.accBad site slot i.val)

/-- Subscription slots at a move (R227): a slot that is still subscribed is withdrawn as moving, with the sequence that it was receiving. -/
def State.moveSubs (s : State) (site slot : Nat) : State :=
  (List.range 16).foldl (fun s n =>
    let u := (s.slotAt site slot).subAt n
    if u.st == .idle || (u.st == .landed && !u.persist) then s
    else
      let q := match u.st, u.recv with
        | .armed, some r => r.seq
        | .waitspace, _ => u.q
        | .landed, _ => u.lastAck
        | _, _ => none
      let st := match u.st with | .waitspace => SubState.armed | x => x
      let s1 := s.withdraw site slot n true
      s1.setSub site slot n { u with st := st, recv := none, q := q, inst := false, count := 0 }) s

/-- An EVICT's account of an instance that has been saved, or could not be (R323). -/
def State.evicted (s : State) (uid : Nat) (ok : Bool) (blocks : Nat) : State :=
  { s with evicts := s.evicts.map (fun e =>
      if e.waiting.contains uid then
        { e with waiting := e.waiting.erase uid, saved := if ok then e.saved + 1 else e.saved, failed := if ok then e.failed else e.failed + 1
                 blocks := e.blocks + blocks }
      else e) }

/-- A save that could not be made: the instance goes on in its slot, or for a cut is FAULTED (R306, R307). -/
def State.saveFailed (s : State) (site slot uid : Nat) (why : SaveWhy) : State :=
  let s1 := s.setSlotAt site slot { s.slotAt site slot with stopReq := none, fenced := [] }
  match why with
  | .cut => s1.faultSlot site slot .evictfail 0 (s.freeW 720)
  | _ =>
    let x := s1.slotAt site slot
    ((if x.candidate then s1.rejoin site slot else s1).evicted uid false 0).finishEvicts

/-- The record of a fault of a record write (R307). -/
def State.saveFault (s : State) (site slot : Nat) (k : FKind) (va : Nat) : State :=
  (s.detect site k).record ((s.slotAt site slot).who slot) { kind := k, origin := 2, eval := BitVec.ofNat 64 (va - va % 64) }

/-- The group whose cut saves an instance. -/
def State.cutOf (s : State) (uid : Nat) (i : Inst) : Option Nat := (groupsOf i.groups).find? (fun g => (s.group i.ctx g).saving.contains uid)

/-- Where a saved instance is left to: EVICTED, or MIGRATING (R225). -/
def savedState : SaveWhy → InstState
  | .move _ _ => .migrating
  | _ => .evicted

/-- The slot that an instance leaves, as its next entry compares it (R226): where it has moved since it last issued and is moved again, no slot is the
one that it issued in. -/
def Inst.leaves (i : Inst) (site slot : Nat) : Nat × Nat :=
  match i.from_ with
  | some p => if p = (site, slot) then p else (movedSite 0, 0)
  | none => (site, slot)

/-- Ends a save: the slot is free, its lent ways are CACHE, and the instance waits for placement (R306). -/
def State.saved (s : State) (site slot uid : Nat) (i : Inst) (x : Slot) (why : SaveWhy) (h blocks : Nat) : State :=
  let s1 := s.returnWays site slot
  let y := s1.slotAt site slot
  let s2 := (s1.setSlotAt site slot { y with sub := Vector.replicate 16 SubSlot.idle }).freeSlot site slot
  let cut := match why with | .cut => s.cutOf uid i | _ => i.cut
  let s3 := s2.setInst uid { i with
    st := savedState why, place := none, from_ := some (i.leaves site slot), rec_ := some (h, true), kept := some x, cut := cut }
  ((s3.evicted uid true blocks).forgetWaits uid).finishEvicts

/-- The state in which a slot's record is written: its multiplies and its resident waits have stopped, and what it has exposed has landed (R55,
R171). The D of an IDLE that waits is fixed here, with bit 4: the MOVED of the resumption then stands in bit 2 of the cleared latch and not in D,
a point that R107 leaves open (DESIGN CHOICE, log 43). What has not waited in an IDLE finds bit 4 in its latch when it resumes. -/
def State.stopForSave (s : State) (site slot : Nat) : State :=
  let s1 := (s.stopMuls site slot).leaveSlew site slot
  let x9 := (s1.slotAt site slot).drain
  let x0 := { x9 with f := { x9.f with accPoison := s1.accMarks site slot } }
  let x1 := match x0.wait with | .idle d n t => { x0.endIdle d 16 with wait := .idle d n t } | _ => x0
  s1.setSlotAt site slot { x1 with walks := [], held := false, fenced := [], bw := none }

/-- What is written into a slot's record: its fixed blocks, then its dirty blocks in ascending order (R304, R305). -/
def State.recordParts (s : State) (site slot acc : Nat) : List (Nat × List Byte) :=
  let x := s.slotAt site slot
  s.fixedParts x acc ++ (s.dirtyBlocks site slot).map (fun b => (blockOff x (s.tileAt site) slot b, s.blockBytes site slot b))

/-- An instance whose load is under way goes back to where it was: DEFINED if it never ran, else EVICTED with its record (R225). -/
def State.abandonPlaced (s : State) (site slot uid : Nat) (i : Inst) (why : SaveWhy) : State :=
  match why with
  | .move _ _ => s
  | _ =>
    let cut := match why with | .cut => s.cutOf uid i | _ => i.cut
    let s1 := (s.abandonLoad uid).freeSlot site slot
    let ran := match i.kept with | some k => k.ran | none => false
    let s2 := if ran then s1.setInst uid { i with st := .evicted, place := none, cut := cut }
      else (s1.endMoved uid i).setInst uid { i with st := .defined, place := none, cut := cut, rec_ := none, kept := none, from_ := none }
    (s2.forgetWaits uid).finishEvicts

/-- An order to save reaches a tile: the stronger of two orders counts (a cut before an EVICT before a move, log 31). -/
def strongerSave : Option SaveWhy → SaveWhy → SaveWhy
  | some .cut, _ => .cut
  | some .evict, .move _ _ => .evict
  | _, w => w

/-- SAVE_ORDER_AT_TILE: the instance stops at its next bundle boundary, and the release part of its move begins (R306, R364); one whose load is
under way abandons it (R225). -/
def execSaveOrderAtTile (uid : Nat) (why : SaveWhy) (s : State) : Host.Outcome State Fault Refusal :=
  match s.inst uid with
  | none => .next s
  | some i =>
    if s.stale (agSite (match i.place with | some p => p.1 | none => 0) 0) i.ctx i.inc then .next (s.drop i.ctx)
    else match i.place with
    | none => .next s
    | some (site, slot) =>
      let x := s.slotAt site slot
      if x.inst ≠ some uid then .next (s.send (tileChan site) (.saveOrderAtTile uid why))
      else if x.st = .placed then .next (s.abandonPlaced site slot uid i why)
      else if x.st = .faulted ∨ x.cancelReq.isSome ∨ x.exits then .next s
      else
        let s1 := (s.atSlot site slot).beginRelease .domain
        let y := s1.slotAt site slot
        .next (((s1.setSlotAt site slot { y with stopReq := some (strongerSave y.stopReq why) }).stopIssue
          site slot).setIss s.iss)

/-! ### Restore (R306, R309) -/

/-- The lent ways of a saved instance. -/
def Inst.lent (i : Inst) : List Nat := match i.kept with | some x => x.dirty | none => []

/-- May the saved ways be lent on a tile: each is CACHE, and two CACHE ways are left (R146, R306)? -/
def State.canLend (s : State) (site : Nat) (ws : List Nat) : Bool :=
  ws.all (fun w => s.cacheWay site w) && decide (2 ≤ ((List.range 10).filter (fun w => s.cacheWay site w && !(ws.contains w))).length)

/-- May the restore of the instance placed in a slot go on: its ways can be lent, and the unit has room for the multiplies that it resumes (R166,
R171)? -/
def State.restoreReady (s : State) (site slot : Nat) : Bool :=
  let x := s.slotAt site slot
  x.st == .placed && !(s.tileAt site).frozen && decide (x.retryAt ≤ s.time) &&
  (match s.instOf site slot with
   | some (_, i) => (match i.kept with
     | some k => s.canLend site i.lent && decide ((s.tileAt site).unit.length + k.aprCap.length ≤ 4)
     | none => false)
   | none => false)

/-- Bytes of a record, by offset: the parts that a restore reads back. -/
def restoreParts (x : Slot) (ways acc : Nat) : List (Nat × Nat) :=
  [(0, 0x100), (0x100, 0x200), (0x300, 0x80), (0x400, 0x1400), (0x1800, 0xF00), (0x2700, 32)] ++
  ((List.range 4).filter (fun i => acc.testBit i)).map (fun i => (0x8000 + 0x2000 * i, 0x2000)) ++
  [(0x10000, x.sys.sizeA), (0x10000 + x.sys.sizeA, x.sys.sizeB), (0x10000 + x.sys.sizeA + x.sys.sizeB, 0x10000 * ways)]

/-- Reads parts of a record; the first that does not read ends it. -/
def State.readRecord (s : State) (walker c inc base : Nat) : List (Nat × Nat) → List (Nat × List Byte) → State × SysRes × List (Nat × List Byte)
  | [], acc => (s, .ok [], acc)
  | (off, n) :: r, acc =>
    let (s1, x) := s.sysRead walker c inc (base + off) n (toll := false)
    match x with
    | .ok bs => State.readRecord s1 walker c inc base r (acc ++ [(off, bs)])
    | e => (s1, e, acc)

/-- The kind with which a restore faults (R309); any other fault of the read keeps its kind. -/
def restoreKind (k : FKind) : FKind :=
  match k with
  | .hbmue | .poisonld => .saveue
  | .checkmiss => .savecheck
  | k => k

/-- Has every template name of a PURE kernel a current copy, or a backing (R309)? -/
def State.pureAgain (s : State) (i : Inst) : Bool :=
  i.kern.pure && i.kern.subs.all (fun t => (s.homeName i.ctx i.inc (t.nameAt i)).current.isSome || ((s.ctx i.ctx).backs (spaceOf (t.nameAt i))).isSome)

/-- A restore that fails (R309): the instance is FAULTED, or that of a pure kernel returns to DEFINED; its record is free. -/
def State.restoreFail (s : State) (site slot uid : Nat) (i : Inst) (k : FKind) (va : Nat) : State :=
  let s := s.endMoved uid i
  let i1 := { i with rec_ := none, kept := none, from_ := none }
  if (k = .saveue ∨ k = .savecheck) ∧ s.pureAgain i then
    (s.freeSlot site slot).setInst uid { i1 with st := .defined, place := none, cut := none }
  else (s.setInst uid i1).faultSlot site slot k 2 (BitVec.ofNat 64 (va - va % 64))

/-- The slot with the registers of a record: `k` is what the opaque blocks hold, `x` the slot as placed (R304). Registers that the record does
not hold are undefined (R46, R225). -/
def State.fromRecord (s : State) (x k : Slot) (acc : Nat) (part : Nat → List Byte) : Slot :=
  let w (o n : Nat) : Nat := bytesWord (((part o).drop (8 * n)).take 8)
  let m := w 0x300 8
  let y := s.forgetY k 1600
  { y with
    bound := x.bound, inst := x.inst, codeSize := x.codeSize, parkAt := x.parkAt, yld := x.yld, templ := x.templ, serial := x.serial
    awaitOrder := x.awaitOrder, awaitSend := x.awaitSend, ackC := x.ackC, ackCR := x.ackCR, ackA := x.ackA, ackAR := x.ackAR
    acquiring := x.acquiring, codeOf := k.codeOf, ran := k.ran, infl := [], pend := [], held := false, walks := [], mmag := none
    stopReq := none, cancelReq := none, fenced := [], dirty := [], waited := 0
    latch := BitVec.ofNat 5 (m / 256 % 32) ||| (match k.wait with | .idle _ _ _ => 0 | _ => 16), lockLost := m.testBit 16
    wait := match k.wait with | .idle _ _ _ => .none | w => w
    marks := marksOf (bytesWord ((part 0x2700).take 16)) aRegs ++ marksOf (bytesWord (((part 0x2700).drop 16).take 2)) oRegs ++
      marksOf (bytesWord (((part 0x2700).drop 18).take 8)) vRegs ++ marksOf (bytesWord (((part 0x2700).drop 26).take 2)) wRegs
    ch := Vector.ofFn (fun i : Fin 16 => { (k.ch[i]) with tr := none, walk := none, beat := none, seq := (x.ch[i]).seq, unacked := (x.ch[i]).unacked })
    f := { y.f with
      a := Vector.ofFn (fun i : Fin 64 => if i.val = 0 then 0 else BitVec.ofNat 64 (w 0x100 i.val))
      o := Vector.ofFn (fun i : Fin 8 => BitVec.ofNat 64 (w 0x300 i.val))
      p := Vector.ofFn (fun i : Fin 8 => decide (i.val = 0) || m.testBit i.val)
      v := Vector.ofFn (fun i : Fin 32 => BitVec.ofNat 1024 (bytesWord (((part 0x400).drop (128 * i.val)).take 128)))
      w := Vector.ofFn (fun i : Fin 8 => BitVec.ofNat 1024 (bytesWord (((part 0x400).drop (0x1000 + 128 * i.val)).take 128)))
      acc := Vector.ofFn (fun i : Fin 4 => Vector.ofFn (fun j : Fin 32 =>
        if acc.testBit i.val then BitVec.ofNat 2048 (bytesWord (((part (0x8000 + 0x2000 * i.val)).drop (256 * j.val)).take 256))
        else Config.freeRow s.tick (1700 + 32 * i.val + j.val))) }
    sys := { k.sys with
      fpstatus := BitVec.ofNat 64 (w 0x300 9), fptrapen := BitVec.ofNat 64 (w 0x300 10), rngseed := BitVec.ofNat 64 (w 0x300 11)
      cycle := w 0x300 12, slewhold := w 0x300 13, dbgen := x.sys.dbgen, baseA := x.sys.baseA, sizeA := x.sys.sizeA, baseB := x.sys.baseB
      sizeB := x.sys.sizeB, share := x.sys.share, prioBase := x.sys.prioBase, groups := x.sys.groups } }

/-- Writes the windows and ways of a record back into the slot's memory. -/
def State.fillWindows (s : State) (site slot : Nat) (x : Slot) (ways : List Nat) (part : Nat → List Byte) : State :=
  let s1 := s.scratchWrite site slot 0 (part 0x10000)
  let s2 := s1.scratchWrite site slot 0x100000 (part (0x10000 + x.sys.sizeA))
  (ways.zip (List.range ways.length)).foldl (fun s (w, j) =>
    s.scratchWrite site slot (0x200000 + 0x10000 * w) (((part (0x10000 + x.sys.sizeA + x.sys.sizeB)).drop (0x10000 * j)).take 0x10000)) s2

/-- Lends ways to a slot; their lines leave the cache first (R146). -/
def State.lendWays (s : State) (site slot : Nat) (ws : List Nat) : State :=
  let s1 := s.emptyWays site (fun w => ws.contains w)
  s1.setTileAt site ((s1.tileAt site).setWays (fun w r => if ws.contains w then .lent slot else r))

/-- Reinstalls the subscription slots of a moved instance (R227). -/
def State.reinstall (s : State) (site slot : Nat) : State :=
  (List.range 16).foldl (fun s n =>
    let x := s.slotAt site slot
    let u := x.subAt n
    if u.st == .idle || (u.st == .landed && !u.persist) then s
    else s.send (linkChan 0 site .tile x.sys.ctxid u.name) (.subAtRouter site .tile { x.subMsg site slot n with moving := true })) s

/-- What a restored instance is: PARKED and WAITING ones stay so, others are READY (R225, log 31). -/
def restoredState (x : Slot) : InstState :=
  match x.st with
  | .parked => .parked
  | .waiting => .waiting
  | _ => .ready

/-- The slot `x` of an instance that goes on in it as after a restore (R307): the y registers and the accumulators that the save does not keep are
undefined (R46, R225), an IDLE is over (R107), and nothing of the save is left. -/
def State.resumed (s : State) (x : Slot) (acc : Nat) : Slot :=
  let y := s.forgetY x 1600
  { y with
    stopReq := none, fenced := [], held := false, walks := [], waited := 0
    latch := y.latch ||| (match y.wait with | .idle _ _ _ => 0 | _ => 16)
    wait := match y.wait with | .idle _ _ _ => .none | w => w
    ch := y.ch.map (fun c => { c with tr := none, walk := none, beat := none })
    f := { y.f with acc := Vector.ofFn (fun i : Fin 4 => if acc.testBit i.val then y.f.acc[i] else
      Vector.ofFn (fun j : Fin 32 => Config.freeRow s.tick (1700 + 32 * i.val + j.val))) } }

/-- A slot's instance goes on with what `y` holds: its recorded multiplies resume in the unit, its subscription slots are reinstalled, and the
acquire part of its move begins (R171, R227, R364). -/
def State.resumeIn (s : State) (site slot : Nat) (i : Inst) (y : Slot) : State :=
  let t := s.tileAt site
  let st := restoredState y
  let s1 := (s.setSlotAt site slot { y with st := st, aprCap := [], readyAt := if st = .ready then s.time else y.readyAt }).setTileAt site
    { t with unit := t.unit ++ y.aprCap.map (fun p => { p.2 with slot := slot }) }
  let s2 := (s1.reinstall site slot).startAcquire site slot i.ctx i.inc
  if y.st = .waiting then s2.templatesDone site slot else if st = .ready then s2.rejoin site slot else s2

/-- EVICTION_COMPLETE: the instance of a slot is saved (R306, R307): multiplies stop, subscription slots are withdrawn as moving, the record is
written and valid, and the slot is free. Where a write into the record faults, the instance resumes in its slot as after a restore there (R307). -/
def execEvictionComplete (uid : Nat) (s : State) : Host.Outcome State Fault Refusal :=
  match s.inst uid with
  | none => .next s
  | some i =>
    match i.place with
    | none => .next s
    | some (site, slot) =>
      match (s.slotAt site slot).stopReq with
      | none => .next s
      | some why =>
        if (s.slotAt site slot).inst ≠ some uid ∨ !(s.stoppable site slot) then .next s
        else
          let (s0, r) := s.takeRec (fieldOf site) i
          match r with
          | .migrating => .next (s0.recLater site slot)
          | .full => .next (s0.saveFailed site slot uid why)
          | .fault k va => .next ((s0.saveFault site slot k va).saveFailed site slot uid why)
          | .got h =>
            let s2 := s0.stopForSave site slot
            let (s3, res) := s2.writeParts (fieldOf site) i.ctx i.inc (s2.recAddr (s2.slotAt site slot) i.ctx h) (s2.recordParts site slot i.kern.acc)
            match res with
            | .migrating => .next (s0.recLater site slot)
            | .fault k va =>
              let s4 := (s3.setInst uid { i with rec_ := some (h, false) }).saveFault site slot k va
              match why with
              | .cut => .next (s4.saveFailed site slot uid why)
              | _ =>
                let s5 := s4.moveSubs site slot
                .next ((((s5.resumeIn site slot i (s5.resumed (s5.slotAt site slot) i.kern.acc)).evicted uid false 0)).finishEvicts)
            | .ok _ =>
              let s4 := s3.moveSubs site slot
              let x := s4.slotAt site slot
              let kept := { x with dirty := ((List.range 10).filter (fun w => (s2.tileAt site).lentTo slot w)) }
              .next (s4.saved site slot uid i kept why h (16 + (s2.dirtyBlocks site slot).length))

/-- RESTORE: the record is read into the granted slot, its ways are lent again, its subscription slots are reinstalled and its multiplies resume
(R171, R227, R306, R309, R364). -/
def execRestore (uid site slot : Nat) (s : State) : Host.Outcome State Fault Refusal :=
  match s.inst uid with
  | none => .next s
  | some i =>
    match i.kept, i.rec_ with
    | some k, some (h, _) =>
      if (s.slotAt site slot).inst ≠ some uid ∨ !(s.restoreReady site slot) then .next s
      else
        let x := s.slotAt site slot
        let base := s.recAddr x i.ctx h
        let (s1, r, parts) := s.readRecord (fieldOf site) i.ctx i.inc base (restoreParts x i.lent.length i.kern.acc) []
        match r with
        | .migrating => .next (s1.recLater site slot)
        | .fault f va => .next (s1.restoreFail site slot uid i (restoreKind f) va)
        | .ok _ =>
          let part (o : Nat) : List Byte := ((parts.find? (fun p => decide (p.1 = o))).map (·.2)).getD []
          let s2 := (s1.lendWays site slot i.lent).fillWindows site slot x i.lent part
          let y := s2.fromRecord (s2.slotAt site slot) k i.kern.acc part
          .next ((s2.setInst uid { i with rec_ := none, kept := none }).resumeIn site slot i y)
    | _, _ => .next s

/-! ### Migration (R225, R391) -/

/-- Must the instance of a slot leave its tile: the tile is defective, and no order is under way (R391)? The instance, and the slot that it could
go to, or its own where none can take it yet. -/
def State.mustMove (s : State) (site slot : Nat) : Option (Nat × Nat × Nat) :=
  let x := s.slotAt site slot
  if !(s.mgmt.defective.contains site) ∨ (s.tileAt site).frozen ∨ x.stopReq.isSome ∨ x.cancelReq.isSome then none
  else if !(x.st == .waiting || x.st == .ready || x.st == .running || x.st == .parked) || x.exits then none
  else match s.instOf site slot with
    | some (u, i) =>
      let dest := (s.bestSlot i).getD (site, slot)
      if s.agenda.any (fun p => match p.ev with | .saveOrderAtTile v _ => decide (v = u) | _ => false) then none
      else some (u, dest.1, dest.2)
    | none => none

/-- MIGRATE: the scheduler orders an instance off its tile; once it is saved it is MIGRATING, and is placed where a slot can take it (R225, R226,
R391). -/
def execMigrate (uid site slot : Nat) (s : State) : Host.Outcome State Fault Refusal :=
  match s.inst uid with
  | some i =>
    match i.place with
    | some (a, b) =>
      if (s.slotAt a b).inst = some uid ∧ (s.slotAt a b).stopReq.isNone then .next (s.send (tileChan a) (.saveOrderAtTile uid (.move site slot)))
      else .next s
    | none => .next s
  | none => .next s

/-! ### Background writing (R305, R324) -/

/-- Has a tile's port no flit to send (R305)? -/
def State.portIdle (s : State) (site : Nat) : Bool :=
  s.held.all (fun e => decide (e.2.agent ≠ site)) && (List.range 4).all (fun k => (List.range 17).all (fun j => !(s.canOffer site k j)))

/-- May the tile write a block of the slot in the background (R305): only with no flit to send? -/
def State.bgReady (s : State) (site slot : Nat) : Bool :=
  let x := s.slotAt site slot
  x.bg && x.inst.isSome && x.bound.isSome && !(s.tileAt site).frozen && decide (x.retryAt ≤ s.time) && !(s.dirtyBlocks site slot).isEmpty &&
  (x.st == .waiting || x.st == .ready || x.st == .running || x.st == .parked) && s.portIdle site

/-- Writes one dirty block of the slot into its record h: its bit clears as the write-out reads it. -/
def State.writeBlock (s : State) (site slot h b : Nat) : State × SysRes :=
  let x := s.slotAt site slot
  let (s1, r) := s.sysWrite (fieldOf site) x.sys.ctxid x.sys.incarn (s.recAddr x x.sys.ctxid h + blockOff x (s.tileAt site) slot b) (s.blockBytes site slot b)
    (toll := false)
  match r with
  | .ok _ => (s1.setSlotAt site slot { s1.slotAt site slot with dirty := (s1.slotAt site slot).dirty.erase b }, r)
  | _ => (s1, r)

/-- BACKGROUND_WRITE: the lowest dirty block goes into the record (R305); a fault switches background writing off (R307). -/
def execBackgroundWrite (site slot : Nat) (s : State) : Host.Outcome State Fault Refusal :=
  if !(s.bgReady site slot) then .next s
  else match s.instOf site slot, s.dirtyBlocks site slot with
    | some (u, i), b :: _ =>
      let off (s : State) : State := s.setSlotAt site slot { s.slotAt site slot with bg := false }
      let (s0, r) := s.takeRec (fieldOf site) i
      match r with
      | .migrating => .next (s0.recLater site slot)
      | .full => .next s0
      | .fault k va => .next (off (s0.saveFault site slot k va))
      | .got h =>
        let s1 := s0.setInst u { i with rec_ := some (h, match i.rec_ with | some (_, v) => v | none => false) }
        let (s2, w) := s1.writeBlock site slot h b
        match w with
        | .fault k va => .next (off (s2.saveFault site slot k va))
        | .migrating => .next (s2.recLater site slot)
        | .ok _ => .next s2
    | _, _ => .next s

/-- Does a CHKP.now of the slot go on (R324)? One of an instance that has ended writes nothing more (R306). -/
def State.chkpReady (s : State) (site slot : Nat) : Bool :=
  let x := s.slotAt site slot
  !x.chkp.isEmpty && x.inst.isSome && x.bound.isSome && !(s.tileAt site).frozen && decide (x.retryAt ≤ s.time) &&
  (x.st == .waiting || x.st == .ready || x.st == .running || x.st == .parked)

/-- A CHKP.now ends, and D gets its result. -/
def State.chkpEnd (s : State) (site slot : Nat) (d : Reg) (v : Nat) : State :=
  let x := s.slotAt site slot
  (s.setSlotAt site slot { x with chkp := x.chkp.tail }).replyAt s.time site slot d (BitVec.ofNat 1024 v) .plain

/-- A CHKP.now goes on by one block, or ends (R305, R307, R324): the record is taken first; a page that migrates holds it up (R335). -/
def State.chkpGo (s : State) (site slot : Nat) : State :=
  match s.chkpReady site slot, (s.slotAt site slot).chkp, s.instOf site slot with
  | true, (d, bs, n) :: r, some (u, i) =>
    let (s0, t) := s.takeRec (fieldOf site) i
    match t with
    | .migrating => s0.recLater site slot
    | .full => s0.chkpEnd site slot d 0xFFFFFFFF
    | .fault k va => (s0.saveFault site slot k va).chkpEnd site slot d 0xFFFFFFFE
    | .got h =>
      let s1 := s0.setInst u { i with rec_ := some (h, match i.rec_ with | some (_, v) => v | none => false) }
      match bs.filter (fun b => (s1.dirtyBlocks site slot).contains b) with
      | [] => s1.chkpEnd site slot d n
      | b :: rest =>
        let (s2, w) := s1.writeBlock site slot h b
        match w with
        | .ok _ => s2.setSlotAt site slot { s2.slotAt site slot with chkp := (d, rest, n + 1) :: r }
        | .migrating => s2.recLater site slot
        | .fault k va => (s2.saveFault site slot k va).chkpEnd site slot d 0xFFFFFFFE
  | _, _, _ => s

/-! ### Token buckets (R317) -/

/-- The share of a context at a port; 0 counts as 1 (R316). -/
def State.shareOf (s : State) (agent c : Nat) : Nat :=
  if agent < 6144 then
    match (List.range 4).find? (fun k => (s.slotAt agent k).bound.isSome && decide ((s.slotAt agent k).sys.ctxid = c)) with
    | some k => max 1 (s.slotAt agent k).sys.share
    | none => 1
  else max 1 (s.ctx c).share

/-- CAP: what a refill divides (R317). -/
def refillCap (agent : Nat) : Nat := if agent < 6144 then 65536 else 1638400

/-- May a refill be made: it is due, and the port has buckets? -/
def State.refillReady (s : State) (agent : Nat) : Bool := s.refillDue agent && !(s.boundTo agent).isEmpty

/-- The refill of R317: the contexts with a flit or a request that waits share CAP. -/
def State.refill (s : State) (agent : Nat) : State :=
  let cs := s.boundTo agent
  let sum := cs.foldl (fun n c => if s.portWaits agent c then n + s.shareOf agent c else n) 0
  cs.foldl (fun (t : State) c =>
    let old := s.tokensAt agent c
    if s.portWaits agent c then
      let g := refillCap agent * s.shareOf agent c / sum
      t.setTokens agent c (min (old + g) (2 * g))
    else t.setTokens agent c (min old (s.shareOf agent c * refillCap agent / 256))) s

/-- TIME at which a port's next period begins: one period on; of many that have passed at once the last two stand for all, since buckets have
stopped changing by then. -/
def nextRefill (last period time : Nat) : Nat :=
  if last + 3 * period ≤ time then time - (time - last) % period - period else last + period

/-- TOKEN_REFILL at a tile port, or at the hedge agent of stack h as agent 6,144 + h, each 1,024 cycles (R317). -/
def execTokenRefill (agent : Nat) (s : State) : Host.Outcome State Fault Refusal :=
  if !(s.refillDue agent) then .next s
  else .next { s.refill agent with
    refills := KMap.set s.refills agent (nextRefill (KMap.getD s.refills agent 0) (s.refillPeriod agent) s.time) }

/-! ### Syllables (R318 to R324) -/

/-- Who asks: the slot at issue, its register, its context and incarnation. -/
def State.asker (s : State) (d : Reg) : Asker × Nat × Nat := (⟨s.iss.site, s.iss.slot, d⟩, s.cur.sys.ctxid, s.cur.sys.incarn)

/-- read(A)[63:8] must be 0 (R318). -/
def ctxOperand (f : RRR) (s : State) (k : Nat → Reg → State → State) : Act :=
  let a := s.readS 32 f.a
  if 256 ≤ a.toNat then cTrap .rsvfield a else .ok (k a.toNat (dstS f.d) (s.setCur (s.cur.await (dstS f.d))))

/-- A kill takes effect: EVICTs of the context are abandoned, the new incarnation is to be broadcast (R28, R312, R320). -/
def State.killCtx (s : State) (c : Nat) (w : Asker × Nat × Nat) : State :=
  let x := s.ctx c
  let s1 := s.setCtx c { x with st := .killed, inc := (x.inc + 1) % 4096, told := [], swept := [], drops := 0, fence := s.time, fenceOk := false
                                killWho := some w, inval := [], couldWrite := s.canWrite c }
  let mine := s1.evicts.filter (fun e => decide (e.ctx = c))
  mine.foldl (fun s e => s.send 0 (.interlockedResultLand e.who.site e.who.slot e.issuer.1 e.issuer.2 e.who.dst (BitVec.ofNat 1024 e.result) .plain))
    { s1 with evicts := s1.evicts.filter (fun e => decide (e.ctx ≠ c)), hedgeTokens := s1.hedgeTokens.filter (fun p => decide (p.1 % 256 ≠ c)),
              ovflStall := KMap.del s1.ovflStall c }

/-- CTXK (R320). -/
def effCtxk (f : RRR) (s : State) : Act :=
  let b := s.readS 24 f.b
  ctxOperand f s (fun c d s =>
    let w := s.asker d
    let x := s.ctx c
    if c = s.cur.sys.ctxid ∨ x.st ≠ .active then s.ctxReply w c causeCtxstate 0
    else if b.getLsbD 12 ∧ (b.extractLsb' 0 12).toNat ≠ x.inc then s.ctxReply w c causeIncstale 0
    else s.killCtx c w)

/-- RECLM (R321). -/
def effReclm (f : RRR) (s : State) : Act :=
  ctxOperand f s (fun c d s =>
    let w := s.asker d
    let x := s.ctx c
    match x.st with
    | .killed => s.setCtx c { x with reclWho := x.reclWho ++ [w] }
    | .reclaimed => s.ctxReply w c 0 x.drops
    | _ => s.ctxReply w c causeCtxstate 0)

/-- CTXR start: the descriptor is read after the release part for path C (R298, R322). -/
def effCtxrStart (f : RRR) (s : State) : Act :=
  let b := s.readS 24 f.b
  ctxOperand f s (fun c d s =>
    let w := s.asker d
    let x := s.ctx c
    if x.st ≠ .free ∧ x.st ≠ .reclaimed then s.ctxReply w c causeCtxstate 0
    else
      let s1 := (s.setCtx c { x with st := .creating, prev := x.st, startWho := none }).beginRelease .system
      s1.sendRel 0 (.descriptorReadDone c w.1 w.2.1 w.2.2 b.toNat)
        ((s1.relWait true true).map (fun (r : RelWait) => { r with wps := [] })))

/-- CTXR free (R298, R322). -/
def effCtxrFree (f : RRR) (s : State) : Act :=
  ctxOperand f s (fun c d s =>
    let w := s.asker d
    let x := s.ctx c
    if x.st ≠ .reclaimed then s.ctxReply w c causeCtxstate 0
    else ((s.setCtx c { x with st := .free }).ctxReply w c 0 0).ctxEvent w 4 c 0)

/-- The instances of a context that are placed in the fields of a mask (R323). -/
def State.placedIn (s : State) (c : Nat) (mask : Word) : List (Nat × Nat) :=
  s.insts.filterMap (fun (u, i) => match i.place with
    | some (site, _) => if i.ctx = c ∧ mask.getLsbD (fieldOf site) then some (u, site) else none
    | none => none)

/-- EVICT (R323). -/
def evictAct (f : RRR) (unbind : Bool) (s : State) : Act :=
  let b := s.readS 24 f.b
  ctxOperand f s (fun c d s =>
    let w := s.asker d
    let x := s.ctx c
    if x.st ≠ .active then
      s.send 0 (.interlockedResultLand w.1.site w.1.slot w.2.1 w.2.2 w.1.dst (BitVec.ofNat 1024 causeCtxstate) .plain)
    else
      let us := s.placedIn c b
      let op : EvictOp := ⟨c, x.inc, b, unbind, w.1, w.2, us.map (·.1), us.map (·.1), 0, 0, 0⟩
      let s1 : State := { s with evicts := s.evicts ++ [op] }
      (us.foldl (fun (s : State) (u, site) => s.send (tileChan site) (.saveOrderAtTile u .evict)) s1).finishEvicts)
def effEvict (f : RRR) (s : State) : Act := evictAct f false s
/-- EVICT with UNBIND (R323). -/
def effEvictUnbind (f : RRR) (s : State) : Act := evictAct f true s

/-- CHKP.now: the slot's dirty blocks are to be written; D lands when they are (R305, R324). -/
def effChkpNow (f : RRR) (s : State) : Act :=
  let x := s.cur.await (dstS f.d)
  .ok (s.setCur { x with chkp := x.chkp ++ [(dstS f.d, s.dirtyBlocks s.iss.site s.iss.slot, 0)] })
/-- CHKP.bgon (R324). -/
def effChkpBgon (f : RRR) (s : State) : Act := .ok ((s.setCur { s.cur with bg := true }).selfReply (dstS f.d) 0 .plain)
/-- CHKP.bgoff (R324). -/
def effChkpBgoff (f : RRR) (s : State) : Act := .ok ((s.setCur { s.cur with bg := false }).selfReply (dstS f.d) 0 .plain)

/-! The instructions: each acts as its effect says where its guard holds (R33). -/

/-- CTXK. -/
def execCtxk (h : Hdr) (f : RRR) (s : State) : Host.Outcome State Fault Refusal := asStep h (effCtxk f) s
/-- RECLM. -/
def execReclm (h : Hdr) (f : RRR) (s : State) : Host.Outcome State Fault Refusal := asStep h (effReclm f) s
/-- CTXR_START. -/
def execCtxrStart (h : Hdr) (f : RRR) (s : State) : Host.Outcome State Fault Refusal := asStep h (effCtxrStart f) s
/-- CTXR_FREE. -/
def execCtxrFree (h : Hdr) (f : RRR) (s : State) : Host.Outcome State Fault Refusal := asStep h (effCtxrFree f) s
/-- EVICT. -/
def execEvict (h : Hdr) (f : RRR) (s : State) : Host.Outcome State Fault Refusal := asStep h (effEvict f) s
/-- EVICT_UNBIND. -/
def execEvictUnbind (h : Hdr) (f : RRR) (s : State) : Host.Outcome State Fault Refusal := asStep h (effEvictUnbind f) s
/-- CHKP_NOW. -/
def execChkpNow (h : Hdr) (f : RRR) (s : State) : Host.Outcome State Fault Refusal := asStep h (effChkpNow f) s
/-- CHKP_BGON. -/
def execChkpBgon (h : Hdr) (f : RRR) (s : State) : Host.Outcome State Fault Refusal := asStep h (effChkpBgon f) s
/-- CHKP_BGOFF. -/
def execChkpBgoff (h : Hdr) (f : RRR) (s : State) : Host.Outcome State Fault Refusal := asStep h (effChkpBgoff f) s

end Sys2Proof.Machine
end

