-- ==== Sys2Proof/Machine/Link.lean ====
section
/-! DEFINITION. Links to hosts and peers (18_link R370 to R388): link states, Quinholt flits, remote requests, LSEND, and the host. -/

namespace Sys2Proof.Machine

/-! ### The rim (R17, R18) -/

/-- The rim field that carries Quinholt link k, Ethernet port i, PCIe port p, and the management controller (R17, R18). -/
def rimOfQuinholt (k : Nat) : Nat := 65 + 6 * (k / 16) + k / 4 % 4
def rimOfEthernet (i : Nat) : Nat := 64 + 6 * (i / 2) + 5 * (i % 2)
def rimOfPcie (p : Nat) : Nat := if p = 0 then 82 else 75
def rimOfController : Nat := 76
/-- The rim field of a link; links 74 and 75 are the second links of bifurcated PCIe ports (R382). -/
def rimOfLink (l : Nat) : Nat :=
  if l < 2 then rimOfPcie l else if l < 66 then rimOfQuinholt (l - 2) else if l < 74 then rimOfEthernet (l - 66) else rimOfPcie (l - 74)

/-! ### LSEND on its way (R387, R388) -/

/-- The Ethernet port of an LSEND for module m: from (m + name) mod 8 on, the first that is usable (R387). -/
def State.etherPort (s : State) (m : Nat) (name : Word) : Option Nat :=
  ((List.range 8).map (fun i => ((m + name.toNat) % 8 + i) % 8)).find? (fun j => (s.link (66 + j)).usable)
/-- The Quinholt link on which an LSEND for module m starts (R387). -/
def nameLink (name : Word) (m : Nat) : Nat := (name.toNat % 64) ^^^ (m % 64)

/-- The system time base (R380). -/
def State.timeBase (s : State) : Nat := (s.mgmt.sysTime + s.time) % 2 ^ 64

/-- Ends an LSEND: its slot awaits one less; with a kind, a record is published whose EVAL is the name (R388, log 32). -/
def State.endLsend (s : State) (id : Nat) (k : Option FKind) : State :=
  match KMap.get? s.lsends id with
  | none => s
  | some e =>
    let s1 := { s with lsends := KMap.del s.lsends id }
    let x := s1.slotAt e.site e.slot
    let s2 := if x.bound = some (e.ctx, e.inc) then s1.setSlotAt e.site e.slot { x with awaitSend := x.awaitSend - 1 } else s1
    match k with
    | some k => s2.record ⟨e.ctx, e.inc, none⟩ { kind := k, origin := 3, eval := e.name }
    | none => s2

/-- The check values of granules of a segment of an LSEND, from granule `part` on: R189's, under the destination name. -/
def frameChecks (name : Word) (idx part : Nat) (bytes : List Byte) : List (BitVec 32) :=
  (List.range (bytes.length / 64)).map (fun j => checkValue (granAt bytes j) name.toNat (64 * idx + part + j))
/-- Do the check values of a segment match its bytes (R388)? -/
def LFrame.sound (f : LFrame) : Bool := f.checks == frameChecks f.name f.idx f.part f.bytes
/-- A segment of an LSEND, or the part of it from a granule on, as it leaves. -/
def State.lframe (s : State) (id : Nat) (e : LSendOut) (seq idx part : Nat) (bytes : List Byte) (age : Nat) : LFrame :=
  { srcDomain := s.domainNum, srcModule := s.modnum, srcCtx := e.ctx, dstCtx := e.dctx, name := e.name, linger := e.linger, seq := seq, id := id,
    age := age, idx := idx, size := e.size, bytes := bytes, checks := frameChecks e.name idx part bytes, part := part, dstDomain := e.dom
    dstModule := e.module, srcInc := e.inc }

/-- An Ethernet frame: the EtherType, the header with the fields of a flit's header in the same layout, the domain numbers in places of the model's own
(log 51), and the payload (R380). SEQ is the low part of the number that TAG holds. -/
def LFrame.ethernet (f : LFrame) : List Byte :=
  let chk (j : Nat) : Nat := (f.checks.getD j 0).toNat
  beBytes 2 Config.etherType.toNat ++
  wordBytes 8 (5 + 2 ^ 8 * f.srcCtx + 2 ^ 16 * f.srcInc + 2 ^ 28 * f.age + 2 ^ 44 * f.srcModule + 2 ^ 54 * f.dstModule) ++
  wordBytes 8 (f.seq % 4096 + 2 ^ 24 + 2 ^ 26 * min (f.bytes.length / 64) 3) ++ wordBytes 8 f.name.toNat ++
  wordBytes 8 (f.seq % 2 ^ 32 + 2 ^ 32 * (f.idx + 2 ^ 6 * f.linger + 2 ^ 14 * f.dstCtx)) ++ wordBytes 8 (chk 0 + 2 ^ 32 * chk 1) ++ wordBytes 8 (chk 2) ++
  wordBytes 8 (f.srcDomain + 2 ^ 7 * f.dstDomain) ++ wordBytes 8 0 ++ f.bytes

/-- Sends a frame through an Ethernet port: its AGE is the time base in units of 32 ns (R380), and the link-use flag is set (R312). -/
def State.sendFrame (s : State) (p id : Nat) (e : LSendOut) (seq idx : Nat) (bytes : List Byte) : State :=
  let s1 := s.setCtx e.ctx { s.ctx e.ctx with linkUse := true }
  let f := s.lframe id e seq idx 0 bytes (s.timeBase / 32 % 65536)
  { s1 with outbox := s1.outbox ++ [.frame p f (LFrame.ethernet f)] }

/-- A frame or flit of an LSEND has left: it awaits its verdict (R388). -/
def State.noteFrame (s : State) (id : Nat) (port : Option Nat) (idx : Nat) (bytes : List Byte) : State :=
  match KMap.get? s.lsends id with
  | none => s
  | some e =>
    { s with frameSeq := (s.frameSeq + 1) % 2 ^ 32
             lsends := KMap.set s.lsends id { e with frames := e.frames ++ [(s.frameSeq, port, idx, bytes, s.time)], sent := e.sent + 1 } }

/-- The parts of a segment that flits carry, three granules each, with the first granule of each (R373). -/
def flitParts (bytes : List Byte) : List (Nat × List Byte) :=
  (List.range ((bytes.length + 191) / 192)).map (fun i => (3 * i, (bytes.drop (192 * i)).take 192))
/-- Frames or flits in which an LSEND goes: one for each segment, in the own domain one for each three granules of it. -/
def LSendOut.pieces (e : LSendOut) (own : Nat) : Nat :=
  if e.dom = own then (List.range (segsOf e.size)).foldl (fun n i => n + (segLen e.size i + 191) / 192) 0 else segsOf e.size

/-- One flit of a segment leaves over a Quinholt link; with none usable the LSEND ends with LINKDOWN (R387, R388). -/
def State.sendPart (s : State) (id idx : Nat) (p : Nat × List Byte) : State :=
  match KMap.get? s.lsends id with
  | none => s
  | some e =>
    match s.egress (nameLink e.name e.module) e.module
        { ty := 5, ctx := e.ctx, inc := e.inc, age := 0, src := s.modnum, dst := e.module, seq := 0, ack := 0, nak := false, lcrc := 0,
          tag := s.frameSeq, req := none, reply := none, seg := some (s.lframe id e s.frameSeq idx p.1 p.2 0), accept := false } true with
    | some s1 => s1.noteFrame id none idx p.2
    | none => s.endLsend id (some .linkdown)

/-- An LSEND's segment leaves: over a Quinholt link in the own domain, else by Ethernet; with neither usable the LSEND ends with LINKDOWN
(R387, R388). -/
def State.sendSegment (s : State) (id : Nat) (e : LSendOut) (idx : Nat) (bytes : List Byte) : State :=
  if e.dom = s.domainNum then (flitParts bytes).foldl (fun s p => s.sendPart id idx p) s
  else match s.etherPort e.module e.name with
    | some p =>
      if s.stale (agLink (66 + p)) e.ctx e.inc then s.drop e.ctx else (s.sendFrame p id e s.frameSeq idx bytes).noteFrame id (some p) idx bytes
    | none => s.endLsend id (some .linkdown)

/-- The number of an LSEND under way. -/
def lsendId (site slot serial : Nat) : Nat := (site * 4 + slot) * 65536 + serial

/-- A segment of an LSEND has been read from the scratchpad and leaves the tile (R387). -/
def State.lsendOut (s : State) (site slot : Nat) (q : Queued) (idx : Nat) (buf : List Byte) : State :=
  let x := s.slotAt site slot
  let id := lsendId site slot q.serial
  match q.lsend with
  | none => s
  | some (d, m, c) =>
    let e0 : LSendOut :=
            { site := site, slot := slot, ctx := x.sys.ctxid, inc := x.sys.incarn, name := q.name, dom := d, module := m, dctx := c,
              linger := q.linger, size := q.size, serial := q.serial, t0 := s.time, frames := [], sent := 0, accepted := 0 }
    let s1 := if idx = 0 then { s with lsends := KMap.set s.lsends id e0 } else s
    match KMap.get? s1.lsends id with
    | none => s1
    | some e => s1.sendSegment id e idx buf

/-- PUB_INJECT: one flit of a slot's injection queue leaves (R209, R387), and the templates of an EXIT.pub that wait for room enter (R233). -/
def execPubInject (site slot : Nat) (s : State) : Host.Outcome State Fault Refusal :=
  if s.injectReady site slot then
    .next ((s.injectFlit site slot (fun q idx buf s1 => s1.lsendOut site slot q idx buf)).exitEnter site slot)
  else .next s

/-! ### Link states (R370, R371) -/

/-- A link enters TRAINING; at the fourth entry within 1 s the controller quarantines it (R370). -/
def Link.train (x : Link) (now : Nat) : Link :=
  let ts := x.trainings.filter (fun t => decide (now < t + 1000000000)) ++ [now]
  { x with st := if 4 ≤ ts.length then .quarantined else .training, trainings := ts, retryAt := none, replays := [] }

/-- The link on which a flit starts again (R371, R377): by its block, or by its name. -/
def flitStart (f : Flit) : Option Nat :=
  match f.seg, f.req with
  | some g, _ => some (nameLink g.name f.dst)
  | none, some r => some (linkOf r.pa f.dst)
  | none, none => none

/-- What becomes of a flit that finds no link any more (R378, R388). -/
def State.flitLost (s : State) (f : Flit) : State :=
  match f.ty with
  | 5 => match f.seg with | some g => s.endLsend g.id (some .linkdown) | none => s
  | 6 => s
  | _ => match KMap.get? s.out f.tag with
    | some (_, r) => if f.ty < 3 ∧ f.src = s.modnum then State.remoteFail { s with out := KMap.del s.out f.tag } r FKind.remotedown else s
    | none => s

/-- Sends the frame `seq` of an LSEND again, on the port that R387 now takes (R371, R380); one of an ended incarnation is dropped there (R310, R376). -/
def State.resendFrame (s : State) (id seq : Nat) : State :=
  match KMap.get? s.lsends id with
  | none => s
  | some e => match e.frames.find? (fun f => decide (f.1 = seq)) with
    | none => s
    | some (_, _, idx, bytes, _) => match s.etherPort e.module e.name with
      | none => s.endLsend id (some .linkdown)
      | some p =>
        if s.stale (agLink (66 + p)) e.ctx e.inc then State.drop { s with lsends := KMap.del s.lsends id } e.ctx
        else
        let s1 := s.sendFrame p id e seq idx bytes
        { s1 with lsends := KMap.set s1.lsends id { e with frames := e.frames.map (fun f => if f.1 = seq then (seq, some p, idx, bytes, s.time) else f) } }

/-- Is it a request or a segment of a context of this module, whose incarnation a link port checks at egress (R376)? -/
def State.ownFlit (s : State) (f : Flit) : Bool := decide (f.src = s.modnum) && (decide (f.ty < 3) || decide (f.ty = 5))

/-- Puts a link in another state; when it stops being usable, its unacknowledged flits are sent again on the links that R377 chooses, before any
new flit, and an Ethernet port's frames likewise (R371). -/
def State.relink (s : State) (l : Nat) (y : Link) : State :=
  let fs := y.retry ++ y.txq
  if (s.link l).usable && !y.usable then
    let s1 := s.setLink l { y with retry := [], txq := [] }
    if 66 ≤ l then
      s1.lsends.foldl (fun s (id, e) => (e.frames.filter (fun f => f.2.1 == some (l - 66))).foldl (fun s f => s.resendFrame id f.1) s) s1
    else
      let dest (f : Flit) : Option Nat := (flitStart f).bind (fun k => s1.linkFrom k f.dst)
      let s2 := (List.range 64).foldl (fun s j =>
        let mine := fs.filter (fun f => dest f == some j)
        let old := mine.filter (fun f => s.ownFlit f && s.stale (agLink (2 + j)) f.ctx f.inc)
        let s2 := old.foldl (fun s f => s.drop f.ctx) s
        if mine.isEmpty then s else s2.setLink (2 + j) ((s2.link (2 + j)).pushFirst (mine.filter (fun f => !(old.contains f))))) s1
      (fs.filter (fun f => (flitStart f).isSome && (dest f).isNone)).foldl (fun s f => s.flitLost f) s2
  else s.setLink l y

/-- Is there such a link: one of the 74, or the second link of a bifurcated port (R369, R382)? -/
def State.hasLink (s : State) (l : Nat) : Bool := decide (l < 74) || (decide (l < 76) && s.mgmt.bifurcated.contains (l - 74))
/-- Bring-up ends once no PCIe port is training any more: READY is set (R392). -/
def State.bringUp (s : State) : State :=
  if s.mgmt.ready || s.mgmt.recovery || [0, 1, 74, 75].any (fun l => (s.link l).st == .training) then s
  else { s with mgmt := { s.mgmt with ready := true } }
/-- A link changes its state: the management controller, which gives the state of each link, reports the new one (R370 to R372, log 20). -/
def State.linkTo (s : State) (l : Nat) (y : Link) : State :=
  if !(s.hasLink l) then s
  else if y.st = (s.link l).st then s.setLink l y
  else
    let s1 := s.relink l y
    State.bringUp { s1 with outbox := s1.outbox ++ [.linkState l y.st] }

/-- LINK_ENABLE: training starts (R370, R392). -/
def execLinkEnable (l : Nat) (s : State) : Host.Outcome State Fault Refusal :=
  let x := s.link l
  .next (if x.st = .down then s.linkTo l (x.train s.time) else s)
/-- LINK_QUARANTINE (R370). -/
def execLinkQuarantine (l : Nat) (s : State) : Host.Outcome State Fault Refusal :=
  .next (s.linkTo l { s.link l with st := .quarantined, retryAt := none })
/-- LINK_RELEASE (R370). -/
def execLinkRelease (l : Nat) (s : State) : Host.Outcome State Fault Refusal :=
  let x := s.link l
  .next (if x.st = .quarantined then s.linkTo l { x with st := .down } else s)
/-- A link that has trained starts its sequence afresh (log 33). -/
def Link.trained (x : Link) (st : LinkState) : Link := if x.st = .training then { x with st := st, txSeq := 0, rxSeq := 4095 } else x
/-- LINK_TRAINED_FULL (R370). -/
def execLinkTrainedFull (l : Nat) (s : State) : Host.Outcome State Fault Refusal := .next (s.linkTo l ((s.link l).trained .up))
/-- LINK_TRAINED_REDUCED (R370). -/
def execLinkTrainedReduced (l : Nat) (s : State) : Host.Outcome State Fault Refusal := .next (s.linkTo l ((s.link l).trained .degraded))
/-- Has a link been training for 10 ms (R370)? -/
def Link.trainOver (x : Link) (now : Nat) : Bool :=
  x.st == .training && (match x.trainings.getLast? with | some t => decide (t + 10000000 ≤ now) | none => true)
/-- LINK_TRAINING_TIMEOUT: DOWN, with a retry 100 ms later (R370). -/
def execLinkTrainingTimeout (l : Nat) (s : State) : Host.Outcome State Fault Refusal :=
  let x := s.link l
  .next (if x.trainOver s.time then s.linkTo l { x with st := .down, retryAt := some (s.time + 100000000) } else s)
/-- Is the retry of a training due? -/
def Link.retryDue (x : Link) (now : Nat) : Bool := x.st == .down && (match x.retryAt with | some t => decide (t ≤ now) | none => false)
/-- LINK_RETRY (R370). -/
def execLinkRetry (l : Nat) (s : State) : Host.Outcome State Fault Refusal :=
  let x := s.link l
  .next (if x.retryDue s.time then s.linkTo l (x.train s.time) else s)
/-- More than 16 replays within 1 ms are an error burst (R370). -/
def Link.bursts (x : Link) (now : Nat) : Bool := x.usable && decide (16 < (x.replays.filter (fun t => decide (now < t + 1000000))).length)
/-- ERROR_BURST (R370). -/
def execErrorBurst (l : Nat) (s : State) : Host.Outcome State Fault Refusal :=
  let x := s.link l
  .next (if x.usable then s.linkTo l (x.train s.time) else s)
/-- LINK_LOSS (R370). -/
def execLinkLoss (l : Nat) (s : State) : Host.Outcome State Fault Refusal :=
  let x := s.link l
  .next (if x.st = .quarantined then s else s.linkTo l { x with st := .down })
/-- SWITCH_LINK_REPORT: switch k reports whether its link to a module is usable (R377). -/
def execSwitchLinkReport (k module : Nat) (usable : Bool) (s : State) : Host.Outcome State Fault Refusal :=
  .next (if usable then { s with swDown := s.swDown.erase (k, module) }
    else if s.swDown.contains (k, module) then s else { s with swDown := s.swDown ++ [(k, module)] })

/-! ### Flits (R373 to R376) -/

/-- Does an acknowledgement cover a flit's sequence (R374)? -/
def ackCovers (ack seq : Nat) : Bool := decide ((ack + 4096 - seq % 4096) % 4096 < 2048)

/-- A link-control flit that carries a NAK and names the flit that the receiver expects (R374, log 51). -/
def nakFlit (s : State) (want : Nat) : Flit :=
  { ty := 7, ctx := 0, inc := 0, age := 0, src := s.modnum, dst := 0, seq := 0, ack := 0, nak := true, lcrc := 0, tag := want, req := none,
    reply := none, seg := none, accept := false }

/-- FLIT_RECEIVE: only the next flit in order, with a good link check, is accepted; any other draws a NAK. An acknowledgement frees the retry
buffer, a NAK is a replay from the flit that it names, and a flit of a reserved type is dropped and counted (R373, R374). -/
def execFlitReceive (l : Nat) (f : Flit) (s : State) : Host.Outcome State Fault Refusal :=
  let x := s.link l
  if l < 2 ∨ 66 ≤ l ∨ !x.usable then .next s
  else if f.lcrc ≠ Flit.linkCheck f ∨ f.seq ≠ (x.rxSeq + 1) % 4096 then .next (s.setLink l (x.push (nakFlit s ((x.rxSeq + 1) % 4096))))
  else
    let kept := x.retry.filter (fun g => !(ackCovers f.ack g.seq))
    let sent := x.txq.take (512 - kept.length)
    let x1 := { x with rxSeq := f.seq, retry := kept
                       replays := if f.ty = 7 ∧ f.nak then x.replays.filter (fun t => decide (s.time < t + 1000000)) ++ [s.time] else x.replays }
    let s1 := s.setLink l ((if f.ty = 7 ∧ f.nak then x1.replay f.tag else x1).pushFirst [])
    let s2 := { s1 with out := s1.out.map (fun (g, t, r) => (g, if sent.any (fun h => decide (h.ty < 3) && decide (h.tag = g)) then s.time else t, r)) }
    .next (if 8 ≤ f.ty then s2.countDropped else if f.ty = 7 then s2 else { s2 with inq := s2.inq ++ [(l, s.time, if f.ty < 3 then { f with reply := none } else f)] })

/-- AGE of a flit that has waited in the module since `t` (R375). -/
def State.ageOf (s : State) (t : Nat) (f : Flit) : Nat := min 65535 (f.age + (s.time - t) / 32)

/-- Takes a flit out of the input queue, where it is there: the state after that, and its AGE. -/
def State.takeIn (s : State) (p : Nat → Flit → Bool) (age : Nat) : State × Nat × Option Flit :=
  match s.inq.find? (fun e => p e.1 e.2.2) with
  | some e => ({ s with inq := s.inq.erase e }, s.ageOf e.2.1 e.2.2, some e.2.2)
  | none => (s, age, none)

/-- AGEOUT: a flit of 1 ms is dropped; one of a context of this module publishes a record, a request from another module is counted (R375). The
record's EVAL is free: the spec states none (log 23). -/
def execAgeout (f : Flit) (s : State) : Host.Outcome State Fault Refusal :=
  let s1 := (s.takeIn (fun _ g => g == f) 0).1
  let rec_ (ctx inc origin : Nat) : State := s1.record ⟨ctx, inc, none⟩ { kind := .ageout, origin := origin, eval := s.freeW 760 }
  match f.ty with
  | 3 | 4 => .next (rec_ f.ctx f.inc 2)
  | 6 => .next (rec_ f.ctx f.inc 3)
  | 5 => match f.seg with
    | some g => if (s.ctx g.dstCtx).st = .active then .next (rec_ g.dstCtx (s.ctx g.dstCtx).inc 3) else .next s1.countDropped
    | none => .next s1.countDropped
  | _ => .next s1.countDropped

/-- The flits of the input queue that are next in their class on their link (R374): those that are too old, and the others. -/
def State.inqHeads (s : State) : List (Nat × Nat × Flit) :=
  let go := s.inq.foldl (fun (seen : List (Nat × Nat) × List (Nat × Nat × Flit)) e =>
    if seen.1.contains (e.1, Flit.cls e.2.2) then seen else (seen.1 ++ [(e.1, Flit.cls e.2.2)], seen.2 ++ [e])) ([], [])
  go.2

/-! ### Remote requests and responses (R376, R378) -/

/-- The flit of a request of which `r` is left, its first half performed, goes on at the head of the input queue, with what that half has met (R355). -/
def State.putBack (s : State) (l t : Nat) (f : Flit) (r : MemReq) (bads : List (Nat × FKind)) : State :=
  { s with inq := (l, t, { f with req := some r, reply := some { data := [], poison := false, err := none, bads := bads } }) :: s.inq }

/-- REMOTE_REQUEST: a request of another module is performed at its physical address alone, a whole line by halves (R355), and answered; what it meets
there is recorded by its own module (R376, R378). One that is too old is never performed (R375). -/
def execRemoteRequest (l : Nat) (f : Flit) (s : State) : Host.Outcome State Fault Refusal :=
  let (s1, age, _) := s.takeIn (fun k g => k == l && g == f) f.age
  match f.req with
  | none => .next s1
  | some r =>
    let since := match s.inq.find? (fun e => e.1 == l && e.2.2 == f) with | some e => e.2.1 | none => s.time
    if 31250 ≤ age then .next s1.countDropped
    else if MemOp.whole r.op then
      let (s2, r2) := s1.performHalf { r with ctx := 256 } (decide (Config.pick s.tick 610 % 2 = 1))
      .next (s2.putBack l since f { r2 with ctx := r.ctx } (match r.op with
        | .line bs m _ => (s1.maskBads (paLocal r.pa) bs.length m).filter (fun e => decide (e.1 ≠ paLocal r2.pa / 64))
        | _ => []))
    else
      let p := s1.performAt { r with ctx := 256 }
      let rep := { p.2 with bads := (match f.reply with | some q => q.bads | none => []) ++ p.2.bads }
      let resp : Flit := { f with ty := if f.ty = 1 then 4 else 3, age := age, src := s.modnum, dst := f.src, nak := false, reply := some rep }
      match p.1.egress (linkOf r.pa f.src) f.src resp false with
      | some s2 => .next s2
      | none => .next p.1

/-- The records of what a request met at its home in another module, published here: of a read an uncorrectable error that it found, of a write or an
atomic every granule whose merge made poison (R336, R338, R378). -/
def State.remoteBads (s : State) (q : MemReq) (r : MemReply) : State :=
  let reads := match q.op with | .read _ | .rest _ _ => true | _ => false
  if 256 ≤ q.ctx then s
  else (r.bads.filter (fun e => !reads || e.2 == .hbmue)).foldl (fun s e =>
    s.record ⟨q.ctx, q.inc, none⟩ { kind := e.2, origin := 2, eval := BitVec.ofNat 64 (paModule q.pa * 2 ^ 42 + 64 * e.1) }) s

/-- REMOTE_RESPONSE: the response reaches whoever asked; one whose request has timed out is dropped as an orphan (R311, R378). -/
def execRemoteResponse (tag : Nat) (r : MemReply) (s : State) : Host.Outcome State Fault Refusal :=
  let (s1, _, f) := s.takeIn (fun _ g => decide (g.tag = tag) && (decide (g.ty = 3) || decide (g.ty = 4))) 0
  match KMap.get? s1.out tag with
  | some (_, q) => .next (State.answer (State.remoteBads { s1 with out := KMap.del s1.out tag } q r) q.ctx q.inc q.who r)
  | none => match f with
    | some g => .next (if g.ctx < 256 then s1.drop g.ctx else s1)
    | none => .next s1

/-- Has a request gone 2 ms without a response (R378)? -/
def State.remoteOver (s : State) (tag : Nat) : Bool :=
  match KMap.get? s.out tag with
  | some (t, _) => decide (t + 2000000 ≤ s.time)
  | none => false

/-- REMOTETMO (R378). -/
def execRemotetmo (tag : Nat) (s : State) : Host.Outcome State Fault Refusal :=
  match KMap.get? s.out tag with
  | some (t, r) => .next (if t + 2000000 ≤ s.time then State.remoteFail { s with out := KMap.del s.out tag } r FKind.remotetmo else s)
  | none => .next s

/-! ### LSEND at the receiver and its verdicts (R380, R381, R388) -/

/-- Sends a verdict on a segment to its source, with the INC of the request, and its AGE over a Quinholt link, where the verdict continues from that of the
segment's flit (R375, R376, R381, R388). A verdict that finds no usable Ethernet port does not leave. -/
def State.sendVerdict (s : State) (f : LFrame) (age : Nat) (accept : Bool) : State :=
  if f.srcDomain = s.domainNum then
    (s.egress (nameLink f.name f.srcModule) f.srcModule
      { ty := 6, ctx := f.srcCtx, inc := f.srcInc, age := age, src := s.modnum, dst := f.srcModule, seq := 0, ack := 0, nak := false, lcrc := 0,
        tag := f.seq, req := none, reply := none, seg := some f, accept := accept } false).getD s
  else match s.etherPort f.srcModule f.name with
    | some p => { s with outbox := s.outbox ++ [.verdict p f.srcDomain f.srcModule f.seq accept (s.timeBase / 32 % 65536) f.srcInc] }
    | none => s

/-- Does the admission table let a segment in (R381)? -/
def State.admits (s : State) (f : LFrame) : Bool :=
  s.mgmt.admission.any (fun e => e.2 == (f.srcDomain, f.srcModule, f.srcCtx, f.dstCtx)) && (s.ctx f.dstCtx).st == .active

/-- Source and sequence, by which duplicates are known (R380). -/
def frameKey (f : LFrame) : Nat × Nat := (f.srcDomain * 1024 + f.srcModule, f.seq)

/-- The rim field at which a segment of an LSEND has come in over a Quinholt link: from there its payload enters the mesh (R18, log 24). -/
def State.frameRim (s : State) (f : LFrame) : Option Nat :=
  (s.inq.find? (fun e => decide (e.2.2.ty = 5) && e.2.2.seg == some f)).map (fun e => rimOfLink e.1)

/-- LSEND_SEGMENT_RECEIVE: an old frame, a duplicate and one whose check fails are dropped; the rest is admitted or rejected; with the last
segment the payload is published as a hedge agent publishes it, in the current incarnation (R380, R381, R388). -/
def execLsendSegmentReceive (f : LFrame) (s : State) : Host.Outcome State Fault Refusal :=
  let own := decide (f.srcDomain = s.domainNum)
  let (s0, age, _) := s.takeIn (fun _ g => decide (g.ty = 5) && g.seg == some f) f.age
  if !own ∧ !((List.range 8).any (fun i => (s.link (66 + i)).usable)) then .next s0
  else if !own ∧ 31250 ≤ (s.timeBase / 32 + 65536 - f.age % 65536) % 65536 then .next s0.countDropped
  else if !(LFrame.sound f) ∨ s.seen.any (fun (e : (Nat × Nat) × Nat) => decide (e.1 = frameKey f) && decide (s.time < e.2 + 3000000)) then .next s0
  else
    let s1 := { s0 with seen := s0.seen.filter (fun (e : (Nat × Nat) × Nat) => decide (s.time < e.2 + 3000000)) ++ [(frameKey f, s.time)] }
    let is (e : LSendIn) : Bool := decide (e.srcDomain = f.srcDomain ∧ e.srcModule = f.srcModule ∧ e.id = f.id)
    let c := s1.ctx f.dstCtx
    let e := (s1.lsendIn.find? is).getD
      { srcDomain := f.srcDomain, srcModule := f.srcModule, id := f.id, dctx := f.dstCtx, inc := c.inc, name := f.name, linger := f.linger,
        size := f.size, segs := [] }
    let rest := s1.lsendIn.filter (fun e => !(is e))
    if !(s1.admits f) ∨ e.inc ≠ c.inc then .next (State.sendVerdict { s1 with lsendIn := rest } f age false)
    else
      let segs := (e.segs ++ [(64 * f.idx + f.part, f.bytes)]).mergeSort (fun a b => decide (a.1 ≤ b.1))
      let data := segs.flatMap (fun g => g.2)
      if data.length < e.size then .next (State.sendVerdict { s1 with lsendIn := rest ++ [{ e with segs := segs }] } f age true)
      else .next ((State.hedgePublish { s1 with lsendIn := rest } e.dctx c.inc e.name e.linger (data.take e.size) 0 (s.frameRim f)).sendVerdict f age true)

/-- LSEND_VERDICT: a verdict on the frame of sequence `id`; the LSEND is accepted with its last segment, and rejected with any (R388). -/
def execLsendVerdict (id : Nat) (accept : Bool) (s : State) : Host.Outcome State Fault Refusal :=
  let s1 := (s.takeIn (fun _ g => decide (g.ty = 6) && decide (g.tag = id) && g.accept == accept) 0).1
  match s1.lsends.find? (fun p => p.2.frames.any (fun f => decide (f.1 = id))) with
  | none => .next s1
  | some (n, e) =>
    if !accept then .next (s1.endLsend n (some .sendrej))
    else if e.accepted + 1 = e.pieces s.domainNum then .next (s1.endLsend n none)
    else .next { s1 with lsends := KMap.set s1.lsends n { e with frames := e.frames.filter (fun f => decide (f.1 ≠ id)), accepted := e.accepted + 1 } }

/-- Has an LSEND gone 1 ms from its first egress with a segment unanswered (R388)? -/
def LSendOut.over (e : LSendOut) (now : Nat) : Bool := !e.frames.isEmpty && decide (e.t0 + 1000000 ≤ now)

/-- LSEND_VERDICT_TIMEOUT (R388). -/
def execLsendVerdictTimeout (id : Nat) (s : State) : Host.Outcome State Fault Refusal :=
  match KMap.get? s.lsends id with
  | some e => .next (if e.over s.time then s.endLsend id (some .linkdown) else s)
  | none => .next s

/-- The frames of Ethernet ports that are due to be sent again, with their LSEND (R380). -/
def State.resendsDue (s : State) : List (Nat × Nat × Nat) :=
  s.lsends.flatMap (fun (id, e) => e.frames.filterMap (fun f => match f.2.1 with
    | some p => if f.2.2.2.2 + 100000 ≤ s.time then some (p, f.1, id) else none
    | none => none))

/-- FRAME_RESEND: every 100 µs a frame without a verdict is sent again (R380). -/
def execFrameResend (port id : Nat) (s : State) : Host.Outcome State Fault Refusal :=
  match s.resendsDue.find? (fun e => decide (e.1 = port) && decide (e.2.1 = id)) with
  | some (_, q, n) => .next (s.resendFrame n q)
  | none => .next s

/-- PTP_MESSAGE: the best master clock algorithm places at most one port in the SLAVE state, a message at that port adjusts the time base, and any other
port serves as a master (R380, log 5). -/
def execPtpMessage (port : Nat) (msg : List Byte) (s : State) : Host.Outcome State Fault Refusal :=
  if !((s.link (66 + port)).usable) then .next s
  else
    let set := (s.mgmt.ptpDomain, s.mgmt.ptpPrio1, s.mgmt.ptpPrio2)
    let slave := (Config.ptpSlave s.mgmt.ptpSlave set port msg).filter (fun p => decide (p < 8))
    let base := if slave = some port then Config.ptpAdjust s.timeBase msg else s.timeBase
    let out := if slave = some port then [] else (Config.ptpAnswer s.timeBase set msg).map (fun m => OutMsg.ptp port m)
    .next { s with mgmt := { s.mgmt with ptpSlave := slave, sysTime := (base + 2 ^ 64 - s.time % 2 ^ 64) % 2 ^ 64 }, outbox := s.outbox ++ out }

/-! ### The host (R383 to R385) -/

/-- The management controller counts n bad granules and signals vector 0 of the port for each (R384). -/
def State.hostBad (s : State) (port n : Nat) : State :=
  { s with mgmt := { s.mgmt with badTlp := s.mgmt.badTlp + n }, outbox := s.outbox ++ List.replicate n (.msix port 0) }

/-- What a host write does to the metadata of its granules: a partial one is merged (R338, R384). -/
def State.hostMerge (s : State) (port pa n : Nat) : State :=
  let part (g : Nat) : Bool := !(decide (pa ≤ 64 * g ∧ 64 * g + 64 ≤ pa + n))
  let bad := (granules pa n).filter (fun g => part g && (s.granBad g).isSome)
  ((granules pa n).foldl (fun s g => s.mergeGran 256 0 pa n false g) s).hostBad port bad.length

/-- What is left of a host write comes next on its port; it was accepted with the write (R383). -/
def State.hostRest (s : State) (port : Nat) (ev : Instr) : State := { s with agenda := ⟨0, chanKey 20 port, ev, none, [], [], []⟩ :: s.agenda }

/-- An access that the module does not support: its port answers so, and its Advanced Error Reporting shows it (R382, R383, log 58). -/
def State.unsupported (s : State) (port : Nat) : State :=
  { s with outbox := s.outbox ++ [.unsupported port], mgmt := { s.mgmt with aer := KMap.set s.mgmt.aer port (KMap.getD s.mgmt.aer port 0 ||| 2 ^ 20) } }

/-- HOST_WRITE: path H, through BAR 4 (R383, R384). Granule by granule it is performed whole, with the metadata of the granule (R338, R355); the first
granule or the last one first (log 14). -/
def execHostWrite (port : Nat) (w : HostAt) (bytes : List Byte) (s : State) : Host.Outcome State Fault Refusal :=
  let pa := w.pa
  if !w.rest && !(s.hostOk port) then .next s
  else if localSize < pa + bytes.length then .next (s.unsupported port)
  else
    let put (s : State) (a : Nat) (bs : List Byte) : State := (s.hostMerge port a bs.length).memPut a bs
    let head := 64 - pa % 64
    let tail := (pa + bytes.length - 1) % 64 + 1
    if bytes.length ≤ head then .next (put s pa bytes)
    else if Config.pick s.tick 660 % 2 = 0 then
      .next ((put s pa (bytes.take head)).hostRest port (.hostWrite port ⟨pa + head, true⟩ (bytes.drop head)))
    else
      let n := bytes.length - tail
      .next ((put s (pa + n) (bytes.drop n)).hostRest port (.hostWrite port ⟨pa, true⟩ (bytes.take n)))

/-- The granule-wise parts of a host read. -/
def hostParts (pa n : Nat) : List (Nat × Nat) :=
  (granules pa n).map (fun g => (max pa (64 * g), min (pa + n) (64 * g + 64) - max pa (64 * g)))

/-- The bits of one bit per site in the doubleword at `off` of a block that begins at `base` (R396). -/
def siteWord (base off : Nat) (bit : Nat → Bool) : Nat :=
  (List.range 64).foldl (fun n j => n + if bit ((off - base) / 8 * 64 + j) then 2 ^ j else 0) 0
/-- BOOTSTAT (R396). -/
def Mgmt.bootstat (m : Mgmt) : Nat :=
  (if m.ready then 1 else 0) + (if m.recovery then 2 else 0) + m.running * 4 + m.failA * 256 + m.failB * 65536
/-- Bit of site `i` in quarter q of TILEMAP: enabled, router works, defective, hot (R396). -/
def State.tileBit (s : State) (q i : Nat) : Bool :=
  match q with
  | 0 => !(s.disabled.contains i)
  | 1 => !(s.deadRouters.contains i)
  | 2 => s.mgmt.defective.contains i
  | _ => s.mgmt.hot.contains i
/-- Doubleword i of TILEMAP (R396). -/
def State.tilemap (s : State) (i : Nat) : Nat :=
  (List.range 64).foldl (fun n j => n + if s.tileBit (i / 96) (64 * (i % 96) + j) then 2 ^ j else 0) 0
/-- What a read of the management register at an offset of BAR 0 returns (R396). -/
def State.mgmtReg (s : State) (off : Nat) : Nat :=
  if off = 0x00 then s.mgmt.bootstat
  else if off = 0x08 then s.mgmt.modcapNext
  else if off = 0x10 then s.mgmt.defopNext
  else if off = 0x18 then s.modnum + s.domainNum * 1024 + (if s.mgmt.modValid then 2 ^ 31 else 0)
  else if off = 0x20 then s.tilemap s.mgmt.tileIdx
  else if off = 0x28 then s.mgmt.tileIdx
  else if 0x100 ≤ off ∧ off < 0x400 then siteWord 0x100 off (fun i => s.mgmt.freeze.contains i)
  else if 0x400 ≤ off ∧ off < 0x700 then siteWord 0x400 off (fun i => s.mgmt.dbg.contains i)
  else if 0x1000 ≤ off ∧ off < 0x2000 then (KMap.getD s.mgmt.mailbox off 0).toNat
  else 0
/-- The bytes of a read of BAR 0, and what it does: one that touches TILEMAP advances TILEIDX (R396). -/
def State.mgmtRead (s : State) (off n : Nat) : State × List Byte :=
  let bs := (List.range n).map (fun i => (wordBytes 8 (s.mgmtReg ((off + i) / 8 * 8))).getD ((off + i) % 8) 0)
  (if off < 0x28 ∧ 0x20 < off + n then { s with mgmt := { s.mgmt with tileIdx := (s.mgmt.tileIdx + 1) % 384 } } else s, bs)

/-- A read of BAR 4, granule by granule: each is verified, and one that is poison or fails its check goes out poisoned (R384). -/
def State.hostMemRead (s : State) (port pa n : Nat) : State :=
  match hostParts pa n with
  | [] => s
  | (a, k) :: r =>
    let (s1, rep) := s.homeRead 256 0 a k
    let bad := rep.poison || rep.err.isSome
    let s2 := State.hostBad { s1 with outbox := s1.outbox ++ [.completion port rep.data bad] } port (if bad then 1 else 0)
    if r.isEmpty then s2 else s2.sendFront (chanKey 20 port) (.hostRead port ⟨4, a + k⟩ (pa + n - (a + k)))

/-- HOST_READ through BAR 0, the management registers, BAR 2, the append window, or BAR 4, local memory (R242, R383, R384, R396). -/
def execHostRead (port : Nat) (r : BarAt) (n : Nat) (s : State) : Host.Outcome State Fault Refusal :=
  if !(s.hostOk port) then .next s
  else match r.bar with
    | 0 =>
      let (s1, bs) := s.mgmtRead r.off n
      .next { s1 with outbox := s1.outbox ++ [.completion port bs false] }
    | 2 => .next { s with outbox := s.outbox ++ [.completion port (s.windowRead r.off n) false] }
    | 4 => .next (if localSize < r.off + n then s.unsupported port else s.hostMemRead port r.off n)
    | _ => .next (s.unsupported port)

/-- HOST_SUBSCRIPTION_REGISTER: a persistent subscription to a system name goes to its home; ring and vector are kept (R385). -/
def execHostSubscriptionRegister (port ctx : Nat) (name : Word) (ring vector : Nat) (s : State) : Host.Outcome State Fault Refusal :=
  if spaceOf name < 0xF0 ∨ 0xF5 < spaceOf name ∨ vector = 0 ∨ 255 < vector ∨ 256 ≤ ctx ∨ !(s.hostOk port) then .next s
  else
    let inc := (s.ctx ctx).inc
    let n := s.mgmt.hostSubs.length
    .next (State.send { s with mgmt := { s.mgmt with hostSubs := s.mgmt.hostSubs ++ [(port, ctx, inc, name, ring, vector)] } }
      (homeChan 0 (8192 + n) ctx name)
      (.subAtHome ⟨ctx, inc, name, 8192 + n, 0, 0, true, 64, 0, true, false, false, none, none, 0⟩))

/-- HOST_EVENT_LANDING: the payload goes into the ring, then the vector is sent, on the same port; the home is told, and asked for the next copy
(R188, R385). It waits while the port's link carries nothing (R370). -/
def execHostEventLanding (sub : Nat) (payload : List Byte) (s : State) : Host.Outcome State Fault Refusal :=
  match s.mgmt.hostSubs[sub]? with
  | none => .next s
  | some (port, ctx, inc, name, ring, vector) =>
    if (s.ctx ctx).inc ≠ inc then .next (s.drop ctx)
    else if !((s.link (hostLink port)).usable) then .next (s.sendAt (s.time + 1000) 0 (.hostEventLanding sub payload))
    else
      let seq := ((s.homeName ctx inc name).subs.find? (fun r => r.is (8192 + sub) 0 0)).bind (·.last)
      let m : SlotMsg := ⟨ctx, inc, name, 8192 + sub, 0, 0, none, seq, false⟩
      let s1 := { s with outbox := s.outbox ++ [OutMsg.ring port ring payload, OutMsg.msix port vector] }
      .next ((s1.send (chanKey 29 sub) (.landingAckAtHome m)).send (chanKey 29 sub) (.nextRequestAtHome m))

/-- ADMISSION_TABLE_WRITE (R381). -/
def execAdmissionTableWrite (i srcDomain srcModule srcCtx dstCtx : Nat) (valid : Bool) (s : State) : Host.Outcome State Fault Refusal :=
  if 1024 ≤ i then .next s
  else
    let t := if valid then KMap.set s.mgmt.admission i (srcDomain, srcModule, srcCtx, dstCtx) else KMap.del s.mgmt.admission i
    .next { s with mgmt := { s.mgmt with admission := t } }

/-! ### LSEND (R386, R387) -/

/-- The checks of LSEND at issue (R387). -/
def lsendCheck (f : NamF) (s : State) : Option TrapInfo :=
  let b := s.readS 24 f.b
  if 0xF0 ≤ spaceOf (s.nameOf f) then some ⟨.nameSpace, 3, s.nameOf f⟩
  else if b.extractLsb' 19 13 ≠ 0 ∨ b.extractLsb' 57 7 ≠ 0 then some ⟨.rsvfield, 3, b⟩
  else match payloadCheck s (s.readS 32 f.a).toNat (b.toNat % 2 ^ 19) b with
    | some t => some t
    | none => if (b.extractLsb' 32 10).toNat = s.modnum ∧ (b.extractLsb' 42 7).toNat = s.domainNum then some ⟨.sendrej, 3, b⟩ else none

/-- LSEND waits while the injection queue is full (R387). -/
def waitLsend (f : NamF) (s : State) : Option Hold := waitQueue (lsendCheck f s) s
/-- LSEND (R387): it enters the injection queue; with REL the release part for path C at SYSTEM comes first. -/
def effLsend (f : NamF) (s : State) : Act :=
  match lsendCheck f s with
  | some t => .trap t
  | none =>
    let b := s.readS 24 f.b
    .ok (s.enqueue ⟨s.nameOf f, (s.readS 32 f.a).toNat, b.toNat % 2 ^ 19, f.i8.toNat, none,
      some ((b.extractLsb' 42 7).toNat, (b.extractLsb' 32 10).toNat, (b.extractLsb' 49 8).toNat), f.f.getLsbD 0, 0, 0, [], []⟩ true)

/-! The instructions: each acts as its effect says where its guard holds (R33). -/

/-- LSEND. -/
def execLsend (h : Hdr) (f : NamF) (s : State) : Host.Outcome State Fault Refusal :=
  asStepW h (waitLsend f) (effLsend f) s

end Sys2Proof.Machine
end

