-- ==== Sys2Proof/Machine/Vector.lean ====
section
/-! DEFINITION. The V class (05_vector R116 to R133): what each syllable writes, raises and faults. -/

namespace Sys2Proof.Machine

/-! ### Lane arithmetic (R121, R122) -/

/-- f32 lane results. -/
def fLane (x : FRes) : LaneRes := ⟨x.bits, x.flags, none⟩

/-- An integer lane result brought into range (R66). Where CK makes it fault, what the lane or node hands on to a later stage is 0, a value that the
spec does not state (DESIGN CHOICE, log 43). -/
def iLane (t : Nat) (m : BitVec 8) (x : Int) : LaneRes :=
  match tyBring t (mSat m) (mCk m) x with
  | some y => ⟨(y % (2 ^ 32 : Int)).toNat, if !(tyFits t x) && mSat m then flST + flNX else 0, none⟩
  | none => ⟨0, 0, some .iovf⟩

/-- A lane as a value of an integer type. -/
def laneI (t : Nat) (x : VReg) (i : Nat) : Int := tyWrap t (lane x i).toNat
/-- A lane as f32. -/
def laneF (x : VReg) (i : Nat) : Fp := decF32 (lane x i)

/-- A lane-by-lane syllable of two sources, f32 or integer by its type. -/
def vArith (s : State) (f : RRR) (lat : Nat) (fop : Rnd → Fp → Fp → FRes) (iop : Int → Int → Int) : Act :=
  let a := s.readV 32 f.a
  let b := s.readV 24 f.b
  if rrrT f = 10 then vRound s f lat true (fun r i => fLane (fop r (laneF a i) (laneF b i)))
  else vPlain s f lat (fun i => iLane (rrrT f) f.m (iop (laneI (rrrT f) a i) (laneI (rrrT f) b i)))

/-- VADD, VSUB (R121). -/
def effVadd (f : RRR) (s : State) : Act := vArith s f 4 (fun r a b => fpAdd fmtF32 r (mSat f.m) a b) (· + ·)
def effVsub (f : RRR) (s : State) : Act := vArith s f 4 (fun r a b => fpAdd fmtF32 r (mSat f.m) a b.negate) (· - ·)
/-- VMUL (R121). -/
def effVmul (f : RRR) (s : State) : Act := vArith s f 4 (fun r a b => fpMul fmtF32 r (mSat f.m) a b) (· * ·)
/-- VFMA: a x b + c, rounded once (R121). -/
def effVfma (f : RRR) (s : State) : Act :=
  let a := s.readV 32 f.a
  let b := s.readV 24 f.b
  let c := s.readV 16 f.c
  vRound s f 4 true (fun r i => fLane (fpFma fmtF32 r (mSat f.m) (laneF a i) (laneF b i) (laneF c i)))
/-- VFMS: c - a x b, rounded once (R121). -/
def effVfms (f : RRR) (s : State) : Act :=
  let a := s.readV 32 f.a
  let b := s.readV 24 f.b
  let c := s.readV 16 f.c
  vRound s f 4 true (fun r i => fLane (fpFma fmtF32 r (mSat f.m) (laneF a i).negate (laneF b i) (laneF c i)))

/-- The larger or smaller of two lanes (R122). -/
def maxMinLane (t : Nat) (wantMax : Bool) (a b : BitVec 32) : LaneRes :=
  if t = 10 then let (v, fl) := fMaxMin wantMax a b; ⟨v.toNat, fl, none⟩
  else
    let x := tyWrap t a.toNat
    let y := tyWrap t b.toNat
    ⟨if wantMax = decide (x < y) then b.toNat else a.toNat, 0, none⟩

/-- VMAX, VMIN (R122). -/
def effVmax (f : RRR) (s : State) : Act :=
  let a := s.readV 32 f.a
  let b := s.readV 24 f.b
  vPlain s f 4 (fun i => maxMinLane (rrrT f) true (lane a i) (lane b i))
def effVmin (f : RRR) (s : State) : Act :=
  let a := s.readV 32 f.a
  let b := s.readV 24 f.b
  vPlain s f 4 (fun i => maxMinLane (rrrT f) false (lane a i) (lane b i))

/-- VABS, VNEG: bit 31 alone for f32; R66 for i32 (R121). -/
def effVabs (f : RRR) (s : State) : Act :=
  let a := s.readV 32 f.a
  vPlain s f 2 (fun i => if rrrT f = 10 then ⟨(lane a i &&& 0x7FFFFFFF).toNat, 0, none⟩
    else iLane 2 f.m ((laneI 2 a i).natAbs : Int))
def effVneg (f : RRR) (s : State) : Act :=
  let a := s.readV 32 f.a
  vPlain s f 2 (fun i => if rrrT f = 10 then ⟨(lane a i ^^^ 0x80000000).toNat, 0, none⟩ else iLane 2 f.m (-(laneI 2 a i)))

/-- VDIV, VSQRT, VSCALE, VRINT (R121). -/
def effVdiv (f : RRR) (s : State) : Act :=
  let a := s.readV 32 f.a
  let b := s.readV 24 f.b
  vRound s f 16 true (fun r i => fLane (fpDiv fmtF32 r (mSat f.m) (laneF a i) (laneF b i)))
def effVsqrt (f : RRR) (s : State) : Act :=
  let a := s.readV 32 f.a
  vRound s f 16 true (fun r i => fLane (fpSqrt fmtF32 r (laneF a i)))
def effVscale (f : RRR) (s : State) : Act :=
  let a := s.readV 32 f.a
  let b := s.readV 24 f.b
  vRound s f 4 true (fun r i => fLane (fpScale fmtF32 r (mSat f.m) (laneF a i) (laneI 2 b i)))
def effVrint (f : RRR) (s : State) : Act :=
  let a := s.readV 32 f.a
  vRound s f 4 true (fun r i => fLane (fpRint fmtF32 r (laneF a i)))

/-- VIMUL, VIMULH (R121). -/
def effVimul (f : RRR) (s : State) : Act :=
  let a := s.readV 32 f.a
  let b := s.readV 24 f.b
  vPlain s f 4 (fun i => iLane (rrrT f) f.m (laneI (rrrT f) a i * laneI (rrrT f) b i))
def effVimulh (f : RRR) (s : State) : Act :=
  let a := s.readV 32 f.a
  let b := s.readV 24 f.b
  vPlain s f 4 (fun i => iLane (rrrT f) 0 (Int.fdiv (laneI (rrrT f) a i * laneI (rrrT f) b i) (2 ^ 32 : Nat)))

/-! ### Compare, select, count (R123, R124) -/

/-- One lane of VCMP: whether the condition holds, and the flags (R123). -/
def vcmpLane (t c : Nat) (a b : BitVec 32) : LaneRes :=
  let all (x : Bool) : Nat := if x then 0xFFFFFFFF else 0
  if t = 10 then
    let un := isNaN32 a || isNaN32 b
    let sn := isSNaN32 a || isSNaN32 b
    let x := fVal a
    let y := fVal b
    let holds := match c with
      | 0 => !un && decide (x = y) | 1 => un || decide (x ≠ y) | 2 => !un && decide (x < y) | 3 => !un && decide (y ≤ x)
      | 4 => !un && decide (x ≤ y) | 5 => !un && decide (y < x) | 6 => un | _ => !un
    ⟨all holds, if (if 2 ≤ c ∧ c ≤ 5 then un else sn) then flNV else 0, none⟩
  else ⟨all (cmpHolds c (tyWrap t a.toNat) (tyWrap t b.toNat) (a &&& b).toNat), 0, none⟩

/-- VCMP (R123). -/
def effVcmp (f : RRR) (s : State) : Act :=
  let a := s.readV 32 f.a
  let b := s.readV 24 f.b
  vPlain s f 2 (fun i => vcmpLane (rrrT f) f.c.toNat (lane a i) (lane b i))
/-- VSEL: lane of a where bit 31 of c is 1 (R124). -/
def effVsel (f : RRR) (s : State) : Act :=
  let a := s.readV 32 f.a
  let b := s.readV 24 f.b
  let c := s.readV 16 f.c
  .ok (s.vResult f.d (ofLanes (fun i => if (lane c i).getLsbD 31 then lane a i else lane b i)) 2)
/-- VMCNT: lanes whose bit 31 is 1 (R124). -/
def effVmcnt (f : RRR) (s : State) : Act :=
  let a := s.readV 32 f.a
  .ok (s.cResult f.d (BitVec.ofNat 64 ((List.range 32).filter (fun i => (lane a i).getLsbD 31)).length) 2)

/-! ### Bits, shifts, moves (R125, R126) -/

def effVand (f : RRR) (s : State) : Act := .ok (s.vResult f.d (s.readV 32 f.a &&& s.readV 24 f.b) 2)
def effVor (f : RRR) (s : State) : Act := .ok (s.vResult f.d (s.readV 32 f.a ||| s.readV 24 f.b) 2)
def effVxor (f : RRR) (s : State) : Act := .ok (s.vResult f.d (s.readV 32 f.a ^^^ s.readV 24 f.b) 2)
def effVmov (f : RRR) (s : State) : Act := .ok (s.vResult f.d (s.readV 32 f.a) 2)

/-- A lane shift by lane i of B as n32; SHIFTAMT under CK from 32 on (R125). -/
def vShift (s : State) (f : RRR) (op : BitVec 32 → Nat → BitVec 32) (big : BitVec 32 → BitVec 32) : Act :=
  let a := s.readV 32 f.a
  let b := s.readV 24 f.b
  vPlain s f 2 (fun i =>
    let m := (lane b i).toNat
    if m < 32 then ⟨(op (lane a i) m).toNat, 0, none⟩
    else if mCk f.m then ⟨0, 0, some .shiftamt⟩ else ⟨(big (lane a i)).toNat, 0, none⟩)
def effVshl (f : RRR) (s : State) : Act := vShift s f (fun a m => a <<< m) (fun _ => 0)
def effVshr (f : RRR) (s : State) : Act := vShift s f (fun a m => a >>> m) (fun _ => 0)
def effVsar (f : RRR) (s : State) : Act :=
  vShift s f (fun a m => a.sshiftRight m) (fun a => if a.getLsbD 31 then 0xFFFFFFFF else 0)

/-- VSPLAT: every dense element := x[w-1:0] (R126). -/
def effVsplat (f : RRR) (s : State) : Act :=
  let w := tyBits (rrrT f)
  let x := (s.readS 32 f.a).toNat
  .ok (s.vResult f.d (ofElems w (1024 / w) (fun _ => x)) 2)
/-- VEXT: lane idx of A, sign-extended for i32 (R126). -/
def effVext (f : RRR) (s : State) : Act :=
  let a := s.readV 32 f.a
  let i := (s.readS 24 f.b).toNat
  if 32 ≤ i then .trap ⟨.laneidx, 1, s.readS 24 f.b⟩
  else .ok (s.cResult f.d (tyExtend (rrrT f) (lane a i).toNat) 2)
/-- VINS: A with one lane replaced (R126). -/
def effVins (f : RRR) (s : State) : Act :=
  let a := s.readV 32 f.a
  let x := (s.readS 24 f.b).truncate 32
  let k := (s.readS 16 f.c).toNat
  if 32 ≤ k then .trap ⟨.laneidx, 1, s.readS 16 f.c⟩
  else .ok (s.vResult f.d (ofLanes (fun i => if i = k then x else lane a i)) 2)
/-- VPERM: lane b_i of A, or 0 (R126). -/
def effVperm (f : RRR) (s : State) : Act :=
  let a := s.readV 32 f.a
  let b := s.readV 24 f.b
  .ok (s.vResult f.d (ofLanes (fun i => if (lane b i).toNat < 32 then lane a (lane b i).toNat else 0)) 2)
/-- VROT (R126). -/
def effVrot (f : RRR) (s : State) : Act :=
  let a := s.readV 32 f.a
  let k := (s.readS 24 f.b).toNat % 32
  .ok (s.vResult f.d (ofLanes (fun i => lane a ((i + k) % 32))) 2)

/-! ### Reductions and scans (R127, R87, R88) -/

/-- One addition of VREDADD or VSCAN (R127). -/
def addNode (t : Nat) (m : BitVec 8) (r : Rnd) (a b : BitVec 32) : LaneRes :=
  if t = 10 then fLane (fpAdd fmtF32 r (mSat m) (decF32 a) (decF32 b))
  else iLane t m (tyWrap t a.toNat + tyWrap t b.toNat)

/-- One level of the pairwise tree: values with the lowest source lane that each covers, and what the nodes raised. -/
def treeLevel (op : BitVec 32 → BitVec 32 → LaneRes) :
    List (Nat × BitVec 32) → List (Nat × BitVec 32) × List (Nat × LaneRes)
  | (i, a) :: (_, b) :: rest =>
    let r := op a b
    let (vs, es) := treeLevel op rest
    ((i, BitVec.ofNat 32 r.bits) :: vs, (i, r) :: es)
  | l => (l, [])
/-- n levels (R87). -/
def treeGo (op : BitVec 32 → BitVec 32 → LaneRes) :
    Nat → List (Nat × BitVec 32) → List (Nat × LaneRes) → BitVec 32 × List (Nat × LaneRes)
  | 0, l, es => ((l.headD (0, 0)).2, es)
  | n + 1, l, es => let (l1, e1) := treeLevel op l; treeGo op n l1 (es ++ e1)
/-- A reduction of the 32 lanes, written into every lane of D. -/
def vReduce (s : State) (f : RRR) (op : BitVec 32 → BitVec 32 → LaneRes) : Act :=
  let a := s.readV 32 f.a
  let (v, es) := treeGo op 5 ((List.range 32).map (fun i => (i, lane a i))) []
  vFinish s f 8 none es (ofLanes (fun _ => v))

def effVredadd (f : RRR) (s : State) : Act :=
  vMode s f (decide (rrrT f = 10)) false (fun mode => vReduce s f (addNode (rrrT f) f.m ⟨mode, 0⟩))
def effVredmax (f : RRR) (s : State) : Act := vReduce s f (maxMinLane (rrrT f) true)
def effVredmin (f : RRR) (s : State) : Act := vReduce s f (maxMinLane (rrrT f) false)

/-- The stages of R88: lanes below d pass unchanged. -/
def scanGo (op : BitVec 32 → BitVec 32 → LaneRes) :
    List Nat → List (BitVec 32) → List (Nat × LaneRes) → List (BitVec 32) × List (Nat × LaneRes)
  | [], x, es => (x, es)
  | d :: ds, x, es =>
    let rs := (List.range 32).map (fun i => if d ≤ i then some (op (x.getD (i - d) 0) (x.getD i 0)) else none)
    let x1 := (List.range 32).map (fun i => match rs.getD i none with | some r => BitVec.ofNat 32 r.bits | none => x.getD i 0)
    let e1 := (List.range 32).filterMap (fun i => (rs.getD i none).map (fun r => (i, r)))
    scanGo op ds x1 (es ++ e1)
/-- VSCAN (R88). -/
def effVscan (f : RRR) (s : State) : Act :=
  vMode s f (decide (rrrT f = 10)) false (fun mode =>
    let a := s.readV 32 f.a
    let (x, es) := scanGo (addNode (rrrT f) f.m ⟨mode, 0⟩) [1, 2, 4, 8, 16] ((List.range 32).map (lane a)) []
    vFinish s f 8 none es (ofLanes (fun i => x.getD i 0)))

/-! ### Conversion and packing (R128, R129) -/

/-- Source type, codebook of VCVT. -/
def cvtSrc (f : RRR) : Nat := f.c.toNat % 16
def cvtKb (f : RRR) : Nat := f.c.toNat / 16 % 4

/-- VCVT waits for a pending codebook that it names (R54, R176). -/
def waitVcvt (f : RRR) (s : State) : Option Hold :=
  if cvtSrc f = 13 ∧ s.curTile.unit.any (fun o => decide (o.slot = s.iss.slot ∧ o.kind = 4 ∧ o.acc = cvtKb f)) then
    some ⟨true, id⟩
  else none

/-- VCVT (R128). -/
def effVcvt (f : RRR) (s : State) : Act :=
  let a := s.readV 32 f.a
  let kb := s.cur.f.kb.toList.getD (cvtKb f) 0
  vRound s f 4 true (fun r i =>
    let x := (lane a i).toNat
    let (src, b) := if cvtSrc f = 13 then (9, (kb.toNat >>> (16 * (x % 16))) % 2 ^ 16) else (cvtSrc f, x)
    let y := convert src (rrrT f) r (mSat f.m) (mCk f.m) b
    ⟨y.bits % 2 ^ 32, y.flags, y.bad⟩)

/-- Width of a packed element (R129). -/
def packW (t : Nat) : Nat := if t = 13 then 4 else tyBits t
/-- VPACK (R129). -/
def effVpack (f : RRR) (s : State) : Act :=
  let a := s.readV 32 f.a
  let b := s.readV 24 f.b
  let w := packW (rrrT f)
  let e := 1024 / w
  .ok (s.vResult f.d (ofElems w e (fun j => if j < e / 2 then elemOf a (2 * w) j else elemOf b (2 * w) (j - e / 2))) 4)
/-- VUNPK (R129). -/
def effVunpk (f : RRR) (s : State) : Act :=
  let a := s.readV 32 f.a
  let w := packW (rrrT f)
  let e := 1024 / w
  let h := f.c.toNat % 2
  .ok (s.vResult f.d (ofElems (2 * w) (e / 2) (fun j =>
    let x := elemOf a w (h * (e / 2) + j)
    if rrrT f < 2 ∧ 2 ^ (w - 1) ≤ x then x + (2 ^ (2 * w) - 2 ^ w) else x)) 4)

/-! ### Special functions, classes, random words, joins (R130 to R133) -/

def effVexp2 (f : RRR) (s : State) : Act := let a := s.readV 32 f.a; vPlain s f 8 (fun i => fLane (fpExp2 (lane a i)))
def effVlog2 (f : RRR) (s : State) : Act := let a := s.readV 32 f.a; vPlain s f 8 (fun i => fLane (fpLog2 (lane a i)))
def effVrcpa (f : RRR) (s : State) : Act := let a := s.readV 32 f.a; vPlain s f 8 (fun i => fLane (fpRcpa (lane a i)))
def effVrsqa (f : RRR) (s : State) : Act := let a := s.readV 32 f.a; vPlain s f 8 (fun i => fLane (fpRsqa (lane a i)))

/-- The class of a lane, one-hot (R131). -/
def classOf (b : BitVec 32) : Nat :=
  let mag := b.toNat % 2 ^ 31
  let neg := b.getLsbD 31
  if 0x7F800000 < mag then (if b.getLsbD 22 then 512 else 256)
  else if mag = 0x7F800000 then (if neg then 1 else 128)
  else if mag = 0 then (if neg then 8 else 16)
  else if mag < 0x00800000 then (if neg then 4 else 32)
  else (if neg then 2 else 64)
/-- VCLASS (R131). -/
def effVclass (f : RRR) (s : State) : Act :=
  let a := s.readV 32 f.a
  .ok (s.vResult f.d (ofLanes (fun i => BitVec.ofNat 32 (classOf (lane a i)))) 4)

/-- VRAND: 64 draws (R132). -/
def effVrand (f : RRR) (s : State) : Act :=
  let r := s.cur.sys.rngseed
  if r = 0 then .trap ⟨.rngstate, 1, 0⟩
  else
    let (ws, r1) := draws 64 r
    let s1 := s.vResult f.d (ofElems 16 64 (fun j => ws.getD j 0)) 2
    .ok (s1.setIss { s1.iss with rng := some r1 })

/-- VJOIN: the lowest j with b_j = a_i, or all ones (R133). -/
def effVjoin (f : RRR) (s : State) : Act :=
  let a := s.readV 32 f.a
  let b := s.readV 24 f.b
  .ok (s.vResult f.d (ofLanes (fun i =>
    match (List.range 32).find? (fun j => lane b j == lane a i) with
    | some j => BitVec.ofNat 32 j
    | none => 0xFFFFFFFF)) 4)

/-! The instructions: each acts as its effect says where its guard holds (R33). -/

/-- VADD. -/
def execVadd (h : Hdr) (f : RRR) (s : State) : Host.Outcome State Fault Refusal := asStep h (effVadd f) s
/-- VSUB. -/
def execVsub (h : Hdr) (f : RRR) (s : State) : Host.Outcome State Fault Refusal := asStep h (effVsub f) s
/-- VMUL. -/
def execVmul (h : Hdr) (f : RRR) (s : State) : Host.Outcome State Fault Refusal := asStep h (effVmul f) s
/-- VFMA. -/
def execVfma (h : Hdr) (f : RRR) (s : State) : Host.Outcome State Fault Refusal := asStep h (effVfma f) s
/-- VFMS. -/
def execVfms (h : Hdr) (f : RRR) (s : State) : Host.Outcome State Fault Refusal := asStep h (effVfms f) s
/-- VMAX. -/
def execVmax (h : Hdr) (f : RRR) (s : State) : Host.Outcome State Fault Refusal := asStep h (effVmax f) s
/-- VMIN. -/
def execVmin (h : Hdr) (f : RRR) (s : State) : Host.Outcome State Fault Refusal := asStep h (effVmin f) s
/-- VABS. -/
def execVabs (h : Hdr) (f : RRR) (s : State) : Host.Outcome State Fault Refusal := asStep h (effVabs f) s
/-- VNEG. -/
def execVneg (h : Hdr) (f : RRR) (s : State) : Host.Outcome State Fault Refusal := asStep h (effVneg f) s
/-- VCMP. -/
def execVcmp (h : Hdr) (f : RRR) (s : State) : Host.Outcome State Fault Refusal := asStep h (effVcmp f) s
/-- VSEL. -/
def execVsel (h : Hdr) (f : RRR) (s : State) : Host.Outcome State Fault Refusal := asStep h (effVsel f) s
/-- VAND. -/
def execVand (h : Hdr) (f : RRR) (s : State) : Host.Outcome State Fault Refusal := asStep h (effVand f) s
/-- VOR. -/
def execVor (h : Hdr) (f : RRR) (s : State) : Host.Outcome State Fault Refusal := asStep h (effVor f) s
/-- VXOR. -/
def execVxor (h : Hdr) (f : RRR) (s : State) : Host.Outcome State Fault Refusal := asStep h (effVxor f) s
/-- VSHL. -/
def execVshl (h : Hdr) (f : RRR) (s : State) : Host.Outcome State Fault Refusal := asStep h (effVshl f) s
/-- VSHR. -/
def execVshr (h : Hdr) (f : RRR) (s : State) : Host.Outcome State Fault Refusal := asStep h (effVshr f) s
/-- VSAR. -/
def execVsar (h : Hdr) (f : RRR) (s : State) : Host.Outcome State Fault Refusal := asStep h (effVsar f) s
/-- VMOV. -/
def execVmov (h : Hdr) (f : RRR) (s : State) : Host.Outcome State Fault Refusal := asStep h (effVmov f) s
/-- VSPLAT. -/
def execVsplat (h : Hdr) (f : RRR) (s : State) : Host.Outcome State Fault Refusal := asStep h (effVsplat f) s
/-- VEXT. -/
def execVext (h : Hdr) (f : RRR) (s : State) : Host.Outcome State Fault Refusal := asStep h (effVext f) s
/-- VINS. -/
def execVins (h : Hdr) (f : RRR) (s : State) : Host.Outcome State Fault Refusal := asStep h (effVins f) s
/-- VPERM. -/
def execVperm (h : Hdr) (f : RRR) (s : State) : Host.Outcome State Fault Refusal := asStep h (effVperm f) s
/-- VROT. -/
def execVrot (h : Hdr) (f : RRR) (s : State) : Host.Outcome State Fault Refusal := asStep h (effVrot f) s
/-- VREDADD. -/
def execVredadd (h : Hdr) (f : RRR) (s : State) : Host.Outcome State Fault Refusal := asStep h (effVredadd f) s
/-- VREDMAX. -/
def execVredmax (h : Hdr) (f : RRR) (s : State) : Host.Outcome State Fault Refusal := asStep h (effVredmax f) s
/-- VREDMIN. -/
def execVredmin (h : Hdr) (f : RRR) (s : State) : Host.Outcome State Fault Refusal := asStep h (effVredmin f) s
/-- VSCAN. -/
def execVscan (h : Hdr) (f : RRR) (s : State) : Host.Outcome State Fault Refusal := asStep h (effVscan f) s
/-- VCVT. -/
def execVcvt (h : Hdr) (f : RRR) (s : State) : Host.Outcome State Fault Refusal :=
  asStepW h (waitVcvt f) (effVcvt f) s
/-- VPACK. -/
def execVpack (h : Hdr) (f : RRR) (s : State) : Host.Outcome State Fault Refusal := asStep h (effVpack f) s
/-- VUNPK. -/
def execVunpk (h : Hdr) (f : RRR) (s : State) : Host.Outcome State Fault Refusal := asStep h (effVunpk f) s
/-- VEXP2. -/
def execVexp2 (h : Hdr) (f : RRR) (s : State) : Host.Outcome State Fault Refusal := asStep h (effVexp2 f) s
/-- VLOG2. -/
def execVlog2 (h : Hdr) (f : RRR) (s : State) : Host.Outcome State Fault Refusal := asStep h (effVlog2 f) s
/-- VRCPA. -/
def execVrcpa (h : Hdr) (f : RRR) (s : State) : Host.Outcome State Fault Refusal := asStep h (effVrcpa f) s
/-- VRSQA. -/
def execVrsqa (h : Hdr) (f : RRR) (s : State) : Host.Outcome State Fault Refusal := asStep h (effVrsqa f) s
/-- VSQRT. -/
def execVsqrt (h : Hdr) (f : RRR) (s : State) : Host.Outcome State Fault Refusal := asStep h (effVsqrt f) s
/-- VDIV. -/
def execVdiv (h : Hdr) (f : RRR) (s : State) : Host.Outcome State Fault Refusal := asStep h (effVdiv f) s
/-- VCLASS. -/
def execVclass (h : Hdr) (f : RRR) (s : State) : Host.Outcome State Fault Refusal := asStep h (effVclass f) s
/-- VSCALE. -/
def execVscale (h : Hdr) (f : RRR) (s : State) : Host.Outcome State Fault Refusal := asStep h (effVscale f) s
/-- VRINT. -/
def execVrint (h : Hdr) (f : RRR) (s : State) : Host.Outcome State Fault Refusal := asStep h (effVrint f) s
/-- VIMUL. -/
def execVimul (h : Hdr) (f : RRR) (s : State) : Host.Outcome State Fault Refusal := asStep h (effVimul f) s
/-- VIMULH. -/
def execVimulh (h : Hdr) (f : RRR) (s : State) : Host.Outcome State Fault Refusal := asStep h (effVimulh f) s
/-- VRAND. -/
def execVrand (h : Hdr) (f : RRR) (s : State) : Host.Outcome State Fault Refusal := asStep h (effVrand f) s
/-- VMCNT. -/
def execVmcnt (h : Hdr) (f : RRR) (s : State) : Host.Outcome State Fault Refusal := asStep h (effVmcnt f) s
/-- VJOIN. -/
def execVjoin (h : Hdr) (f : RRR) (s : State) : Host.Outcome State Fault Refusal := asStep h (effVjoin f) s

end Sys2Proof.Machine
end

