-- ==== Sys2Proof/Machine/Syllables.lean ====
section
/-! DEFINITION. The syllables by constructor: header, wait at issue, effect. The bundle runs on these; the dispatch names the same definitions one by one. -/

namespace Sys2Proof.Machine

/-- The header of a syllable; an event has none. -/
def hdrOfInstr (i : Instr) : Option Hdr :=
  match i with
  | .add h _ => some h
  | .sub h _ => some h
  | .mul h _ => some h
  | .mulh h _ => some h
  | .mulhn h _ => some h
  | .div h _ => some h
  | .divn h _ => some h
  | .remS h _ => some h
  | .remn h _ => some h
  | .andS h _ => some h
  | .orS h _ => some h
  | .xorS h _ => some h
  | .andn h _ => some h
  | .shl h _ => some h
  | .shr h _ => some h
  | .sar h _ => some h
  | .rotr h _ => some h
  | .min h _ => some h
  | .max h _ => some h
  | .minn h _ => some h
  | .maxn h _ => some h
  | .clz h _ => some h
  | .popc h _ => some h
  | .bfx h _ => some h
  | .bfxs h _ => some h
  | .bfi h _ => some h
  | .sel h _ => some h
  | .mov h _ => some h
  | .li h _ => some h
  | .lea h _ => some h
  | .sxt h _ => some h
  | .zxt h _ => some h
  | .bswap h _ => some h
  | .crcs h _ => some h
  | .nmake h _ => some h
  | .cmp h _ => some h
  | .pand h _ => some h
  | .por h _ => some h
  | .pxor h _ => some h
  | .pnot h _ => some h
  | .pset h _ => some h
  | .pget h _ => some h
  | .nop h _ => some h
  | .br h _ => some h
  | .bri h _ => some h
  | .callS h _ => some h
  | .callInd h _ => some h
  | .ret h _ => some h
  | .loopS h _ => some h
  | .idle h _ => some h
  | .brk h _ => some h
  | .sysr h _ => some h
  | .sysw h _ => some h
  | .syswPgroot h _ => some h
  | .syswBackbase h _ => some h
  | .vadd h _ => some h
  | .vsub h _ => some h
  | .vmul h _ => some h
  | .vfma h _ => some h
  | .vfms h _ => some h
  | .vmax h _ => some h
  | .vmin h _ => some h
  | .vabs h _ => some h
  | .vneg h _ => some h
  | .vcmp h _ => some h
  | .vsel h _ => some h
  | .vand h _ => some h
  | .vor h _ => some h
  | .vxor h _ => some h
  | .vshl h _ => some h
  | .vshr h _ => some h
  | .vsar h _ => some h
  | .vmov h _ => some h
  | .vsplat h _ => some h
  | .vext h _ => some h
  | .vins h _ => some h
  | .vperm h _ => some h
  | .vrot h _ => some h
  | .vredadd h _ => some h
  | .vredmax h _ => some h
  | .vredmin h _ => some h
  | .vscan h _ => some h
  | .vcvt h _ => some h
  | .vpack h _ => some h
  | .vunpk h _ => some h
  | .vexp2 h _ => some h
  | .vlog2 h _ => some h
  | .vrcpa h _ => some h
  | .vrsqa h _ => some h
  | .vsqrt h _ => some h
  | .vdiv h _ => some h
  | .vclass h _ => some h
  | .vscale h _ => some h
  | .vrint h _ => some h
  | .vimul h _ => some h
  | .vimulh h _ => some h
  | .vrand h _ => some h
  | .vmcnt h _ => some h
  | .vjoin h _ => some h
  | .mshape h _ => some h
  | .mzero h _ => some h
  | .mma h _ => some h
  | .mmat h _ => some h
  | .mmag h _ => some h
  | .mcb h _ => some h
  | .macld h _ => some h
  | .macst h _ => some h
  | .macadd h _ => some h
  | .mwait h _ => some h
  | .ld h _ => some h
  | .st h _ => some h
  | .vld h _ => some h
  | .vst h _ => some h
  | .vgath h _ => some h
  | .vscat h _ => some h
  | .ldg h _ => some h
  | .stg h _ => some h
  | .vldg h _ => some h
  | .vstg h _ => some h
  | .atoms h _ => some h
  | .atomg h _ => some h
  | .pref h _ => some h
  | .clean h _ => some h
  | .inval h _ => some h
  | .discard h _ => some h
  | .waymask h _ => some h
  | .waygate h _ => some h
  | .llock h _ => some h
  | .lunlk h _ => some h
  | .fence h _ => some h
  | .xfence h _ => some h
  | .chkv h _ => some h
  | .scfg h _ => some h
  | .sgo h _ => some h
  | .sstop h _ => some h
  | .sparm h _ => some h
  | .sfence h _ => some h
  | .waitwp h _ => some h
  | .subscribe h _ => some h
  | .unsub h _ => some h
  | .pub h _ => some h
  | .pubr h _ => some h
  | .nhold h _ => some h
  | .nrels h _ => some h
  | .npoll h _ => some h
  | .npollAck h _ => some h
  | .npollInj h _ => some h
  | .lsend h _ => some h
  | .exitS h _ => some h
  | .yieldSlot h _ => some h
  | .yieldWp h _ => some h
  | .yieldAny h _ => some h
  | .yieldTime h _ => some h
  | .launch h _ => some h
  | .qpost h _ => some h
  | .qctlCreate h _ => some h
  | .qctlDrain h _ => some h
  | .qctlClose h _ => some h
  | .qctlLevel h _ => some h
  | .qctlQuery h _ => some h
  | .gjoin h _ => some h
  | .gleave h _ => some h
  | .gctlCancel h _ => some h
  | .gctlPrio h _ => some h
  | .gctlCap h _ => some h
  | .gctlCut h _ => some h
  | .gctlRestore h _ => some h
  | .gctlQuery h _ => some h
  | .gwait h _ => some h
  | .binit h _ => some h
  | .barv h _ => some h
  | .bwait h _ => some h
  | .stepo h _ => some h
  | .stepc h _ => some h
  | .slack h _ => some h
  | .trapS h _ => some h
  | .rft h _ => some h
  | .ctxk h _ => some h
  | .reclm h _ => some h
  | .ctxrStart h _ => some h
  | .ctxrFree h _ => some h
  | .evict h _ => some h
  | .evictUnbind h _ => some h
  | .chkpNow h _ => some h
  | .chkpBgon h _ => some h
  | .chkpBgoff h _ => some h
  | _ => none

/-- The wait at issue of a syllable, but for the waits that a bundle takes last (R175, R276). -/
def waitOf (i : Instr) (s : State) : Option Hold :=
  match i with
  | .sysw _ f => waitSysw f s
  | .vcvt _ f => waitVcvt f s
  | .mzero _ f => waitMzero f s
  | .mma _ f => waitMma f s
  | .mmat _ f => waitMmat f s
  | .mmag _ f => waitMmagEarly f s
  | .mcb _ f => waitMcb f s
  | .macld _ f => waitMacld f s
  | .macst _ f => waitMacst f s
  | .macadd _ f => waitMacadd f s
  | .mwait _ f => waitMwait f s
  | .ldg _ f => waitLdg f s
  | .stg _ f => waitStg f s
  | .vldg _ f => waitVldg f s
  | .vstg _ f => waitVstg f s
  | .atomg _ f => waitAtomg f s
  | .pref _ f => waitPref f s
  | .clean _ f => waitClean f s
  | .inval _ f => waitInval f s
  | .discard _ f => waitDiscard f s
  | .llock _ f => waitLlock f s
  | .lunlk _ f => waitLunlk f s
  | .fence _ f => waitFence f s
  | .xfence _ f => waitXfence f s
  | .sfence _ f => waitSfence f s
  | .waitwp _ f => waitWaitwp f s
  | .subscribe _ f => waitSubscribe f s
  | .pub _ f => waitPub f s
  | .pubr _ f => waitPubr f s
  | .lsend _ f => waitLsend f s
  | .rft _ f => waitRft f s
  | _ => none

/-- The waits of MMAG for its rows and of BWAIT for its home, taken once the rest of the bundle neither waits nor faults (R175, R276). -/
def lateWaitOf (i : Instr) (s : State) : Option Hold :=
  match i with
  | .mmag _ f => waitMmagRun f s
  | .bwait _ f => waitBwait f s
  | _ => none

/-- The effect of a syllable; an event has none here. -/
def effOf (i : Instr) (s : State) : Act :=
  match i with
  | .add _ f => effAdd f s
  | .sub _ f => effSub f s
  | .mul _ f => effMul f s
  | .mulh _ f => effMulh f s
  | .mulhn _ f => effMulhn f s
  | .div _ f => effDiv f s
  | .divn _ f => effDivn f s
  | .remS _ f => effRemS f s
  | .remn _ f => effRemn f s
  | .andS _ f => effAndS f s
  | .orS _ f => effOrS f s
  | .xorS _ f => effXorS f s
  | .andn _ f => effAndn f s
  | .shl _ f => effShl f s
  | .shr _ f => effShr f s
  | .sar _ f => effSar f s
  | .rotr _ f => effRotr f s
  | .min _ f => effMin f s
  | .max _ f => effMax f s
  | .minn _ f => effMinn f s
  | .maxn _ f => effMaxn f s
  | .clz _ f => effClz f s
  | .popc _ f => effPopc f s
  | .bfx _ f => effBfx f s
  | .bfxs _ f => effBfxs f s
  | .bfi _ f => effBfi f s
  | .sel _ f => effSel f s
  | .mov _ f => effMov f s
  | .li _ f => effLi f s
  | .lea _ f => effLea f s
  | .sxt _ f => effSxt f s
  | .zxt _ f => effZxt f s
  | .bswap _ f => effBswap f s
  | .crcs _ f => effCrcs f s
  | .nmake _ f => effNmake f s
  | .cmp _ f => effCmp f s
  | .pand _ f => effPand f s
  | .por _ f => effPor f s
  | .pxor _ f => effPxor f s
  | .pnot _ f => effPnot f s
  | .pset _ f => effPset f s
  | .pget _ f => effPget f s
  | .nop _ f => effNop f s
  | .br _ f => effBr f s
  | .bri _ f => effBri f s
  | .callS _ f => effCallS f s
  | .callInd _ f => effCallInd f s
  | .ret _ f => effRet f s
  | .loopS _ f => effLoopS f s
  | .idle _ f => effIdle f s
  | .brk _ f => effBrk f s
  | .sysr _ f => effSysr f s
  | .sysw _ f => effSysw f s
  | .syswPgroot _ f => effSyswPgroot f s
  | .syswBackbase _ f => effSyswBackbase f s
  | .vadd _ f => effVadd f s
  | .vsub _ f => effVsub f s
  | .vmul _ f => effVmul f s
  | .vfma _ f => effVfma f s
  | .vfms _ f => effVfms f s
  | .vmax _ f => effVmax f s
  | .vmin _ f => effVmin f s
  | .vabs _ f => effVabs f s
  | .vneg _ f => effVneg f s
  | .vcmp _ f => effVcmp f s
  | .vsel _ f => effVsel f s
  | .vand _ f => effVand f s
  | .vor _ f => effVor f s
  | .vxor _ f => effVxor f s
  | .vshl _ f => effVshl f s
  | .vshr _ f => effVshr f s
  | .vsar _ f => effVsar f s
  | .vmov _ f => effVmov f s
  | .vsplat _ f => effVsplat f s
  | .vext _ f => effVext f s
  | .vins _ f => effVins f s
  | .vperm _ f => effVperm f s
  | .vrot _ f => effVrot f s
  | .vredadd _ f => effVredadd f s
  | .vredmax _ f => effVredmax f s
  | .vredmin _ f => effVredmin f s
  | .vscan _ f => effVscan f s
  | .vcvt _ f => effVcvt f s
  | .vpack _ f => effVpack f s
  | .vunpk _ f => effVunpk f s
  | .vexp2 _ f => effVexp2 f s
  | .vlog2 _ f => effVlog2 f s
  | .vrcpa _ f => effVrcpa f s
  | .vrsqa _ f => effVrsqa f s
  | .vsqrt _ f => effVsqrt f s
  | .vdiv _ f => effVdiv f s
  | .vclass _ f => effVclass f s
  | .vscale _ f => effVscale f s
  | .vrint _ f => effVrint f s
  | .vimul _ f => effVimul f s
  | .vimulh _ f => effVimulh f s
  | .vrand _ f => effVrand f s
  | .vmcnt _ f => effVmcnt f s
  | .vjoin _ f => effVjoin f s
  | .mshape _ f => effMshape f s
  | .mzero _ f => effMzero f s
  | .mma _ f => effMma f s
  | .mmat _ f => effMmat f s
  | .mmag _ f => effMmag f s
  | .mcb _ f => effMcb f s
  | .macld _ f => effMacld f s
  | .macst _ f => effMacst f s
  | .macadd _ f => effMacadd f s
  | .mwait _ f => effMwait f s
  | .ld _ f => effLd f s
  | .st _ f => effSt f s
  | .vld _ f => effVld f s
  | .vst _ f => effVst f s
  | .vgath _ f => effVgath f s
  | .vscat _ f => effVscat f s
  | .ldg _ f => effLdg f s
  | .stg _ f => effStg f s
  | .vldg _ f => effVldg f s
  | .vstg _ f => effVstg f s
  | .atoms _ f => effAtoms f s
  | .atomg _ f => effAtomg f s
  | .pref _ f => effPref f s
  | .clean _ f => effClean f s
  | .inval _ f => effInval f s
  | .discard _ f => effDiscard f s
  | .waymask _ f => effWaymask f s
  | .waygate _ f => effWaygate f s
  | .llock _ f => effLlock f s
  | .lunlk _ f => effLunlk f s
  | .fence _ f => effFence f s
  | .xfence _ f => effXfence f s
  | .chkv _ f => effChkv f s
  | .scfg _ f => effScfg f s
  | .sgo _ f => effSgo f s
  | .sstop _ f => effSstop f s
  | .sparm _ f => effSparm f s
  | .sfence _ f => effSfence f s
  | .waitwp _ f => effWaitwp f s
  | .subscribe _ f => effSubscribe f s
  | .unsub _ f => effUnsub f s
  | .pub _ f => effPub f s
  | .pubr _ f => effPubr f s
  | .nhold _ f => effNhold f s
  | .nrels _ f => effNrels f s
  | .npoll _ f => effNpoll f s
  | .npollAck _ f => effNpollAck f s
  | .npollInj _ f => effNpollInj f s
  | .lsend _ f => effLsend f s
  | .exitS _ f => effExitS f s
  | .yieldSlot _ f => effYieldSlot f s
  | .yieldWp _ f => effYieldWp f s
  | .yieldAny _ f => effYieldAny f s
  | .yieldTime _ f => effYieldTime f s
  | .launch _ f => effLaunch f s
  | .qpost _ f => effQpost f s
  | .qctlCreate _ f => effQctlCreate f s
  | .qctlDrain _ f => effQctlDrain f s
  | .qctlClose _ f => effQctlClose f s
  | .qctlLevel _ f => effQctlLevel f s
  | .qctlQuery _ f => effQctlQuery f s
  | .gjoin _ f => effGjoin f s
  | .gleave _ f => effGleave f s
  | .gctlCancel _ f => effGctlCancel f s
  | .gctlPrio _ f => effGctlPrio f s
  | .gctlCap _ f => effGctlCap f s
  | .gctlCut _ f => effGctlCut f s
  | .gctlRestore _ f => effGctlRestore f s
  | .gctlQuery _ f => effGctlQuery f s
  | .gwait _ f => effGwait f s
  | .binit _ f => effBinit f s
  | .barv _ f => effBarv f s
  | .bwait _ f => effBwait f s
  | .stepo _ f => effStepo f s
  | .stepc _ f => effStepc f s
  | .slack _ f => effSlack f s
  | .trapS _ f => effTrapS f s
  | .rft _ f => effRft f s
  | .ctxk _ f => effCtxk f s
  | .reclm _ f => effReclm f s
  | .ctxrStart _ f => effCtxrStart f s
  | .ctxrFree _ f => effCtxrFree f s
  | .evict _ f => effEvict f s
  | .evictUnbind _ f => effEvictUnbind f s
  | .chkpNow _ f => effChkpNow f s
  | .chkpBgon _ f => effChkpBgon f s
  | .chkpBgoff _ f => effChkpBgoff f s
  | _ => .ok s

end Sys2Proof.Machine
end

