-- ==== Sys2Proof/Machine/Bundle.lean ====
section
/-! DEFINITION. Issue of a bundle (02_bundles R40 to R55), results that land, which slot issues (10_queue R247, R248), WATCHDOG (R341) and
the windows of fault records (R350). -/

namespace Sys2Proof.Machine

/-! ### Fetch (R31, R40) -/

/-- The words of a bundle, whether one with E = 1 ends it, and the first address of it that lies outside the code region. -/
structure Fetched where
  words : List Word
  closed : Bool
  outside : Option Nat
  deriving DecidableEq, Repr

/-- Reads words from address p on, at most n, until one with E = 1. -/
def State.fetchGo (s : State) (site slot : Nat) : Nat → Nat → List Word → Fetched
  | 0, _, ws => ⟨ws.reverse, false, none⟩
  | n + 1, p, ws =>
    if (s.slotAt site slot).codeSize < p + 8 then ⟨ws.reverse, false, some p⟩
    else
      let w : Word := BitVec.ofNat 64 (bytesWord (s.scratchRead site slot p 8 (8000 + 8 * n)))
      if wE w then ⟨(w :: ws).reverse, true, none⟩ else State.fetchGo s site slot n (p + 8) (w :: ws)

/-- The bundle at the slot's pc. -/
def State.fetch (s : State) (site slot : Nat) : Fetched := s.fetchGo site slot 8 (s.slotAt site slot).pc.toNat []

/-- A syllable of the bundle at issue: its instruction, its place, and its number within its class. -/
structure Item where
  i : Instr
  syl : Syl
  pos : Nat
  lane : Nat
  deriving DecidableEq, Repr

/-- The syllables of a bundle whose checks hold. -/
def itemsGo : Nat → List Syl → List Syl → List Item
  | _, _, [] => []
  | n, seen, y :: ys =>
    let rest := itemsGo (n + 1) (seen ++ [y]) ys
    match ofSyl y with
    | some i => ⟨i, y, n, (seen.filter (fun z => wK z.w == wK y.w)).length⟩ :: rest
    | none => rest
def itemsOf (ws : List Word) : List Item := itemsGo 0 [] (attach ws)

/-- The state as syllable `it` of the bundle at issue finds it. -/
def State.at_ (s : State) (it : Item) : State := s.setIss { s.iss with pos := it.pos, lane := it.lane, word := it.syl.w }

/-- A slot's bundle comes to issue: what is due lands (R51), and what its syllables read is fixed (R49). -/
def State.begin_ (s : State) (site slot : Nat) : State :=
  let x0 := s.slotAt site slot
  let x := { x0.landDue x0.bundleNo with wait := match x0.wait with | .bwait _ => .none | w => w }
  { s.setSlotAt site slot x with iss := { Iss.reset with
      site := site, slot := slot, infl0 := x.infl, ch0 := x.ch.toList, sub0 := x.sub.toList, lock0 := s.lockedBy site slot } }

/-! ### Interlocks and marks (R54, R142) -/

/-- The register of a scalar or vector specifier, where it names one. -/
def regS (v : Nat) : List Reg := if v < 0x40 then [.a v] else if v < 0x48 then [.o (v - 0x40)] else []
def regV (v : Nat) : List Reg := if v < 0x20 then [.v v] else if v < 0x28 then [.w (v - 0x20)] else []
/-- Registers that a syllable reads. -/
def sylReads (y : Syl) : List Reg :=
  (fieldsOf y).flatMap (fun p => match p.1 with
    | .ss | .sx | .sc => regS p.2
    | .vs => regV p.2
    | _ => [])
/-- Registers that a syllable writes. -/
def sylWrites (y : Syl) : List Reg :=
  (fieldsOf y).flatMap (fun p => match p.1 with
    | .sd | .sl | .sx | .sc => regS p.2
    | .vd => regV p.2
    | _ => [])

/-- Does a syllable read or write a pending register (R54)? -/
def Item.locked (it : Item) (x : Slot) : Bool := (sylReads it.syl ++ sylWrites it.syl).any (fun r => x.pend.contains r)

/-- The trap of the first marked register that a syllable reads (R142); a read in the shadow of a later write never traps (R51, log 37). -/
def State.markFault (s : State) (y : Syl) : Option TrapInfo :=
  (sylReads y).findSome? (fun r =>
    if (inflVals s.iss.infl0 r).isEmpty then (s.cur.marks.find? (fun m => m.reg == r)).map (fun m => ⟨m.kind, 2, m.ea⟩) else none)

/-! ### The bundle at issue (R33, R41, R49) -/

/-- The syllables that are not guarded off. -/
def State.guarded (s : State) (its : List Item) : List Item :=
  its.filter (fun it => match hdrOfInstr it.i with | some h => (s.at_ it).guard h | none => false)

/-- The syllables act in their order; the first fault ends it (R41). -/
def State.runSyls : List Item → State → Act
  | [], s => .ok s
  | it :: r, s =>
    match (s.at_ it).markFault it.syl with
    | some t => .trap t
    | none => match effOf it.i (s.at_ it) with
      | .ok s1 => State.runSyls r s1
      | .trap t => .trap t

/-- Does the syllable wait for the reply of its own BWAIT? -/
def Item.ownReply (it : Item) (x : Slot) : Bool := (match it.i with | .bwait _ _ => true | _ => false) && x.bw.isNone

/-- The first wait of a bundle (R54), which holds it before any of its syllables acts. -/
def State.bundleHold (s : State) (on : List Item) : Option Hold :=
  let l := on.filter (fun it => it.locked s.cur)
  if l.isEmpty then on.findSome? (fun it => (waitOf it.i (s.at_ it)).map (fun h => ⟨h.count, fun s => h.act (s.at_ it)⟩))
  else some ⟨l.any (fun it => !(it.ownReply s.cur)), id⟩

/-- Is the syllable an RFT? -/
def Item.isRft (it : Item) : Bool := match it.i with | .rft _ _ => true | _ => false

/-- The state in which every exposed write of the slot has landed before the bundle at issue reads (R347). -/
def State.landFirst (s : State) : State := (s.setCur s.cur.drain).setIss { s.iss with infl0 := [] }

/-- A bundle whose decode checks hold, with its syllables that are not guarded off: it waits, faults without effect, or acts. -/
def State.runOn (s : State) (on : List Item) : State :=
  match s.bundleHold on with
  | some h => holdBundle h.count h.act s
  | none => match State.runSyls on s with
    | .trap t => takeTrap t s
    | .ok s1 => match on.findSome? (fun it => (lateWaitOf it.i (s.at_ it)).map (fun h => (⟨h.count, fun s => h.act (s.at_ it)⟩ : Hold))) with
      | some h => holdBundle h.count h.act s
      | none => s1

/-- A bundle whose decode checks hold. One that returns from a handler waits at issue until every write has landed, and its syllables read after
that (R347). -/
def State.runBundle (s : State) (its : List Item) : State :=
  let on := s.guarded its
  if s.cur.sys.intrap && on.any Item.isRft then
    let s1 := s.landFirst
    s1.runOn (its.filter (fun it => (it.isRft && on.contains it) || (!it.isRft && !(s1.guarded [it]).isEmpty)))
  else s.runOn on

/-- The end of a bundle: unless it waited or trapped, its stores are made, its multiplies enter the unit, and control goes on (R46, R49, R103,
R166, R346, R347); the templates of an EXIT enter the injection queue after that (R233). -/
def endBundle (s : State) : State :=
  if s.iss.done then { s with iss := Iss.reset }
  else
    let i := s.iss
    let x0 := s.cur
    let s1 := applyGlobal i.site x0.sys.ctxid x0.sys.incarn i.gwr (applyStores i.site i.slot i.wr s)
    let n := 1 + i.gap + Config.stall s.tick
    let t := s1.tileAt i.site
    let s2 := (s1.setTileAt i.site { t with unit := t.unit ++ i.mops.map s.enterUnit, quantum := t.quantum - n, lastSlot := some i.slot }).markBusy i.site
    let x := s2.slotAt i.site i.slot
    let fps := match i.fps with | some w => w ||| BitVec.ofNat 64 (i.fpflags * 256) | none => x.sys.fpstatus
    let x1 := { x with
      f := { x.f with y := #v[i.res0.getD (s.freeW 920), i.res1.getD (s.freeW 921), x.f.getY 2, x.f.getY 3] }
      sys := { x.sys with fpstatus := fps, rngseed := i.rng.getD x.sys.rngseed, cycle := x.sys.cycle + n }
      walks := [], fenced := [], bundleNo := x.bundleNo + 1, held := false, waited := 0
      pc := i.npc.getD (x.pc + BitVec.ofNat 64 (8 * i.nsyl)) }
    let x2 := if i.rft then leaveTrap x1.drain s2 else x1
    let s3 := match i.after with
      | some t => if x2.pend.isEmpty then enterTrap t x2.pc (s2.setSlotAt i.site i.slot x2) x0.pc
                  else s2.setSlotAt i.site i.slot { x2 with after := some (t, x0.pc) }
      | none => s2.setSlotAt i.site i.slot x2
    { s3.exitTemplates i.site i.slot with iss := Iss.reset }

/-- One attempt of a slot to issue its bundle. A TRAP whose bundle has acted comes first (R346); while a way change is under way the slot issues
nothing (R147). -/
def State.tryBundle (s : State) (site slot : Nat) : State :=
  let s1 := s.begin_ site slot
  if s1.cur.wait = .ways then holdBundle true id s1
  else match s1.cur.after with
  | some (t, at_) => if s1.cur.pend.isEmpty then enterTrap t s1.cur.pc (s1.setCur { s1.cur with after := none }) at_ else holdBundle false id s1
  | none =>
    let f := s1.fetch site slot
    match f.outside with
    | some p => takeTrap ⟨.fetchrange, 0, BitVec.ofNat 64 p⟩ s1
    | none => match checkBundle f.words f.closed s1.cur.sys.privc with
      | some t => takeTrap t s1
      | none => State.runBundle (s1.setIss { s1.iss with nsyl := f.words.length }) (itemsOf f.words)

/-! ### Which slot issues (R247, R248) -/

/-- The effective level of a slot's instance (R248). -/
def State.effLevel (s : State) (site slot : Nat) : Nat :=
  let x := s.slotAt site slot
  if 9 ≤ x.sys.prioBase then x.sys.prioBase else min 9 (x.sys.prioBase + (x.aged + s.nsCycles site (s.time - x.since)) / 2 ^ 18)

/-- Does slot j come before slot k: level, pass, the earlier READY (R247)? -/
def State.goesFirst (s : State) (site j k : Nat) : Bool :=
  let t := s.tileAt site
  let p (n : Nat) : Nat := KMap.getD t.pass (s.slotAt site n).sys.ctxid 0
  let r (n : Nat) : Nat := (s.slotAt site n).readyAt
  decide (s.effLevel site k < s.effLevel site j) || (decide (s.effLevel site j = s.effLevel site k) &&
    (decide (p j < p k) || (decide (p j = p k) && decide (r j < r k))))

/-- Candidates that can issue something: a multiply that waits for a quantum leaves issue to the others while there are any (R292). -/
def State.canIssue (s : State) (site k : Nat) : Bool :=
  let x := s.slotAt site k
  x.issues && (!(x.held && x.slewWait) || !((List.range 4).any (fun j =>
    let y := s.slotAt site j
    decide (j ≠ k) && y.issues && !(y.held && y.slewWait))))

/-- The candidate that takes issue. -/
def State.bestCand (s : State) (site : Nat) : Option Nat :=
  (List.range 4).foldl (fun o k => if s.canIssue site k then
    match o with
    | some b => if s.goesFirst site k b then some k else some b
    | none => some k else o) none

/-- Has the slot that issued last let every write of its issued bundles land, where another one is to take issue (R55)? The result of an IDLE that
still waits lands with its wake (R107), and an instance that is FAULTED or gone writes nothing any more. -/
def State.switchReady (s : State) (site slot : Nat) : Bool :=
  match (s.tileAt site).lastSlot with
  | some k =>
    let x := s.slotAt site k
    decide (k = slot) || x.inst.isNone || x.st == .faulted || x.settled
  | none => true

/-- QUANTUM_GRANT: the best candidate takes issue for 64 cycles; its context's pass rises; results of the slot left behind land, and y0 to y3
and yv of the new one are undefined (R46, R55, R247, R248). An instance that was READY is RUNNING: at its first grant with the state of R224,
and after a move with STATUS.MOVED (R226). -/
def execQuantumGrant (site slot : Nat) (s : State) : Host.Outcome State Fault Refusal :=
  let t := s.tileAt site
  if t.issuing.isSome ∨ t.frozen ∨ t.freezeReq ∨ s.bestCand site ≠ some slot ∨ !(s.switchReady site slot) then .next s
  else
    let switch := match t.lastSlot with | some k => decide (k ≠ slot) | none => false
    let s1 := if switch then s.setSlotAt site (t.lastSlot.getD slot) (s.slotAt site (t.lastSlot.getD slot)).drain else s
    let s1 := s1.countAway site slot false
    let x := s1.slotAt site slot
    let c := x.sys.ctxid
    let s2 := s1.setTileAt site { t with issuing := some slot, quantum := 64, lastSlot := some slot
                                         pass := KMap.set t.pass c (KMap.getD t.pass c 0 + 65536 / max x.sys.share 1) }
    let y := if switch then s2.forgetY x 930 else x
    let s3 := s2.setSlotAt site slot { y with st := .running, since := s.time, aged := 0, sys := { y.sys with prioLevel := s.effLevel site slot } }
    let s4 := if x.ran then s3 else s3.enter site slot
    match s4.instOf site slot with
    | some (u, i) => match i.from_ with
      | some p =>
        let s5 := s4.setInst u { i with from_ := none }
        .next (if p = (site, slot) then s5 else s5.setSlotAt site slot ((s5.slotAt site slot).event 1))
      | none => .next s4
    | none => .next s4

/-- Is a quantum over (R247)? -/
def State.quantumOver (s : State) (site : Nat) : Bool :=
  let t := s.tileAt site
  match t.issuing with
  | some k => decide (t.quantum = 0) || !(s.canIssue site k)
  | none => false
/-- QUANTUM_END (R247). From here on the cycles of a multiply that waits for a quantum are counted by TIME (R293). -/
def execQuantumEnd (site : Nat) (s : State) : Host.Outcome State Fault Refusal :=
  .next (if s.quantumOver site then
    let s1 := match (s.tileAt site).issuing with
      | some k => let x := s.slotAt site k
                  if x.slewWait then s.setSlotAt site k { x with slewAway := some s.time } else s
      | none => s
    s1.setTileAt site { s1.tileAt site with issuing := none }
  else s)

/-- May the slot that holds issue issue a bundle now? -/
def State.issueReady (s : State) (site slot : Nat) : Bool :=
  let x := s.slotAt site slot
  let t := s.tileAt site
  t.issuing == some slot && decide (0 < t.quantum) && !t.frozen && !t.freezeReq && x.st == .running && !x.parkDone && s.canIssue site slot

/-- BUNDLE_ISSUE (R40): the bundle of the slot that holds issue is decoded and checked, and waits, traps or acts. -/
def execBundleIssue (site slot : Nat) (s : State) : Host.Outcome State Fault Refusal :=
  if s.issueReady site slot then .next (endBundle (s.tryBundle site slot)) else .next s

/-! ### Results (R51, R54, R111, R311) -/

/-- RESULT_LAND: one result in flight lands; earlier-issued writes to the same register are discarded when they land (R51, R52). -/
def execResultLand (site slot idx : Nat) (s : State) : Host.Outcome State Fault Refusal :=
  let x := s.slotAt site slot
  match x.infl[idx]? with
  | some e => .next (s.setSlotAt site slot (({ x with infl := killBy e.dst (x.f.get e.dst) (x.infl.take idx) ++ x.infl.drop (idx + 1) } : Slot).land e))
  | none => .next s

/-- An interlocked result in its register (R54); a load of a vector is no V syllable and leaves yv (R46). -/
def Slot.landLocked (x : Slot) (dst : Reg) (val : VReg) : Slot :=
  { x with f := x.f.put dst val, pend := x.pend.erase dst, marks := x.marks.filter (fun m => m.reg != dst) }

/-- Sets membership i of a slot, or ends it (R115, R265). -/
def Slot.setMember (x : Slot) (i : Nat) (g : Option Nat) : Slot := { x with sys := { x.sys with groups := x.sys.groups.set i g } }

/-- What lands with a reply beside its register. -/
def State.landReply (s : State) (site slot ctx inc : Nat) (dst : Reg) (val : VReg) (then_ : Reply) : State :=
  let x := s.slotAt site slot
  match then_ with
  | .plain => s.setSlotAt site slot (x.landLocked dst val)
  | .load mark ea acq atom _ =>
    let y := x.landLocked dst val
    let y1 := match mark with | some k => if dst = .a 0 then y else { y with marks := y.marks ++ [⟨dst, k, ea⟩] } | none => y
    let y2 := match atom with
      | some far => if far then { y1 with ackAR := y1.ackAR - 1 } else { y1 with ackA := y1.ackA - 1 }
      | none => y1
    match acq with
    | some sc =>
      if scopeBeyond sc then (s.setSlotAt site slot { y2 with acquiring := y2.acquiring - 1 }).startAcquire site slot ctx inc
      else s.setSlotAt site slot { y2 with acquiring := y2.acquiring - 1 }
    | none => s.setSlotAt site slot y2
  | .joined i g =>
    let y := { x.landLocked dst val with joining := x.joining.erase (i * 256 + g) }
    s.setSlotAt site slot (if val.getLsbD 44 then y else y.setMember i (some g))
  | .left g =>
    let y := x.landLocked dst val
    let i := (x.leaving.find? (fun k => decide (k % 256 = g))).getD g / 256
    s.setSlotAt site slot ({ y with leaving := y.leaving.erase (i * 256 + g) }.setMember i none)
  | .gwait g sub land use registered =>
    let (s1, v) := s.gwaitLand site slot g sub land use registered val
    s1.setSlotAt site slot ((s1.slotAt site slot).landLocked dst v)
  | .bwait _ _ _ _ refused completed _ =>
    s.setSlotAt site slot { x with pend := x.pend.erase dst, bw := some (val.truncate 64, refused, completed) }

/-- INTERLOCKED_RESULT_LAND: dropped as an orphan where the slot holds another context or incarnation, or its tile is frozen (R311, R353). -/
def execInterlockedResultLand (site slot ctx inc : Nat) (dst : Reg) (val : VReg) (then_ : Reply) (s : State) : Host.Outcome State Fault Refusal :=
  if (s.slotAt site slot).bound ≠ some (ctx, inc) ∨ s.stale (agSite site 0) ctx inc ∨ (s.tileAt site).frozen then .next (s.drop ctx)
  else .next (s.landReply site slot ctx inc dst val then_)

/-! ### WATCHDOG (R341) -/

/-- Has the bundle at issue waited 2^32 cycles that count? A cancel or a save that has reached the tile comes first (R343). -/
def Slot.watchdogDue (x : Slot) : Bool :=
  x.held && x.st == .running && decide (2 ^ 32 ≤ x.waited) && x.cancelReq.isNone && x.stopReq.isNone
/-- WATCHDOG: the instance is FAULTED, EVAL its bundle's address (R341). -/
def execWatchdog (site slot : Nat) (s : State) : Host.Outcome State Fault Refusal :=
  let x := s.slotAt site slot
  if x.watchdogDue then
    let s1 := if x.mmag.isSome then s.stopMmag site slot else s
    .next (s1.faultSlot site slot .watchdog 0 x.pc (epcOf x.pc).toNat)
  else .next s

/-! ### Fault records (R350, R351) -/

/-- May window i close: TIME has passed it, and no earlier window of its key is open? -/
def State.windowDone (s : State) (i : Nat) : Bool :=
  match s.windows[i]? with
  | some w => decide (w.t0 + 1000 < s.time) && !((s.windows.take i).any (fun v => decide (v.ctx = w.ctx) && decide (v.inc = w.inc) && v.key == w.key))
  | none => false

/-- The payload of a window's record: MORE in [63:32] of doubleword 0, the window's start in doubleword 7 (R349, R350). -/
def FaultWin.record (w : FaultWin) : List Word :=
  ((w.payload.getD 0 0) ||| BitVec.ofNat 64 (min w.more (2 ^ 32 - 1) * 2 ^ 32)) :: ((w.payload.drop 1).take 6 ++ [BitVec.ofNat 64 w.t0])

/-- FAULT_WINDOW_CLOSE: one record is published for the window; one of an old incarnation is dropped and counted (R350, R351). -/
def execFaultWindowClose (i : Nat) (s : State) : Host.Outcome State Fault Refusal :=
  if s.windowDone i then
    match s.windows[i]? with
    | some w =>
      let s1 := { s with windows := s.windows.eraseIdx i }
      .next (if (s.ctx w.ctx).inc ≠ w.inc then s1.countDropped else s1.publish w.ctx w.inc w.key 255 w.record)
    | none => .next s
  else .next s

end Sys2Proof.Machine
end

