-- ==== Sys2Proof/Machine/Mgmt.lean ====
section
/-! DEFINITION. Module, boot and management (19_module R389 to R397) and freeze-on-fault (16_faults R353). -/

namespace Sys2Proof.Machine

/-! ### Secure boot (R393, R394) -/

/-- The bytes of a digest, as FIPS 180 writes them. -/
def digestBytes (d : BitVec 384) : List Byte := (bytesOf 48 d.toNat).reverse
/-- Bytes [off, off + n) of an image. -/
def imagePart (bs : List Byte) (off n : Nat) : List Byte := (bs.drop off).take n
/-- The failure code that the boot ROM gives a flash slot; 0 accepts it (R393, R394, R396). -/
def bootCode (m : Mgmt) (bs : List Byte) : Nat :=
  let len := bytesWord (imagePart bs 0x10 8)
  let body := imagePart bs 0x1000 len
  let d := digestBytes (sha384 body)
  let e := if Config.ecdsaRehash then (sha384 d).toNat else beNum d
  if bytesWord (imagePart bs 0 8) ≠ 0x146574B42 ∨ bs.length < 0x1000 + len then 1
  else if d ≠ imagePart bs 0x18 48 then 1
  else if sha384 (imagePart bs 0x48 97) ≠ m.keyEcdsa ∨ sha384 (imagePart bs 0x109 60) ≠ m.keyLms then 2
  else if !(ecdsaVerify (imagePart bs 0x48 97) e (imagePart bs 0xA9 96)) then 3
  else if !(hssVerify (imagePart bs 0x109 60) d (imagePart bs 0x145 1776)) then 4
  else if versionOf bs < m.rollback then 5
  else 0

/-- The slot that the boot ROM takes: A, else B (R393). -/
def bootSlot (m : Mgmt) : Option Nat := if bootCode m m.flashA = 0 then some 0 else if bootCode m m.flashB = 0 then some 1 else none

/-- What a firmware slot holds of a write of an image to it: the image once the write has ended, and what fails its digest before (R393). -/
def Mgmt.settle (m : Mgmt) (now : Nat) : Mgmt :=
  match m.flashing with
  | none => m
  | some (slot, end_, image) =>
    let bs := if end_ ≤ now then image else []
    { m with flashing := none, flashA := if slot = 0 then bs else m.flashA, flashB := if slot = 0 then m.flashB else bs }

/-- The management state that boot leaves (R392 to R395), with what flash and fuses hold; whether it bifurcates a PCIe port is the controller's (R382,
log 20). In RECOVERY no firmware runs, and nothing after step 1 of R392 is done. -/
def Mgmt.boot (m : Mgmt) (disabled dead : List Nat) (tick : Nat) : Mgmt :=
  let slot := bootSlot m
  let img := if slot = some 1 then m.flashB else m.flashA
  let up := slot.isSome
  { Mgmt.reset with
    recovery := !up, running := slot.getD 0
    failA := bootCode m m.flashA, failB := if bootCode m m.flashA = 0 then 0 else bootCode m m.flashB
    modValid := up && m.config.isSome, config := m.config, flashA := m.flashA, flashB := m.flashB, keyEcdsa := m.keyEcdsa, keyLms := m.keyLms
    version := if up then versionOf img else 0, rollback := m.rollback, bifurcated := [0, 1].filter (fun p => Config.bifurcates tick p)
    measured := if up then measures img m.config disabled dead m.rollback (slot.getD 0) else List.replicate 4 0 }

/-- MODULE_RESET (R392): fuses and flash stay, and so does what has left the module; all else is as bring-up leaves it, READY once the PCIe ports have
trained. If no slot is accepted the wafer stays unpowered, in RECOVERY (R393). -/
def execModuleReset (s : State) : Host.Outcome State Fault Refusal :=
  let m := (s.mgmt.settle s.time).boot s.disabled s.deadRouters s.tick
  let c := if m.modValid then m.config.getD 0 else 0
  .next { State.reset with
    tick := s.tick, outbox := s.outbox, disabled := s.disabled, deadRouters := s.deadRouters, detour := s.detour
    mgmt := m, modnum := c % 1024, domainNum := c / 1024 % 128, powered := !m.recovery, tagNum := c % 1024
    links := bootLinks m.modValid m.bifurcated }

/-- FIRMWARE_WRITE: to the slot not running; in RECOVERY to one that the recovery window picks, which the spec leaves open. It takes a time that is free;
what an earlier write had not ended is lost (R393, log 5). -/
def execFirmwareWrite (image : List Byte) (s : State) : Host.Outcome State Fault Refusal :=
  let m := s.mgmt.settle s.time
  let slot := if m.recovery then Config.pick s.tick 770 % 2 else 1 - m.running
  .next { s with mgmt := { m with flashing := some (slot, s.time + Config.pick s.tick 771, image) } }

/-- ROLLUP: the rollback counter rises to the running image's VERSION (R393); in RECOVERY none runs. -/
def execRollup (s : State) : Host.Outcome State Fault Refusal :=
  .next (if s.mgmt.recovery then s else { s with mgmt := { s.mgmt with rollback := max s.mgmt.rollback s.mgmt.version } })

/-- What a report says before its signature (R395). -/
def Mgmt.reportBody (m : Mgmt) (nonce : List Byte) : List Byte :=
  nonce ++ m.measured.flatMap digestBytes ++ bytesOf 8 Config.moduleSerial.toNat ++ bytesOf 8 m.version
/-- ATTESTATION, with a nonce of 48 bytes (R395). -/
def execAttestation (nonce : List Byte) (s : State) : Host.Outcome State Fault Refusal :=
  let b := s.mgmt.reportBody nonce
  .next <| if nonce.length ≠ 48 then s else { s with outbox := s.outbox ++ [.report (b ++ Config.ecdsaSign b)] }

/-! ### Registers (R396, R397) -/

/-- MODCAP_WRITE: 4,000 to 32,000, from the next governor boundary on (R396, R397). While the input is low it is what the cap returns to
(R390, log 35). -/
def execModcapWrite (v : Word) (s : State) : Host.Outcome State Fault Refusal :=
  let n := v.toNat % 65536
  let m := s.mgmt
  if n < 4000 ∨ 32000 < n then .next s
  else .next { s with mgmt := if m.low.isSome then { m with low := some n } else { m with modcapNext := n } }
/-- DEFOP_WRITE (R396, R397). -/
def execDefopWrite (v : Word) (s : State) : Host.Outcome State Fault Refusal := .next { s with mgmt := { s.mgmt with defopNext := v.toNat % 16 } }
/-- MODNUM_WRITE: ignored while a Quinholt link is outside DOWN and QUARANTINED; it sets VALID and is kept in flash (R397). -/
def execModnumWrite (v : Word) (s : State) : Host.Outcome State Fault Refusal :=
  let open_ := (List.range 64).any (fun k => let st := (s.link (2 + k)).st; st != .down && st != .quarantined)
  if open_ then .next s
  else .next { s with modnum := v.toNat % 1024, domainNum := v.toNat / 1024 % 128
                      mgmt := { s.mgmt with modValid := true, config := some (v.toNat % 131072) } }

/-- TILEMAP_READ: the doubleword that TILEIDX selects; TILEIDX advances (R396). -/
def execTilemapRead (port : Nat) (s : State) : Host.Outcome State Fault Refusal :=
  let i := s.mgmt.tileIdx
  .next <| if !(s.hostOk port) then s else { s with mgmt := { s.mgmt with tileIdx := (i + 1) % 384 }, outbox := s.outbox ++ [.completion port (bytesOf 8 (s.tilemap i)) false] }

/-- Sets the defective flag of a site (R391). -/
def State.flagDefective (s : State) (site : Nat) : State :=
  if s.mgmt.defective.contains site ∨ 6144 ≤ site then s else { s with mgmt := { s.mgmt with defective := s.mgmt.defective ++ [site] } }
/-- TILECMD_CLEAR (R391, R396). A site number of 6,144 or more names none. -/
def execTilecmdClear (site : Nat) (s : State) : Host.Outcome State Fault Refusal :=
  .next { s with mgmt := { s.mgmt with defective := s.mgmt.defective.filter (fun i => decide (i ≠ site)) } }
/-- TILECMD_SET (R391, R396). -/
def execTilecmdSet (site : Nat) (s : State) : Host.Outcome State Fault Refusal := .next (s.flagDefective site)
/-- Has a site reported more than 16 uncorrectable errors within 1 s (R391)? -/
def State.errorsDue (s : State) (site : Nat) : Bool := decide (16 < (KMap.getD s.ueTimes site []).length)
/-- DEFECTIVE_ERRORS: such a site is flagged, and the count starts afresh (R391). -/
def execDefectiveErrors (site : Nat) (s : State) : Host.Outcome State Fault Refusal :=
  .next (if s.errorsDue site then State.flagDefective { s with ueTimes := KMap.del s.ueTimes site } site else s)

/-- The sites of an 8-byte register at `off` of a block of one bit per site that begins at `base`, each with its bit (R396). -/
def siteBits (base off : Nat) (v : Word) : List (Nat × Bool) := (List.range 64).map (fun j => ((off - base) / 8 * 64 + j, v.getLsbD j))

/-- A set of sites after a write of 64 bits of its register. -/
def withBits (l : List Nat) (bs : List (Nat × Bool)) : List Nat :=
  l.filter (fun i => !(bs.any (fun b => decide (b.1 = i)))) ++ (bs.filter (·.2)).map (·.1)
/-- FREEZE_WRITE: the register takes the bits, which go to their tiles over the heath (R396, R397). -/
def execFreezeWrite (off : Nat) (v : Word) (s : State) : Host.Outcome State Fault Refusal :=
  if off < 0x100 ∨ 0x400 ≤ off then .next s
  else .next { s with mgmt := { s.mgmt with freeze := withBits s.mgmt.freeze (siteBits 0x100 off v) } }
/-- DBG_WRITE, likewise (R113, R396, R397). -/
def execDbgWrite (off : Nat) (v : Word) (s : State) : Host.Outcome State Fault Refusal :=
  if off < 0x400 ∨ 0x700 ≤ off then .next s
  else .next { s with mgmt := { s.mgmt with dbg := withBits s.mgmt.dbg (siteBits 0x400 off v) } }
/-- Are bits of FREEZE and DBG on their way to a site (R397)? -/
def State.bitsDue (s : State) (site : Nat) : Bool :=
  let t := s.tileAt site
  !t.frozen && (t.freezeOn != s.mgmt.freeze.contains site || t.dbgOn != s.mgmt.dbg.contains site)
/-- The bits reach the tile: freeze-on-fault, and STATUS.DBGEN of its slots (R113, R353, R397). -/
def State.takeBits (s : State) (site : Nat) : State :=
  let d := s.mgmt.dbg.contains site
  (List.range 4).foldl (fun s k =>
    let x := s.slotAt site k
    if x.sys.dbgen = d then s else s.setSlotAt site k { x with sys := { x.sys with dbgen := d } })
    (s.setTileAt site { s.tileAt site with freezeOn := s.mgmt.freeze.contains site, dbgOn := d })
/-- A write to TILECMD (R396). -/
def execTilecmd (v : Word) (s : State) : Host.Outcome State Fault Refusal :=
  let site := (v.extractLsb' 0 13).toNat
  match (v.extractLsb' 13 3).toNat with
  | 0 => execTilecmdClear site s
  | 1 => execTilecmdSet site s
  | _ => .next s
/-- A write to LINKCMD, whose places the spec does not give (R396, log 5). -/
def execLinkcmd (v : Word) (s : State) : Host.Outcome State Fault Refusal :=
  match Config.linkCmd v with
  | some (l, 0) => execLinkEnable l s
  | some (l, 1) => execLinkQuarantine l s
  | some (l, 2) => execLinkRelease l s
  | _ => .next s
/-- A write to the mailbox: it holds what was written, and may set what the clock of R380 runs by (R396, log 5). -/
def execMailbox (off : Nat) (v : Word) (s : State) : Host.Outcome State Fault Refusal :=
  let m := { s.mgmt with mailbox := KMap.set s.mgmt.mailbox (off / 8 * 8) v }
  .next { s with mgmt := match Config.ptpSetting off v with
    | some (d, p, q) => { m with ptpDomain := d, ptpPrio1 := p, ptpPrio2 := q }
    | none => m }
/-- MGMT_REGISTER_WRITE: a write to a register of BAR 0 does what its register says; one to an RO register or elsewhere is ignored (R396). -/
def execMgmtRegisterWrite (off : Nat) (v : Word) (s : State) : Host.Outcome State Fault Refusal :=
  if off = 0x08 then execModcapWrite v s
  else if off = 0x10 then execDefopWrite v s
  else if off = 0x18 then execModnumWrite v s
  else if off = 0x28 then .next (if 383 < v.toNat then s else { s with mgmt := { s.mgmt with tileIdx := v.toNat } })
  else if off = 0x30 then execTilecmd v s
  else if 0x100 ≤ off ∧ off < 0x400 then execFreezeWrite off v s
  else if 0x400 ≤ off ∧ off < 0x700 then execDbgWrite off v s
  else if off = 0x800 then execLinkcmd v s
  else if 0x1000 ≤ off ∧ off < 0x2000 then execMailbox off v s
  else .next s

/-! ### Supply and temperature (R390) -/

/-- LOW_INPUT: MODCAP is 16 kW until the input is back (R390, log 35). -/
def execLowInput (s : State) : Host.Outcome State Fault Refusal :=
  let m := s.mgmt
  .next (if m.low.isSome then s else { s with mgmt := { m with low := some m.modcapNext, modcapNext := 16000 } })
/-- INPUT_RESTORED (R390, log 35). -/
def execInputRestored (s : State) : Host.Outcome State Fault Refusal :=
  match s.mgmt.low with
  | some n => .next { s with mgmt := { s.mgmt with low := none, modcapNext := n } }
  | none => .next s
/-- Bytes that a cut of the rails has left undefined (R390). -/
def State.lost (s : State) (place n : Nat) : List Byte := (List.range n).map (fun i => Config.freeByte s.tick (place * 2 ^ 20 + i))
/-- The segments of what a rick stores, after a cut of the rails. -/
def State.lostSegs (s : State) (place : Nat) (l : List Seg) : List Seg := l.map (fun g => { g with bytes := s.lost (place + g.idx) g.bytes.length })
/-- The parts of a reduction, likewise. -/
def State.lostParts (s : State) (place : Nat) (r : RedOpen) : RedOpen :=
  { r with parts := r.parts.map (fun p => { p with bytes := s.lost (place + p.idx) p.bytes.length }) }
/-- The wafer rails are cut: nothing of the wafer runs until module reset, and every SRAM and HBM4E content holds undefined values: scratchpads, L1 lines,
accumulators, what ricks store, and global memory (R390). -/
def State.railsDown (s : State) : State :=
  { s with
    powered := false, scratchUndef := [(0, 6144 * 2 ^ 32)], discarded := [(0, localSize)]
    tiles := s.tiles.map (fun (i, t) => (i, { t with lines := t.lines.map (fun l => { l with data := Config.freeVec s.tick (2 ^ 40 + 6144 * l.vline + i) }) }))
    slots := s.slots.map (fun (i, x) => (i, { x with f := { x.f with acc := Vector.ofFn (fun a : Fin 4 => Vector.ofFn (fun j : Fin 32 =>
      Config.freeRow s.tick (2 ^ 30 + 128 * i + 32 * a.val + j.val))) } }))
    homes := s.homes.map (fun (i, h) => (i, { h with
      copies := h.copies.map (fun c => { c with segs := s.lostSegs (2 ^ 40 + 64 * c.seq) c.segs })
      held := h.held.zipIdx.map (fun (e, j) => { e with segs := s.lostSegs (2 ^ 41 + 64 * j) e.segs })
      red := h.red.map (fun r => s.lostParts (2 ^ 42) r)
      closing := h.closing.zipIdx.map (fun (r, j) => s.lostParts (2 ^ 43 + 64 * j) r) })) }
/-- SUPPLY_LOSS (R390). -/
def execSupplyLoss (s : State) : Host.Outcome State Fault Refusal := .next s.railsDown
/-- OVERTEMP_TRIP, as a supply loss (R390). -/
def execOvertempTrip (_site : Nat) (s : State) : Host.Outcome State Fault Refusal := .next s.railsDown
/-- HOT_TILE (R221, R390). -/
def execHotTile (site : Nat) (s : State) : Host.Outcome State Fault Refusal :=
  .next (if s.mgmt.hot.contains site then s else { s with mgmt := { s.mgmt with hot := s.mgmt.hot ++ [site] } })
/-- HOT_TILE_CLEAR (R390). -/
def execHotTileClear (site : Nat) (s : State) : Host.Outcome State Fault Refusal :=
  .next { s with mgmt := { s.mgmt with hot := s.mgmt.hot.filter (fun i => decide (i ≠ site)) } }
/-- HOT_DOMAIN_HOLD: the domain goes to OP0 and is held there (R390). -/
def execHotDomainHold (dom : Nat) (s : State) : Host.Outcome State Fault Refusal :=
  let held := if s.mgmt.held.contains dom then s.mgmt.held else s.mgmt.held ++ [dom]
  .next { s with mgmt := { s.mgmt with held := held }
                 opReq := if s.opOf dom = 0 then KMap.del s.opReq dom else KMap.set s.opReq dom 0 }
/-- HOT_DOMAIN_RELEASE: the domain takes the point of the next governor decision (R390). -/
def execHotDomainRelease (dom : Nat) (s : State) : Host.Outcome State Fault Refusal :=
  .next { s with mgmt := { s.mgmt with held := s.mgmt.held.filter (fun i => decide (i ≠ dom)) } }

/-! ### Freeze-on-fault (R353) -/

/-- FREEZE_ON_FAULT: the tile gates its clocks, and its site is flagged defective (R353, R391). -/
def execFreezeOnFault (site : Nat) (s : State) : Host.Outcome State Fault Refusal :=
  let t := s.tileAt site
  .next (if t.freezeReq ∧ !t.frozen then (s.setTileAt site { t with frozen := true, freezeReq := false }).flagDefective site else s)

end Sys2Proof.Machine
end

