-- ==== Sys2Proof/Machine/Dispatch.lean ====
section
/-! DEFINITION. One arm for each row of the opcode table. -/

namespace Sys2Proof.Machine

/-- The meaning of an instruction: a syllable at issue, or an event of an agent. -/
def exec (i : Instr) (s : State) : Host.Outcome State Fault Refusal :=
  match i with
  | .add h f => Sys2Proof.Machine.execAdd h f s
  | .sub h f => Sys2Proof.Machine.execSub h f s
  | .mul h f => Sys2Proof.Machine.execMul h f s
  | .mulh h f => Sys2Proof.Machine.execMulh h f s
  | .mulhn h f => Sys2Proof.Machine.execMulhn h f s
  | .div h f => Sys2Proof.Machine.execDiv h f s
  | .divn h f => Sys2Proof.Machine.execDivn h f s
  | .remS h f => Sys2Proof.Machine.execRemS h f s
  | .remn h f => Sys2Proof.Machine.execRemn h f s
  | .andS h f => Sys2Proof.Machine.execAndS h f s
  | .orS h f => Sys2Proof.Machine.execOrS h f s
  | .xorS h f => Sys2Proof.Machine.execXorS h f s
  | .andn h f => Sys2Proof.Machine.execAndn h f s
  | .shl h f => Sys2Proof.Machine.execShl h f s
  | .shr h f => Sys2Proof.Machine.execShr h f s
  | .sar h f => Sys2Proof.Machine.execSar h f s
  | .rotr h f => Sys2Proof.Machine.execRotr h f s
  | .min h f => Sys2Proof.Machine.execMin h f s
  | .max h f => Sys2Proof.Machine.execMax h f s
  | .minn h f => Sys2Proof.Machine.execMinn h f s
  | .maxn h f => Sys2Proof.Machine.execMaxn h f s
  | .clz h f => Sys2Proof.Machine.execClz h f s
  | .popc h f => Sys2Proof.Machine.execPopc h f s
  | .bfx h f => Sys2Proof.Machine.execBfx h f s
  | .bfxs h f => Sys2Proof.Machine.execBfxs h f s
  | .bfi h f => Sys2Proof.Machine.execBfi h f s
  | .sel h f => Sys2Proof.Machine.execSel h f s
  | .mov h f => Sys2Proof.Machine.execMov h f s
  | .li h f => Sys2Proof.Machine.execLi h f s
  | .lea h f => Sys2Proof.Machine.execLea h f s
  | .sxt h f => Sys2Proof.Machine.execSxt h f s
  | .zxt h f => Sys2Proof.Machine.execZxt h f s
  | .bswap h f => Sys2Proof.Machine.execBswap h f s
  | .crcs h f => Sys2Proof.Machine.execCrcs h f s
  | .nmake h f => Sys2Proof.Machine.execNmake h f s
  | .cmp h f => Sys2Proof.Machine.execCmp h f s
  | .pand h f => Sys2Proof.Machine.execPand h f s
  | .por h f => Sys2Proof.Machine.execPor h f s
  | .pxor h f => Sys2Proof.Machine.execPxor h f s
  | .pnot h f => Sys2Proof.Machine.execPnot h f s
  | .pset h f => Sys2Proof.Machine.execPset h f s
  | .pget h f => Sys2Proof.Machine.execPget h f s
  | .nop h f => Sys2Proof.Machine.execNop h f s
  | .br h f => Sys2Proof.Machine.execBr h f s
  | .bri h f => Sys2Proof.Machine.execBri h f s
  | .callS h f => Sys2Proof.Machine.execCallS h f s
  | .callInd h f => Sys2Proof.Machine.execCallInd h f s
  | .ret h f => Sys2Proof.Machine.execRet h f s
  | .loopS h f => Sys2Proof.Machine.execLoopS h f s
  | .idle h f => Sys2Proof.Machine.execIdle h f s
  | .brk h f => Sys2Proof.Machine.execBrk h f s
  | .sysr h f => Sys2Proof.Machine.execSysr h f s
  | .sysw h f => Sys2Proof.Machine.execSysw h f s
  | .syswPgroot h f => Sys2Proof.Machine.execSyswPgroot h f s
  | .syswBackbase h f => Sys2Proof.Machine.execSyswBackbase h f s
  | .vadd h f => Sys2Proof.Machine.execVadd h f s
  | .vsub h f => Sys2Proof.Machine.execVsub h f s
  | .vmul h f => Sys2Proof.Machine.execVmul h f s
  | .vfma h f => Sys2Proof.Machine.execVfma h f s
  | .vfms h f => Sys2Proof.Machine.execVfms h f s
  | .vmax h f => Sys2Proof.Machine.execVmax h f s
  | .vmin h f => Sys2Proof.Machine.execVmin h f s
  | .vabs h f => Sys2Proof.Machine.execVabs h f s
  | .vneg h f => Sys2Proof.Machine.execVneg h f s
  | .vcmp h f => Sys2Proof.Machine.execVcmp h f s
  | .vsel h f => Sys2Proof.Machine.execVsel h f s
  | .vand h f => Sys2Proof.Machine.execVand h f s
  | .vor h f => Sys2Proof.Machine.execVor h f s
  | .vxor h f => Sys2Proof.Machine.execVxor h f s
  | .vshl h f => Sys2Proof.Machine.execVshl h f s
  | .vshr h f => Sys2Proof.Machine.execVshr h f s
  | .vsar h f => Sys2Proof.Machine.execVsar h f s
  | .vmov h f => Sys2Proof.Machine.execVmov h f s
  | .vsplat h f => Sys2Proof.Machine.execVsplat h f s
  | .vext h f => Sys2Proof.Machine.execVext h f s
  | .vins h f => Sys2Proof.Machine.execVins h f s
  | .vperm h f => Sys2Proof.Machine.execVperm h f s
  | .vrot h f => Sys2Proof.Machine.execVrot h f s
  | .vredadd h f => Sys2Proof.Machine.execVredadd h f s
  | .vredmax h f => Sys2Proof.Machine.execVredmax h f s
  | .vredmin h f => Sys2Proof.Machine.execVredmin h f s
  | .vscan h f => Sys2Proof.Machine.execVscan h f s
  | .vcvt h f => Sys2Proof.Machine.execVcvt h f s
  | .vpack h f => Sys2Proof.Machine.execVpack h f s
  | .vunpk h f => Sys2Proof.Machine.execVunpk h f s
  | .vexp2 h f => Sys2Proof.Machine.execVexp2 h f s
  | .vlog2 h f => Sys2Proof.Machine.execVlog2 h f s
  | .vrcpa h f => Sys2Proof.Machine.execVrcpa h f s
  | .vrsqa h f => Sys2Proof.Machine.execVrsqa h f s
  | .vsqrt h f => Sys2Proof.Machine.execVsqrt h f s
  | .vdiv h f => Sys2Proof.Machine.execVdiv h f s
  | .vclass h f => Sys2Proof.Machine.execVclass h f s
  | .vscale h f => Sys2Proof.Machine.execVscale h f s
  | .vrint h f => Sys2Proof.Machine.execVrint h f s
  | .vimul h f => Sys2Proof.Machine.execVimul h f s
  | .vimulh h f => Sys2Proof.Machine.execVimulh h f s
  | .vrand h f => Sys2Proof.Machine.execVrand h f s
  | .vmcnt h f => Sys2Proof.Machine.execVmcnt h f s
  | .vjoin h f => Sys2Proof.Machine.execVjoin h f s
  | .mshape h f => Sys2Proof.Machine.execMshape h f s
  | .mzero h f => Sys2Proof.Machine.execMzero h f s
  | .mma h f => Sys2Proof.Machine.execMma h f s
  | .mmat h f => Sys2Proof.Machine.execMmat h f s
  | .mmag h f => Sys2Proof.Machine.execMmag h f s
  | .mcb h f => Sys2Proof.Machine.execMcb h f s
  | .macld h f => Sys2Proof.Machine.execMacld h f s
  | .macst h f => Sys2Proof.Machine.execMacst h f s
  | .macadd h f => Sys2Proof.Machine.execMacadd h f s
  | .mwait h f => Sys2Proof.Machine.execMwait h f s
  | .ld h f => Sys2Proof.Machine.execLd h f s
  | .st h f => Sys2Proof.Machine.execSt h f s
  | .vld h f => Sys2Proof.Machine.execVld h f s
  | .vst h f => Sys2Proof.Machine.execVst h f s
  | .vgath h f => Sys2Proof.Machine.execVgath h f s
  | .vscat h f => Sys2Proof.Machine.execVscat h f s
  | .ldg h f => Sys2Proof.Machine.execLdg h f s
  | .stg h f => Sys2Proof.Machine.execStg h f s
  | .vldg h f => Sys2Proof.Machine.execVldg h f s
  | .vstg h f => Sys2Proof.Machine.execVstg h f s
  | .atoms h f => Sys2Proof.Machine.execAtoms h f s
  | .atomg h f => Sys2Proof.Machine.execAtomg h f s
  | .pref h f => Sys2Proof.Machine.execPref h f s
  | .clean h f => Sys2Proof.Machine.execClean h f s
  | .inval h f => Sys2Proof.Machine.execInval h f s
  | .discard h f => Sys2Proof.Machine.execDiscard h f s
  | .waymask h f => Sys2Proof.Machine.execWaymask h f s
  | .waygate h f => Sys2Proof.Machine.execWaygate h f s
  | .llock h f => Sys2Proof.Machine.execLlock h f s
  | .lunlk h f => Sys2Proof.Machine.execLunlk h f s
  | .fence h f => Sys2Proof.Machine.execFence h f s
  | .xfence h f => Sys2Proof.Machine.execXfence h f s
  | .chkv h f => Sys2Proof.Machine.execChkv h f s
  | .scfg h f => Sys2Proof.Machine.execScfg h f s
  | .sgo h f => Sys2Proof.Machine.execSgo h f s
  | .sstop h f => Sys2Proof.Machine.execSstop h f s
  | .sparm h f => Sys2Proof.Machine.execSparm h f s
  | .sfence h f => Sys2Proof.Machine.execSfence h f s
  | .waitwp h f => Sys2Proof.Machine.execWaitwp h f s
  | .subscribe h f => Sys2Proof.Machine.execSubscribe h f s
  | .unsub h f => Sys2Proof.Machine.execUnsub h f s
  | .pub h f => Sys2Proof.Machine.execPub h f s
  | .pubr h f => Sys2Proof.Machine.execPubr h f s
  | .nhold h f => Sys2Proof.Machine.execNhold h f s
  | .nrels h f => Sys2Proof.Machine.execNrels h f s
  | .npoll h f => Sys2Proof.Machine.execNpoll h f s
  | .npollAck h f => Sys2Proof.Machine.execNpollAck h f s
  | .npollInj h f => Sys2Proof.Machine.execNpollInj h f s
  | .lsend h f => Sys2Proof.Machine.execLsend h f s
  | .exitS h f => Sys2Proof.Machine.execExitS h f s
  | .yieldSlot h f => Sys2Proof.Machine.execYieldSlot h f s
  | .yieldWp h f => Sys2Proof.Machine.execYieldWp h f s
  | .yieldAny h f => Sys2Proof.Machine.execYieldAny h f s
  | .yieldTime h f => Sys2Proof.Machine.execYieldTime h f s
  | .launch h f => Sys2Proof.Machine.execLaunch h f s
  | .qpost h f => Sys2Proof.Machine.execQpost h f s
  | .qctlCreate h f => Sys2Proof.Machine.execQctlCreate h f s
  | .qctlDrain h f => Sys2Proof.Machine.execQctlDrain h f s
  | .qctlClose h f => Sys2Proof.Machine.execQctlClose h f s
  | .qctlLevel h f => Sys2Proof.Machine.execQctlLevel h f s
  | .qctlQuery h f => Sys2Proof.Machine.execQctlQuery h f s
  | .gjoin h f => Sys2Proof.Machine.execGjoin h f s
  | .gleave h f => Sys2Proof.Machine.execGleave h f s
  | .gctlCancel h f => Sys2Proof.Machine.execGctlCancel h f s
  | .gctlPrio h f => Sys2Proof.Machine.execGctlPrio h f s
  | .gctlCap h f => Sys2Proof.Machine.execGctlCap h f s
  | .gctlCut h f => Sys2Proof.Machine.execGctlCut h f s
  | .gctlRestore h f => Sys2Proof.Machine.execGctlRestore h f s
  | .gctlQuery h f => Sys2Proof.Machine.execGctlQuery h f s
  | .gwait h f => Sys2Proof.Machine.execGwait h f s
  | .binit h f => Sys2Proof.Machine.execBinit h f s
  | .barv h f => Sys2Proof.Machine.execBarv h f s
  | .bwait h f => Sys2Proof.Machine.execBwait h f s
  | .stepo h f => Sys2Proof.Machine.execStepo h f s
  | .stepc h f => Sys2Proof.Machine.execStepc h f s
  | .slack h f => Sys2Proof.Machine.execSlack h f s
  | .trapS h f => Sys2Proof.Machine.execTrapS h f s
  | .rft h f => Sys2Proof.Machine.execRft h f s
  | .ctxk h f => Sys2Proof.Machine.execCtxk h f s
  | .reclm h f => Sys2Proof.Machine.execReclm h f s
  | .ctxrStart h f => Sys2Proof.Machine.execCtxrStart h f s
  | .ctxrFree h f => Sys2Proof.Machine.execCtxrFree h f s
  | .evict h f => Sys2Proof.Machine.execEvict h f s
  | .evictUnbind h f => Sys2Proof.Machine.execEvictUnbind h f s
  | .chkpNow h f => Sys2Proof.Machine.execChkpNow h f s
  | .chkpBgon h f => Sys2Proof.Machine.execChkpBgon h f s
  | .chkpBgoff h f => Sys2Proof.Machine.execChkpBgoff h f s
  | .interlockedResultLand site slot ctx inc dst val then_ => Sys2Proof.Machine.execInterlockedResultLand site slot ctx inc dst val then_ s
  | .mmagRowArrive site slot ctx inc k off r => Sys2Proof.Machine.execMmagRowArrive site slot ctx inc k off r s
  | .l1Fill site ctx inc vline r => Sys2Proof.Machine.execL1Fill site ctx inc vline r s
  | .channelDataArrive site slot ch ctx inc seq r => Sys2Proof.Machine.execChannelDataArrive site slot ch ctx inc seq r s
  | .subAtRouter site port m => Sys2Proof.Machine.execSubAtRouter site port m s
  | .subAtHome m => Sys2Proof.Machine.execSubAtHome m s
  | .installNotice m nh => Sys2Proof.Machine.execInstallNotice m nh s
  | .withdrawal site port m => Sys2Proof.Machine.execWithdrawal site port m s
  | .segmentAtRouter site port toHome g => Sys2Proof.Machine.execSegmentAtRouter site port toHome g s
  | .segmentAtHome port g => Sys2Proof.Machine.execSegmentAtHome port g s
  | .orderNotice ctx inc tag => Sys2Proof.Machine.execOrderNotice ctx inc tag s
  | .contributionAtHome g => Sys2Proof.Machine.execContributionAtHome g s
  | .copyAtTilePort site target g => Sys2Proof.Machine.execCopyAtTilePort site target g s
  | .landingAckAtHome m => Sys2Proof.Machine.execLandingAckAtHome m s
  | .divertedCopyAtHome m g => Sys2Proof.Machine.execDivertedCopyAtHome m g s
  | .pullAtHome m => Sys2Proof.Machine.execPullAtHome m s
  | .nextRequestAtHome m => Sys2Proof.Machine.execNextRequestAtHome m s
  | .nholdAtHome ctx inc name who => Sys2Proof.Machine.execNholdAtHome ctx inc name who s
  | .nrelsAtHome ctx inc name who => Sys2Proof.Machine.execNrelsAtHome ctx inc name who s
  | .overflowStallNotice site o => Sys2Proof.Machine.execOverflowStallNotice site o s
  | .overflowSpaceNotice site o => Sys2Proof.Machine.execOverflowSpaceNotice site o s
  | .fallthroughRequest hedge ctx inc b => Sys2Proof.Machine.execFallthroughRequest hedge ctx inc b s
  | .fallthroughData ctx inc name linger r => Sys2Proof.Machine.execFallthroughData ctx inc name linger r s
  | .backingTableReread ctx inc => Sys2Proof.Machine.execBackingTableReread ctx inc s
  | .standInReply r => Sys2Proof.Machine.execStandInReply r s
  | .reinstallAtHome m => Sys2Proof.Machine.execReinstallAtHome m s
  | .recordAppend ctx inc q rec_ src => Sys2Proof.Machine.execRecordAppend ctx inc q rec_ src s
  | .placementMessage p ctx inc => Sys2Proof.Machine.execPlacementMessage p ctx inc s
  | .loadDone uid => Sys2Proof.Machine.execLoadDone uid s
  | .memberTerminalUpdate ctx inc g how cause => Sys2Proof.Machine.execMemberTerminalUpdate ctx inc g how cause s
  | .cancelAtTile uid g => Sys2Proof.Machine.execCancelAtTile uid g s
  | .cutMarkAtHome o c name uid sub => Sys2Proof.Machine.execCutMarkAtHome o c name uid sub s
  | .cutRecordWrite o c name uid sub => Sys2Proof.Machine.execCutRecordWrite o c name uid sub s
  | .binitAtHome r n => Sys2Proof.Machine.execBinitAtHome r n s
  | .arrivalAtHome r => Sys2Proof.Machine.execArrivalAtHome r s
  | .bwaitAtHome r sub land => Sys2Proof.Machine.execBwaitAtHome r sub land s
  | .pinReleaseMessage ctx inc name => Sys2Proof.Machine.execPinReleaseMessage ctx inc name s
  | .completionNotice ctx inc g stamp => Sys2Proof.Machine.execCompletionNotice ctx inc g stamp s
  | .copyDeliveredReport ctx inc name => Sys2Proof.Machine.execCopyDeliveredReport ctx inc name s
  | .descriptorReadDone ctx who issuer issuerInc va => Sys2Proof.Machine.execDescriptorReadDone ctx who issuer issuerInc va s
  | .pageWalk w => Sys2Proof.Machine.execPageWalk w s
  | .migRewalk w => Sys2Proof.Machine.execMigRewalk w s
  | .memoryRequestAtHome r => Sys2Proof.Machine.execMemoryRequestAtHome r s
  | .groupRequestAtScheduler ctx inc g op who midx => Sys2Proof.Machine.execGroupRequestAtScheduler ctx inc g op who midx s
  | .queueOperationAtScheduler ctx inc q op who => Sys2Proof.Machine.execQueueOperationAtScheduler ctx inc q op who s
  | .stepRequestAtGovernor ctx inc op who => Sys2Proof.Machine.execStepRequestAtGovernor ctx inc op who s
  | .saveOrderAtTile uid why => Sys2Proof.Machine.execSaveOrderAtTile uid why s
  | .memoryWriteAcknowledgement ctx inc who => Sys2Proof.Machine.execMemoryWriteAcknowledgement ctx inc who s
  | .placementAcknowledgement field site => Sys2Proof.Machine.execPlacementAcknowledgement field site s
  | .gateSatisfied ctx inc r name => Sys2Proof.Machine.execGateSatisfied ctx inc r name s
  | .membershipReserve o r g n => Sys2Proof.Machine.execMembershipReserve o r g n s
  | .hostEventLanding sub payload => Sys2Proof.Machine.execHostEventLanding sub payload s
  | .spillReadBack ctx name seq => Sys2Proof.Machine.execSpillReadBack ctx name seq s
  | .copyLanded site slot sub => Sys2Proof.Machine.execCopyLanded site slot sub s
  | .sweepDone agent ctx drops => Sys2Proof.Machine.execSweepDone agent ctx drops s
  | .cutMarksConfirmed o c => Sys2Proof.Machine.execCutMarksConfirmed o c s
  | .hostWrite port w bytes => Sys2Proof.Machine.execHostWrite port w bytes s
  | .hostRead port r n => Sys2Proof.Machine.execHostRead port r n s
  | .bundleIssue site slot => Sys2Proof.Machine.execBundleIssue site slot s
  | .ageout f => Sys2Proof.Machine.execAgeout f s
  | .reclaim ctx => Sys2Proof.Machine.execReclaim ctx s
  | .resultLand site slot idx => Sys2Proof.Machine.execResultLand site slot idx s
  | .quantumGrant site slot => Sys2Proof.Machine.execQuantumGrant site slot s
  | .quantumEnd site => Sys2Proof.Machine.execQuantumEnd site s
  | .watchdog site slot => Sys2Proof.Machine.execWatchdog site slot s
  | .idleWake site slot => Sys2Proof.Machine.execIdleWake site slot s
  | .brkResume site slot pc => Sys2Proof.Machine.execBrkResume site slot pc s
  | .matrixStart site => Sys2Proof.Machine.execMatrixStart site s
  | .matrixComplete site => Sys2Proof.Machine.execMatrixComplete site s
  | .slewRefill dom => Sys2Proof.Machine.execSlewRefill dom s
  | .wayChangeComplete site slot => Sys2Proof.Machine.execWayChangeComplete site slot s
  | .wayPowerUp site way => Sys2Proof.Machine.execWayPowerUp site way s
  | .l1Writeback site ctx vline => Sys2Proof.Machine.execL1Writeback site ctx vline s
  | .maintWalk site => Sys2Proof.Machine.execMaintWalk site s
  | .channelBeat site slot ch => Sys2Proof.Machine.execChannelBeat site slot ch s
  | .pubInject site slot => Sys2Proof.Machine.execPubInject site slot s
  | .routerMerge n_ m_ => Sys2Proof.Machine.execRouterMerge n_ m_ s
  | .lingerExpire ctx name seq => Sys2Proof.Machine.execLingerExpire ctx name seq s
  | .overflowStallTimeout ctx => Sys2Proof.Machine.execOverflowStallTimeout ctx s
  | .matchEntryEcc site ctx name => Sys2Proof.Machine.execMatchEntryEcc site ctx name s
  | .meshEcc n_ => Sys2Proof.Machine.execMeshEcc n_ s
  | .rickFailedMark site => Sys2Proof.Machine.execRickFailedMark site s
  | .retire site slot => Sys2Proof.Machine.execRetire site slot s
  | .parkComplete site slot => Sys2Proof.Machine.execParkComplete site slot s
  | .parkWake site slot => Sys2Proof.Machine.execParkWake site slot s
  | .parkRestore site slot => Sys2Proof.Machine.execParkRestore site slot s
  | .hostAppendWrite w bytes => Sys2Proof.Machine.execHostAppendWrite w bytes s
  | .recordExpand ctx q => Sys2Proof.Machine.execRecordExpand ctx q s
  | .instancePlace uid site slot => Sys2Proof.Machine.execInstancePlace uid site slot s
  | .migrate uid site slot => Sys2Proof.Machine.execMigrate uid site slot s
  | .cutComplete ctx g => Sys2Proof.Machine.execCutComplete ctx g s
  | .governorDecision b => Sys2Proof.Machine.execGovernorDecision b s
  | .opChangeComplete dom => Sys2Proof.Machine.execOpChangeComplete dom s
  | .deadlineCheck ctx id b => Sys2Proof.Machine.execDeadlineCheck ctx id b s
  | .faultWindowClose n_ => Sys2Proof.Machine.execFaultWindowClose n_ s
  | .freezeOnFault site => Sys2Proof.Machine.execFreezeOnFault site s
  | .bindingInstall site ctx => Sys2Proof.Machine.execBindingInstall site ctx s
  | .bindingsAcknowledged ctx => Sys2Proof.Machine.execBindingsAcknowledged ctx s
  | .incarnationBroadcast agent ctx => Sys2Proof.Machine.execIncarnationBroadcast agent ctx s
  | .linkFenceExpire ctx => Sys2Proof.Machine.execLinkFenceExpire ctx s
  | .evictionComplete uid => Sys2Proof.Machine.execEvictionComplete uid s
  | .restore uid site slot => Sys2Proof.Machine.execRestore uid site slot s
  | .backgroundWrite site slot => Sys2Proof.Machine.execBackgroundWrite site slot s
  | .tokenRefill site => Sys2Proof.Machine.execTokenRefill site s
  | .invalidationAtAgent agent ctx => Sys2Proof.Machine.execInvalidationAtAgent agent ctx s
  | .invpClear ctx => Sys2Proof.Machine.execInvpClear ctx s
  | .linkEnable l => Sys2Proof.Machine.execLinkEnable l s
  | .linkQuarantine l => Sys2Proof.Machine.execLinkQuarantine l s
  | .linkRelease l => Sys2Proof.Machine.execLinkRelease l s
  | .linkTrainedFull l => Sys2Proof.Machine.execLinkTrainedFull l s
  | .linkTrainedReduced l => Sys2Proof.Machine.execLinkTrainedReduced l s
  | .linkTrainingTimeout l => Sys2Proof.Machine.execLinkTrainingTimeout l s
  | .linkRetry l => Sys2Proof.Machine.execLinkRetry l s
  | .errorBurst l => Sys2Proof.Machine.execErrorBurst l s
  | .linkLoss l => Sys2Proof.Machine.execLinkLoss l s
  | .flitReceive l f => Sys2Proof.Machine.execFlitReceive l f s
  | .remoteRequest l f => Sys2Proof.Machine.execRemoteRequest l f s
  | .remoteResponse tag r => Sys2Proof.Machine.execRemoteResponse tag r s
  | .remotetmo tag => Sys2Proof.Machine.execRemotetmo tag s
  | .lsendSegmentReceive f => Sys2Proof.Machine.execLsendSegmentReceive f s
  | .lsendVerdict id accept => Sys2Proof.Machine.execLsendVerdict id accept s
  | .lsendVerdictTimeout id => Sys2Proof.Machine.execLsendVerdictTimeout id s
  | .frameResend port id => Sys2Proof.Machine.execFrameResend port id s
  | .ptpMessage port msg => Sys2Proof.Machine.execPtpMessage port msg s
  | .modcapWrite v => Sys2Proof.Machine.execModcapWrite v s
  | .defopWrite v => Sys2Proof.Machine.execDefopWrite v s
  | .modnumWrite v => Sys2Proof.Machine.execModnumWrite v s
  | .tilemapRead port => Sys2Proof.Machine.execTilemapRead port s
  | .tilecmdClear site => Sys2Proof.Machine.execTilecmdClear site s
  | .tilecmdSet site => Sys2Proof.Machine.execTilecmdSet site s
  | .freezeWrite off v => Sys2Proof.Machine.execFreezeWrite off v s
  | .dbgWrite off v => Sys2Proof.Machine.execDbgWrite off v s
  | .attestation nonce => Sys2Proof.Machine.execAttestation nonce s
  | .rollup => Sys2Proof.Machine.execRollup s
  | .admissionTableWrite n_ srcDomain srcModule srcCtx dstCtx valid => Sys2Proof.Machine.execAdmissionTableWrite n_ srcDomain srcModule srcCtx dstCtx valid s
  | .hostSubscriptionRegister port ctx name ring vector => Sys2Proof.Machine.execHostSubscriptionRegister port ctx name ring vector s
  | .firmwareWrite image => Sys2Proof.Machine.execFirmwareWrite image s
  | .mgmtRegisterWrite off v => Sys2Proof.Machine.execMgmtRegisterWrite off v s
  | .moduleReset => Sys2Proof.Machine.execModuleReset s
  | .lowInput => Sys2Proof.Machine.execLowInput s
  | .inputRestored => Sys2Proof.Machine.execInputRestored s
  | .supplyLoss => Sys2Proof.Machine.execSupplyLoss s
  | .hotTile site => Sys2Proof.Machine.execHotTile site s
  | .hotTileClear site => Sys2Proof.Machine.execHotTileClear site s
  | .hotDomainHold dom => Sys2Proof.Machine.execHotDomainHold dom s
  | .hotDomainRelease dom => Sys2Proof.Machine.execHotDomainRelease dom s
  | .overtempTrip site => Sys2Proof.Machine.execOvertempTrip site s
  | .defectiveErrors site => Sys2Proof.Machine.execDefectiveErrors site s
  | .switchLinkReport k module usable => Sys2Proof.Machine.execSwitchLinkReport k module usable s

end Sys2Proof.Machine
end

