-- ==== Sys2Proof/Machine/Sched.lean ====
section
/-! DEFINITION. What may happen next (log 6): the messages of the agenda that are due, the inputs from outside among them, and the events
that follow from the state. Each is run as the event of the opcode table that it is. -/

namespace Sys2Proof.Machine

/-- Something that may happen next: the agenda's entry `i`, or an event that follows from the state. -/
inductive Cand where
  | sent (i : Nat)
  | pass (i : Nat)
  | offer (site slot k : Nat)
  | bundleIssue (site slot : Nat)
  | resultLand (site slot idx : Nat)
  | quantumGrant (site slot : Nat)
  | quantumEnd (site : Nat)
  | watchdog (site slot : Nat)
  | idleWake (site slot : Nat)
  | matrixStart (site : Nat)
  | matrixComplete (site : Nat)
  | slewRefill (dom : Nat)
  | wayChangeComplete (site slot : Nat)
  | wayPowerUp (site way : Nat)
  | l1Writeback (site ctx vline : Nat)
  | maintWalk (site : Nat)
  | channelBeat (site slot ch : Nat)
  | pubInject (site slot : Nat)
  | routerMerge (i j : Nat)
  | lingerExpire (ctx : Nat) (name : Word) (seq : Nat)
  | overflowStallTimeout (ctx : Nat)
  | space (ctx rick : Nat)
  | chkp (site slot : Nat)
  | retire (site slot : Nat)
  | parkComplete (site slot : Nat)
  | parkWake (site slot : Nat)
  | parkRestore (site slot : Nat)
  | recordExpand (ctx q : Nat)
  | instancePlace (uid site slot : Nat)
  | migrate (uid site slot : Nat)
  | cutComplete (ctx g : Nat)
  | governorDecision (b : Nat)
  | opChangeComplete (dom : Nat)
  | deadlineCheck (ctx id b : Nat)
  | faultWindowClose (i : Nat)
  | freezeOnFault (site : Nat)
  | bits (site : Nat)
  | defectiveErrors (site : Nat)
  | bindingInstall (site ctx : Nat)
  | bindingsAcknowledged (ctx : Nat)
  | incarnationBroadcast (agent ctx : Nat)
  | linkFenceExpire (ctx : Nat)
  | reclaim (ctx : Nat)
  | evictionComplete (uid : Nat)
  | restore (uid site slot : Nat)
  | backgroundWrite (site slot : Nat)
  | tokenRefill (site : Nat)
  | invalidationAtAgent (agent ctx : Nat)
  | invpClear (ctx : Nat)
  | linkTrainingTimeout (l : Nat)
  | linkRetry (l : Nat)
  | errorBurst (l : Nat)
  | ageout (f : Flit)
  | remoteRequest (l : Nat) (f : Flit)
  | remoteResponse (tag : Nat) (r : MemReply)
  | remotetmo (tag : Nat)
  | lsendSegmentReceive (f : LFrame)
  | lsendVerdict (id : Nat) (accept : Bool)
  | lsendVerdictTimeout (id : Nat)
  | frameResend (port id : Nat)
  deriving DecidableEq, Repr

/-- A port serves the entry `i` of the agenda, one flit or request; past its last port a request for another module goes onto a link (R317). -/
def State.portServe (s : State) (i : Nat) : State :=
  match s.agenda[i]? with
  | none => s
  | some p =>
    match p.holds with
    | [] => s
    | h :: r =>
      let s1 := s.portPay h.agent h.ctx h.cost
      let hs := if h.left ≤ 1 then r else { h with left := h.left - 1 } :: r
      match hs, p.ev with
      | [], .memoryRequestAtHome q =>
        if paModule q.pa = s.modnum then { s1 with agenda := s1.agenda.set i { p with holds := [] } }
        else State.sendRemote { s1 with agenda := s1.agenda.eraseIdx i } q
      | _, _ => { s1 with agenda := s1.agenda.set i { p with holds := hs } }

/-- A channel or the injection queue puts its next flit at the tile's port. -/
def State.portOffer (s : State) (site slot k : Nat) : State :=
  let x := s.slotAt site slot
  if x.port.contains k then s else s.setSlotAt site slot { x with port := x.port ++ [k] }

/-- Runs a candidate: the meaning of its event. An entry of the agenda leaves it first. -/
def Cand.run (c : Cand) (s : State) : Host.Outcome State Fault Refusal :=
  match c with
  | .sent i => match s.agenda[i]? with
    | some p => exec p.ev { s with agenda := s.agenda.eraseIdx i }
    | none => .next s
  | .pass i => .next (s.portServe i)
  | .offer site slot k => .next (s.portOffer site slot k)
  | .bundleIssue site slot => execBundleIssue site slot s
  | .resultLand site slot idx => execResultLand site slot idx s
  | .quantumGrant site slot => execQuantumGrant site slot s
  | .quantumEnd site => execQuantumEnd site s
  | .watchdog site slot => execWatchdog site slot s
  | .idleWake site slot => execIdleWake site slot s
  | .matrixStart site => execMatrixStart site s
  | .matrixComplete site => execMatrixComplete site s
  | .slewRefill dom => execSlewRefill dom s
  | .wayChangeComplete site slot => execWayChangeComplete site slot s
  | .wayPowerUp site way => execWayPowerUp site way s
  | .l1Writeback site ctx vline => execL1Writeback site ctx vline s
  | .maintWalk site => execMaintWalk site s
  | .channelBeat site slot ch => execChannelBeat site slot ch s
  | .pubInject site slot => execPubInject site slot s
  | .routerMerge i j => execRouterMerge i j s
  | .lingerExpire ctx name seq => execLingerExpire ctx name seq s
  | .overflowStallTimeout ctx => execOverflowStallTimeout ctx s
  | .space ctx rick => .next (s.unstallCtx ctx rick)
  | .chkp site slot => .next (s.chkpGo site slot)
  | .retire site slot => execRetire site slot s
  | .parkComplete site slot => execParkComplete site slot s
  | .parkWake site slot => execParkWake site slot s
  | .parkRestore site slot => execParkRestore site slot s
  | .recordExpand ctx q => execRecordExpand ctx q s
  | .instancePlace uid site slot => execInstancePlace uid site slot s
  | .migrate uid site slot => execMigrate uid site slot s
  | .cutComplete ctx g => execCutComplete ctx g s
  | .governorDecision b => execGovernorDecision b s
  | .opChangeComplete dom => execOpChangeComplete dom s
  | .deadlineCheck ctx id b => execDeadlineCheck ctx id b s
  | .faultWindowClose i => execFaultWindowClose i s
  | .freezeOnFault site => execFreezeOnFault site s
  | .bits site => .next (s.takeBits site)
  | .defectiveErrors site => execDefectiveErrors site s
  | .bindingInstall site ctx => execBindingInstall site ctx s
  | .bindingsAcknowledged ctx => execBindingsAcknowledged ctx s
  | .incarnationBroadcast agent ctx => execIncarnationBroadcast agent ctx s
  | .linkFenceExpire ctx => execLinkFenceExpire ctx s
  | .reclaim ctx => execReclaim ctx s
  | .evictionComplete uid => execEvictionComplete uid s
  | .restore uid site slot => execRestore uid site slot s
  | .backgroundWrite site slot => execBackgroundWrite site slot s
  | .tokenRefill site => execTokenRefill site s
  | .invalidationAtAgent agent ctx => execInvalidationAtAgent agent ctx s
  | .invpClear ctx => execInvpClear ctx s
  | .linkTrainingTimeout l => execLinkTrainingTimeout l s
  | .linkRetry l => execLinkRetry l s
  | .errorBurst l => execErrorBurst l s
  | .ageout f => execAgeout f s
  | .remoteRequest l f => execRemoteRequest l f s
  | .remoteResponse tag r => execRemoteResponse tag r s
  | .remotetmo tag => execRemotetmo tag s
  | .lsendSegmentReceive f => execLsendSegmentReceive f s
  | .lsendVerdict id accept => execLsendVerdict id accept s
  | .lsendVerdictTimeout id => execLsendVerdictTimeout id s
  | .frameResend port id => execFrameResend port id s

/-- A candidate where its condition holds. -/
def offer (b : Bool) (c : Cand) : List Cand := if b then [c] else []

/-! ### The agenda (log 6) -/

/-- Is the event one of the management controller or of the PCIe ports, by which the host reaches it, while the wafer rails are down (R390, R393)? -/
def ofController : Instr → Bool
  | .moduleReset | .firmwareWrite _ | .attestation _ | .rollup | .modcapWrite _ | .defopWrite _ | .tilemapRead _ | .tilecmdClear _ | .tilecmdSet _
  | .mgmtRegisterWrite _ _ | .lowInput | .inputRestored | .freezeWrite _ _ | .dbgWrite _ _ | .modnumWrite _ => true
  | .hostRead _ r _ => decide (r.bar = 0)
  | .linkTrainedFull l | .linkTrainedReduced l | .linkTrainingTimeout l | .linkRetry l | .linkLoss l | .linkEnable l | .linkQuarantine l
  | .linkRelease l => decide (l < 2 ∨ 74 ≤ l)
  | _ => false

/-- May an entry act: it is due, its release part is done, its ports are passed, it is an event, and with the rails down it is the controller's? -/
def State.entryReady (s : State) (p : Pending) : Bool :=
  decide (p.due ≤ s.time) && (match p.rel with | some r => s.relDone r | none => true) && (hdrOfInstr p.ev).isNone && p.holds.isEmpty &&
  (s.powered || ofController p.ev)

/-- The entries that may act, by place: none that is behind an earlier entry of one of its channels. -/
def State.sentGo (s : State) : Nat → List Nat → List Pending → List Cand
  | _, _, [] => []
  | i, chans, p :: r =>
    offer (!(p.behind chans) && s.entryReady p) (.sent i) ++ State.sentGo s (i + 1) (p.chans ++ chans) r

/-! ### Events of a tile -/

/-- Events of a slot of a tile that is not frozen. -/
def State.slotCands (s : State) (site slot : Nat) (x : Slot) : List Cand :=
  let t := s.tileAt site
  offer (s.issueReady site slot) (.bundleIssue site slot) ++
  (if (t.issuing == some slot && !x.held) then [] else (List.range x.infl.length).map (fun i => .resultLand site slot i)) ++
  offer x.watchdogDue (.watchdog site slot) ++
  offer (s.idleDue site x) (.idleWake site slot) ++
  offer (s.wayReady site slot x) (.wayChangeComplete site slot) ++
  ((List.range 16).filter (fun ch => s.beatReady site slot ch)).map (fun ch => .channelBeat site slot ch) ++
  offer (s.injectReady site slot) (.pubInject site slot) ++
  ((List.range 17).filter (fun k => !(x.port.contains k) && s.canOffer site slot k)).map (fun k => .offer site slot k) ++
  offer (s.endReady site slot).isSome (.retire site slot) ++
  offer (s.parkReady site slot) (.parkComplete site slot) ++
  offer (match x.park with | some c => x.st == .parked && x.parkHolds s.time c | none => false) (.parkWake site slot) ++
  offer (x.parkDone && (x.st == .ready || x.st == .running) && t.issuing == some slot) (.parkRestore site slot) ++
  (match s.mustMove site slot with | some (u, a, b) => [.migrate u a b] | none => []) ++
  (match x.inst with
   | some u => offer (x.stopReq.isSome && s.stoppable site slot) (.evictionComplete u) ++ offer (s.restoreReady site slot) (.restore u site slot)
   | none => []) ++
  offer (s.bgReady site slot) (.backgroundWrite site slot) ++ offer (s.chkpReady site slot) (.chkp site slot)

/-- Events of a tile that is not frozen: once an agent of it has detected a fault with freeze-on-fault set, its freeze alone (R353). -/
def State.tileCands (s : State) (site : Nat) (t : Tile) : List Cand :=
  if t.freezeReq then [.freezeOnFault site] else
  offer (s.quantumOver site) (.quantumEnd site) ++
  (if t.issuing.isNone then (match s.bestCand site with | some k => offer (s.switchReady site k) (.quantumGrant site k) | none => []) else []) ++
  (match t.unit with
   | o :: _ => if o.started then offer (decide (o.kind ≠ 2)) (.matrixComplete site) else [.matrixStart site]
   | [] => []) ++
  ((List.range 10).filter (fun w => s.powering site w)).map (fun w => .wayPowerUp site w) ++
  (t.lines.filter (fun l => l.filled && l.dirty)).map (fun l => .l1Writeback site l.ctx l.vline) ++
  offer (t.walks.any (fun w => w.lines.isEmpty || w.lines.any (fun vl => t.passable w.ctx vl))) (.maintWalk site)

/-- Sites that have a tile or a slot on record. -/
def State.usedSites (s : State) : List Nat := (s.tiles.map (fun (p : Nat × Tile) => p.1) ++ s.slots.map (fun (p : Nat × Slot) => p.1 / 4)).eraseDups

/-! ### Events off the tile -/

/-- One of a list, freely picked. -/
def State.pickOf (s : State) (k : Nat) (l : List Nat) : Option Nat := l[Config.pick s.tick k % l.length]?

/-- Events of a context's control: bindings, the broadcast of a kill, reclaim, invalidation, placement. -/
def State.ctxCands (s : State) (c : Nat) (x : Ctx) : List Cand :=
  (match x.st with
   | .creating => (match x.toBind with
     | [] => offer x.startWho.isSome (.bindingsAcknowledged c)
     | _ => (match s.pickOf 10 x.toBind with | some i => [.bindingInstall i c] | none => []))
   | .killed =>
     (match s.pickOf 11 (s.agents.filter (fun a => !(x.told.contains a))) with | some a => [.incarnationBroadcast a c] | none => []) ++
     offer (s.fenceOver c) (.linkFenceExpire c) ++ offer (s.reclaimReady c) (.reclaim c)
   | .active => (match s.nextPlace c with | some (u, a, b) => [.instancePlace u a b] | none => [])
   | _ => []) ++
  (match x.inval with
   | v :: _ => (match s.pickOf 12 (s.invalNext v) with
     | some a => offer (s.invalReleased v) (.invalidationAtAgent a c)
     | none => offer (s.invalOver c) (.invpClear c))
   | [] => [])

/-- The messages that a port may serve (R317, R422). -/
def State.portCands (s : State) : List Cand := (s.held.filter (fun e => s.portTurn e.2.agent e.2.ctx e.2.cost)).map (fun e => .pass e.1)

/-- The refills that are due: at a tile, whose clocks a freeze stops, and at a hedge agent (R317, R353). -/
def State.refillCands (s : State) : List Cand :=
  ((s.usedSites.filter (fun i => s.refillReady i && !(s.tileAt i).frozen)) ++
    ((List.range 48).map (fun h => 6144 + h)).filter (fun a => s.refillReady a)).map (fun a => .tokenRefill a)

/-- Events of the homes and routers. -/
def State.homeCands (s : State) : List Cand :=
  s.homes.flatMap (fun p => (p.2.copies.filter (fun c => p.2.expired s.time c)).map (fun c => .lingerExpire p.2.ctx p.2.name c.seq)) ++
  (s.ovflStall.filter (fun p => !p.2.2.1 && decide (p.2.1 + 1000000 ≤ s.time))).map (fun p => .overflowStallTimeout p.1) ++
  s.spaceAgain.map (fun p => .space p.1 p.2) ++
  (List.range s.agenda.length).flatMap (fun i => ((List.range s.agenda.length).filter (fun j => decide (i < j) &&
    (match s.agenda[i]?, s.agenda[j]? with | some a, some b => (mergeable a b).isSome | _, _ => false))).map (fun j => .routerMerge i j))

/-- Domains with a quantum due whose reserve is not full, or in which a multiply waits (R292). -/
def State.slewDomains (s : State) : List Nat :=
  (((s.quantaUsed.filter (fun p => decide (p.2 ≠ 0))).map (fun (p : Nat × Nat) => p.1) ++ (s.slots.filter (fun p => p.2.slewWait)).map (fun (p : Nat × Slot) => domainOf (p.1 / 4))).eraseDups).filter (fun d => s.slewDue d)

/-- Events of the schedulers and of the governor, decisions apart. -/
def State.schedCands (s : State) : List Cand :=
  (s.queues.filter (fun p => (s.ctx (p.1 / 64)).st == .active && s.expandReady (p.1 / 64) (p.1 % 64))).map (fun p => .recordExpand (p.1 / 64) (p.1 % 64)) ++
  (s.groups.filter (fun p => s.cutReady (p.1 / 256) (p.1 % 256))).map (fun p => .cutComplete (p.1 / 256) (p.1 % 256)) ++
  s.opReq.map (fun p => .opChangeComplete p.1) ++
  s.slewDomains.map (fun d => .slewRefill d) ++
  ((List.range s.windows.length).filter (fun i => s.windowDone i)).map (fun i => .faultWindowClose i)

/-- What a flit at the head of its queue does (R375, R376, R378, R388). -/
def State.flitCand (s : State) (e : Nat × Nat × Flit) : List Cand :=
  let f := e.2.2
  if 31250 ≤ s.ageOf e.2.1 f then [.ageout f]
  else if f.ty < 3 then [.remoteRequest e.1 f]
  else if f.ty < 5 then (match f.reply with | some r => [.remoteResponse f.tag r] | none => [])
  else if f.ty = 5 then (match f.seg with | some g => [.lsendSegmentReceive g] | none => [])
  else [.lsendVerdict f.tag f.accept]

/-- Events of the links. -/
def State.linkCands (s : State) : List Cand :=
  s.links.flatMap (fun p => offer (p.2.trainOver s.time) (.linkTrainingTimeout p.1) ++ offer (p.2.retryDue s.time) (.linkRetry p.1) ++
    offer (p.2.bursts s.time) (.errorBurst p.1)) ++
  s.inqHeads.flatMap (fun e => s.flitCand e) ++
  (s.out.filter (fun p => s.remoteOver p.1)).map (fun p => .remotetmo p.1) ++
  (s.lsends.filter (fun p => p.2.over s.time)).map (fun p => .lsendVerdictTimeout p.1) ++
  s.resendsDue.map (fun e => .frameResend e.1 e.2.1)

/-- Bits of FREEZE and DBG that reach their tiles, and sites that have reported too many errors (R391, R397). -/
def State.mgmtCands (s : State) : List Cand :=
  (((s.mgmt.freeze ++ s.mgmt.dbg ++ s.usedSites).eraseDups).filter (fun i => s.bitsDue i)).map (fun i => .bits i) ++
  (s.ueTimes.filter (fun p => s.errorsDue p.1)).map (fun p => .defectiveErrors p.1)

/-! ### The choice -/

/-- What comes before anything else: at a boundary that TIME has reached, the deadline checks and then the decision (R285, R287), and at that of a
port's period its refill, for what waits there at that moment (R317, R424). -/
def State.urgent (s : State) : List Cand :=
  if s.boundary ≤ s.time then
    match (s.steps.filter (fun p => s.deadlineDue (p.1 / 16) (p.1 % 16) s.boundary)).map (fun p => Cand.deadlineCheck (p.1 / 16) (p.1 % 16) s.boundary) with
    | [] => [.governorDecision s.boundary]
    | l => l
  else s.refillCands

/-- The events that follow from the state of a powered module. -/
def State.derived (s : State) : List Cand :=
  (s.slots.filter (fun p => !(s.tileAt (p.1 / 4)).frozen && !(s.tileAt (p.1 / 4)).freezeReq)).flatMap (fun p => s.slotCands (p.1 / 4) (p.1 % 4) p.2) ++
  (s.usedSites.filter (fun i => !(s.tileAt i).frozen)).flatMap (fun i => s.tileCands i (s.tileAt i)) ++
  s.ctxs.flatMap (fun p => s.ctxCands p.1 p.2) ++
  s.portCands ++ s.homeCands ++ s.schedCands ++ s.linkCands ++ s.mgmtCands

/-- Everything that may happen next. -/
def State.cands (s : State) : List Cand :=
  if s.powered && !s.urgent.isEmpty then s.urgent
  else s.sentGo 0 [] s.agenda ++ (if s.powered then s.derived else [])

/-- What happens next: the one candidate, or one of several freely picked (log 6). -/
def State.choose (s : State) : Option Cand :=
  match s.cands with
  | [] => none
  | [c] => some c
  | c :: r => some ((c :: r).getD (Config.pick s.tick 0 % (r.length + 1)) c)

/-- What an error strikes freely (log 48): a granule of local memory, its check value, a word of scratch, a way of an L1 set, an accumulator, a
granule in a rick's SRAM. -/
def strikeGran (k a : Nat) (g : KMap Granule) : KMap Granule :=
  match k with
  | 1 => KMap.set g (a % (localSize / 64)) .uncorrectable
  | 2 => match KMap.get? g (a % (localSize / 64)) with
    | some .poison | some .uncorrectable => g
    | _ => KMap.set g (a % (localSize / 64)) (.check (BitVec.ofNat 32 (a / (localSize / 64))))
  | _ => g
def strikeScratch (k a : Nat) (ws : List Nat) : List Nat := if k = 3 then ws ++ [a] else ws
def strikeOther (at_ : Nat → Nat) (l : List Struck) : List Struck :=
  match at_ 0 with
  | 4 => l ++ [.l1 (at_ 1) (at_ 2 % 512) (at_ 3 % 10)]
  | 5 => l ++ [.acc (at_ 1) (at_ 2 % 4) (at_ 3 % 4)]
  | _ => l
/-- An error in the granule j of segment k of what a home stores in number n: a copy, a held entry, or the open reduction (R205). -/
def strikeSegs (k j : Nat) (l : List Seg) : List Seg := l.map (fun g => if g.idx = k ∧ 64 * j < g.bytes.length then Seg.strike g j else g)
def HomeName.strike (h : HomeName) (n k j : Nat) : HomeName :=
  let c := h.copies.length
  { h with
    copies := h.copies.zipIdx.map (fun (x, i) => if i = n then { x with segs := strikeSegs k j x.segs } else x)
    held := h.held.zipIdx.map (fun (x, i) => if c + i = n then { x with segs := strikeSegs k j x.segs } else x)
    red := h.red.map (fun r => if n = c + h.held.length then
      { r with parts := r.parts.map (fun p => if p.idx = k ∧ p.slot.isNone ∧ 64 * j < p.bytes.length then { p with poison := (p.poison ++ [j]).eraseDups } else p) } else r) }
/-- An error in the SRAM of a rick (R205). -/
def strikeRick (at_ : Nat → Nat) (hs : KMap HomeName) : KMap HomeName :=
  if at_ 0 = 6 then hs.zipIdx.map (fun (p, i) => (p.1, if i = at_ 1 % hs.length then p.2.strike (at_ 2) (at_ 3) (at_ 4 % 64) else p.2)) else hs

/-- What a rick reports of an error in its SRAM (R391). -/
def State.rickReport (s : State) (at_ : Nat → Nat) : State :=
  if at_ 0 = 6 then match s.homes[at_ 1 % s.homes.length]? with
    | some p => s.reportError (s.homeOf p.2.ctx p.2.name)
    | none => s
  else s

/-- The end of a step: the next draw of free values, TIME goes on (R16, log 8), and an error may strike storage (log 48): one of a single bit
in a scratchpad is corrected, and management counts it (R139). -/
def State.pass (s : State) : State :=
  let u := Config.upset s.tick
  { s with tick := s.tick + 1, time := s.time + Config.elapse s.tick, gran := strikeGran (u 0) (u 1) s.gran
           scratchUE := strikeScratch (u 0) (u 1) s.scratchUE, struck := strikeOther u s.struck, homes := strikeRick u s.homes
           ueTimes := (s.rickReport u).ueTimes
           mgmt := if u 0 = 7 then { s.mgmt with corrected := s.mgmt.corrected + 1 } else s.mgmt }

/-- The outcome of a step, once its event has had its effect. -/
def ended : Host.Outcome State Fault Refusal → Host.Outcome State Fault Refusal
  | .next s => .next s.pass
  | .fault f => .fault f
  | .refused r => .refused r

/-- Where nothing may happen, time passes; with the rails down and no event of the controller to come, nothing ever will (R390). -/
def State.rest (s : State) : Host.Outcome State Fault Refusal :=
  if !s.powered && !(s.agenda.any (fun p => ofController p.ev)) then .fault .railsCut else .next s.pass

/-- A slot of tile 0 in which a program runs from address 0 of its code region: bound to context 0, which is privileged in it, holding issue with a
whole quantum (R135, R136, R247). -/
def Slot.running (x : Slot) : Slot :=
  { x with bound := some (0, 0), st := .running, ran := true, pc := 0, codeSize := 4096
           sys := { x.sys with privc := true, baseA := 0, sizeA := 0x10000, landBase := 4096 } }

/-- The state in which the next step issues the bundle whose bytes are `bs`: a program loaded from outside the machine (log 38). -/
def State.withProgram (s : State) (bs : List Byte) : State :=
  let s1 := s.setSlotAt 0 0 (s.slotAt 0 0).running
  let s2 := s1.setTileAt 0 { s1.tileAt 0 with issuing := some 0, quantum := 64, lastSlot := some 0 }
  { s2 with scratch := Memory.writeBytes s2.scratch (scratchKey 0 0) bs }

end Sys2Proof.Machine
end

