-- ==== Sys2Proof/Machine/Step.lean ====
section
/-! DEFINITION. One step of the machine, and a program placed where the next step fetches. -/

namespace Sys2Proof.Machine

/-- One step: one thing that may happen does, or time passes (log 6). -/
def step (s : State) : Host.Outcome State Fault Refusal :=
  match s.choose with
  | some c => ended (c.run s)
  | none => s.rest

/-- The state with an instruction where the next step fetches: the low `nbits` bits of `w`, laid out as R31 has them, with zeros above them up to the
longest instruction, a syllable and its X (log 38). -/
def State.withFetchWord (s : State) (nbits w : Nat) : State := s.withProgram (bytesOf 16 (w % 2 ^ nbits))

end Sys2Proof.Machine
end

