-- ==== Sys2Proof/Safety.lean ====
section
/-! DEFINITION. What claims about the machine are stated in: the canonical form of its memories, and one instruction that runs alone. -/

namespace Sys2Proof.Machine

/-- Both memories are in their canonical form: addresses strictly rising, no byte equal to what an unlisted one reads as. -/
def State.Canonical (s : State) : Prop := Memory.wf s.mem = true ∧ Memory.wf s.scratch = true

/-- The effect of a step's own event, before TIME goes on. -/
def onNext (g : State → State) : Host.Outcome State Fault Refusal → Host.Outcome State Fault Refusal
  | .next s => .next (g s)
  | .fault f => .fault f
  | .refused r => .refused r

/-- The slot's bundle is the one syllable `it` (with its X): its words are there, end with E, and pass every check of R40. -/
def State.alone (s : State) (site slot : Nat) (it : Item) : Prop :=
  (s.begin_ site slot).fetch site slot = ⟨encode it.i, true, none⟩ ∧
  checkBundle (encode it.i) true (s.begin_ site slot).cur.sys.privc = none ∧
  itemsOf (encode it.i) = [it] ∧ (s.begin_ site slot).cur.after = none

/-- The state in which that bundle has been decoded. -/
def State.aloneFrom (s : State) (site slot : Nat) (it : Item) : State :=
  let s1 := s.begin_ site slot
  s1.setIss { s1.iss with nsyl := (encode it.i).length }

/-- The state in which that syllable acts: what it reads is fixed (R49), its place and its words are known; an RFT of a handler has every earlier
write landed first (R347). -/
def State.aloneAt (s : State) (site slot : Nat) (it : Item) : State :=
  let s1 := s.aloneFrom site slot it
  (if s1.cur.sys.intrap && (s1.guarded [it]).any Item.isRft then s1.landFirst else s1).at_ it

/-- Nothing holds the syllable from acting: no way change is under way (R147), its registers are not pending (R54) and none that it reads is marked
(R142), or its guard is off; and the writes that an RFT of a handler lets land do not reach its guard. -/
def State.unhindered (s : State) (site slot : Nat) (it : Item) : Prop :=
  (s.begin_ site slot).cur.wait ≠ .ways ∧ it.locked (s.aloneAt site slot it).cur = false ∧ (s.aloneAt site slot it).markFault it.syl = none ∧
  (s.aloneAt site slot it).guarded [it] = (s.aloneFrom site slot it).guarded [it]

/-- What a register syllable changes in no case: memories, contexts, tiles, other slots, and every message, time and object of other agents. -/
def Keeps (s t : State) : Prop :=
  t = { s with slots := t.slots, iss := t.iss } ∧ t.iss.site = s.iss.site ∧ t.iss.slot = s.iss.slot ∧ t.iss.wr = s.iss.wr ∧ t.iss.gwr = s.iss.gwr ∧
  ∀ site slot, slotKey site slot ≠ slotKey s.iss.site s.iss.slot → t.slotAt site slot = s.slotAt site slot

/-- The rounding mode of a V syllable that rounds: DYN takes that of FPSTATUS (R57, R119). -/
def vModeOf (s : State) (f : RRR) : Nat := if mRnd f.m = 6 then s.cur.sys.fpstatus.toNat % 8 else mRnd f.m

/-- The rounding of lane i: under SR with the i-th of 32 draws (R75). -/
def vRndOf (s : State) (f : RRR) (i : Nat) : Rnd :=
  if vModeOf s f = 5 then ⟨5, (draws 32 s.cur.sys.rngseed).1.getD i 0⟩ else ⟨vModeOf s f, 0⟩

/-- No lane faults, and no lane raises a flag whose trap FPTRAPEN enables (R80, R119). -/
def vQuiet (s : State) (op : Nat → LaneRes) : Prop :=
  ∀ i < 32, (op i).bad = none ∧ ∀ k < 5, s.cur.sys.fptrapen.getLsbD k = true → (op i).flags.testBit k = false

/-- A V syllable's 32 lanes are written with latency `lat`, and FPSTATUS takes the flags of all (R79, R116). -/
def vDone (s : State) (f : RRR) (lat : Nat) (op : Nat → LaneRes) : State :=
  s.vResult f.d (ofLanes (fun i => BitVec.ofNat 32 (op i).bits)) lat ((List.range 32).foldl (fun n i => n ||| (op i).flags) 0)

/-- As vDone; under SR the generator is 32 draws further (R75). -/
def vDoneR (s : State) (f : RRR) (lat : Nat) (op : Nat → LaneRes) : State :=
  let t := vDone s f lat op
  if vModeOf s f = 5 then t.setIss { t.iss with rng := some (draws 32 s.cur.sys.rngseed).2 } else t

end Sys2Proof.Machine
end

