-- ==== Sys2Proof/WellFormed.lean ====
section
/-! DEFINITION. Well-formed instructions: a syllable whose fields pass every check of R40 that concerns it alone, or an event
whose operands lie in the ranges of the machine. -/

namespace Sys2Proof
open Sys2Proof.Machine

/-- Where rows of the table share an opcode, the field that tells them apart holds this row's value. -/
def Instr.variantOk : Instr → Bool
  | .npoll _ f => let b := f.pack; decide (bitsAt b 8 2 = 0)
  | .npollAck _ f => let b := f.pack; decide (bitsAt b 8 2 = 1)
  | .npollInj _ f => let b := f.pack; decide (bitsAt b 8 2 = 2)
  | .callS _ f => let b := f.pack; decide (bitsAt b 32 1 = 0)
  | .callInd _ f => let b := f.pack; decide (bitsAt b 32 1 = 1)
  | .yieldSlot _ f => let b := f.pack; decide (fld b 16 = 0)
  | .yieldWp _ f => let b := f.pack; decide (fld b 16 = 1)
  | .yieldAny _ f => let b := f.pack; decide (fld b 16 = 2)
  | .yieldTime _ f => let b := f.pack; decide (fld b 16 = 3)
  | .sysw _ f => let b := f.pack; decide (bitsAt b 0 12 ≠ 0x800) && decide (bitsAt b 0 12 ≠ 0x801)
  | .syswPgroot _ f => let b := f.pack; decide (bitsAt b 0 12 = 0x800)
  | .syswBackbase _ f => let b := f.pack; decide (bitsAt b 0 12 = 0x801)
  | .qctlCreate _ f => let b := f.pack; decide (fld b 16 = 0)
  | .qctlDrain _ f => let b := f.pack; decide (fld b 16 = 1)
  | .qctlClose _ f => let b := f.pack; decide (fld b 16 = 2)
  | .qctlLevel _ f => let b := f.pack; decide (fld b 16 = 3)
  | .qctlQuery _ f => let b := f.pack; decide (fld b 16 = 4)
  | .gctlCancel _ f => let b := f.pack; decide (fld b 16 = 0)
  | .gctlPrio _ f => let b := f.pack; decide (fld b 16 = 1)
  | .gctlCap _ f => let b := f.pack; decide (fld b 16 = 2)
  | .gctlCut _ f => let b := f.pack; decide (fld b 16 = 3)
  | .gctlRestore _ f => let b := f.pack; decide (fld b 16 = 4)
  | .gctlQuery _ f => let b := f.pack; decide (fld b 16 = 5)
  | .ctxrStart _ f => let b := f.pack; decide (fld b 16 = 0)
  | .ctxrFree _ f => let b := f.pack; decide (fld b 16 = 1)
  | .evict _ f => let b := f.pack; decide (fld b 16 = 0)
  | .evictUnbind _ f => let b := f.pack; decide (fld b 16 = 1)
  | .chkpNow _ f => let b := f.pack; decide (fld b 16 = 0)
  | .chkpBgon _ f => let b := f.pack; decide (fld b 16 = 1)
  | .chkpBgoff _ f => let b := f.pack; decide (fld b 16 = 2)
  | _ => true

/-- An owner with an X carries E = 0 (R37). -/
def Instr.ownerOk (i : Instr) : Bool :=
  match i.parts with
  | some (_, _, h, _, some _) => !h.last
  | _ => true

/-- Is the instruction a syllable (and no event of another agent)? -/
def Instr.isSyl (i : Instr) : Bool := i.parts.isSome

/-- Sites and slots of R2 and R15 that an event names. -/
def Instr.placeOk : Instr → Bool
  | .bundleIssue s k | .quantumGrant s k | .watchdog s k | .idleWake s k | .brkResume s k _ | .pubInject s k
  | .retire s k | .parkComplete s k | .parkWake s k | .parkRestore s k | .wayChangeComplete s k | .backgroundWrite s k
  | .resultLand s k _ | .interlockedResultLand s k _ _ _ _ _ | .mmagRowArrive s k _ _ _ _ _ =>
    decide (s < 6144) && decide (k < 4)
  | .channelBeat s k c | .channelDataArrive s k c _ _ _ _ | .copyLanded s k c =>
    decide (s < 6144) && decide (k < 4) && decide (c < 16)
  | .quantumEnd s | .matrixStart s | .matrixComplete s | .maintWalk s | .tilecmdSet s | .tilecmdClear s
  | .hotTile s | .hotTileClear s | .overtempTrip s | .defectiveErrors s | .rickFailedMark s | .freezeOnFault s =>
    decide (s < 6144)
  | .tokenRefill s => decide (s < 6192)
  | .linkEnable l | .linkQuarantine l | .linkRelease l | .linkTrainedFull l | .linkTrainedReduced l
  | .linkTrainingTimeout l | .linkRetry l | .errorBurst l | .linkLoss l => decide (l < 76)
  | _ => true

/-- Well-formedness: what a term must meet to stand for a syllable or an event of the machine. -/
def Instr.wf (i : Instr) : Bool :=
  match i.syl? with
  | some s => (sylFault s).isNone && i.variantOk && i.ownerOk
  | none => i.placeOk

end Sys2Proof
end

