-- ==== Sys2Proof/Certificates/Slice0/Obligations.lean ====
section
/-! DEFINITION. What is claimed of the machine: each statement with the rules of spec/ that it formalises. In statements of what an instruction does,
`s.guard h` says that its guard is on (R33), and `.next t` gives the state that it answers. -/

open Sys2Proof Sys2Proof.Machine

/-- R66, R92, R93: ADD, SUB and MUL write the exact result brought into the range of the type, with latency 1, 1 and 3, or raise IOVF with the exact
result where CK lets none be; MULH and MULHN write the floor of the product over 2^w, with latency 3. R94: with a divisor other than 0, the quotient
is truncated toward zero and the remainder is a - b x q, brought into range in the same way; a divisor of 0 raises DIVZERO with read(A). -/
def Obligations.ScalarArithmetic : Prop := ∀ (h : Hdr) (f : RRR) (s : State), s.guard h = true →
  let brings (i : Instr) (x : Int) (lat : Nat) :=
    (∀ y, tyBring (rrrT f) (mSat f.m) (mCk f.m) x = some y → exec i s = .next (s.sResult f.d (tyExtend (rrrT f) y) lat)) ∧
    (tyBring (rrrT f) (mSat f.m) (mCk f.m) x = none → exec i s = .next (takeTrap ⟨.iovf, 0, BitVec.ofInt 64 x⟩ s))
  let a := s.srcA f
  let b := s.srcB f
  let high := tyExtend (rrrT f) (Int.fdiv (a * b) (2 ^ tyBits (rrrT f) : Nat))
  brings (.add h f) (a + b) 1 ∧ brings (.sub h f) (a - b) 1 ∧ brings (.mul h f) (a * b) 3 ∧
  exec (.mulh h f) s = .next (s.sResult f.d high 3) ∧ exec (.mulhn h f) s = .next (s.sResult f.d high 3) ∧
  (b ≠ 0 → brings (.div h f) (Int.tdiv a b) 24 ∧
    (∀ y, tyBring (rrrT f) (mSat f.m) (mCk f.m) (Int.tdiv a b) = some y → exec (.divn h f) s = .next (s.sResult f.d (tyExtend (rrrT f) y) 24)) ∧
    (∀ y, tyBring (rrrT f) (mSat f.m) (mCk f.m) (a - b * Int.tdiv a b) = some y →
      exec (.remS h f) s = .next (s.sResult f.d (tyExtend (rrrT f) y) 24) ∧ exec (.remn h f) s = .next (s.sResult f.d (tyExtend (rrrT f) y) 24))) ∧
  (b = 0 → ∀ i ∈ [Instr.div h f, .divn h f, .remS h f, .remn h f], exec i s = .next (takeTrap ⟨.divzero, 0, s.readS 32 f.a⟩ s))

/-- R93, R97 to R102: bitwise results, moves, address arithmetic, selection and names; the checksum of CRCS; compares and predicate syllables. -/
def Obligations.ScalarWordsAndPredicates : Prop := ∀ (h : Hdr) (f : RRR) (g : RRI) (s : State), s.guard h = true →
  let a := s.readS 32 f.a
  let b := s.readS 24 f.b
  let c := s.readS 16 f.c
  let p := s.readP 32 f.a.toNat
  let q := s.readP 24 f.b.toNat
  exec (.andS h f) s = .next (s.sResult f.d (a &&& b)) ∧
  exec (.orS h f) s = .next (s.sResult f.d (a ||| b)) ∧
  exec (.xorS h f) s = .next (s.sResult f.d (a ^^^ b)) ∧
  exec (.andn h f) s = .next (s.sResult f.d (a &&& ~~~ b)) ∧
  exec (.mov h f) s = .next (s.sResult f.d a) ∧
  exec (.li h g) s = .next (s.sResult g.d (match g.x with | some x => x.xv ++ g.imm.extractLsb' 0 4 | none => g.imm.signExtend 64)) ∧
  exec (.lea h f) s = .next (s.sResult f.d (a + b * BitVec.ofNat 64 (tyBytes (rrrT f)) + c)) ∧
  exec (.sel h f) s = .next (s.sResult f.d (if s.readP 16 f.c.toNat then a else b)) ∧
  exec (.nmake h f) s = .next (s.sResult f.d (a.extractLsb' 0 8 ++ (b + c).extractLsb' 0 56)) ∧
  exec (.crcs h f) s = .next (s.sResult f.d ((crcs (a.truncate 32) (wordBytes (tyBytes (rrrT f)) b.toNat)).zeroExtend 64)) ∧
  exec (.cmp h f) s = .next (s.pResult f.d.toNat (cmpHolds f.c.toNat (s.srcA f) (s.srcB f) ((a &&& b).toNat % 2 ^ tyBits (rrrT f)))) ∧
  exec (.pand h f) s = .next (s.pResult f.d.toNat (p && q)) ∧
  exec (.por h f) s = .next (s.pResult f.d.toNat (p || q)) ∧
  exec (.pxor h f) s = .next (s.pResult f.d.toNat (p ^^ q)) ∧
  exec (.pnot h f) s = .next (s.pResult f.d.toNat (!p)) ∧
  exec (.pset h f) s = .next (psetGo (f.c.zeroExtend 64) a [1, 2, 3, 4, 5, 6, 7] s) ∧
  exec (.pget h f) s = .next (s.sResult f.d (BitVec.ofNat 64 (s.preds 48)))

/-- R95: shifts and rotation of the low w bits by an amount below the width; from the width on SHL and SHR give 0, SAR the sign, ROTR goes on modulo
w, and with CK all raise SHIFTAMT. -/
def Obligations.ScalarShifts : Prop := ∀ (h : Hdr) (f : RRR) (s : State), s.guard h = true →
  let n := (s.readS 24 f.b).toNat
  let w := tyBits (rrrT f)
  let a := s.lowA f
  let put (x : Int) := Host.Outcome.next (φ := Fault) (ρ := Refusal) (s.sResult f.d (tyExtend (rrrT f) x))
  (n < w → exec (.shl h f) s = put ((a * 2 ^ n : Nat)) ∧ exec (.shr h f) s = put ((a / 2 ^ n : Nat)) ∧
    exec (.sar h f) s = put (Int.fdiv (Int.bmod a (2 ^ w)) (2 ^ n : Nat)) ∧
    exec (.rotr h f) s = put ((a / 2 ^ n + a % 2 ^ n * 2 ^ (w - n) : Nat))) ∧
  (w ≤ n → mCk f.m = false → exec (.shl h f) s = put 0 ∧ exec (.shr h f) s = put 0 ∧
    exec (.sar h f) s = put (if 0 ≤ Int.bmod a (2 ^ w) then 0 else -1) ∧
    exec (.rotr h f) s = put ((a / 2 ^ (n % w) + a % 2 ^ (n % w) * 2 ^ (w - n % w) : Nat))) ∧
  (w ≤ n → mCk f.m = true → ∀ i, i ∈ [Instr.shl h f, .shr h f, .sar h f, .rotr h f] →
    exec i s = .next (takeTrap ⟨.shiftamt, 0, s.readS 24 f.b⟩ s))

/-- R93, R96: the other scalar results of one or two sources. -/
def Obligations.ScalarFieldsAndCounts : Prop := ∀ (h : Hdr) (f : RRR) (s : State), s.guard h = true →
  let a := s.readS 32 f.a
  let w := tyBits (rrrT f)
  let c := (s.readS 16 f.c).toNat
  let pos := c % 64
  let len := c / 256 % 64 + 1
  let least := if s.srcA f ≤ s.srcB f then s.srcA f else s.srcB f
  let most := if s.srcA f ≤ s.srcB f then s.srcB f else s.srcA f
  exec (.min h f) s = .next (s.sResult f.d (tyExtend (rrrT f) least)) ∧ exec (.minn h f) s = .next (s.sResult f.d (tyExtend (rrrT f) least)) ∧
  exec (.max h f) s = .next (s.sResult f.d (tyExtend (rrrT f) most)) ∧ exec (.maxn h f) s = .next (s.sResult f.d (tyExtend (rrrT f) most)) ∧
  exec (.clz h f) s = .next (s.sResult f.d (BitVec.ofNat 64 (w - bitLen 64 (a.toNat % 2 ^ w)))) ∧
  exec (.popc h f) s = .next (s.sResult f.d (BitVec.ofNat 64 (popCount 64 (a.toNat % 2 ^ w)))) ∧
  exec (.sxt h f) s = .next (s.sResult f.d (BitVec.ofInt 64 (Int.bmod ((a.toNat % 2 ^ w : Nat) : Int) (2 ^ w)))) ∧
  exec (.zxt h f) s = .next (s.sResult f.d (BitVec.ofNat 64 (a.toNat % 2 ^ w))) ∧
  exec (.bswap h f) s = .next (s.sResult f.d (BitVec.ofNat 64 (bytesWord (wordBytes (tyBytes (rrrT f)) (a.toNat % 2 ^ w)).reverse))) ∧
  (pos + len ≤ 64 →
    exec (.bfx h f) s = .next (s.sResult f.d (BitVec.ofNat 64 (a.toNat / 2 ^ pos % 2 ^ len))) ∧
    exec (.bfxs h f) s = .next (s.sResult f.d (BitVec.ofInt 64 (Int.bmod (a.toNat / 2 ^ pos : Nat) (2 ^ len)))) ∧
    exec (.bfi h f) s = .next (s.sResult f.d ((a &&& ~~~ (BitVec.ofNat 64 ((2 ^ len - 1) * 2 ^ pos))) |||
      ((s.readS 24 f.b <<< pos) &&& BitVec.ofNat 64 ((2 ^ len - 1) * 2 ^ pos))))) ∧
  (64 < pos + len → ∀ i, i ∈ [Instr.bfx h f, .bfxs h f, .bfi h f] → exec i s = .next (takeTrap ⟨.shiftamt, 0, s.readS 16 f.c⟩ s))

/-- R103 to R108: NOP does nothing; the branches set the address of the next bundle, and CALL and LOOP write their register. A computed target
whose low three bits are not 0 raises SPALIGN. IDLE ends at once with a latch bit set or a count of 0, and otherwise its slot waits; BRK stops the slot
under debugging and does nothing otherwise. -/
def Obligations.BranchesAndStops : Prop := ∀ (h : Hdr) (n : RRR) (f : BrF) (s : State), s.guard h = true →
  let rel := s.cur.pc + f.off.signExtend 64
  let ind := s.readS 40 f.a + f.off.signExtend 64
  let link := s.cResult f.a (s.cur.pc + BitVec.ofNat 64 (8 * s.iss.nsyl))
  let count := s.readS 40 f.a - 1
  let x := s.cur
  let k := (s.readS 32 n.a).toNat
  exec (.nop h n) s = .next s ∧
  exec (.br h f) s = .next (s.branchTo rel 1) ∧
  exec (.callS h f) s = .next (link.branchTo rel 1) ∧
  exec (.loopS h f) s = .next (if count = 0 then s.cResult f.a count else (s.cResult f.a count).branchTo rel 1) ∧
  (ind.extractLsb' 0 3 = 0 → exec (.bri h f) s = .next (s.branchTo ind 3) ∧
    exec (.callInd h f) s = .next ((s.branchTo ind 3).cResult f.a (s.cur.pc + BitVec.ofNat 64 (8 * s.iss.nsyl)))) ∧
  (ind.extractLsb' 0 3 ≠ 0 → exec (.bri h f) s = .next (takeTrap ⟨.spalign, 0, ind⟩ s) ∧
    exec (.callInd h f) s = .next (takeTrap ⟨.spalign, 0, ind⟩ s)) ∧
  ((s.readS 40 f.a).extractLsb' 0 3 = 0 → exec (.ret h f) s = .next (s.branchTo (s.readS 40 f.a) 3)) ∧
  ((s.readS 40 f.a).extractLsb' 0 3 ≠ 0 → exec (.ret h f) s = .next (takeTrap ⟨.spalign, 0, s.readS 40 f.a⟩ s)) ∧
  (k ≠ 0 → x.latch ≠ 0 → exec (.idle h n) s = .next ((s.setCur { x with latch := 0 }).cResult n.d (x.latch.zeroExtend 64))) ∧
  (k = 0 → exec (.idle h n) s = .next ((s.setCur { x with latch := 0 }).cResult n.d ((x.latch ||| 8).zeroExtend 64))) ∧
  (k ≠ 0 → x.latch = 0 → exec (.idle h n) s =
    .next (s.setCur { x.await (dstS n.d) with wait := .idle (dstS n.d) k s.time })) ∧
  (x.sys.dbgen = false → exec (.brk h n) s = .next s) ∧
  (x.sys.dbgen = true → exec (.brk h n) s = .next { s.setCur { x with wait := .brk } with
    brks := s.brks ++ [(s.iss.site, s.iss.slot, n.d.toNat * 256 + n.a.toNat, x.pc + BitVec.ofNat 64 (8 * s.iss.nsyl))] })

/-- R109 to R114: SYSR gives the register's value, CYCLE and TIME through an interlocked reply; a SYSW of a value without reserved bits writes the
register; one with them raises RSVFIELD. R194, R327, R333: of PGROOT, it writes the root and starts an invalidation; of BACKBASE, it sends for a reread of
the table. -/
def Obligations.SystemRegisters : Prop := ∀ (h : Hdr) (f : RRI) (s : State), s.guard h = true →
  let n := f.imm.toNat % 4096
  let v := s.readS 32 f.a
  let c := s.cur.sys.ctxsel
  (n ≠ 0x030 → n ≠ 0x031 → exec (.sysr h f) s = .next (s.cResult f.d (s.sysVal n))) ∧
  (n = 0x030 ∨ n = 0x031 → exec (.sysr h f) s = .next (s.selfReply (dstS f.d) ((s.sysVal n).zeroExtend 1024) .plain)) ∧
  (waitSysw f s = none → sysBad n v = false →
    (n ∈ [0x000, 0x001, 0x002, 0x003, 0x004, 0x021, 0x050, 0x051, 0x052, 0x053, 0x80F] → exec (.sysw h f) s = .next (s.setCur (s.cur.sysPut n v))) ∧
    (n = 0x020 → exec (.sysw h f) s = .next (s.setIss { s.iss with fps := some v })) ∧
    (n = 0x022 → v ≠ 0 → exec (.sysw h f) s = .next (s.setIss { s.iss with rng := some v })) ∧
    (n = 0x022 → v = 0 → exec (.sysw h f) s = .next (takeTrap ⟨.rngstate, 0, 0⟩ s)) ∧
    (n = 0x802 → exec (.sysw h f) s = .next (s.setCtx c { s.ctx c with ovflbase := v })) ∧
    (n = 0x803 → exec (.sysw h f) s = .next (s.setCtx c { s.ctx c with ovflsize := v })) ∧
    (n = 0x804 → exec (.sysw h f) s = .next (s.setCtx c { s.ctx c with savebase := v })) ∧
    (n = 0x805 → exec (.sysw h f) s = .next (s.setCtx c { s.ctx c with rickquota := v }))) ∧
  (waitSysw f s = none → sysBad n v = true → exec (.sysw h f) s = .next (takeTrap ⟨.rsvfield, 0, v⟩ s)) ∧
  (sysBad 0x800 v = false → ∃ t, exec (.syswPgroot h f) s = .next t ∧ (t.ctx c).pgroot = v &&& ~~~ (2 : Word) ∧
    (t.ctx c).inval.getLast? = some ⟨s.iss.site, s.iss.slot, false, []⟩ ∧ (t.ctx c).pgrootRead.getLsbD 1 = true) ∧
  (sysBad 0x801 v = false → ∃ t, exec (.syswBackbase h f) s = .next t ∧ (t.ctx c).backbase = v ∧
    t.agenda = s.agenda ++ [⟨s.time, chanKey 5 c, .backingTableReread c (s.ctx c).inc, none, [], [], []⟩])

/-- R342, R346, R347: TRAP raises TRAPINS with imm64 once its bundle has acted; RFT in a handler ends it, and outside one raises TRAPINS with its
word. Taking a trap with TV = 1 outside a handler lands what is in flight, saves EPC, CAUSE and EVAL, sets INTRAP and goes to TRAPBASE, and advances CYCLE by
4, for that is what R342's 4 cycles are to the register of R114 (the model's reading), and changes no other register that the slot's instance can name
but y0 to y3 and yv, and SLEWHOLD where the bundle has waited for a quantum away from issue; otherwise the instance is FAULTED. The return goes to EPC
and clears INTRAP. -/
def Obligations.TrapAndReturn : Prop := ∀ (h : Hdr) (f : RRI) (g : RRR) (s : State),
  (s.guard h = true → exec (.trapS h f) s = .next (s.setIss { s.iss with after := some ⟨.trapins, 0, RriImm f⟩ }) ∧
    (s.cur.sys.intrap = true → s.cur.pend = [] → exec (.rft h g) s = .next (s.setIss { s.iss with rft := true, gap := s.iss.gap + 3 })) ∧
    (s.cur.sys.intrap = false → exec (.rft h g) s = .next (takeTrap ⟨.trapins, 0, s.iss.word⟩ s))) ∧
  (∀ t epc, s.cur.mmag = none →
    let x := s.cur.drain
    let u := enterTrap t epc s
    (s.cur.sys.intrap = false → s.cur.sys.trapbase.getLsbD 63 = true → u.cur.pc = addrField s.cur.sys.trapbase ∧ u.cur.sys = { x.sys with
        epc := epcOf epc, cause := BitVec.ofNat 64 (FKind.cause t.kind t.origin), eval := t.eval, intrap := true, cycle := x.sys.cycle + 4
        slewhold := u.cur.sys.slewhold } ∧
      u.cur.f = { x.f with y := u.cur.f.y, yv := u.cur.f.yv } ∧ u.cur.latch = s.cur.latch ∧ u.cur.sub = s.cur.sub ∧ u.cur.ch = s.cur.ch ∧
      u.mem = s.mem ∧ u.scratch = s.scratch) ∧
    (s.cur.sys.intrap = true ∨ s.cur.sys.trapbase.getLsbD 63 = false → u.cur.st = .faulted ∧ u.cur.fatal = FKind.cause t.kind t.origin ∧
      u.cur.sys = { x.sys with slewhold := u.cur.sys.slewhold }) ∧
    (s.cur.slewAway = none → u.cur.sys.slewhold = x.sys.slewhold)) ∧
  (s.iss.done = false → s.iss.rft = true → s.iss.after = none → let x := (endBundle s).slotAt s.iss.site s.iss.slot
    x.sys.intrap = false ∧ x.pc = addrField s.cur.sys.epc)


/-! ### V class -/

/-- R116, R119, R121, R128: the V syllables that round. With a mode that is not reserved, a generator state other than 0 under SR, and no lane that
traps, each writes its 32 lanes with its latency. -/
def Obligations.VectorRounding : Prop := ∀ (h : Hdr) (f : RRR) (s : State), s.guard h = true → vModeOf s f ≤ 5 →
  (vModeOf s f = 5 → s.cur.sys.rngseed ≠ 0) →
  let a := laneF (s.readV 32 f.a)
  let b := laneF (s.readV 24 f.b)
  let c := laneF (s.readV 16 f.c)
  let r := vRndOf s f
  let sat := mSat f.m
  let does (i : Instr) (lat : Nat) (op : Nat → FRes) := vQuiet s (fun n => fLane (op n)) → exec i s = .next (vDoneR s f lat (fun n => fLane (op n)))
  (rrrT f = 10 →
    does (.vadd h f) 4 (fun n => fpAdd fmtF32 (r n) sat (a n) (b n)) ∧
    does (.vsub h f) 4 (fun n => fpAdd fmtF32 (r n) sat (a n) (b n).negate) ∧
    does (.vmul h f) 4 (fun n => fpMul fmtF32 (r n) sat (a n) (b n))) ∧
  does (.vfma h f) 4 (fun n => fpFma fmtF32 (r n) sat (a n) (b n) (c n)) ∧
  does (.vfms h f) 4 (fun n => fpFma fmtF32 (r n) sat (a n).negate (b n) (c n)) ∧
  does (.vdiv h f) 16 (fun n => fpDiv fmtF32 (r n) sat (a n) (b n)) ∧
  does (.vsqrt h f) 16 (fun n => fpSqrt fmtF32 (r n) (a n)) ∧
  does (.vscale h f) 4 (fun n => fpScale fmtF32 (r n) sat (a n) (laneI 2 (s.readV 24 f.b) n)) ∧
  does (.vrint h f) 4 (fun n => fpRint fmtF32 (r n) (a n))

/-- R85, R117, R121 to R123, R125, R130: the V syllables that work lane by lane without rounding; integer results are brought into range under R66. The
values of VEXP2, VLOG2, VRCPA and VRSQA where the spec bounds only their error are free (log 1). -/
def Obligations.VectorLanes : Prop := ∀ (h : Hdr) (f : RRR) (s : State), s.guard h = true →
  let va := s.readV 32 f.a
  let vb := s.readV 24 f.b
  let T := rrrT f
  let int (op : Int → Int → Int) (n : Nat) := iLane T f.m (op (laneI T va n) (laneI T vb n))
  let shift (op : BitVec 32 → Nat → BitVec 32) (big : BitVec 32 → BitVec 32) (n : Nat) : LaneRes :=
    let m := (lane vb n).toNat
    if m < 32 then ⟨(op (lane va n) m).toNat, 0, none⟩
    else if mCk f.m then ⟨0, 0, some .shiftamt⟩ else ⟨(big (lane va n)).toNat, 0, none⟩
  let does (i : Instr) (lat : Nat) (op : Nat → LaneRes) := vQuiet s op → exec i s = .next (vDone s f lat op)
  (T ≠ 10 → does (.vadd h f) 4 (int (· + ·)) ∧ does (.vsub h f) 4 (int (· - ·)) ∧ does (.vmul h f) 4 (int (· * ·)) ∧
    does (.vneg h f) 2 (fun n => iLane 2 f.m (-(laneI 2 va n))) ∧ does (.vabs h f) 2 (fun n => iLane 2 f.m ((laneI 2 va n).natAbs : Int))) ∧
  (T = 10 → does (.vneg h f) 2 (fun n => ⟨(lane va n ^^^ 0x80000000).toNat, 0, none⟩) ∧
    does (.vabs h f) 2 (fun n => ⟨(lane va n &&& 0x7FFFFFFF).toNat, 0, none⟩)) ∧
  does (.vimul h f) 4 (int (· * ·)) ∧
  does (.vimulh h f) 4 (fun n => iLane T 0 (Int.fdiv (laneI T va n * laneI T vb n) (2 ^ 32 : Nat))) ∧
  does (.vmax h f) 4 (fun n => maxMinLane T true (lane va n) (lane vb n)) ∧
  does (.vmin h f) 4 (fun n => maxMinLane T false (lane va n) (lane vb n)) ∧
  does (.vcmp h f) 2 (fun n => vcmpLane T f.c.toNat (lane va n) (lane vb n)) ∧
  does (.vshl h f) 2 (shift (fun x m => x <<< m) (fun _ => 0)) ∧
  does (.vshr h f) 2 (shift (fun x m => x >>> m) (fun _ => 0)) ∧
  does (.vsar h f) 2 (shift (fun x m => x.sshiftRight m) (fun x => if x.getLsbD 31 then 0xFFFFFFFF else 0)) ∧
  does (.vexp2 h f) 8 (fun n => fLane (fpExp2 (lane va n))) ∧
  does (.vlog2 h f) 8 (fun n => fLane (fpLog2 (lane va n))) ∧
  does (.vrcpa h f) 8 (fun n => fLane (fpRcpa (lane va n))) ∧
  does (.vrsqa h f) 8 (fun n => fLane (fpRsqa (lane va n)))

/-- R57, R75, R76, R80, R119, R127, R128: what stops a V syllable. A mode of 6 or 7 in FPSTATUS under DYN, and SR with a generator of 0, stop one that
rounds before its lanes; VREDADD and VSCAN exclude SR too. Of what the lanes raise, the first kind in the order of R119 and R80 is reported, with the
number of the lowest lane that raised it; the floating-point kinds are those that FPTRAPEN enables. -/
def Obligations.VectorTraps : Prop := ∀ (h : Hdr) (f : RRR) (s : State), s.guard h = true →
  let va := s.readV 32 f.a
  let vb := s.readV 24 f.b
  let vc := s.readV 16 f.c
  let T := rrrT f
  let r := vRndOf s f
  let mode := vModeOf s f
  let sat := mSat f.m
  let stop (i : Instr) (k : FKind) (v : Nat) := exec i s = .next (takeTrap ⟨k, 1, BitVec.ofNat 64 v⟩ s)
  let rounding : List Instr := [.vfma h f, .vfms h f, .vdiv h f, .vsqrt h f, .vscale h f, .vrint h f] ++
    (if T = 10 then [.vadd h f, .vsub h f, .vmul h f] else []) ++ (if (waitVcvt f s).isNone then [.vcvt h f] else [])
  let kinds : List FKind := [.badconv, .iovf, .shiftamt, .finv, .fdivz, .fovf, .funf, .finx]
  let raises (x : LaneRes) (j : Nat) : Prop := if j < 3 then x.bad = some (kinds.getD j .iovf)
    else s.cur.sys.fptrapen.getLsbD (j - 3) = true ∧ x.flags / 2 ^ (j - 3) % 2 = 1
  let stops (i : Instr) (op : Nat → LaneRes) := ∀ j < 8, ∀ n < 32, raises (op n) j → (∀ m < n, ¬ raises (op m) j) →
    (∀ c < j, ∀ m < 32, ¬ raises (op m) c) → stop i (kinds.getD j .iovf) n
  let float (i : Instr) (op : Nat → FRes) := stops i (fun n => fLane (op n))
  let int (i : Instr) (op : Int → Int → Int) := stops i (fun n => iLane T f.m (op (laneI T va n) (laneI T vb n)))
  let shift (i : Instr) := stops i (fun n => ⟨0, 0, if (lane vb n).toNat < 32 then none else if mCk f.m then some .shiftamt else none⟩)
  let tree (op : BitVec 32 → BitVec 32 → LaneRes) := (treeGo op 5 ((List.range 32).zip ((List.range 32).map (lane va))) []).2
  let nodes (i : Instr) (es : List (Nat × LaneRes)) := ∀ t, vFault s.cur.sys.fptrapen es = some t → exec i s = .next (takeTrap t s)
  let node := addNode T f.m ⟨if T = 10 then mode else 0, 0⟩
  (mRnd f.m = 6 → 6 ≤ mode → ∀ i ∈ rounding, stop i .badrnd mode) ∧
  (mRnd f.m = 6 → 5 ≤ mode → T = 10 → stop (.vredadd h f) .badrnd mode ∧ stop (.vscan h f) .badrnd mode) ∧
  (mode = 5 → s.cur.sys.rngseed = 0 → ∀ i ∈ rounding, stop i .rngstate 0) ∧
  (mode ≤ 5 → (mode = 5 → s.cur.sys.rngseed ≠ 0) →
    (T = 10 → float (.vadd h f) (fun n => fpAdd fmtF32 (r n) sat (laneF va n) (laneF vb n)) ∧
      float (.vsub h f) (fun n => fpAdd fmtF32 (r n) sat (laneF va n) (laneF vb n).negate) ∧
      float (.vmul h f) (fun n => fpMul fmtF32 (r n) sat (laneF va n) (laneF vb n))) ∧
    float (.vfma h f) (fun n => fpFma fmtF32 (r n) sat (laneF va n) (laneF vb n) (laneF vc n)) ∧
    float (.vfms h f) (fun n => fpFma fmtF32 (r n) sat (laneF va n).negate (laneF vb n) (laneF vc n)) ∧
    float (.vdiv h f) (fun n => fpDiv fmtF32 (r n) sat (laneF va n) (laneF vb n)) ∧
    float (.vsqrt h f) (fun n => fpSqrt fmtF32 (r n) (laneF va n)) ∧
    float (.vscale h f) (fun n => fpScale fmtF32 (r n) sat (laneF va n) (laneI 2 vb n)) ∧
    float (.vrint h f) (fun n => fpRint fmtF32 (r n) (laneF va n)) ∧
    (cvtSrc f ≠ 13 → stops (.vcvt h f) (fun n => let y := convert (cvtSrc f) T (r n) sat (mCk f.m) (lane va n).toNat; ⟨y.bits % 2 ^ 32, y.flags, y.bad⟩))) ∧
  (T ≠ 10 → int (.vadd h f) (· + ·) ∧ int (.vsub h f) (· - ·) ∧ int (.vmul h f) (· * ·)) ∧ int (.vimul h f) (· * ·) ∧
  (T ≠ 10 → stops (.vneg h f) (fun n => iLane 2 f.m (-(laneI 2 va n))) ∧ stops (.vabs h f) (fun n => iLane 2 f.m ((laneI 2 va n).natAbs : Int))) ∧
  shift (.vshl h f) ∧ shift (.vshr h f) ∧ shift (.vsar h f) ∧
  stops (.vmax h f) (fun n => maxMinLane T true (lane va n) (lane vb n)) ∧ stops (.vmin h f) (fun n => maxMinLane T false (lane va n) (lane vb n)) ∧
  stops (.vcmp h f) (fun n => vcmpLane T f.c.toNat (lane va n) (lane vb n)) ∧
  float (.vexp2 h f) (fun n => fpExp2 (lane va n)) ∧ float (.vlog2 h f) (fun n => fpLog2 (lane va n)) ∧
  float (.vrcpa h f) (fun n => fpRcpa (lane va n)) ∧ float (.vrsqa h f) (fun n => fpRsqa (lane va n)) ∧
  nodes (.vredmax h f) (tree (maxMinLane T true)) ∧ nodes (.vredmin h f) (tree (maxMinLane T false)) ∧
  (T ≠ 10 ∨ mode < 5 → nodes (.vredadd h f) (tree node) ∧ nodes (.vscan h f) (scanGo node [1, 2, 4, 8, 16] ((List.range 32).map (lane va)) []).2)

/-- R120, R124 to R126, R129, R131 to R133: the V syllables whose lanes raise nothing: VEXT and VINS take a lane below 32 and raise LANEIDX from 32 on;
VRAND takes a generator other than 0 and raises RNGSTATE with 0. -/
def Obligations.VectorWhole : Prop := ∀ (h : Hdr) (f : RRR) (s : State), s.guard h = true →
  let va := s.readV 32 f.a
  let vb := s.readV 24 f.b
  let vc := s.readV 16 f.c
  let w := packW (rrrT f)
  let E := 1024 / w
  let hi := f.c.toNat % 2
  let i := s.readS 24 f.b
  let k := s.readS 16 f.c
  exec (.vsel h f) s = .next (s.vResult f.d (ofLanes (fun i => if (lane vc i).getLsbD 31 then lane va i else lane vb i)) 2) ∧
  exec (.vmcnt h f) s = .next (s.cResult f.d (BitVec.ofNat 64 ((List.range 32).filter (fun i => (lane va i).getLsbD 31)).length) 2) ∧
  exec (.vand h f) s = .next (s.vResult f.d (va &&& vb) 2) ∧
  exec (.vor h f) s = .next (s.vResult f.d (va ||| vb) 2) ∧
  exec (.vxor h f) s = .next (s.vResult f.d (va ^^^ vb) 2) ∧
  exec (.vmov h f) s = .next (s.vResult f.d va 2) ∧
  exec (.vsplat h f) s = .next (s.vResult f.d
    (ofElems (tyBits (rrrT f)) (1024 / tyBits (rrrT f)) (fun _ => (s.readS 32 f.a).toNat)) 2) ∧
  exec (.vperm h f) s = .next (s.vResult f.d (ofLanes (fun i => if (lane vb i).toNat < 32 then lane va (lane vb i).toNat else 0)) 2) ∧
  exec (.vrot h f) s = .next (s.vResult f.d (ofLanes (fun i => lane va ((i + (s.readS 24 f.b).toNat % 32) % 32))) 2) ∧
  exec (.vpack h f) s = .next (s.vResult f.d
    (ofElems w E (fun j => if j < E / 2 then elemOf va (2 * w) j else elemOf vb (2 * w) (j - E / 2))) 4) ∧
  exec (.vunpk h f) s = .next (s.vResult f.d (ofElems (2 * w) (E / 2) (fun j =>
    let x := elemOf va w (hi * (E / 2) + j)
    if rrrT f < 2 ∧ 2 ^ (w - 1) ≤ x then x + (2 ^ (2 * w) - 2 ^ w) else x)) 4) ∧
  exec (.vclass h f) s = .next (s.vResult f.d (ofLanes (fun i => BitVec.ofNat 32 (classOf (lane va i)))) 4) ∧
  exec (.vjoin h f) s = .next (s.vResult f.d (ofLanes (fun i =>
    match (List.range 32).find? (fun j => lane vb j == lane va i) with | some j => BitVec.ofNat 32 j | none => 0xFFFFFFFF)) 4) ∧
  (i.toNat < 32 → exec (.vext h f) s = .next (s.cResult f.d (tyExtend (rrrT f) (lane va i.toNat).toNat) 2)) ∧
  (32 ≤ i.toNat → exec (.vext h f) s = .next (takeTrap ⟨.laneidx, 1, i⟩ s)) ∧
  (k.toNat < 32 → exec (.vins h f) s = .next (s.vResult f.d (ofLanes (fun n => if n = k.toNat then i.truncate 32 else lane va n)) 2)) ∧
  (32 ≤ k.toNat → exec (.vins h f) s = .next (takeTrap ⟨.laneidx, 1, k⟩ s)) ∧
  (s.cur.sys.rngseed ≠ 0 → ∃ t, exec (.vrand h f) s = .next t ∧ t.iss.rng = some (draws 64 s.cur.sys.rngseed).2 ∧
    t.cur = (s.vResult f.d (ofElems 16 64 (fun j => (draws 64 s.cur.sys.rngseed).1.getD j 0)) 2).cur) ∧
  (s.cur.sys.rngseed = 0 → exec (.vrand h f) s = .next (takeTrap ⟨.rngstate, 1, 0⟩ s))

/-- R127, R87, R88: reductions over the pairwise tree and the scan of five stages; a syllable none of whose nodes traps writes its lanes. -/
def Obligations.VectorReductions : Prop := ∀ (h : Hdr) (f : RRR) (s : State), s.guard h = true →
  let ls := (List.range 32).map (lane (s.readV 32 f.a))
  let tree (op : BitVec 32 → BitVec 32 → LaneRes) := treeGo op 5 ((List.range 32).zip ls) []
  let reduces (i : Instr) (op : BitVec 32 → BitVec 32 → LaneRes) := vFault s.cur.sys.fptrapen (tree op).2 = none →
    exec i s = .next (s.vResult f.d (ofLanes (fun _ => (tree op).1)) 8 ((tree op).2.foldl (fun n e => n ||| e.2.flags) 0))
  let mode := if rrrT f = 10 then vModeOf s f else 0
  let node := addNode (rrrT f) f.m ⟨mode, 0⟩
  let scan := scanGo node [1, 2, 4, 8, 16] ls []
  reduces (.vredmax h f) (maxMinLane (rrrT f) true) ∧ reduces (.vredmin h f) (maxMinLane (rrrT f) false) ∧
  (mode < 5 → reduces (.vredadd h f) node) ∧
  (mode < 5 → vFault s.cur.sys.fptrapen scan.2 = none → exec (.vscan h f) s =
    .next (s.vResult f.d (ofLanes (fun i => scan.1.getD i 0)) 8 (scan.2.foldl (fun n e => n ||| e.2.flags) 0)))

/-- R128: VCVT of a lane, through its codebook where the source is k4; it waits while that codebook is pending (R176). -/
def Obligations.VectorConvert : Prop := ∀ (h : Hdr) (f : RRR) (s : State), s.guard h = true →
  let op (i : Nat) : LaneRes :=
    let x := (lane (s.readV 32 f.a) i).toNat
    let kb := s.cur.f.kb.toList.getD (cvtKb f) 0
    let y := if cvtSrc f = 13 then convert 9 (rrrT f) (vRndOf s f i) (mSat f.m) (mCk f.m) ((kb.toNat >>> (16 * (x % 16))) % 2 ^ 16)
      else convert (cvtSrc f) (rrrT f) (vRndOf s f i) (mSat f.m) (mCk f.m) x
    ⟨y.bits % 2 ^ 32, y.flags, y.bad⟩
  let pending := cvtSrc f = 13 ∧ s.curTile.unit.any (fun o => decide (o.slot = s.iss.slot ∧ o.kind = 4 ∧ o.acc = cvtKb f)) = true
  (¬ pending → vModeOf s f ≤ 5 → (vModeOf s f = 5 → s.cur.sys.rngseed ≠ 0) → vQuiet s op → exec (.vcvt h f) s = .next (vDoneR s f 4 op)) ∧
  (pending → exec (.vcvt h f) s = .next (holdBundle true id s))

/-! ### M class -/

/-- R165, R166, R292: an M syllable that waits for nothing and passes the checks of R165 enters the matrix unit with its bundle, a multiply with
the shape, bases and codebooks that it captured; a multiply that issues to an idle unit takes a quantum. MZERO has no check; MWAIT does nothing. -/
def Obligations.MatrixIssue : Prop := ∀ (h : Hdr) (f : RRR) (s : State), s.guard h = true →
  let mul (kind : Nat) := s.mOp kind f.d.toNat f 0
  let enters (i : Instr) (o : MOp) (quantum : Bool) := ∃ t, exec i s = .next t ∧ t.iss.mops = s.iss.mops ++ [o] ∧
    t = (if quantum then s.takeQuantum else s).setIss t.iss
  let passes (o : MOp) := s.mCheck o f.c.toNat (f.t.toNat % 4) (f.t.toNat / 4 % 4) = none
  (waitMma f s = none → passes (mul 0) → enters (.mma h f) (mul 0) true) ∧
  (waitMmat f s = none → passes (mul 1) → enters (.mmat h f) (mul 1) true) ∧
  (waitMzero f s = none → enters (.mzero h f) (s.mOp 3 f.d.toNat f 0) false) ∧
  (waitMcb f s = none → s.mCheck (s.mOp 4 f.d.toNat f 0) 0 0 0 = none → enters (.mcb h f) (s.mOp 4 f.d.toNat f 0) false) ∧
  (waitMacld f s = none → s.mCheck (s.mOp 5 f.d.toNat f 10) 0 0 0 = none → enters (.macld h f) (s.mOp 5 f.d.toNat f 10) false) ∧
  (waitMacst f s = none → s.mCheck (s.mOp 6 f.c.toNat f (rrrT f)) 0 0 0 = none →
    enters (.macst h f) (s.mOp 6 f.c.toNat f (rrrT f)) false) ∧
  (waitMacadd f s = none → s.mCheck (s.mOp 7 f.d.toNat f 10) 0 0 0 = none → enters (.macadd h f) (s.mOp 7 f.d.toNat f 10) false) ∧
  (s.curTile.unit.any (fun o => decide (o.slot = s.iss.slot)) = false → exec (.mwait h f) s = .next s)

/-- R163, R165, R168, R173: MSHAPE writes its shape register, or raises BADSHAPE with the word; a multiply whose checks fail traps at issue with the
first check's kind, if no operand of it is pending. -/
def Obligations.MatrixChecks : Prop := ∀ (h : Hdr) (f : RRR) (s : State), s.guard h = true →
  let v := s.readS 32 f.a
  let ok := v.getLsbD 63 = false ∧ Shp.typeOk (Shp.atype v) = true ∧ Shp.typeOk (Shp.btype v) = true
  let fails (kind : Nat) (t : TrapInfo) := waitMultiply f s = none ∧ s.mCheck (s.mOp kind f.d.toNat f 0) f.c.toNat (f.t.toNat % 4) (f.t.toNat / 4 % 4) = some t
  (ok → exec (.mshape h f) s = .next (s.setCur { s.cur with f := { s.cur.f with
    h := s.cur.f.h.setIfInBounds f.d.toNat v, hValid := s.cur.f.hValid.setIfInBounds f.d.toNat true } })) ∧
  (¬ ok → exec (.mshape h f) s = .next (takeTrap ⟨.badshape, 1, v⟩ s)) ∧
  (∀ t, fails 0 t → exec (.mma h f) s = .next (takeTrap t s)) ∧
  (∀ t, fails 1 t → exec (.mmat h f) s = .next (takeTrap t s)) ∧
  (∀ t, s.cur.mmag = none → fails 2 t → exec (.mmag h f) s = .next (takeTrap t s))

/-- R170, R174, R175: a held MMAG whose last row has arrived and been checked ends: it folds the products of its last k-step into each element (i, j)
of its block, leaves the unit, and its progress register is 0; the other elements, and every other accumulator, are as before. -/
def Obligations.MatrixGatherEnds : Prop := ∀ (h : Hdr) (f : RRR) (s : State) (r : MmagRun) (o : MOp), s.guard h = true →
  s.cur.mmag = some r → r.stopped = none → s.mmagOp s.iss.site s.iss.slot = some o → Shp.k o.shape ≤ o.k + 1 →
  rowIn o r = true → rowBad r o.k = none → o.acc < 4 →
  let at_ := (bRow o o.k).1
  let byte (p : Nat) : Byte := ((r.rows.filter (fun e => decide (e.1 = o.k))).findSome? (fun e =>
    if e.2.1 ≤ at_ + p ∧ at_ + p < e.2.1 + e.2.2.length then e.2.2[at_ + p - e.2.1]? else none)).getD 0
  ∃ t, exec (.mmag h f) s = .next t ∧ t.cur.mmag = none ∧ t.curTile.unit = s.curTile.unit.tail ∧ t.cur.sys.apr.toList.getD o.acc 0 = 0 ∧
    (∀ i < 32, ∀ j < 64, accGet (t.cur.accOf o.acc) i j =
      (if i < Shp.m o.shape ∧ j < Shp.n o.shape then
        BitVec.ofNat 32 (fpFma fmtF32 ⟨0, 0⟩ false (s.aElem s.iss.site o i o.k) (bElem o byte j) (decF32 (accGet (s.cur.accOf o.acc) i j))).bits
      else accGet (s.cur.accOf o.acc) i j)) ∧
    ∀ n < 4, n ≠ o.acc → t.cur.accOf n = s.cur.accOf n

/-- R174, R84, R166: a multiply that completes has folded, into each element (i, j) of its block, the products of its remaining k-steps in ascending
k, each by one fused multiply-add in f32 to nearest even, its operands as the unit reads them once the multiply has left it; the other elements, and every other accumulator, are as before. -/
def Obligations.MatrixMultiply : Prop := ∀ (site : Nat) (s : State) (o : MOp) (r : List MOp), (s.tileAt site).unit = o :: r → o.started = true →
  o.kind = 0 ∨ o.kind = 1 → o.acc < 4 →
  let s0 := s.setTileAt site { s.tileAt site with unit := r }
  ∃ t, exec (.matrixComplete site) s = .next t ∧ (t.tileAt site).unit = r ∧ ∀ i < 32, ∀ j < 64,
    accGet ((t.slotAt site o.slot).accOf o.acc) i j =
      (if i < Shp.m o.shape ∧ j < Shp.n o.shape then
        (List.range (Shp.k o.shape - o.k)).foldl (fun c n => BitVec.ofNat 32 (fpFma fmtF32 ⟨0, 0⟩ false (s0.aElem site o i (o.k + n))
          (bElem o (fun p => s0.unitByte site o ((bRow o (o.k + n)).1 + p)) j) (decF32 c)).bits)
          (accGet ((s.slotAt site o.slot).accOf o.acc) i j)
      else accGet ((s.slotAt site o.slot).accOf o.acc) i j) ∧
    ∀ n < 4, n ≠ o.acc → (t.slotAt site o.slot).accOf n = (s.slotAt site o.slot).accOf n

/-! ### L class -/

/-- R135 to R141: scratch loads and stores whose checks hold: loads issue the bytes read with latency 4; stores join the bundle's stores. Where a
check fails, the syllable traps so. -/
def Obligations.ScratchLoadsAndStores : Prop := ∀ (h : Hdr) (f : MemF) (s : State), s.guard h = true →
  let n := tyBytes (memT f)
  let p := (s.ea f n).toNat
  let q := (s.ea f 128).toNat
  let load (dst : Reg) (v : VReg) (y : Nat) := Host.Outcome.next (φ := Fault) (ρ := Refusal) (s.setCur (s.cur.issue dst v 4 0 (some y)))
  let store (a : Nat) (bs : List Byte) := Host.Outcome.next (φ := Fault) (ρ := Refusal) (s.setIss { s.iss with wr := s.iss.wr ++ [(a, bs, false)] })
  (s.scratchCheck p n false true n = none → exec (.ld h f) s = load (dstS f.d) (loadValue (s.curBytes p n) 0 n (memTy f) false) (2 + s.iss.lane)) ∧
  (∀ t, s.scratchCheck p n false true n = some t → exec (.ld h f) s = .next (takeTrap t s)) ∧
  (s.scratchCheck p n true false n = none → exec (.st h f) s = store p (wordBytes n (s.readS 40 f.d).toNat)) ∧
  (∀ t, s.scratchCheck p n true false n = some t → exec (.st h f) s = .next (takeTrap t s)) ∧
  (s.scratchCheck q 128 false true 128 = none → exec (.vld h f) s = load (dstV f.d) (BitVec.ofNat 1024 (bytesWord (s.curBytes q 128))) 9) ∧
  (∀ t, s.scratchCheck q 128 false true 128 = some t → exec (.vld h f) s = .next (takeTrap t s)) ∧
  (s.scratchCheck q 128 true false 128 = none → exec (.vst h f) s = store q (wordBytes 128 (s.readV 40 f.d).toNat)) ∧
  (∀ t, s.scratchCheck q 128 true false 128 = some t → exec (.vst h f) s = .next (takeTrap t s))

/-- R141: VGATH and VSCAT none of whose lanes faults; R152: CHKV; R143: ATOMS, which stores what its operation makes of the old value and gives
that value; one out of alignment raises ATOMALIGN, with its address as EVAL, which the spec does not state (log 44). -/
def Obligations.ScratchGatherAndAtomics : Prop := ∀ (h : Hdr) (f : MemF) (g : RRR) (s : State), s.guard h = true →
  let p := (s.readS 32 g.a).toNat
  let n := tyBytes (memT f)
  let q := (s.eaAtom f n).toNat
  let old := bytesWord (overlayAtomics s.iss.wr q (s.curBytes q n))
  let new := atomNew (aopOf f) (memT f) old ((s.readS 24 f.idx).toNat % 2 ^ (8 * n)) (s.readS 40 f.d).toNat
  let scattered := (List.range 32).map (fun i => (s.laneAddr f i, wordBytes 4 (lane (s.readV 40 f.d) i).toNat, false))
  (s.laneFault f false true = none → exec (.vgath h f) s = .next (s.setCur (s.cur.issue (dstV f.d) (ofLanes (fun i =>
    BitVec.ofNat 32 (bytesWord (s.scratchRead s.iss.site s.iss.slot (s.laneAddr f i) 4 (1000 * (s.iss.pos + 1) + 4 * i))))) 4 0 (some 9)))) ∧
  (s.laneFault f true false = none → exec (.vscat h f) s = .next (s.setIss { s.iss with wr := s.iss.wr ++ scattered })) ∧
  (q % n = 0 → s.scratchCheck q n true true 1 = none → ∃ t, exec (.atoms h f) s = .next t ∧
    t.iss.wr = s.iss.wr ++ [(q, wordBytes n new, true)] ∧ t.cur = s.cur.issue (dstS f.d) ((atomResult (memT f) old).zeroExtend 1024) 4) ∧
  (q % n ≠ 0 → exec (.atoms h f) s = .next (takeTrap ⟨.atomalign, 2, BitVec.ofNat 64 q⟩ s)) ∧
  (s.scratchCheck p 64 false true 64 = none → exec (.chkv h g) s =
    .next (s.cResult g.d ((checkValue (s.curBytes p 64) (s.readS 24 g.b).toNat ((s.readS 16 g.c).toNat % 2 ^ 32)).zeroExtend 64) 4))

/-- R142, R143, R360: global accesses that no longer wait and whose translation is known. Loads and ATOMG leave their register awaiting its
interlocked result; stores join the bundle's global stores; ATOMG counts as an atomic not yet performed. -/
def Obligations.GlobalAccesses : Prop := ∀ (h : Hdr) (f : MemF) (s : State) (tr : Trans), s.guard h = true →
  let n := tyBytes (memT f)
  let ready (ea : Word) (align kind : Nat) (k : FKind) := globalPre ea align k = none ∧ s.known s.iss.site s.iss.slot ea.toNat kind = .ok tr ∧
    s.ecc1 (ea.toNat / 128) = false
  let through := match memRel f with | some x => scopeBeyond x | none => false
  let awaits (i : Instr) (r : Reg) := ∃ t, exec i s = .next t ∧ (r ≠ .a 0 → r ∈ t.cur.pend) ∧ t.iss = s.iss ∧
    t.mem = s.mem ∧ t.scratch = s.scratch
  let stores (i : Instr) (ea : Word) (bs : List Byte) := ∃ t, exec i s = .next t ∧ t.iss.gwr = s.iss.gwr ++ [(ea.toNat, tr.pa ea.toNat, bs, through)] ∧
    t.slots = s.slots
  (waitLdg f s = none → ready (s.ea f n) n 0 .aligng → awaits (.ldg h f) (dstS f.d)) ∧
  (waitVldg f s = none → ready (s.ea f 128) 128 0 .aligng → awaits (.vldg h f) (dstV f.d)) ∧
  (waitStg f s = none → ready (s.ea f n) n 1 .aligng → stores (.stg h f) (s.ea f n) (wordBytes n (s.readS 40 f.d).toNat)) ∧
  (waitVstg f s = none → ready (s.ea f 128) 128 1 .aligng → stores (.vstg h f) (s.ea f 128) (wordBytes 128 (s.readV 40 f.d).toNat)) ∧
  (waitAtomg f s = none → ready (s.eaAtom f n) n 2 .atomalign → ∃ t, exec (.atomg h f) s = .next t ∧
    (dstS f.d ≠ .a 0 → dstS f.d ∈ t.cur.pend) ∧ t.cur.ackA + t.cur.ackAR = s.cur.ackA + s.cur.ackAR + 1)

/-- R142, R143, R145, R329: what a global access traps with: NONCANON from 2^56 on, ALIGNG or, of an ATOMG, ATOMALIGN for an address out of
alignment, the fault that its walk met, which for an ATOMG on a page whose entry forbids atomics is ATOMUNSUP, or ECCL1 where its dirty line has been
struck, with an EVAL that the spec does not state (log 23). -/
def Obligations.GlobalAccessTraps : Prop := ∀ (h : Hdr) (f : MemF) (s : State), s.guard h = true →
  let n := tyBytes (memT f)
  let traps (i : Instr) (t : TrapInfo) := exec i s = .next (takeTrap t s)
  let checked (i : Instr) (ea : Word) (wait : Option Hold) (align kind : Nat) (ak : FKind) :=
    (2 ^ 56 ≤ ea.toNat → traps i ⟨.noncanon, 2, ea⟩) ∧ (ea.toNat < 2 ^ 56 → ea.toNat % align ≠ 0 → traps i ⟨ak, 2, ea⟩) ∧
    (globalPre ea align ak = none → wait = none →
      (∀ k, s.known s.iss.site s.iss.slot ea.toNat kind = .fault k → traps i ⟨k, 2, ea⟩) ∧
      (∀ tr, s.known s.iss.site s.iss.slot ea.toNat kind = .ok tr → s.ecc1 (ea.toNat / 128) = true → ∃ v, traps i ⟨.eccl1, 2, v⟩))
  checked (.ldg h f) (s.ea f n) (waitLdg f s) n 0 .aligng ∧ checked (.stg h f) (s.ea f n) (waitStg f s) n 1 .aligng ∧
  checked (.vldg h f) (s.ea f 128) (waitVldg f s) 128 0 .aligng ∧ checked (.vstg h f) (s.ea f 128) (waitVstg f s) 128 1 .aligng ∧
  checked (.atomg h f) (s.eaAtom f n) (waitAtomg f s) n 2 .atomalign ∧
  (∀ m ctx inc va level e t, leafOutcome m ctx inc va 0 level e = .done t → e.testBit 59 = true → e.testBit 58 = false →
    leafOutcome m ctx inc va 2 level e = .fault .atomunsup)

/-- R144, R150, R151: PREF, CLEAN, INVAL, DISCARD and the fences that no longer wait go on without a trap; CLEAN, INVAL and DISCARD of a range that
is not empty start a walk over the lines of the context that it touches, and DISCARD leaves no such line dirty. -/
def Obligations.LineMaintenance : Prop := ∀ (h : Hdr) (f : MemF) (g : RRR) (s : State), s.guard h = true →
  let a := (s.readS 32 g.a).toNat
  let n := (s.readS 24 g.b).toNat
  let walk (kind : Nat) := s.startWalk s.iss.site kind s.cur.sys.ctxid s.cur.sys.incarn (some s.iss.slot) a (a + n) (overlaps a n)
  (waitPref f s = none → ∃ t, exec (.pref h f) s = .next t ∧ t.slots = s.slots ∧ t.iss = s.iss ∧ t.mem = s.mem ∧ t.scratch = s.scratch) ∧
  (s.cur.acquiring = 0 → n ≠ 0 → rangeFault a n = none → exec (.clean h g) s = .next (walk 0) ∧ exec (.inval h g) s = .next (walk 1)) ∧
  (s.cur.acquiring = 0 → ∀ t, rangeFault a n = some t → exec (.clean h g) s = .next (takeTrap t s) ∧ exec (.inval h g) s = .next (takeTrap t s)) ∧
  (s.cur.acquiring = 0 → n = 0 → exec (.clean h g) s = .next s ∧ exec (.inval h g) s = .next s ∧ exec (.discard h g) s = .next s) ∧
  (waitDiscard g s = none → n ≠ 0 → discardPre a n = none →
    (∀ va ∈ pagesOf a n, ∃ tr, s.known s.iss.site s.iss.slot va 1 = .ok tr) →
    ∃ t, exec (.discard h g) s = .next t ∧ t.slots = s.slots ∧ t.mem = s.mem ∧ t.scratch = s.scratch ∧
      ∀ l ∈ t.curTile.lines, l.ctx = s.cur.sys.ctxid → l.inc = s.cur.sys.incarn → overlaps a n l.vline = true → l.dirty = false) ∧
  (waitFence g s = none → fenceKind g = 2 ∨ fenceX g = .tile → exec (.fence h g) s = .next s) ∧
  (waitXfence g s = none → fenceKind g = 2 ∨ fenceX g = .tile ∨ hasPath (g.d.toNat % 64) 0 = false → exec (.xfence h g) s = .next s) ∧
  (waitFence g s = none → fenceKind g ≠ 2 → fenceX g ≠ .tile →
    exec (.fence h g) s = .next (s.startAcquire s.iss.site s.iss.slot s.cur.sys.ctxid s.cur.sys.incarn))

/-- R146 to R149: WAYMASK and WAYGATE of a request that is allowed leave their register pending and begin the change; LLOCK locks every line of its
range for its slot; LUNLK gives the lines that it unlocks, those of its range that were locked before its bundle (R49), with LOCKLOST in bit 32, and
clears LOCKLOST. A change that meets an earlier one of its bundle finds the mask that one leaves, and may take a way that it returns (log 55); LLOCK
translates as a read (log 56). -/
def Obligations.WaysAndLocks : Prop := ∀ (h : Hdr) (f : RRR) (s : State), s.guard h = true →
  let a := (s.readS 32 f.a).toNat
  let n := (s.readS 24 f.b).toNat
  let t := s.curTile
  let cache (w : Nat) := s.cacheWay s.iss.site w || s.cur.wayChange.any (fun c => c.returns t s.iss.slot w)
  let allowed (cur : Nat) := a < 1024 ∧ (∀ w < 10, a.testBit w = true → cur.testBit w = true ∨ cache w = true) ∧
    2 ≤ ((List.range 10).filter (fun w => cache w && !(a.testBit w))).length
  let begins (gate : Bool) := Host.Outcome.next (φ := Fault) (ρ := Refusal)
    (s.setCur { s.cur.await (dstS f.d) with wait := .ways, wayChange := s.cur.wayChange ++ [⟨dstS f.d, gate, a, s.wayMask gate⟩] })
  let mine (l : Line) : Bool := l.lock == some s.iss.slot && overlaps a n l.vline && s.iss.lock0.contains l.vline
  (s.cur.wayChange = [] → s.wayMask false = t.lentMask s.iss.slot ∧ s.wayMask true = t.gatedMask) ∧
  (allowed (s.wayMask false) → s.cur.chanInWays .frozen (fun w => (s.wayMask false).testBit w && !(a.testBit w)) = false →
    exec (.waymask h f) s = begins false) ∧
  (allowed (s.wayMask true) → exec (.waygate h f) s = begins true) ∧
  (1024 ≤ a → exec (.waymask h f) s = .next (takeTrap ⟨.rsvfield, 2, s.readS 32 f.a⟩ s) ∧
    exec (.waygate h f) s = .next (takeTrap ⟨.rsvfield, 2, s.readS 32 f.a⟩ s)) ∧
  (waitLlock f s = none → lockPre s a n = none → (∀ va ∈ pagesOf a n, ∃ tr, s.known s.iss.site s.iss.slot va 0 = .ok tr) →
    ∃ u, exec (.llock h f) s = .next u ∧ u.slots = s.slots ∧ u.mem = s.mem ∧ u.scratch = s.scratch ∧
      ∀ vl ∈ linesOf a n, ∃ l ∈ u.curTile.lines, l.is s.cur.sys.ctxid s.cur.sys.incarn vl = true ∧ l.lock = some s.iss.slot) ∧
  (s.cur.acquiring = 0 → exec (.lunlk h f) s = .next ((((s.setCurTile { t with lines := t.lines.map (fun l => if mine l then { l with lock := none } else l) }).setCur
    { s.cur with lockLost := false }).cResult f.d (BitVec.ofNat 64 ((t.lines.filter mine).length + if s.cur.lockLost then 2 ^ 32 else 0)))))

/-! ### N class: channels -/

/-- R155, R158, R160: SCFG, SGO, SSTOP and SPARM by the state of their channel. A beat on its way to another module counts as delivered when SSTOP
stops its channel (log 47). -/
def Obligations.Channels : Prop := ∀ (h : Hdr) (f : NamF) (s : State), s.guard h = true →
  let n := f.s.toNat
  let c := s.cur.chan n
  let p := (s.readS 32 f.a).toNat
  let v := (s.readS 32 f.a).toNat
  let put (c : Chan) := Host.Outcome.next (φ := Fault) (ρ := Refusal) (s.setCur (s.cur.setChan n c))
  let traps (k : FKind) (x : Nat) := Host.Outcome.next (φ := Fault) (ρ := Refusal) (takeTrap ⟨k, 3, BitVec.ofNat 64 x⟩ s)
  let r := BitVec.ofNat 512 (bytesWord (s.curBytes p 64))
  let live := c.st = .running ∨ c.st = .frozen
  (¬ live → s.scratchFault s.iss.site s.iss.slot p 64 64 3 true = none → Shape.badField r = none → (Shape.rnd r = 5 → Shape.seed r ≠ 0) →
    exec (.scfg h f) s = put { c with st := .ready, recd := r, elem := 0, wp := 0, rng := BitVec.ofNat 64 (Shape.seed r), cause := none,
                                      walk := none, beat := none }) ∧
  (live → exec (.scfg h f) s = traps .chbusy n ∧ exec (.sparm h f) s = traps .chbusy n) ∧
  (c.st = .idle → exec (.sgo h f) s = traps .chuncfg n ∧ exec (.sparm h f) s = traps .chuncfg n) ∧
  (c.st = .ready → exec (.sgo h f) s = put { c with st := .running, elem := 0, walk := none, beat := none, racedR := [], racedW := [] }) ∧
  (c.st = .running → exec (.sgo h f) s = traps .chbusy n) ∧
  (c.st = .frozen → exec (.sgo h f) s = put { c with st := .running, cause := none, walk := none, beat := none }) ∧
  (¬ live → exec (.sstop h f) s = .next s) ∧
  (live → c.beat = none ∨ Shape.dir c.recd ≠ 1 → exec (.sstop h f) s = put { c with st := .ready, cause := none, walk := none, beat := none }) ∧
  (∀ b, live → c.beat = some b → Shape.dir c.recd = 1 →
    let u := s.advance s.iss.site s.iss.slot n b.n (convElems c.recd b.n c.rng []).2 c.tr
    exec (.sstop h f) s = .next (u.setCur (u.cur.setChan n { u.cur.chan n with st := .ready, cause := none, walk := none, beat := none }))) ∧
  (c.st = .ready → (f.i8.toNat < 2 ∨ v ≤ 0xFFFF) → Shape.badField (setField c.recd f.i8.toNat v) = none →
    exec (.sparm h f) s = put { c with recd := setField c.recd f.i8.toNat v })

/-- R160, R161: SFENCE that waits for nothing goes on, and traps with the cause of a FROZEN channel of its mask; WAITWP goes on once its channel has
delivered x bytes, waits while the channel runs, and otherwise traps. -/
def Obligations.ChannelWaits : Prop := ∀ (h : Hdr) (f : NamF) (g : RRR) (s : State), s.guard h = true →
  let c := s.cur.chan (g.c.toNat % 16)
  let x := (s.readS 32 g.a).toNat
  (s.cur.chanOf (sfMask f) .frozen = none → waitSfence f s = none → exec (.sfence h f) s = .next s) ∧
  (∀ i, s.cur.chanOf (sfMask f) .frozen = some i →
    exec (.sfence h f) s = .next (takeTrap ⟨(s.cur.chan i).cause.getD .nomap, 3, BitVec.ofNat 64 (s.cur.chan i).wp⟩ s)) ∧
  (s.iss.ch0 = s.cur.ch.toList →
    (x ≤ c.wp → exec (.waitwp h g) s = .next s) ∧
    (c.wp < x → c.st = .running → exec (.waitwp h g) s =
      .next (holdBundle false (fun s => s.setCur { s.cur with wpWait := some (g.c.toNat % 16, x) }) s)) ∧
    (c.wp < x → c.st = .frozen → exec (.waitwp h g) s = .next (takeTrap ⟨c.cause.getD .nomap, 3, BitVec.ofNat 64 c.wp⟩ s)) ∧
    (c.wp < x → c.st = .idle ∨ c.st = .ready → exec (.waitwp h g) s = .next (takeTrap ⟨.chidle, 3, BitVec.ofNat 64 c.wp⟩ s)))

/-! ### N class: names -/

/-- R187, R208, R212: SUB whose checks hold arms its slot and sends the subscription; UNSUB leaves its slot IDLE; NPOLL reports its slot, NPOLL.inj the
queue; NPOLL.ack also acknowledges a LANDED or FAILED slot. -/
def Obligations.Subscriptions : Prop := ∀ (h : Hdr) (f : NamF) (s : State), s.guard h = true →
  let n := f.s.toNat
  let u := s.cur.subAt n
  let polled := s.selfReply (dstS f.a) (BitVec.ofNat 1024 u.poll) .plain
  (subCheck f s = none → s.curTile.withheld.length < 64 → ∃ t m, exec (.subscribe h f) s = .next t ∧
    t.cur.subAt n = { SubSlot.idle with st := .armed, name := s.nameOf f, land := (s.readS 32 f.a).toNat, bytes := (s.readS 24 f.b).toNat,
                                        persist := f.f.getLsbD 0 } ∧
    t.agenda = s.agenda ++ [⟨s.time, linkChan 0 s.iss.site .tile s.cur.sys.ctxid (s.nameOf f), .subAtRouter s.iss.site .tile m, none, [⟨s.iss.site, s.cur.sys.ctxid, 64, 1⟩], [], []⟩] ∧
    m.name = s.nameOf f ∧ m.site = s.iss.site ∧ m.slot = s.iss.slot ∧ m.sub = n) ∧
  (∀ t, subCheck f s = some t → exec (.subscribe h f) s = .next (takeTrap t s)) ∧
  (u.st = .idle → exec (.unsub h f) s = .next s) ∧
  (u.st ≠ .idle → ∃ t, exec (.unsub h f) s = .next t ∧ t.cur.subAt n = SubSlot.idle ∧ t.mem = s.mem ∧ t.scratch = s.scratch) ∧
  exec (.npoll h f) s = .next polled ∧
  exec (.npollInj h f) s = .next (s.selfReply (dstS f.a) (BitVec.ofNat 1024 s.cur.injq.length) .plain) ∧
  (u.st ≠ .landed → u.st ≠ .failed → exec (.npollAck h f) s = .next polled) ∧
  (u.st = .landed → u.persist = true → ∃ t, exec (.npollAck h f) s = .next t ∧ (t.cur.subAt n).st = .armed ∧ (t.cur.subAt n).name = u.name) ∧
  ((u.st = .landed ∧ u.persist = false) ∨ u.st = .failed → ∃ t, exec (.npollAck h f) s = .next t ∧ t.cur.subAt n = SubSlot.idle)

/-- R209 to R211: PUB and PUBR whose checks hold enter the injection queue, of eight, with the next serial and await an order notice; NHOLD and
NRELS ask the name's home, and leave their register pending. R387: LSEND whose checks hold enters the queue for its domain, module and context, and
its slot awaits one more; a full queue holds it. -/
def Obligations.Publications : Prop := ∀ (h : Hdr) (f : NamF) (s : State), s.guard h = true →
  let x := s.cur
  let b := s.readS 24 f.b
  let name := s.nameOf f
  let a := (s.readS 32 f.a).toNat
  let field (lo n : Nat) := b.toNat / 2 ^ lo % 2 ^ n
  let queued (i : Instr) (size : Nat) (red : Option RedHdr) := ∃ t, exec i s = .next t ∧
    t.cur.injq = x.injq ++ [⟨name, a, size, f.i8.toNat, red, none, f.f.getLsbD 0, x.serial, 0, [], []⟩] ∧
    t.cur.serial = (x.serial + 1) % 65536 ∧ t.cur.awaitOrder = x.awaitOrder ++ [x.serial] ∧ t.scratch = s.scratch
  let asks (i : Instr) (ev : Instr) := exec i s = .next ((s.setCur (x.await (dstS f.a))).sendPort s.iss.site x.sys.ctxid (homeChan 0 s.iss.site x.sys.ctxid name) ev)
  (pubCheck f s = none → x.injq.length < 8 → queued (.pub h f) b.toNat none) ∧
  (∀ t, pubCheck f s = some t → exec (.pub h f) s = .next (takeTrap t s)) ∧
  (pubrCheck f s = none → x.injq.length < 8 → queued (.pubr h f) (b.toNat % 2 ^ 19)
    (some ⟨f.t.toNat, (b.extractLsb' 32 16).toNat, (b.extractLsb' 48 16).toNat, f.f.getLsbD 1, 1⟩)) ∧
  (∀ t, pubrCheck f s = some t → exec (.pubr h f) s = .next (takeTrap t s)) ∧
  (spaceOf name < 0xF0 → asks (.nhold h f) (.nholdAtHome x.sys.ctxid x.sys.incarn name ⟨s.iss.site, s.iss.slot, dstS f.a⟩) ∧
    asks (.nrels h f) (.nrelsAtHome x.sys.ctxid x.sys.incarn name ⟨s.iss.site, s.iss.slot, dstS f.a⟩)) ∧
  (0xF0 ≤ spaceOf name → exec (.nhold h f) s = .next (takeTrap ⟨.nameSpace, 3, name⟩ s) ∧
    exec (.nrels h f) s = .next (takeTrap ⟨.nameSpace, 3, name⟩ s)) ∧
  (∀ t, lsendCheck f s = some t → exec (.lsend h f) s = .next (takeTrap t s)) ∧
  (0xF0 ≤ spaceOf (s.nameOf f) → exec (.lsend h f) s = .next (takeTrap ⟨.nameSpace, 3, s.nameOf f⟩ s)) ∧
  (lsendCheck f s = none → 8 ≤ x.injq.length → ∃ count, exec (.lsend h f) s = .next (holdBundle count id s)) ∧
  (lsendCheck f s = none → x.injq.length < 8 → ∃ t, exec (.lsend h f) s = .next t ∧
    t.cur.injq = x.injq ++ [⟨s.nameOf f, (s.readS 32 f.a).toNat, b.toNat % 2 ^ 19, f.i8.toNat, none, some (field 42 7, field 32 10, field 49 8),
      f.f.getLsbD 0, x.serial, 0, [], []⟩] ∧
    t.cur.awaitSend = x.awaitSend + 1 ∧ t.cur.awaitOrder = x.awaitOrder ∧ t.scratch = s.scratch)

/-! ### C class: kernels and queues -/

/-- R231 to R234, R49: EXIT makes its instance end; a YIELD goes on where its condition holds at the bundle's issue and parks the instance otherwise,
and raises RESIDENT in an instance without YLD and in a handler. -/
def Obligations.ExitAndYield : Prop := ∀ (h : Hdr) (f : RRR) (s : State), s.guard h = true →
  let x := s.cur
  let y := s.atIssue
  let v := (s.readS 32 f.a).toNat
  let n := f.b.toNat % 16
  let parks (i : Instr) (c : ParkCond) := exec i s = .next (s.setCur { x with park := some c })
  let ys : List Instr := [.yieldSlot h f, .yieldWp h f, .yieldAny h f, .yieldTime h f]
  let may := x.yld = true ∧ x.sys.intrap = false
  (f.c.getLsbD 0 = false → exec (.exitS h f) s = .next (s.setCur { x with wait := .exiting })) ∧
  (f.c.getLsbD 0 = true → s.pubTempls = [] → exec (.exitS h f) s = .next (s.setCur { x with wait := .exiting })) ∧
  (f.c.getLsbD 0 = true → (∀ t ∈ s.pubTempls, s.exitCheck t = none) →
    ∃ t, exec (.exitS h f) s = .next t ∧ (t.cur.wait = .exiting ∨ ∃ ns, t.cur.wait = .exitPub ns)) ∧
  (¬ may → ∀ i ∈ ys, exec i s = .next (takeTrap ⟨.resident, 0, 0⟩ s)) ∧
  (may →
    (y.parkHolds s.time (.slot n) = true → exec (.yieldSlot h f) s = .next s) ∧
    (y.parkHolds s.time (.slot n) = false → parks (.yieldSlot h f) (.slot n)) ∧
    (v ≤ (y.chan n).wp → exec (.yieldWp h f) s = .next s) ∧
    ((y.chan n).wp < v → (y.chan n).st = .idle ∨ (y.chan n).st = .ready →
      exec (.yieldWp h f) s = .next (takeTrap ⟨.chidle, 3, BitVec.ofNat 64 (y.chan n).wp⟩ s)) ∧
    ((y.chan n).wp < v → (y.chan n).st = .frozen → exec (.yieldWp h f) s = .next s) ∧
    ((y.chan n).wp < v → (y.chan n).st = .running → parks (.yieldWp h f) (.wp n v)) ∧
    (x.latch.toNat % 8 ≠ 0 → exec (.yieldAny h f) s = .next (s.setCur { x with latch := 0 })) ∧
    (x.latch.toNat % 8 = 0 → parks (.yieldAny h f) .any) ∧
    (v ≤ s.time → exec (.yieldTime h f) s = .next s) ∧
    (s.time < v → parks (.yieldTime h f) (.time v)))

/-- R230, R239, R249, R250: LAUNCH and QPOST send a record with its check to the scheduler of their queue, and QCTL its operation; each leaves its
register pending. -/
def Obligations.LaunchesAndQueues : Prop := ∀ (h : Hdr) (f : RRR) (s : State), s.guard h = true →
  let d := dstS f.d
  let c := s.cur.sys.ctxid
  let inc := s.cur.sys.incarn
  let q := f.t.toNat % 64
  let a := s.readS 32 f.a
  let b := s.readS 24 f.b
  let lvl := (b.extractLsb' 8 4).toNat
  let rec_ := (dwords (s.curBytes a.toNat 64)).map (BitVec.ofNat 64)
  let posts (i : Instr) (r : List Word) (src : RecSrc) := ∃ t rel, exec i s = .next t ∧ t.agenda.getLast? =
    some ⟨s.time, queueChan s.iss.site s.iss.slot c q, .recordAppend c inc q (r.take 7 ++ [BitVec.ofNat 64 (recCheck c q r)]) src, rel, [], [], []⟩ ∧
    rel.isSome = f.t.getLsbD 6 ∧ (d ≠ .a 0 → d ∈ t.cur.pend)
  let ctl (i : Instr) (op : QOp) := exec i s = .next ((s.setCur (s.cur.await d)).send (queueChan s.iss.site s.iss.slot c q)
    (.queueOperationAtScheduler c inc q op ⟨s.iss.site, s.iss.slot, d⟩))
  let levelOk (l : Nat) := l < 10 ∨ (l < 12 ∧ s.cur.sys.privc = true)
  posts (.launch h f) [a, b, s.readS 16 f.c, -1, -1, -1, s.readS 40 f.d] (.launch s.iss.site s.iss.slot d) ∧
  (s.scratchFault s.iss.site s.iss.slot a.toNat 64 64 0 true = none → (rec_.getD 1 0).extractLsb' 54 10 = 0 →
    ((rec_.getD 1 0).getLsbD 52 = true → ((rec_.getD 1 0).extractLsb' 48 4).toNat ≤ 11) → (∀ g ∈ gatesOf rec_, spaceOf g < 0xF6) →
    posts (.qpost h f) rec_ (.qpost s.iss.site s.iss.slot d)) ∧
  (a.toNat % 4096 = 0 → a.toNat < 2 ^ 56 → 4 ≤ b.toNat % 32 → b.toNat % 32 ≤ 16 → b &&& 0xFFFFFFFFFFFFE0E0 = 0 → levelOk lvl →
    ctl (.qctlCreate h f) (.create a.toNat (b.toNat % 32) lvl (b.getLsbD 12))) ∧
  ctl (.qctlDrain h f) .drain ∧ ctl (.qctlClose h f) .close ∧ ctl (.qctlQuery h f) .query ∧
  (a.toNat < 32 → levelOk (a.toNat % 16) → ctl (.qctlLevel h f) (.level (a.toNat % 16) (a.getLsbD 4)))

/-! ### C class: groups, barriers, steps -/

/-- R264 to R267: GJOIN, GLEAVE, GCTL and GWAIT whose operands hold ask their group's scheduler and leave their register pending; bits [63:8] of
read(A) raise RSVFIELD, a fifth membership GROUPMAX, and leaving a group that is not held GROUPFREE. -/
def Obligations.GroupSyllables : Prop := ∀ (h : Hdr) (f : RRR) (s : State), s.guard h = true →
  let x := s.cur
  let a := s.readS 32 f.a
  let b := s.readS 24 f.b
  let g := a.toNat % 256
  let n := f.c.toNat % 16
  let size := (a.extractLsb' 24 24).toNat
  let asks (i : Instr) (y : Slot) (op : GOp) (midx : Nat) := exec i s = .next ((s.setCur (y.await (dstS f.d))).send
    (groupChan s.iss.site s.iss.slot x.sys.ctxid g)
    (.groupRequestAtScheduler x.sys.ctxid x.sys.incarn g op ⟨s.iss.site, s.iss.slot, dstS f.d⟩ midx))
  let traps (i : Instr) (k : FKind) (v : Word) := exec i s = .next (takeTrap ⟨k, 0, v⟩ s)
  (256 ≤ a.toNat → ∀ i ∈ [Instr.gjoin h f, .gleave h f, .gctlCancel h f, .gctlPrio h f, .gctlCap h f, .gctlQuery h f, .gwait h f],
    traps i .rsvfield a) ∧
  (a.toNat < 256 →
    (∀ i, x.holds g = some i → exec (.gjoin h f) s =
      .next (s.selfReply (dstS f.d) (BitVec.ofNat 1024 ((s.group x.sys.ctxid g).status false true i)) .plain)) ∧
    (∀ i, x.holds g = none → x.freeMember = some i →
      asks (.gjoin h f) { x with joining := x.joining ++ [i * 256 + g] } .join i) ∧
    (x.holds g = none → x.freeMember = none → traps (.gjoin h f) .groupmax (BitVec.ofNat 64 g)) ∧
    (∀ i, x.holds g = some i → x.leaving.contains (i * 256 + g) = false →
      asks (.gleave h f) { x with leaving := x.leaving ++ [i * 256 + g] } .leave i) ∧
    (x.holds g = none → traps (.gleave h f) .groupfree (BitVec.ofNat 64 g)) ∧
    asks (.gctlCancel h f) x .cancel 0 ∧ asks (.gctlQuery h f) x .query 0 ∧
    (b.toNat < 10 ∨ (b.toNat < 12 ∧ x.sys.privc = true) → asks (.gctlPrio h f) x (.prio b.toNat) 0) ∧
    (b.toNat < 2 ^ 24 → asks (.gctlCap h f) x (.cap b.toNat) 0) ∧
    (s.landCheck n b.toNat = none → asks (.gwait h f) (x.setSub n { x.subAt n with reserved := true }) (.wait n b) 0) ∧
    (∀ t, s.landCheck n b.toNat = some t → exec (.gwait h f) s = .next (takeTrap t s))) ∧
  (a &&& 0xFFFF000000FFFF00 = 0 → size ≠ 0 → b.toNat % 4096 = 0 → b.toNat < 2 ^ 56 →
    asks (.gctlCut h f) x (.cut b.toNat size) 0 ∧ asks (.gctlRestore h f) x (.restore b.toNat size) 0)

/-- R273 to R276: BINIT and BARV whose operands hold send their request to the barrier's home and leave their register pending, a BARV with REL after
its release part. BWAIT asks its home at its first issue and waits; once answered it goes on, waiting for its completion copy where its phase has
not completed, and traps with what the home has refused. -/
def Obligations.BarrierSyllables : Prop := ∀ (h : Hdr) (f : RRR) (s : State), s.guard h = true →
  let x := s.cur
  let a := s.readS 32 f.a
  let b := s.readS 24 f.b
  let d := dstS f.d
  let r := s.barReq d a
  let n := f.c.toNat % 16
  let sends (i : Instr) (ev : Instr) (isRel : Bool) := ∃ t rel, exec i s = .next t ∧
    t.agenda.getLast? = some ⟨s.time, barChan s.iss.site s.iss.slot r.ctx r.id, ev, rel, [⟨s.iss.site, r.ctx, 64, 1⟩], [], []⟩ ∧ rel.isSome = isRel ∧ (d ≠ .a 0 → d ∈ t.cur.pend)
  (a.toNat < 4096 → b ≠ 0 → b.toNat ≤ 16777215 → sends (.binit h f) (.binitAtHome r b.toNat) false) ∧
  (a.toNat < 4096 → b = 0 ∨ 16777215 < b.toNat → exec (.binit h f) s = .next (takeTrap ⟨.barcount, 0, b⟩ s)) ∧
  (a &&& 0xFFFFF000 = 0 → sends (.barv h f) (.arrivalAtHome r) (f.c.getLsbD 0)) ∧
  (a &&& 0xFFFFF000 ≠ 0 → ∀ i ∈ [Instr.barv h f, .bwait h f], exec i s = .next (takeTrap ⟨.rsvfield, 0, a⟩ s)) ∧
  (bwaitCheck f s = none →
    (x.bw = none → ∃ s1, exec (.bwait h f) s = .next (holdBundle false (fun _ => s1) s) ∧
      (x.pend.contains d = false → s1.agenda = s.agenda ++ [⟨s.time, barChan s.iss.site s.iss.slot r.ctx r.id, .bwaitAtHome r n b, none, [⟨s.iss.site, r.ctx, 64, 1⟩], [], []⟩])) ∧
    (∀ v k done, x.bw = some (v, some k, done) → exec (.bwait h f) s = .next (takeTrap ⟨k, 0, a⟩ s)) ∧
    (∀ v, x.bw = some (v, none, true) → exec (.bwait h f) s =
      .next ((s.setCur { x with bw := none }).selfReply d (v.zeroExtend 1024) .plain)) ∧
    (∀ v, x.bw = some (v, none, false) → x.nameHeld n (barName (a.toNat % 4096) (a.toNat / 2 ^ 32)) = false →
      ∃ t, exec (.bwait h f) s = .next t ∧ (t.cur.subAt n).st = .armed ∧ (t.cur.subAt n).name = barName (a.toNat % 4096) (a.toNat / 2 ^ 32) ∧
        (if x.yld = true ∧ x.sys.intrap = false then t.cur.park = some (.slot n) else t.cur.wait = .bwait n)))

/-- R294 to R297: STEPO, STEPC and SLACK ask the governor and leave their register pending; STEPO takes T0 from TIME and DL as T0 + read(B). -/
def Obligations.StepSyllables : Prop := ∀ (h : Hdr) (f : RRR) (s : State), s.guard h = true →
  let a := s.readS 32 f.a
  let b := s.readS 24 f.b
  let asks (i : Instr) (op : StepOp) := exec i s = .next ((s.setCur (s.cur.await (dstS f.d))).send (stepChan s.iss.site s.iss.slot)
    (.stepRequestAtGovernor s.cur.sys.ctxid s.cur.sys.incarn op ⟨s.iss.site, s.iss.slot, dstS f.d⟩))
  (a.toNat < 256 → b ≠ 0 → b.toNat < 2 ^ 48 → asks (.stepo h f) (.open_ a.toNat s.time (s.time + b.toNat))) ∧
  (256 ≤ a.toNat → exec (.stepo h f) s = .next (takeTrap ⟨.rsvfield, 0, a⟩ s)) ∧
  (a.toNat < 256 → b = 0 ∨ 2 ^ 48 ≤ b.toNat → exec (.stepo h f) s = .next (takeTrap ⟨.rsvfield, 0, b⟩ s)) ∧
  asks (.stepc h f) (.close (a.extractLsb' 48 4).toNat (a.extractLsb' 20 28).toNat) ∧
  asks (.slack h f) (.slack (a.extractLsb' 48 4).toNat (a.extractLsb' 20 28).toNat)

/-! ### Events of a tile -/

/-- R40, R51, R54, R107, R108, R166, R175, R247, R292, R341, R349, R350: what the events around issue do: results that land, the ends of IDLE and BRK,
quanta, WATCHDOG, the matrix unit's start and its rows, the slew reserve, whose periods follow one another from reset on (log 54), and the close of a
fault window, which is as log 30 reads R349 and R350. A slot takes issue once the one that left it has let its results land (`switchReady`, log 10). -/
def Obligations.IssueEvents : Prop := ∀ (s : State) (site slot : Nat),
  let x := s.slotAt site slot
  let t := s.tileAt site
  (s.issueReady site slot = true → exec (.bundleIssue site slot) s = .next (endBundle (s.tryBundle site slot))) ∧
  (∀ n e i, x.infl[n]? = some e → e.dst = .a i → 0 < i → i < 64 → ∃ u, exec (.resultLand site slot n) s = .next u ∧
    (u.slotAt site slot).f.getA i = e.val.truncate 64 ∧ ∀ j, j ≠ i → (u.slotAt site slot).f.getA j = x.f.getA j) ∧
  (t.issuing = none → t.frozen = false → t.freezeReq = false → s.bestCand site = some slot → s.switchReady site slot = true → ∃ u, exec (.quantumGrant site slot) s = .next u ∧
    (u.tileAt site).issuing = some slot ∧ (u.tileAt site).quantum = 64 ∧ (u.slotAt site slot).st = .running) ∧
  (t.issuing = some slot → s.quantumOver site = true → ∃ u, exec (.quantumEnd site) s = .next u ∧ u.tileAt site = { t with issuing := none } ∧
    u.slotAt site slot = if x.slewWait then { x with slewAway := some s.time } else x) ∧
  (x.watchdogDue = true → ∃ u, exec (.watchdog site slot) s = .next u ∧ (u.slotAt site slot).st = .faulted ∧
    (u.slotAt site slot).fatal = FKind.cause .watchdog 0) ∧
  (∀ ctx inc dst val, x.bound = some (ctx, inc) → s.stale (agSite site 0) ctx inc = false → t.frozen = false →
    exec (.interlockedResultLand site slot ctx inc dst val .plain) s = .next (s.setSlotAt site slot (x.landLocked dst val))) ∧
  (∀ dst left t0, x.wait = .idle dst left t0 → x.latch ≠ 0 ∨ s.idleOver site left t0 = true → ∃ u, exec (.idleWake site slot) s = .next u ∧
    (u.slotAt site slot).wait = .none ∧ (u.slotAt site slot).latch = 0) ∧
  (∀ pc, x.wait = .brk → ∃ u, exec (.brkResume site slot pc) s = .next u ∧ (u.slotAt site slot).wait = .none ∧
    (u.slotAt site slot).pc = pc.getD x.pc) ∧
  (∀ o r, t.unit = o :: r → exec (.matrixStart site) s = .next (s.setTileAt site { t with unit := { o with started := true } :: r })) ∧
  (∀ ctx inc k off rep r, x.bound = some (ctx, inc) → s.stale (agSite site 0) ctx inc = false → t.frozen = false → x.mmag = some r →
    (r.asked.contains (k, off) = true → rep.err = none → rep.poison = false → exec (.mmagRowArrive site slot ctx inc ⟨k, r.run⟩ off rep) s =
      .next ((s.setSlotAt site slot { x with mmag := some { r with asked := r.asked.erase (k, off), rows := r.rows ++ [(k, off, rep.data)] } }).mmagSteps
        site slot 4096)) ∧
    (∀ run, run ≠ r.run → exec (.mmagRowArrive site slot ctx inc ⟨k, run⟩ off rep) s = .next s)) ∧
  (∀ dom, s.slewDue dom = false → exec (.slewRefill dom) s = .next s) ∧
  (∀ dom, s.slewDue dom = true →
    let at_ := KMap.set s.slewAt dom (KMap.getD s.slewAt dom 0 + s.slewPeriod dom)
    (s.slewWaiters dom = [] → KMap.getD s.quantaUsed dom 0 ≠ 0 → exec (.slewRefill dom) s =
      .next { s with slewAt := at_, quantaUsed := KMap.set s.quantaUsed dom (KMap.getD s.quantaUsed dom 0 - 1) }) ∧
    (∀ st sl r, s.slewWaiters dom = (st, sl) :: r →
      let u := State.countAway { s with slewAt := at_ } st sl false
      exec (.slewRefill dom) s = .next (u.setSlotAt st sl { u.slotAt st sl with slewWait := false, slewGrant := true }))) ∧
  (∀ i w, s.windowDone i = true → s.windows[i]? = some w → (s.ctx w.ctx).inc = w.inc → exec (.faultWindowClose i) s =
    .next ({ s with windows := s.windows.eraseIdx i }.publish w.ctx w.inc w.key 255 w.record))

/-- R142, R147, R148, R150, R153, R158, R194, R329, R330, R333, R335, R355: what the events of L1, channels, walkers and memory homes do. A masked line is
written back in two halves of one event each, the first or the second one first (log 14). -/
def Obligations.MemoryEvents : Prop := ∀ (s : State) (site slot ctx inc : Nat),
  let x := s.slotAt site slot
  let t := s.tileAt site
  (∀ vl rep l, s.stale (agSite site 1) ctx inc = false → t.frozen = false → t.lines.find? (fun l => l.is ctx inc vl && !l.filled) = some l →
    rep.err = none → ∃ u, exec (.l1Fill site ctx inc vl rep) s = .next u ∧ ∀ w ∈ l.waiters, ∃ p ∈ u.agenda,
      p.ev = .interlockedResultLand site w.slot ctx inc w.dst
        (loadValue (mergeLine w.smask (bytesOf 128 w.snap.toNat) rep.data) w.off w.n w.ty w.vec)
        (.load (if rep.poison then some .poisonld else none) w.ea w.acq none (s.far l.pa))) ∧
  (∀ vl l, t.lines.find? (fun l => decide (l.ctx = ctx) && decide (l.vline = vl) && l.filled && l.dirty) = some l →
    exec (.l1Writeback site ctx vl) s = .next (s.writeBack site l)) ∧
  (∀ w r, t.walks = w :: r → w.lines = [] → w.kind < 3 → exec (.maintWalk site) s = .next (s.setTileAt site { t with walks := r })) ∧
  (∀ c more, x.wayChange = c :: more → ∃ u, exec (.wayChangeComplete site slot) s = .next u ∧ (u.slotAt site slot).wayChange = more ∧
    (u.slotAt site slot).wait = (if more.isEmpty then .none else x.wait)) ∧
  (∀ way, s.powering site way = true → exec (.wayPowerUp site way) s =
    .next (s.setTileAt site (t.setWays (fun w r => if w = way then .cache else r)))) ∧
  (∀ r bs p, 256 ≤ r.ctx ∨ s.stale (agMem (stackOf (paLocal r.pa))) r.ctx r.inc = false → r.op = .write bs p → MemReq.lineOf r = none →
    ∃ u, exec (.memoryRequestAtHome r) s = .next u ∧
      (∀ i < bs.length, Memory.readByte u.mem (paLocal r.pa + i) = bs.getD i 0) ∧
      (∀ a, a < paLocal r.pa ∨ paLocal r.pa + bs.length ≤ a → Memory.readByte u.mem a = Memory.readByte s.mem a)) ∧
  (∀ (r : MemReq) bs (m : BitVec 128) p st, 256 ≤ r.ctx ∨ s.stale (agMem (stackOf (paLocal r.pa))) r.ctx r.inc = false → r.op = .line bs m p → bs.length = 128 →
    MemReq.lineOf r = some st →
    ∃ lo u, (lo = 0 ∨ lo = 64) ∧ exec (.memoryRequestAtHome r) s = .next u ∧
      (∀ i < 64, Memory.readByte u.mem (paLocal r.pa + lo + i) =
        if m.getLsbD (lo + i) then bs.getD (lo + i) 0 else Memory.readByte s.mem (paLocal r.pa + lo + i)) ∧
      (∀ a, a < paLocal r.pa + lo ∨ paLocal r.pa + lo + 64 ≤ a → Memory.readByte u.mem a = Memory.readByte s.mem a) ∧
      ∃ q ∈ u.agenda, q.ev = .memoryRequestAtHome { r with va := r.va + (64 - lo), pa := r.pa + (64 - lo), op := .line ((bs.drop (64 - lo)).take 64) (if lo = 0 then m >>> 64 else m) p }) ∧
  (∀ far, x.bound = some (ctx, inc) → s.stale (agSite site 0) ctx inc = false → t.frozen = false →
    exec (.memoryWriteAcknowledgement ctx inc (.ackC site slot far)) s =
      .next (s.setSlotAt site slot (if far then { x with ackCR := x.ackCR - 1 } else { x with ackC := x.ackC - 1 }))) ∧
  (∀ va kind tr, x.bound = some (ctx, inc) → s.stale (agSite site 0) ctx inc = false → t.frozen = false → kind < 3 →
    (s.walkNow (fieldOf site) ctx inc va kind).out = .done tr → ∃ u, exec (.pageWalk ⟨site, slot, ctx, inc, va, kind, none⟩) s = .next u ∧
      (u.slotAt site slot).walks = x.walks.map (fun k => if k.va = va ∧ k.kind = kind then { k with out := .done tr } else k)) ∧
  (∀ va kind, x.walks.any (fun k => decide (k.va = va) && decide (k.kind = kind)) = true →
    exec (.migRewalk ⟨site, slot, ctx, inc, va, kind, none⟩) s = .next (s.toWalker ⟨site, slot, ctx, inc, va, kind, none⟩)) ∧
  (∀ agent v vs, (s.ctx ctx).inval = v :: vs → v.told.contains agent = false → invalTurn v agent = true → v.released = true →
    ∃ u, exec (.invalidationAtAgent agent ctx) s = .next u ∧
      (u.ctx ctx).inval = { v with told := v.told ++ [agent] } :: vs) ∧
  (s.invalOver ctx = true → exec (.invpClear ctx) s = .next (s.setCtx ctx { s.ctx ctx with inval := (s.ctx ctx).inval.tail })) ∧
  (∀ s1 bs, s.stale (agHedge 0) ctx inc = false →
    s.sysRead 64 ctx inc (s.ctx ctx).backbase.toNat 1024 = (s1, .ok bs) → exec (.backingTableReread ctx inc) s =
      .next (State.rereadOver (s1.setCtx ctx { s1.ctx ctx with backing := (List.range 64).map (fun i =>
        (BitVec.ofNat 64 ((dwords bs).getD (2 * i) 0), BitVec.ofNat 64 ((dwords bs).getD (2 * i + 1) 0))) }) ctx inc)) ∧
  (∀ ch tr, ch < 16 → s.beatReady site slot ch = true → Shape.dir (x.chan ch).recd = 0 →
    chanTrans x (x.chan ch) (Shape.srcAddr (x.chan ch).recd (x.chan ch).elem) 0 = .ok (some tr) →
    ∃ u, exec (.channelBeat site slot ch) s = .next u ∧ ((u.slotAt site slot).chan ch).beat =
      some ⟨Shape.beat (x.chan ch).recd (x.chan ch).elem, Shape.srcAddr (x.chan ch).recd (x.chan ch).elem, (x.chan ch).seq⟩) ∧
  (∀ ch rep b, x.bound = some (ctx, inc) → s.stale (agSite site 0) ctx inc = false → t.frozen = false → (x.chan ch).beat = some b →
    (x.chan ch).st = .running → rep.err = none → rep.poison = false →
    exec (.channelDataArrive site slot ch ctx inc b.seq rep) s = .next (s.deliver site slot ch b.n rep.data))

/-! ### Events of names -/

/-- R23, R24, R182, R185 to R187, R190, R196, R197, R201, R205, R209: what the events of routers and tile ports do with names. A copy's segment at a slot
does what the table of R187 says: it is dropped, diverted, or written and noted, or the landing fails; an injection reads one granule and, with the last
of a segment, sends the segment. The model makes each of these one event (log 6). -/
def Obligations.NameEvents : Prop := ∀ (s : State) (site slot : Nat),
  let x := s.slotAt site slot
  let onward (site home : Nat) (cls : Nat) (ctx : Nat) (name : Word) (u : State) (ev : Nat → Port → Instr) :=
    let p := s.portTo site home
    Host.Outcome.next (φ := Fault) (ρ := Refusal) (u.send (linkChan cls site p ctx name) (ev (neighbour site p).1 (neighbour site p).2))
  (∀ port m, s.stale (agSite site 2) m.ctx m.inc = false → m.persist = false → m.u = false → site ≠ s.homeOf m.ctx m.name →
    s.matchAt site m.ctx m.inc m.name = none → (KMap.getD s.matches_ site []).length < 4096 →
    let p := s.portTo site (s.homeOf m.ctx m.name)
    exec (.subAtRouter site port m) s = .next ((s.matchAdd site m.ctx m.inc m.name port 1).sendAfter (linkChan 1 site p m.ctx m.name)
      (linkChan 0 site p m.ctx m.name) (.subAtRouter (neighbour site p).1 (neighbour site p).2 { m with count := m.count + 1 }))) ∧
  (∀ port m, s.stale (agSite site 2) m.ctx m.inc = false → m.persist = true → m.moving = false → site = s.homeOf m.ctx m.name →
    exec (.subAtRouter site port m) s = .next (s.send (homeChan 0 site m.ctx m.name) (.subAtHome m))) ∧
  (∀ port m, s.stale (agSite site 2) m.ctx m.inc = false → 0 < m.count → site ≠ s.homeOf m.ctx m.name → exec (.withdrawal site port m) s =
    onward site (s.homeOf m.ctx m.name) 0 m.ctx m.name (s.matchAdd site m.ctx m.inc m.name port (-1))
      (fun n q => .withdrawal n q { m with count := m.count - 1 })) ∧
  (∀ port g, s.stale (agSite site 2) g.ctx g.inc = false → site = s.homeOf g.ctx g.name → exec (.segmentAtRouter site port true g) s =
    .next (s.send (linkChan 2 site .tile g.ctx g.name) (if g.red.isSome then .contributionAtHome g else .segmentAtHome (some port) g))) ∧
  (∀ port g e, s.stale (agSite site 2) g.ctx g.inc = false → site ≠ s.homeOf g.ctx g.name → g.red = none →
    s.matchAt site g.ctx g.inc g.name = some e → exec (.segmentAtRouter site port true g) s =
      onward site (s.homeOf g.ctx g.name) 1 g.ctx g.name (s.branch site (some port) e g) (fun n q => .segmentAtRouter n q true g)) ∧
  (∀ m nh, s.stale (agSite m.site 0) m.ctx m.inc = false → (s.tileAt m.site).frozen = false → (s.tileAt m.site).withheld = [] → (s.slotAt m.site m.slot).bound = some (m.ctx, m.inc) →
    let u := (s.slotAt m.site m.slot).subAt m.sub
    u.name = m.name → u.st ≠ .idle → ¬ (u.st = .landed ∧ u.persist = false ∧ u.inst = false) → exec (.installNotice m nh) s =
      .next (s.setSub m.site m.slot m.sub { u with inst := true, count := m.count, u := m.u, nh := nh })) ∧
  (∀ ctx inc tag, (s.slotAt tag.site tag.slot).bound = some (ctx, inc) → s.stale (agSite tag.site 0) ctx inc = false →
    (s.tileAt tag.site).frozen = false → exec (.orderNotice ctx inc tag) s = .next (s.setSlotAt tag.site tag.slot
      { s.slotAt tag.site tag.slot with awaitOrder := (s.slotAt tag.site tag.slot).awaitOrder.erase tag.serial })) ∧
  (∀ n g, n < 16 → s.stale (agSite site 0) g.ctx g.inc = false → x.bound = some (g.ctx, g.inc) → (x.subAt n).name = g.name →
    (s.tileAt site).frozen = false →
    let w := x.subAt n
    let copy := exec (.copyAtTilePort site (some (slot, n)) g) s
    let first := w.st = .armed ∧ w.recv = none ∧ g.idx = 0 ∧ s.marked site slot n g = false
    let fails (k : FKind) := ∃ u, copy = .next u ∧ ((u.slotAt site slot).subAt n).st = .failed ∧ ((u.slotAt site slot).subAt n).fkind = k.ctorIdx % 16
    let receiving (poison : Bool) : Receiving := ⟨g.seq, g.size, [0], g.tags.head?, none, poison⟩
    (w.st = .idle ∨ w.st = .landed ∨ w.st = .failed → copy = .next s) ∧
    (∀ r, w.st = .armed ∨ w.st = .waitspace → w.recv = some r → r.tag ≠ g.tags.head? → copy = .next s) ∧
    (first → x.areaFree n = false →
      copy = .next ((s.setSub site slot n { w with st := .waitspace, recv := some (receiving false), q := g.seq }).divert site slot n g)) ∧
    (first → x.areaFree n = true → w.bytes < g.size → fails .landsmall) ∧
    (first → x.areaFree n = true → g.size ≤ w.bytes → ∀ j, Seg.firstBad g = some j → fails .pubcheck) ∧
    (first → x.areaFree n = true → g.size ≤ w.bytes → Seg.firstBad g = none → ∃ u, copy = .next u ∧
      (u.slotAt site slot).subAt n = { w with recv := some (receiving (!g.poison.isEmpty)) } ∧
      u.scratch = (s.scratchWrite site slot w.land g.bytes).scratch ∧
      (segsOf g.size = 1 → ∃ p ∈ u.agenda, p.ev = .copyLanded site slot n))) ∧
  (∀ n r, n < 16 → (x.subAt n).recv = some r → (x.subAt n).st = .armed → r.got.length = segsOf r.size →
    (s.tileAt site).frozen = false →
    ∃ u, exec (.copyLanded site slot n) s = .next u ∧ ((u.slotAt site slot).subAt n).st = .landed ∧
      ((u.slotAt site slot).subAt n).size = r.size ∧ ((u.slotAt site slot).subAt n).name = (x.subAt n).name) ∧
  (∀ ctx inc, s.stale (agSite site 0) ctx inc = false → (∃ u, exec (.overflowStallNotice site ⟨ctx, inc⟩) s = .next u ∧
      (u.tileAt site).stalled.contains ctx = true) ∧
    exec (.overflowSpaceNotice site ⟨ctx, inc⟩) s = .next (s.setTileAt site { s.tileAt site with stalled := (s.tileAt site).stalled.erase ctx })) ∧
  (∀ ctx t0 rs, KMap.get? s.ovflStall ctx = some (t0, false, rs) → t0 + 1000000 ≤ s.time → exec (.overflowStallTimeout ctx) s =
    .next ({ s with ovflStall := KMap.set s.ovflStall ctx (t0, true, rs) }.record ⟨ctx, (s.ctx ctx).inc, none⟩ { kind := .ovflfull, origin := 3, eval := 0 })) ∧
  (s.injectReady site slot = true → ∃ q qs, x.injq = q :: qs ∧
    let granule := (List.range 64).map (fun i => s.raceByte q.raced (q.addr + q.sent + i) (60000 + i)
      (s.scratchByte site slot (q.addr + q.sent + i) (6000 + i)))
    let whole := q.size ≤ q.sent + 64 ∨ 4096 ≤ q.buf.length + 64
    let queue (u : State) (l : List Queued) := (∀ ns, x.wait ≠ .exitPub ns) → (u.slotAt site slot).injq = l
    ∃ u, exec (.pubInject site slot) s = .next u ∧ u.mem = s.mem ∧ u.scratch = s.scratch ∧
      (¬ whole → queue u ({ q with sent := q.sent + 64, buf := q.buf ++ granule } :: qs)) ∧
      (whole → q.lsend = none → queue u (if q.size ≤ q.sent + 64 then qs else { q with sent := q.sent + 64, buf := [] } :: qs) ∧
        ∃ p ∈ u.agenda, p.ev = .segmentAtRouter site .tile true (Seg.make x.sys.ctxid x.sys.incarn q.name ⟨site, slot, q.serial⟩ (q.sent / 4096)
          q.size q.linger (q.buf ++ granule) q.red 0))) ∧
  (∀ i j a b p h g1 g2 r1 r2, i < j → s.agenda[i]? = some a → s.agenda[j]? = some b →
    mergeable a b = some (site, p, h, g1, g2, r1, r2) →
    let g := Seg.seal { g1 with bytes := redBytes r1.op g1.bytes g2.bytes, tags := g1.tags ++ g2.tags, linger := max g1.linger g2.linger,
                                poison := (g1.poison ++ g2.poison).eraseDups, red := some { r1 with mult := r1.mult + r2.mult } }
    exec (.routerMerge i j) s = .next { s with agenda := (s.agenda.eraseIdx j).set i { a with ev := .segmentAtRouter site p h g } }) ∧
  (∀ ctx name e, (KMap.getD s.matches_ site []).find? (fun m => decide (m.ctx = ctx ∧ m.name = name)) = some e →
    ∃ u, exec (.matchEntryEcc site ctx name) s = .next u ∧ KMap.getD u.matches_ site [] = (KMap.getD s.matches_ site []).erase e) ∧
  (∀ i, ∃ u, exec (.meshEcc i) s = .next u ∧ (∀ j, j ≠ i → u.agenda[j]? = s.agenda[j]?) ∧
    ∀ p port g, s.agenda[i]? = some p → p.ev = .segmentAtHome port g → ∃ k, u.agenda[i]? = some { p with ev := .segmentAtHome port (Seg.strike g k) }) ∧
  (∃ u, exec (.rickFailedMark site) s = .next u ∧ u.failedRicks.contains site = true ∧ ∀ n, s.failedRicks.contains n = true → u.failedRicks.contains n = true)

/-- R182, R185, R187, R188, R190, R191, R195, R196, R198, R211, R227, R276: what the events of a name's home do. A copy counts as spilled, held or
in the diversion reserve as log 49 has it; a part of a fall-through's granule in another module goes by remote reads, one or two granules each (log 22). -/
def Obligations.HomeEvents : Prop := ∀ (s : State) (ctx inc : Nat) (name : Word),
  let h := s.homeName ctx inc name
  let rick := s.homeOf ctx name
  let fresh := s.staleHome ctx inc name = false
  let here := fresh ∧ s.failedRicks.contains rick = false
  let mine (m : SlotMsg) (e : HeldEnt) : Bool := e.of m.site m.slot m.sub && !e.isRecord
  (∀ m : SubMsg, m.ctx = ctx → m.inc = inc → m.name = name → m.site < 6144 → here → (s.roomFor rick 0 1).2.ok = true → ∃ u, exec (.subAtHome m) s = .next u ∧
    ∃ p ∈ u.agenda, p.ev = .installNotice m false) ∧
  (∀ m : SubMsg, m.ctx = ctx → m.inc = inc → m.name = name → here →
    (h.subs.find? (fun r => decide (r.uid = m.uid ∧ r.sub = m.sub ∧ 0 < m.uid))).isSome = true ∨ (s.roomFor rick 0 1).2.ok = true →
    ∃ u, exec (.reinstallAtHome m) s = .next u ∧
    ∃ p ∈ u.agenda, p.ev = .installNotice m false) ∧
  (∀ (g : Seg) port s0 room, g.ctx = ctx → g.inc = inc → g.name = name → here → g.idx = 0 → h.red = none → h.closing = [] →
    s.roomFor rick g.bytes.length 1 = (s0, room) → room.ok = true → exec (.segmentAtHome port g) s = .next (s0.homeTake port g (room == .reserve))) ∧
  (∀ (g : Seg) q, g.ctx = ctx → g.inc = inc → g.name = name → here → g.red = some q → g.idx = 0 →
    let r := h.red.getD (RedOpen.opened q g s.tick)
    (∀ e, r.refuses q g = some e → exec (.contributionAtHome g) s = .next ((s.nameRecord ctx inc e name).notifyOrder g)) ∧
    (∀ s1 room, r.refuses q g = none →
      s.roomFor rick ((r.take q g false 0).stored false - r.stored false) (if h.red.isSome then 0 else 1) = (s1, room) → room.ok = true →
      let h1 := s1.homeName ctx inc name
      let r1 := (h1.red.getD r).take q g (room == .reserve) s.tick
      let u := (s1.setHome { h1 with red := some r1 }).notifyOrder g
      exec (.contributionAtHome g) s = .next (if r1.complete then u.closeReduction ctx inc name else u))) ∧
  (∀ m : SlotMsg, m.ctx = ctx → m.inc = inc → m.name = name → here → ∃ u k, exec (.landingAckAtHome m) s = .next u ∧
    KMap.get? u.homes (homeKey h.ctx h.name) = some k ∧ (∀ e ∈ k.held, e.of m.site m.slot m.sub = true → ∃ a b, e.seq = some a ∧ m.seq = some b ∧ seqAfter a b = true) ∧
    k.sysPins = (if m.waiter then h.sysPins - 1 else h.sysPins)) ∧
  (∀ (m : SlotMsg) g c, m.ctx = ctx → m.inc = inc → m.name = name → here →
    h.held.any (fun e => e.of m.site m.slot m.sub && e.isRecord && e.seq == m.seq) = false →
    h.copies.find? (fun c => (m.seq == some c.seq) || decide (c.tags.head? = g.tags.head?)) = some c →
    let s1 := if h.held.any (mine m) then s else (s.roomFor rick 0 1).1
    let h1 := s1.homeName ctx inc name
    exec (.divertedCopyAtHome m g) s =
      .next (s1.setHome { h1 with held := h1.held.filter (fun e => !(mine m e)) ++ [HeldEnt.ref m.site m.slot m.sub c s.tick] })) ∧
  (∀ (m : SlotMsg) e, m.ctx = ctx → m.inc = inc → m.name = name → here → h.held.find? (fun e => e.mine m) = some e → e.seq = none →
    exec (.pullAtHome m) s = .next ((s.setHome { h with
      held := h.held.filter (fun e => !(e.mine m) || e.isRecord || !e.spilled.isEmpty) }).serveHeld h (h.recOf m) e true)) ∧
  (∀ m : SlotMsg, m.ctx = ctx → m.inc = inc → m.name = name → here →
    let s1 := s.setHome { h with subs := h.subs.map (fun r => if r.is m.site m.slot m.sub ∨ s.recMoved m r then { r with ready := true } else r) }
    ∀ r, (s1.homeName ctx inc name).subs.find? (fun r => r.is m.site m.slot m.sub) = some r →
      exec (.nextRequestAtHome m) s = .next (s1.serveNext ctx inc name r)) ∧
  (∀ who c, here → h.current = some c → h.pins < 65535 → s.quota ctx ≠ 0 →
    s.quotaUsed rick ctx + (if h.quotaCounts s.time c then 0 else c.size) ≤ s.quota ctx →
    (0 < h.pins ∨ 0 < h.sysPins →
      exec (.nholdAtHome ctx inc name who) s = .next ((s.setHome { h with pins := h.pins + 1 }).nameReply who ctx inc (h.pins + 1))) ∧
    (∀ s1 room, h.pins = 0 → h.sysPins = 0 → s.roomFor rick 0 1 = (s1, room) → exec (.nholdAtHome ctx inc name who) s = .next
      (if room.ok then (s1.setHome { s1.homeName ctx inc name with pins := 1 }).nameReply who ctx inc 1
       else s1.retry (homeChan 0 who.site ctx name) (.nholdAtHome ctx inc name who)))) ∧
  (∀ who, here → h.current = none → exec (.nholdAtHome ctx inc name who) s = .next (s.nameReply who ctx inc (h.pins + 2 ^ 62))) ∧
  (∀ who, here → 0 < h.pins →
    exec (.nrelsAtHome ctx inc name who) s = .next ((s.setHome { h with pins := h.pins - 1 }).nameReply who ctx inc (h.pins - 1))) ∧
  (∀ seq k c, KMap.get? s.homes (homeKey ctx name) = some k → k.copies.find? (fun c => decide (c.seq = seq)) = some c → c.spilled = [] →
    k.expired s.time c = true → exec (.lingerExpire ctx name seq) s =
      .next (s.setHome { k with copies := k.copies.filter (fun d => decide (d.seq ≠ seq)) })) ∧
  (∀ seq k c s1 segs, seq < 2 ^ 32 → KMap.get? s.homes (homeKey ctx name) = some k → k.copies.find? (fun c => decide (c.seq = seq)) = some c →
    s.readAll ctx k.inc (s.homeWalker ctx name) c.spilled c.segs = (s1, some segs) → ∃ u, exec (.spillReadBack ctx name seq) s = .next u ∧
    ∀ w ∈ k.wants, w.1.seq = some c.seq → (k.recOf w.1).site < 6144 → ∀ g ∈ segs, ∃ p ∈ u.agenda,
      p.ev = .copyAtTilePort (k.recOf w.1).site (some ((k.recOf w.1).slot, (k.recOf w.1).sub)) { g with seq := some c.seq }) ∧
  (∀ hedge (b : Backed), s.stale (agHedge hedge) ctx inc = false →
    let size := 64 * 2 ^ (b.d0.extractLsb' 59 4).toNat
    let key := (b.name.extractLsb' 0 56).toNat
    let base := (b.d0.extractLsb' 0 56).toNat
    let run := s.ftGo hedge ctx inc b (partsOf (size / 64 + 2) (base + key * size + b.got.length) (size - b.got.length)) b.got
    let request := exec (.fallthroughRequest hedge ctx inc b) s
    let gives (s1 : State) (linger : Nat) (r : MemReply) := request = .next (s1.send 0 (.fallthroughData ctx inc b.name linger r))
    let good := backValid b.d0 = true ∧ key < (b.d1.extractLsb' 0 48).toNat ∧ base % size = 0
    (¬ good → gives s 0 { data := [], poison := false, err := some .backmiss }) ∧
    (good → base + key * size + size ≤ 2 ^ 56 →
      (∀ s1 bs, run = (s1, .ok bs) → gives s1 (b.d1.extractLsb' 48 8).toNat { data := bs, poison := false, err := none }) ∧
      (∀ s1 k, run = (s1, .fault k) → gives s1 0 { data := [], poison := false, err := some k }) ∧
      (∀ s1, run = (s1, .asked) → request = .next s1)) ∧
    (∀ va n got s1 tr, s.transFor (64 + hedge) ctx inc va 0 = (s1, .done tr) → s1.far (tr.pa va) = true →
      s.ftGo hedge ctx inc b [(va, n)] got = (s1.sendRemote ⟨ctx, inc, va, tr.pa va, .read n, .ft hedge { b with got := got }⟩, .asked))) ∧
  (∀ linger r, s.stale (agHedge (2 * (nearestRim rick - 64))) ctx inc = false → r.err = none → r.poison = false →
    exec (.fallthroughData ctx inc name linger r) s = .next (s.hedgePublish ctx inc name linger r.data 1)) ∧
  (∀ linger r k, s.stale (agHedge (2 * (nearestRim rick - 64))) ctx inc = false → r.err = some k →
    exec (.fallthroughData ctx inc name linger r) s = .next ((s.setHome { h with ft := false }).nameRecord ctx inc .backmiss name)) ∧
  (∀ who, exec (.standInReply (.pin ctx inc name who)) s = .next ((s.nameReply who ctx inc (2 ^ 60)).nohomeRecord ctx inc 3)) ∧
  (∀ m : SubMsg, m.site < 6144 → exec (.standInReply (.sub m)) s =
    .next ((s.send 0 (.installNotice { m with u := true } true)).nohomeRecord m.ctx m.inc 3)) ∧
  (fresh → exec (.pinReleaseMessage ctx inc name) s = .next (s.setHome { h with sysPins := h.sysPins - 1 }))

/-! ### Events of kernels, queues, groups, barriers and steps -/

/-- R237, R240 to R243, R250, R253: what a queue's scheduler does. -/
def Obligations.QueueEvents : Prop := ∀ (s : State) (ctx inc q : Nat), s.stale (agSched (schedOf ctx q)) ctx inc = false →
  let x := s.queue ctx q
  let chk (r : List Word) := recordBad ctx q r
  (∀ op who, ∃ u, exec (.queueOperationAtScheduler ctx inc q op who) s = .next u ∧ (u.queue ctx q).st = (match op, x.st with
    | .create _ _ _ _, .none | .create _ _ _ _, .closed => .open_
    | .drain, .open_ => if x.recs.isEmpty then .closed else .draining
    | .close, .open_ | .close, .draining => .closed
    | _, st => st)) ∧
  (∀ r src, x.st ≠ .open_ → exec (.recordAppend ctx inc q r src) s = .next (s.recordReply ctx inc src (some .qclosed) 0)) ∧
  (∀ r src, x.st = .open_ → 2 ^ x.lg ≤ x.recs.length → exec (.recordAppend ctx inc q r src) s = .next (s.recordReply ctx inc src (some .qfull) 0)) ∧
  (∀ r src s1 l, x.st = .open_ → x.recs.length < 2 ^ x.lg → chk r = none →
    s.sysWrite (schedOf ctx q) ctx inc (x.base + 64 * (x.next % 2 ^ x.lg)) (r.flatMap (fun w => wordBytes 8 w.toNat)) = (s1, .ok l) →
    exec (.recordAppend ctx inc q r src) s = .next (((s1.setQueue ctx q
      { x with next := (x.next + 1) % 2 ^ 32, recs := x.recs ++ [(x.next, r)] }).recordReply ctx inc src none x.next).headUp ctx inc q)) ∧
  (∀ name gs seq, x.gates = some gs → x.recs.head?.map (·.1) = some seq → exec (.gateSatisfied ctx inc ⟨q, x.cseq, seq⟩ name) s =
    .next ((s.setQueue ctx q { x with gates := some (gs.filter (fun g => g != name)) }).dropGates ctx inc q [name])) ∧
  (∀ g n seq, s.stale (agSched (schedOf ctx g)) ctx inc = false → x.asked.contains g = true → x.recs.head?.map (·.1) = some seq →
    (s.group ctx g).live + (s.group ctx g).reservedSum + n ≤ 16777215 → exec (.membershipReserve ⟨ctx, inc⟩ ⟨q, x.cseq, seq⟩ g n) s =
      .next ((s.setGroup ctx g { s.group ctx g with reserved := KMap.set (s.group ctx g).reserved q n }).setQueue ctx q
        { x with asked := x.asked.erase g, granted := x.granted ++ [g] })) ∧
  (∀ g n seq, s.stale (agSched (schedOf ctx g)) ctx inc = false → x.asked.contains g = true → x.recs.head?.map (·.1) = some seq →
    16777215 < (s.group ctx g).live + (s.group ctx g).reservedSum + n → exec (.membershipReserve ⟨ctx, inc⟩ ⟨q, x.cseq, seq⟩ g n) s = .next (s.setQueue ctx q { x with asked := x.asked.erase g, refused := some g })) ∧
  (∀ seq r rest k, s.expandReady ctx q = true → x.recs = (seq, r) :: rest → x.kern = some k → x.refused = none →
    exec (.recordExpand ctx q) s = .next (s.createInsts ctx (s.ctx ctx).inc q seq k r)) ∧
  (∀ seq r rest k g, s.expandReady ctx q = true → x.recs = (seq, r) :: rest → x.kern = some k → x.refused = some g →
    exec (.recordExpand ctx q) s = .next (s.discardHead ctx (s.ctx ctx).inc q seq .groupmax 0 (BitVec.ofNat 64 (g + seq * 2 ^ 32)))) ∧
  (∀ port off bytes, s.hostOk port = true → bytes.length = 64 → off % 64 = 0 → exec (.hostAppendWrite ⟨port, off⟩ bytes) s =
    .next (s.send (chanKey 20 port) (.recordAppend (off / 4096 % 256) (s.ctx (off / 4096 % 256)).inc
      (off / 64 % 64) ((dwords bytes).map (BitVec.ofNat 64)) (.host port off)))) ∧
  (∀ port off bytes, s.hostOk port = true → bytes.length ≠ 64 ∨ off % 64 ≠ 0 → exec (.hostAppendWrite ⟨port, off⟩ bytes) s = .next (s.record
    ⟨off / 4096 % 256, (s.ctx (off / 4096 % 256)).inc, none⟩ { kind := .rsvfield, origin := 0, eval := BitVec.ofNat 64 off }))

/-- R221 to R225, R231, R232, R234, R235, R343: what placement, loading, parking, cancel and retirement do with an instance. -/
def Obligations.InstanceEvents : Prop := ∀ (s : State) (uid site slot : Nat),
  let x := s.slotAt site slot
  (∀ i, s.inst uid = some i → s.nextPlace i.ctx = some (uid, site, slot) → ∃ u, exec (.instancePlace uid site slot) s = .next u ∧
    u.inst uid = some { i with st := .placed, place := some (site, slot) }) ∧
  (∀ i ctx inc mesh, s.inst uid = some i → i.place = some (site, slot) → s.stale (agSite site 0) ctx inc = false →
    ∃ u, exec (.placementMessage ⟨uid, mesh⟩ ctx inc) s = .next u ∧ u.slotAt site slot = x.forInst uid i (s.tileAt site).dbgOn) ∧
  (∀ field, exec (.placementAcknowledgement field site) s = .next { s with
    placeOut := KMap.set s.placeOut (8192 * field + site) (KMap.getD s.placeOut (8192 * field + site) 0 - 1) }) ∧
  (∀ i s1 args, s.inst uid = some i → i.place = some (site, slot) → x.inst = some uid → x.st = .placed →
    (s.tileAt site).frozen = false → x.codeOf = some (i.ctx, i.inc, i.image, i.kern.image) → s.sysRead (fieldOf site) i.ctx i.inc i.args.toNat i.kern.args = (s1, .ok args) →
    ∃ u, exec (.loadDone uid) s = .next u ∧ ((u.slotAt site slot).st = .waiting ∨ (u.slotAt site slot).st = .ready)) ∧
  (s.parkReady site slot = true → ∃ u, exec (.parkComplete site slot) s = .next u ∧ (u.slotAt site slot).st = .parked ∧
    (u.slotAt site slot).parkDone = true) ∧
  (∀ c, x.park = some c → x.st = .parked → x.parkHolds s.time c = true → ∃ u, exec (.parkWake site slot) s = .next u ∧
    (u.slotAt site slot).st = .ready ∧ (u.slotAt site slot).park = none) ∧
  (x.parkDone = true → x.st = .ready ∨ x.st = .running → (s.tileAt site).issuing = some slot → exec (.parkRestore site slot) s =
    .next (s.setSlotAt site slot (s.unpark x (s.scratchRead site slot x.parkAt 4736 7000)))) ∧
  (∀ how, s.endReady site slot = some how → ∃ u, exec (.retire site slot) s = .next u ∧ (u.slotAt site slot).inst = none ∧
    (u.slotAt site slot).st = .retired) ∧
  (∀ i g, s.inst uid = some i → i.place = some (site, slot) → s.stale (agSite site 0) i.ctx i.inc = false → x.inst = some uid →
    x.st ≠ .faulted → x.wait = .none → x.cancelReq = none → exec (.cancelAtTile uid g) s =
      .next ((s.abandonLoad uid).setSlotAt site slot { x with cancelReq := some g }))

/-- R253 to R263: what a group's scheduler does with terminal updates, requests and a cut. -/
def Obligations.GroupEvents : Prop := ∀ (s : State) (ctx inc g : Nat), s.stale (agSched (schedOf ctx g)) ctx inc = false →
  let e := s.group ctx g
  let c32 (n : Nat) := (n + 1) % 2 ^ 32
  (∀ cause, 1 < e.live →
    exec (.memberTerminalUpdate ctx inc g 0 cause) s = .next (s.setGroup ctx g { e with ret := c32 e.ret, live := e.live - 1 }) ∧
    exec (.memberTerminalUpdate ctx inc g 1 cause) s =
      .next (s.setGroup ctx g { e with fau := c32 e.fau, first := if e.fau = 0 then cause else e.first, live := e.live - 1 }) ∧
    exec (.memberTerminalUpdate ctx inc g 2 cause) s = .next (s.setGroup ctx g { e with can := c32 e.can, live := e.live - 1 })) ∧
  (∀ how cause, e.live = 1 → e.st = .active → ∃ u, exec (.memberTerminalUpdate ctx inc g how cause) s = .next u ∧
    (u.group ctx g).st = .idle ∧ (u.group ctx g).use = (e.use + 1) % 65536 ∧ (u.group ctx g).cancelling = false ∧
    ∃ p ∈ u.agenda, p.ev = .completionNotice ctx inc g s.time) ∧
  (∀ who midx, e.live + e.reservedSum + 1 ≤ 16777215 → e.cancelling = false → e.st = .idle ∨ e.st = .active →
    exec (.groupRequestAtScheduler ctx inc g .join who midx) s =
      .next (((s.setGroup ctx g (e.join 1)).setMember who midx (some g)).groupReply ctx inc g who false midx (.joined midx g))) ∧
  (∀ who midx, e.cancelling = true ∨ e.st = .cutting ∨ e.st = .cut → exec (.groupRequestAtScheduler ctx inc g .join who midx) s =
    .next (s.groupReply ctx inc g who true midx (.joined midx g))) ∧
  (∀ who midx c, exec (.groupRequestAtScheduler ctx inc g (.cap c) who midx) s =
    .next ((s.setGroup ctx g { e with cap := c }).groupReply ctx inc g who false 0 .plain)) ∧
  (∀ who midx, exec (.groupRequestAtScheduler ctx inc g .query who midx) s = .next (s.groupReply ctx inc g who false 0 .plain)) ∧
  (∀ name uid sub, s.staleHome ctx inc name = false → e.st = .cutting → 1 < e.marks → s.failedRicks.contains (s.homeOf ctx name) = false →
    let h := s.homeName ctx inc name
    exec (.cutMarkAtHome ⟨ctx, inc⟩ ⟨g, e.use⟩ name uid sub) s =
      .next ((s.setHome { h with marks := h.marks ++ [⟨uid + 1, sub, h.next, g⟩] }).setGroup ctx g { e with marks := e.marks - 1 })) ∧
  (∀ use name uid sub, s.staleHome ctx inc name = false → use ≠ e.use → exec (.cutMarkAtHome ⟨ctx, inc⟩ ⟨g, use⟩ name uid sub) s = .next s) ∧
  (e.st = .cutting → e.ordered = false → e.marks = 0 → ∃ u, exec (.cutMarksConfirmed ⟨ctx, inc⟩ ⟨g, e.use⟩) s = .next u ∧
    u.group ctx g = { e with ordered := true }) ∧
  (∀ name uid sub, s.staleHome ctx inc name = false → e.st = .cutting → e.writes ≠ 0 → (s.homeName ctx inc name).marks = [] →
    exec (.cutRecordWrite ⟨ctx, inc⟩ ⟨g, e.use⟩ name uid sub) s = .next (s.setGroup ctx g { e with writes := e.writes - 1 })) ∧
  (∀ u i who midx, s.instOf who.site who.slot = some (u, i) → i.groups.getD midx none = some g → 1 < e.live →
    exec (.groupRequestAtScheduler ctx inc g .leave who midx) s = .next
      (((s.setGroup ctx g { e with live := e.live - 1, saving := e.saving.erase u }).setMember who midx none).groupReply ctx inc g who false midx (.left g))) ∧
  (s.cutReady ctx g = true → e.live ≠ 0 → e.sent = false → ∃ u, exec (.cutComplete ctx g) s = .next u ∧ (u.group ctx g).sent = true ∧
    (u.group ctx g).st = .cutting) ∧
  (∀ s1 l, s.cutReady ctx g = true → e.live ≠ 0 → e.sent = true → e.cancelLater = false →
    let held := s.incAt (agSched (schedOf ctx g)) ctx
    s.sysWrite (schedOf ctx g) ctx held e.base (e.cutBytes g) = (s1, .ok l) →
    exec (.cutComplete ctx g) s = .next ((s1.setGroup ctx g { e with st := .cut, written := e.written ++ [(0, e.cutBytes g)] }).cutEvent
      ctx held g e.cutList.length))

/-- R270: what a barrier's home does with a BINIT, an arrival and a BWAIT, by its state and the class of the phase that the request names; a phase
is completed as R271 gives, and who asked gets the status word of R272. -/
def Obligations.BarrierEvents : Prop := ∀ (s : State) (r : BarReq),
  s.staleHome r.ctx r.inc (barName r.id 0) = false → s.failedRicks.contains (s.barHome r.ctx r.id) = false → r.phase < 2 ^ 32 →
  let bar (u : State) := u.bar r.ctx r.inc r.id
  let put (b : Bar) := (s.setBar r.ctx r.id b).completeBar r.ctx r.inc r.id 2
  let waits (b : Option Bar) (refused : Option FKind) (done : Bool) (sub : Nat) (land : Word) (u : State) :=
    u.barReply r (barStatus b refused done false) (.bwait r.id sub land r.phase refused done r.orig)
  (bar s = none →
    (∀ n, (s.roomFor (s.barHome r.ctx r.id) 0 1).2.ok = true → ∃ u, exec (.binitAtHome r n) s = .next u ∧ bar u = some ⟨r.inc, n, 0, 0, 0, 0, 0⟩) ∧
    exec (.arrivalAtHome r) s = .next (s.refuseArrival r none .barcount) ∧
    (∀ sub land, r.who.dst ≠ Reg.dead → exec (.bwaitAtHome r sub land) s = .next (waits none (some .barcount) false sub land s))) ∧
  (∀ b, bar s = some b → b.phase < 2 ^ 32 →
    let d := (r.phase + 2 ^ 32 - b.phase) % 2 ^ 32
    (∀ n, n < b.ahead → exec (.binitAtHome r n) s = .next (s.barReply r (barStatus (some b) (some .barcount) false false) .plain)) ∧
    (∀ n, b.ahead ≤ n → let u := put { b with count := n }
      exec (.binitAtHome r n) s = .next (u.1.barReply r (barStatus (bar u.1) none u.2 false) .plain)) ∧
    (∀ n, b.ahead ≤ n → b.arr < n → bar (put { b with count := n }).1 = some { b with count := n }) ∧
    (d = 0 → let u := put { b with arr := b.arr + 1 }
      exec (.arrivalAtHome r) s = .next (u.1.barReply r (barStatus (bar u.1) none u.2 false) .plain) ∧
      (b.arr + 1 < b.count → bar u.1 = some { b with arr := b.arr + 1 } ∧ u.2 = false) ∧
      (b.arr + 1 = b.count → b.ahead < b.count → u.2 = true ∧
        bar u.1 = some { b with phase := (b.phase + 1) % 2 ^ 32, arr := b.ahead, ahead := 0, w0 := b.w1, w1 := 0 })) ∧
    (d = 1 → b.ahead ≠ b.count → exec (.arrivalAtHome r) s =
      .next ((s.setBar r.ctx r.id { b with ahead := b.ahead + 1 }).barReply r (barStatus (some b) none false true) .plain)) ∧
    (d = 1 → b.ahead = b.count → exec (.arrivalAtHome r) s = .next (s.refuseArrival r (some b) .barcount)) ∧
    (2 ≤ d → exec (.arrivalAtHome r) s = .next (s.refuseArrival r (some b) .barphase)) ∧
    (∀ sub land, r.who.dst ≠ Reg.dead →
      (d = 0 → exec (.bwaitAtHome r sub land) s = .next (waits (some b) none false sub land (s.setBar r.ctx r.id { b with w0 := b.w0 + 1 }))) ∧
      (d = 1 → exec (.bwaitAtHome r sub land) s = .next (waits (some b) none false sub land (s.setBar r.ctx r.id { b with w1 := b.w1 + 1 }))) ∧
      (2 ^ 31 ≤ d → exec (.bwaitAtHome r sub land) s = .next (waits (some b) none true sub land s)) ∧
      (2 ≤ d → d < 2 ^ 31 → exec (.bwaitAtHome r sub land) s = .next (waits (some b) (some .barphase) false sub land s))))

/-- R279, R280, R282, R284 to R287, R291, R295 to R297: what the governor does with requests, notices, deadlines, decisions and points: where the
points that the steps need keep within the cap, these are what it requests, but for a domain held at OP0 (R390). -/
def Obligations.StepEvents : Prop := ∀ (s : State) (ctx inc : Nat), s.stale agGov ctx inc = false →
  let x := s.ctx ctx
  (∀ who g t0 dl id, (List.range 16).find? (fun id => (s.stepAt ctx inc id).isNone) = some id →
    exec (.stepRequestAtGovernor ctx inc (.open_ g t0 dl) who) s =
      .next (((s.setCtx ctx { x with nseq := (x.nseq + 1) % 2 ^ 28 }).setStep ctx id
        { inc := inc, open_ := true, seq := x.nseq, group := g, dl := dl, t0 := t0, outcome := .pending, done := 0, risked := false, copies := 0,
          slack := none, why := 0, dom := 0 }).nameReply who ctx inc (id * 2 ^ 48 + x.nseq * 2 ^ 20))) ∧
  (∀ who g t0 dl, (∀ id < 16, (s.stepAt ctx inc id).isSome = true) →
    exec (.stepRequestAtGovernor ctx inc (.open_ g t0 dl) who) s = .next (s.nameReply who ctx inc 352)) ∧
  (∀ who id seq, s.openStep ctx inc id seq = none → exec (.stepRequestAtGovernor ctx inc (.close id seq) who) s = .next (s.nameReply who ctx inc 352)) ∧
  (∀ who id seq e, s.openStep ctx inc id seq = some e → exec (.stepRequestAtGovernor ctx inc (.close id seq) who) s =
    .next ((s.stepEvent ctx inc id { e with open_ := false } 4).nameReply who ctx inc (stepHandle id seq + e.outcome.ctorIdx * 2 ^ 10))) ∧
  (∀ who id seq e, s.openStep ctx inc id seq = some e → exec (.stepRequestAtGovernor ctx inc (.slack id seq) who) s =
    .next (s.nameReply who ctx inc (BitVec.ofInt 64 (e.report s.time)).toNat)) ∧
  (∀ who id seq, s.openStep ctx inc id seq = none → exec (.stepRequestAtGovernor ctx inc (.slack id seq) who) s = .next (s.nameReply who ctx inc (2 ^ 63))) ∧
  (∀ g stamp, ∃ u, exec (.completionNotice ctx inc g stamp) s = .next u ∧ ∀ id < 16, ∀ e, s.stepAt ctx inc id = some e → e.open_ = true →
    e.group = g → e.t0 < stamp → e.done = 0 → ∃ e', u.stepAt ctx inc id = some e' ∧ e'.done = stamp ∧
      e'.outcome = (if e.outcome = .pending ∧ stamp ≤ e.dl then .met else e.outcome)) ∧
  (∀ name e, s.stepAt ctx inc (name.extractLsb' 48 4).toNat = some e → e.seq = (name.extractLsb' 20 28).toNat →
    e.open_ = true ∨ 1 < e.copies → exec (.copyDeliveredReport ctx inc name) s =
      .next (s.setStep ctx (name.extractLsb' 48 4).toNat { e with copies := e.copies - 1 })) ∧
  (∀ name e, s.stepAt ctx inc (name.extractLsb' 48 4).toNat = some e → e.seq = (name.extractLsb' 20 28).toNat →
    e.open_ = false → e.copies ≤ 1 → exec (.copyDeliveredReport ctx inc name) s =
      .next { s with steps := KMap.del s.steps (16 * ctx + (name.extractLsb' 48 4).toNat) }) ∧
  (∀ id b e, s.deadlineDue ctx id b = true → s.stepAt ctx (s.ctx ctx).inc id = some e → s.noticesIn ctx (s.ctx ctx).inc e = true →
    ∃ u, exec (.deadlineCheck ctx id b) s = .next u ∧ ∃ e', KMap.get? u.steps (16 * ctx + id) = some e' ∧ e'.outcome = .missed) ∧
  (s.boundary ≤ s.time →
    let t := { s with mgmt := { s.mgmt with modcap := s.mgmt.modcapNext, defop := s.mgmt.defopNext } }
    let tab := t.stepLoads
    let need := t.needPoints (deadlinePoints tab s.boundary).1
    let due (d m : Nat) := ∃ l ∈ tab, ∃ p ∈ l.loads, p.2.num ≠ 0 ∧ domainOf p.1 = d ∧
      m = (pointFor (bigL tab l.ent.dl p.1) ((l.ent.dl : Int) - s.boundary)).1
    ∃ u, exec (.governorDecision s.boundary) s = .next u ∧ u.boundary = s.boundary + 8000 ∧
      (∀ d m, KMap.get? u.opReq d = some m → d < 128 ∧ m ≠ s.opOf d) ∧
      (∀ k e, s.steps = [(k, e)] → e.open_ = true → e.outcome = .pending → underCap (t.predict need) 0 s.mgmt.modcapNext = true →
        let op := (need.zip (List.range 128)).map (fun (m, d) => if s.mgmt.held.contains d then 0 else m)
        let v := slackOf tab op s.boundary (t.loadOf k e)
        ∃ e', KMap.get? u.steps k = some e' ∧ e'.slack = some v ∧ e'.risked = decide (v < 0)) ∧
      ∀ d < 128,
        ((∃ m, due d m) → due d (need.getD d 0) ∧ ∀ m, due d m → m ≤ need.getD d 0) ∧
        ((¬∃ m, due d m) → need.getD d 0 = if (s.busy ++ s.candidateDomains).contains d then s.mgmt.defopNext else 0) ∧
        (underCap (t.predict need) 0 s.mgmt.modcapNext = true →
          let p := if s.mgmt.held.contains d then 0 else need.getD d 0
          KMap.get? u.opReq d = if p = s.opOf d then none else some p)) ∧
  (∀ (l : Frac) (t : Int) m, m < 16 →
    (fits l m 95 t = true → (∀ n < m, fits l n 95 t = false) → pointFor l t = (m, false)) ∧
    ((∀ n < 16, fits l n 95 t = false) → pointFor l t = (15, !(fits l 15 100 t)))) ∧
  (∀ dom m, KMap.get? s.opReq dom = some m → ∃ u, exec (.opChangeComplete dom) s = .next u ∧
    u.ops = KMap.set s.ops dom m ∧ u.opReq = KMap.del s.opReq dom ∧
    ((∀ p ∈ s.slots, p.2.slewAway = none) →
      u.slots = s.slots.map (fun p => (p.1, if domainOf (p.1 / 4) = dom then s.countCycles (p.1 / 4) p.2 else p.2))))

/-! ### C class: contexts; LSEND; their events -/

/-- R318 to R324: CTXK, RECLM, CTXR and EVICT refuse bits [63:8] of read(A) with RSVFIELD; else they leave their register pending and are answered
with CTXSTATE or INCSTALE where the context is not as they need it, and otherwise kill, await, start, free or evict it. CHKP.now has
the dirty blocks of the slot written and awaits that; CHKP.bgon and CHKP.bgoff answer at once. -/
def Obligations.ContextSyllables : Prop := ∀ (h : Hdr) (f : RRR) (s : State), s.guard h = true →
  let a := s.readS 32 f.a
  let b := s.readS 24 f.b
  let d := dstS f.d
  let c := a.toNat
  let s1 := s.setCur (s.cur.await d)
  let w := s1.asker d
  let x := s1.ctx c
  let wrong (i : Instr) := exec i s = .next (s1.ctxReply w c (FKind.cause .ctxstate 0) 0)
  (256 ≤ c → ∀ i ∈ [Instr.ctxk h f, .reclm h f, .ctxrStart h f, .ctxrFree h f, .evict h f, .evictUnbind h f],
    exec i s = .next (takeTrap ⟨.rsvfield, 0, a⟩ s)) ∧
  (c < 256 →
    (c = s.cur.sys.ctxid ∨ x.st ≠ .active → wrong (.ctxk h f)) ∧
    (c ≠ s.cur.sys.ctxid → x.st = .active → b.getLsbD 12 = true → b.toNat % 4096 ≠ x.inc →
      exec (.ctxk h f) s = .next (s1.ctxReply w c (FKind.cause .incstale 0) 0)) ∧
    (c ≠ s.cur.sys.ctxid → x.st = .active → b.getLsbD 12 = false ∨ b.toNat % 4096 = x.inc →
      exec (.ctxk h f) s = .next (s1.killCtx c w) ∧ ((s1.killCtx c w).ctx c).st = .killed ∧
      ((s1.killCtx c w).ctx c).inc = (x.inc + 1) % 4096 ∧ ((s1.killCtx c w).ctx c).killWho = some w) ∧
    (x.st ≠ .killed → x.st ≠ .reclaimed → wrong (.reclm h f)) ∧
    (x.st = .killed → exec (.reclm h f) s = .next (s1.setCtx c { x with reclWho := x.reclWho ++ [w] })) ∧
    (x.st = .reclaimed → exec (.reclm h f) s = .next (s1.ctxReply w c 0 x.drops)) ∧
    (x.st ≠ .free → x.st ≠ .reclaimed → wrong (.ctxrStart h f)) ∧
    (x.st = .free ∨ x.st = .reclaimed → ∃ t rel, exec (.ctxrStart h f) s = .next t ∧ (t.ctx c).st = .creating ∧ (t.ctx c).prev = x.st ∧
      t.agenda.getLast? = some ⟨s.time, 0, .descriptorReadDone c w.1 w.2.1 w.2.2 b.toNat, some rel, [], [], []⟩) ∧
    (x.st ≠ .reclaimed → wrong (.ctxrFree h f)) ∧
    (x.st = .reclaimed → exec (.ctxrFree h f) s = .next (((s1.setCtx c { x with st := .free }).ctxReply w c 0 0).ctxEvent w 4 c 0)) ∧
    (x.st ≠ .active → ∀ i ∈ [Instr.evict h f, .evictUnbind h f], exec i s = .next (s1.send 0
      (.interlockedResultLand w.1.site w.1.slot w.2.1 w.2.2 d (BitVec.ofNat 1024 (FKind.cause .ctxstate 0)) .plain))) ∧
    (x.st = .active → ∀ i ∈ [Instr.evict h f, .evictUnbind h f], ∃ t, exec i s = .next t ∧ t.ctxs = s.ctxs ∧
      ∀ p ∈ s1.placedIn c b, ∃ e ∈ t.agenda, e.ev = .saveOrderAtTile p.1 .evict)) ∧
  exec (.chkpNow h f) s = .next (s.setCur { s.cur.await d with chkp := s.cur.chkp ++ [(d, s.dirtyBlocks s.iss.site s.iss.slot, 0)] }) ∧
  exec (.chkpBgon h f) s = .next ((s.setCur { s.cur with bg := true }).selfReply d 0 .plain) ∧
  exec (.chkpBgoff h f) s = .next ((s.setCur { s.cur with bg := false }).selfReply d 0 .plain)

/-- R30, R298 to R301, R310 to R313, R317: what starting, killing and reclaiming do to a context, and a refill to the token buckets of a tile. That each
message under way and each open window of records counts as one drop is the model's reading (log 25). -/
def Obligations.ContextEvents : Prop := ∀ (s : State) (c : Nat),
  let x := s.ctx c
  (∀ agent, x.st = .killed → x.told.contains agent = false → ∃ u, exec (.incarnationBroadcast agent c) s = .next u ∧
    (u.ctx c).told = x.told ++ [agent] ∧ (u.ctx c).st = .killed ∧ ∃ p ∈ u.agenda, p.ev = .sweepDone agent c (s.itemsAt agent c x.inc)) ∧
  (∀ agent drops, x.st = .killed → x.swept.contains agent = false →
    exec (.sweepDone agent c drops) s = .next (s.setCtx c { x with swept := x.swept ++ [agent], drops := x.drops + drops })) ∧
  (x.st = .killed → x.linkUse = true → x.fenceOk = false → (∀ l < 74, x.told.contains (agLink l) = true) → x.fence + 1000000 ≤ s.time →
    exec (.linkFenceExpire c) s = .next (s.setCtx c { x with fenceOk := true })) ∧
  (s.reclaimReady c = true → ∃ u, exec (.reclaim c) s = .next u ∧ (u.ctx c).st = .reclaimed ∧ (u.ctx c).reclWho = [] ∧
    ∀ w ∈ x.reclWho, ∃ p ∈ u.agenda, p.ev =
      .interlockedResultLand w.1.site w.1.slot w.2.1 w.2.2 w.1.dst (BitVec.ofNat 1024 (u.ctxStatus c 0 ((s.purge c).ctx c).drops)) .plain) ∧
  (∀ (who : Asker) issuer inc va, x.st = .creating → x.startWho = none → s.stale (agSched (fieldOf who.site)) issuer inc = true →
    exec (.descriptorReadDone c who issuer inc va) s = .next ((s.setCtx c { x with st := x.prev }).drop issuer)) ∧
  (∀ (who : Asker) issuer inc va, x.st = .creating → x.startWho = none → s.stale (agSched (fieldOf who.site)) issuer inc = false →
    (va % 64 ≠ 0 → exec (.descriptorReadDone c who issuer inc va) s =
      .next ((s.setCtx c { x with st := x.prev }).ctxReply (who, issuer, inc) c (FKind.cause .aligng 2) 0)) ∧
    (∀ s1 bs, va % 64 = 0 → s.sysRead (fieldOf who.site) issuer inc va 64 = (s1, .ok bs) →
      let d := descOf (dwords bs)
      (s1.descCause c d ≠ 0 → exec (.descriptorReadDone c who issuer inc va) s =
        .next ((s1.setCtx c { s1.ctx c with st := x.prev }).ctxReply (who, issuer, inc) c (s1.descCause c d) 0)) ∧
      (s1.descCause c d = 0 → ∃ u, exec (.descriptorReadDone c who issuer inc va) s = .next u ∧
        (u.ctx c).toBind = s1.sitesIn d.fields ∧ (u.ctx c).slot = d.slot ∧ (u.ctx c).priv = d.priv ∧ (u.ctx c).share = d.share ∧
        (u.ctx c).startWho = some (who, issuer, inc) ∧ ∀ p ∈ u.queues, p.1 / 64 ≠ c))) ∧
  (∀ site, x.toBind.contains site = true → ∃ u, exec (.bindingInstall site c) s = .next u ∧ (u.slotAt site x.slot).bound = some (c, x.inc) ∧
    (u.slotAt site x.slot).sys.privc = x.priv ∧ (u.slotAt site x.slot).sys.baseA = x.baseA ∧ (u.slotAt site x.slot).sys.sizeA = x.sizeA ∧
    (u.slotAt site x.slot).sys.share = x.share ∧ (u.ctx c).toBind = x.toBind.erase site ∧ KMap.get? (u.tileAt site).tokens c = some 0) ∧
  (∀ w, x.startWho = some w → x.st = .creating → x.toBind = [] → exec (.bindingsAcknowledged c) s =
    .next (((s.setCtx c { x with st := .active, startWho := none }).ctxReply w c 0 0).ctxEvent w 1 c 0)) ∧
  (∀ agent, s.refillDue agent = false → exec (.tokenRefill agent) s = .next s) ∧
  (∀ agent, s.refillDue agent = true → ∃ u, exec (.tokenRefill agent) s = .next u ∧ ∀ d ∈ s.boundTo agent,
    let cap := if agent < 6144 then 65536 else 1638400
    let old := s.tokensAt agent d
    let sum := (s.boundTo agent).foldl (fun n c => if s.portWaits agent c then n + s.shareOf agent c else n) 0
    let g := cap * s.shareOf agent d / sum
    u.tokensAt agent d = if s.portWaits agent d then min (old + g) (2 * g) else min old (s.shareOf agent d * cap / 256)) ∧
  (s.reclaimReady c = true → ∀ u, exec (.reclaim c) s = .next u → (u.ctx c).drops = x.drops +
    (s.agenda.filter (fun p => decide (ctxOfEv s p.ev = some c))).length + (s.windows.filter (fun w => decide (w.ctx = c))).length ∧
    ∀ i, u.estOf c i = ⟨i.kern.cost, 1⟩)

/-- R225, R226, R304 to R307, R309, R324, R353, R391: how an instance is saved, restored, moved and written in the background, how a CHKP.now goes
on between events, and how a tile freezes. Which of two save orders prevails is the model's reading (log 31), as is the kept copy of what the spec says
the record holds (log 11). -/
def Obligations.SaveEvents : Prop := ∀ (s : State) (uid site slot : Nat) (i : Inst), s.inst uid = some i →
  let x := s.slotAt site slot
  (∀ why, i.place = some (site, slot) → s.stale (agSite site 0) i.ctx i.inc = false → x.inst = some uid → x.st ≠ .placed → x.st ≠ .faulted →
    x.cancelReq = none → x.exits = false → ∃ u, exec (.saveOrderAtTile uid why) s = .next u ∧
      (u.slotAt site slot).stopReq = some (strongerSave x.stopReq why) ∧ (u.slotAt site slot).inst = some uid) ∧
  (∀ why, i.place = some (site, slot) → x.stopReq = some why → x.inst = some uid → s.stoppable site slot = true →
    (∀ s0, s.takeRec (fieldOf site) i = (s0, .full) → exec (.evictionComplete uid) s = .next (s0.saveFailed site slot uid why)) ∧
    (∀ s0 k va, s.takeRec (fieldOf site) i = (s0, .fault k va) →
      exec (.evictionComplete uid) s = .next ((s0.saveFault site slot k va).saveFailed site slot uid why)) ∧
    (∀ s0 h s3 l, s.takeRec (fieldOf site) i = (s0, .got h) →
      let s2 := s0.stopForSave site slot
      s2.writeParts (fieldOf site) i.ctx i.inc (s2.recAddr (s2.slotAt site slot) i.ctx h) (s2.recordParts site slot i.kern.acc) = (s3, .ok l) →
      let y := (s3.moveSubs site slot).slotAt site slot
      exec (.evictionComplete uid) s = .next ((s3.moveSubs site slot).saved site slot uid i
        { y with dirty := (List.range 10).filter (fun w => (s2.tileAt site).lentTo slot w) } why h (16 + (s2.dirtyBlocks site slot).length)))) ∧
  (∀ k h v s1 l parts, i.kept = some k → i.rec_ = some (h, v) → x.inst = some uid → s.restoreReady site slot = true →
    s.readRecord (fieldOf site) i.ctx i.inc (s.recAddr x i.ctx h) (restoreParts x i.lent.length i.kern.acc) [] = (s1, .ok l, parts) →
    let part (o : Nat) : List Byte := ((parts.find? (fun p => decide (p.1 = o))).map (·.2)).getD []
    ∃ u, exec (.restore uid site slot) s = .next u ∧ u.inst uid = some { i with rec_ := none, kept := none } ∧
      ∀ r, 0 < r → r < 64 → (u.slotAt site slot).f.getA r = BitVec.ofNat 64 (bytesWord (((part 0x100).drop (8 * r)).take 8))) ∧
  (∀ k h v f va s1 parts, i.kept = some k → i.rec_ = some (h, v) → x.inst = some uid → s.restoreReady site slot = true →
    s.readRecord (fieldOf site) i.ctx i.inc (s.recAddr x i.ctx h) (restoreParts x i.lent.length i.kern.acc) [] = (s1, .fault f va, parts) →
    exec (.restore uid site slot) s = .next (s1.restoreFail site slot uid i (restoreKind f) va)) ∧
  (∀ a b, i.place = some (site, slot) → x.inst = some uid → x.stopReq = none →
    exec (.migrate uid a b) s = .next (s.send (tileChan site) (.saveOrderAtTile uid (.move a b)))) ∧
  (∀ d bs n r s0 v, s.chkpReady site slot = true → x.chkp = (d, bs, n) :: r → s.instOf site slot = some (uid, i) → s.takeRec (fieldOf site) i = (s0, v) →
    (v = .full → (Cand.chkp site slot).run s = .next (s0.chkpEnd site slot d 0xFFFFFFFF)) ∧
    (∀ k va, v = .fault k va → (Cand.chkp site slot).run s = .next ((s0.saveFault site slot k va).chkpEnd site slot d 0xFFFFFFFE)) ∧
    (bs = [] → ∀ h, v = .got h → ∃ u, (Cand.chkp site slot).run s = .next (State.chkpEnd u site slot d n))) ∧
  (∀ b r s0 h s2 l, s.bgReady site slot = true → s.instOf site slot = some (uid, i) → s.dirtyBlocks site slot = b :: r →
    s.takeRec (fieldOf site) i = (s0, .got h) →
    (s0.setInst uid { i with rec_ := some (h, match i.rec_ with | some (_, v) => v | none => false) }).writeBlock site slot h b = (s2, .ok l) →
    exec (.backgroundWrite site slot) s = .next s2) ∧
  ((s.tileAt site).freezeReq = true → (s.tileAt site).frozen = false → exec (.freezeOnFault site) s =
    .next ((s.setTileAt site { s.tileAt site with frozen := true, freezeReq := false }).flagDefective site))

/-! ### Links -/

/-- R370 to R372, R377, R382, R392: the states of a link: enabling, quarantine, release, training that ends or not, retries, bursts, losses, and a
switch's reports. That sequence numbers begin afresh with training is the model's reading (log 33), as is the form in which the controller gives a state
(log 20) and what bring-up ends with (log 36). -/
def Obligations.LinkStates : Prop := ∀ (s : State) (l : Nat), s.hasLink l = true →
  let x := s.link l
  let recent := x.trainings.filter (fun t => decide (s.time < t + 1000000000))
  let goes (i : Instr) (y : Link) := exec i s = .next (State.bringUp { s.setLink l y with outbox := s.outbox ++ [.linkState l y.st] })
  let trains (i : Instr) := ∃ u, exec i s = .next u ∧ (u.link l).st = (if 3 ≤ recent.length then .quarantined else .training)
  (x.st = .down → trains (.linkEnable l)) ∧
  (∃ u, exec (.linkQuarantine l) s = .next u ∧ (u.link l).st = .quarantined) ∧
  (x.st = .quarantined → goes (.linkRelease l) { x with st := .down }) ∧
  (x.st = .training → goes (.linkTrainedFull l) { x with st := .up, txSeq := 0, rxSeq := 4095 } ∧
    goes (.linkTrainedReduced l) { x with st := .degraded, txSeq := 0, rxSeq := 4095 }) ∧
  (∀ t, x.st = .training → x.trainings.getLast? = some t → t + 10000000 ≤ s.time →
    goes (.linkTrainingTimeout l) { x with st := .down, retryAt := some (s.time + 100000000) }) ∧
  (∀ t, x.st = .down → x.retryAt = some t → t ≤ s.time → trains (.linkRetry l)) ∧
  (x.usable = true → trains (.errorBurst l)) ∧
  (x.st ≠ .quarantined → ∃ u, exec (.linkLoss l) s = .next u ∧ (u.link l).st = .down) ∧
  (∀ k m, ∃ u, exec (.switchLinkReport k m false) s = .next u ∧ u.swDown.contains (k, m) = true) ∧
  (∀ k m, exec (.switchLinkReport k m true) s = .next { s with swDown := s.swDown.erase (k, m) })

/-- R373 to R376, R378, R380, R381, R388: flits, remote requests and their responses, LSEND segments and verdicts, and their time limits. A flit
of the input queue leaves it as it is handled. The model's own readings are the EVAL of AGEOUT (log 23), that a damaged frame is dropped unheard
(log 27), whom the admission table lets in (log 28), for how long duplicates are known (log 34), and the form of a NAK and of parts (log 51). -/
def Obligations.LinkEvents : Prop := ∀ (s : State) (l : Nat) (f : Flit),
  let x := s.link l
  let gone (p : Nat → Flit → Bool) : State := (s.takeIn p 0).1
  let old (g : LFrame) : Nat := (s.timeBase / 32 + 65536 - g.age % 65536) % 65536
  (2 ≤ l → l < 66 → x.usable = true →
    (f.lcrc ≠ Flit.linkCheck f ∨ f.seq ≠ (x.rxSeq + 1) % 4096 → exec (.flitReceive l f) s = .next (s.setLink l (x.push (nakFlit s ((x.rxSeq + 1) % 4096))))) ∧
    (f.lcrc = Flit.linkCheck f → f.seq = (x.rxSeq + 1) % 4096 → ∃ u, exec (.flitReceive l f) s = .next u ∧ (u.link l).rxSeq = f.seq ∧
      u.inq = (if f.ty < 7 then s.inq ++ [(l, s.time, if f.ty < 3 then { f with reply := none } else f)] else s.inq) ∧
      (∀ g ∈ x.retry, ackCovers f.ack g.seq = false → g ∈ (u.link l).retry) ∧
      (f.ty = 7 → f.nak = true → ∃ more, (u.link l).wire = x.wire ++
        (x.retry.filter (fun g => !(ackCovers f.ack g.seq))).dropWhile (fun g => decide (g.seq ≠ f.tag % 4096)) ++ more))) ∧
  (f.ty = 3 ∨ f.ty = 4 → exec (.ageout f) s = .next ((gone (fun _ g => g == f)).record ⟨f.ctx, f.inc, none⟩
    { kind := .ageout, origin := 2, eval := s.freeW 760 })) ∧
  (f.ty < 3 → exec (.ageout f) s = .next (gone (fun _ g => g == f)).countDropped) ∧
  (∀ e r, s.inq.find? (fun e => e.1 == l && e.2.2 == f) = some e → f.req = some r →
    let s1 : State := { s with inq := s.inq.erase e }
    let age := min 65535 (e.2.2.age + (s.time - e.2.1) / 32)
    (31250 ≤ age → exec (.remoteRequest l f) s = .next s1.countDropped) ∧
    (age < 31250 → MemOp.whole r.op = false → ∃ u, exec (.remoteRequest l f) s = .next u ∧ u.mem = (s1.performAt { r with ctx := 256 }).1.mem) ∧
    (age < 31250 → MemOp.whole r.op = true → ∃ u b, exec (.remoteRequest l f) s = .next u ∧
      u.mem = (s1.performHalf { r with ctx := 256 } b).1.mem ∧
      u.inq.head?.map (fun e => (e.1, e.2.2.req)) = some (l, some { (s1.performHalf { r with ctx := 256 } b).2 with ctx := r.ctx }))) ∧
  (∀ tag r t q, KMap.get? s.out tag = some (t, q) → ∃ s1 : State, s1.out = s.out ∧ s1.mem = s.mem ∧ s1.slots = s.slots ∧
    exec (.remoteResponse tag r) s = .next (State.answer (State.remoteBads { s1 with out := KMap.del s.out tag } q r) q.ctx q.inc q.who r)) ∧
  (∀ tag t q, KMap.get? s.out tag = some (t, q) → t + 2000000 ≤ s.time →
    exec (.remotetmo tag) s = .next (State.remoteFail { s with out := KMap.del s.out tag } q .remotetmo)) ∧
  (∀ g : LFrame, g.srcDomain = s.domainNum ∨ ((∃ i < 8, (s.link (66 + i)).usable = true) ∧ old g < 31250) → LFrame.sound g = true →
    (∀ e ∈ s.seen, e.1 = frameKey g → e.2 + 3000000 ≤ s.time) →
    let is (e : LSendIn) : Bool := decide (e.srcDomain = g.srcDomain ∧ e.srcModule = g.srcModule ∧ e.id = g.id)
    let inc := (s.ctx g.dstCtx).inc
    let age := (s.takeIn (fun _ h => decide (h.ty = 5) && h.seg == some g) g.age).2.1
    let rest := s.lsendIn.filter (fun e => !(is e))
    let new : LSendIn := { srcDomain := g.srcDomain, srcModule := g.srcModule, id := g.id, dctx := g.dstCtx, inc := inc, name := g.name,
                           linger := g.linger, size := g.size, segs := [] }
    (s.admits g = false → ∃ s1 : State, s1.mem = s.mem ∧ s1.homes = s.homes ∧ s1.lsendIn = rest ∧
      exec (.lsendSegmentReceive g) s = .next (s1.sendVerdict g age false)) ∧
    (∀ e, s.admits g = true → s.lsendIn.find? is = some e ∧ e.inc = inc ∨ s.lsendIn.find? is = none ∧ e = new →
      let segs := (e.segs ++ [(64 * g.idx + g.part, g.bytes)]).mergeSort (fun a b => decide (a.1 ≤ b.1))
      let data := segs.flatMap (fun p => p.2)
      (data.length < e.size → ∃ s1 : State, s1.mem = s.mem ∧ s1.homes = s.homes ∧ s1.lsendIn = rest ++ [{ e with segs := segs }] ∧
        exec (.lsendSegmentReceive g) s = .next (s1.sendVerdict g age true)) ∧
      (e.size ≤ data.length → ∃ s1 : State, s1.mem = s.mem ∧ s1.homes = s.homes ∧ s1.lsendIn = rest ∧
        exec (.lsendSegmentReceive g) s = .next ((s1.hedgePublish e.dctx inc e.name e.linger (data.take e.size) 0
          (s.frameRim g)).sendVerdict g age true)))) ∧
  (∀ g : LFrame, g.srcDomain ≠ s.domainNum → (∃ i < 8, (s.link (66 + i)).usable = true) →
    31250 ≤ old g →
    exec (.lsendSegmentReceive g) s = .next (gone (fun _ h => decide (h.ty = 5) && h.seg == some g)).countDropped) ∧
  (∀ id accept n e, let s1 := gone (fun _ g => decide (g.ty = 6) && decide (g.tag = id) && g.accept == accept)
    s1.lsends.find? (fun p => p.2.frames.any (fun f => decide (f.1 = id))) = some (n, e) →
    (accept = false → exec (.lsendVerdict id accept) s = .next (s1.endLsend n (some .sendrej))) ∧
    (accept = true → e.accepted + 1 = e.pieces s.domainNum → exec (.lsendVerdict id accept) s = .next (s1.endLsend n none)) ∧
    (accept = true → e.accepted + 1 ≠ e.pieces s.domainNum → exec (.lsendVerdict id accept) s = .next { s1 with
      lsends := KMap.set s1.lsends n { e with frames := e.frames.filter (fun f => decide (f.1 ≠ id)), accepted := e.accepted + 1 } })) ∧
  (∀ id e, KMap.get? s.lsends id = some e → e.frames ≠ [] → e.t0 + 1000000 ≤ s.time →
    exec (.lsendVerdictTimeout id) s = .next (s.endLsend id (some .linkdown))) ∧
  (∀ port id n, s.resendsDue.find? (fun e => decide (e.1 = port) && decide (e.2.1 = id)) = some (port, id, n) →
    exec (.frameResend port id) s = .next (s.resendFrame n id)) ∧
  (∀ port msg, (s.link (66 + port)).usable = true → ∃ b slave out, exec (.ptpMessage port msg) s = .next { s with
    mgmt := { s.mgmt with ptpSlave := slave, sysTime := b }, outbox := s.outbox ++ out } ∧ (∀ p, slave = some p → p < 8) ∧
    (slave ≠ some port → (b + s.time) % 2 ^ 64 = s.timeBase) ∧ (slave = some port → out = []))

/-! ### The host, management, supply and temperature -/

/-- R242, R370, R382 to R385, R392: what the host does on a usable PCIe link once bring-up is over (the second links of bifurcated ports are ports 2 and 3
on links 74 and 75, log 20): it writes local memory below its size granule by granule, the first or the last one first (log 14); it reads it granule by
granule, it reads the append window and the management registers, and it subscribes to system names, whose copies land in its ring with an interrupt
while its link is usable. An access that is not supported shows in the port's error status (log 58). -/
def Obligations.HostEvents : Prop := ∀ (s : State) (port : Nat),
  let put (s : State) (pa : Nat) (bs : List Byte) := (s.hostMerge port pa bs.length).memPut pa bs
  let refused (i : Instr) := ∃ u, exec i s = .next u ∧ u.outbox = s.outbox ++ [.unsupported port] ∧ (KMap.getD u.mgmt.aer port 0).testBit 20 = true ∧
    u.mem = s.mem
  (s.hostOk port = true ↔ (s.mgmt.ready = true ∨ s.mgmt.recovery = true) ∧ (port < 2 ∧ (s.link port).usable = true ∨
    port = 2 ∧ s.mgmt.bifurcated.contains 0 = true ∧ (s.link 74).usable = true ∨ port = 3 ∧ s.mgmt.bifurcated.contains 1 = true ∧ (s.link 75).usable = true)) ∧
  (s.hostOk port = false → (∀ pa bytes, exec (.hostWrite port ⟨pa, false⟩ bytes) s = .next s) ∧ ∀ bar off n, exec (.hostRead port ⟨bar, off⟩ n) s = .next s) ∧
  (s.hostOk port = true →
    (∀ pa bytes, pa + bytes.length ≤ localSize → (∀ i, i = Instr.hostWrite port ⟨pa, false⟩ bytes ∨ i = .hostWrite port ⟨pa, true⟩ bytes →
      (bytes.length ≤ 64 - pa % 64 → exec i s = .next (put s pa bytes)) ∧
      (64 - pa % 64 < bytes.length → ∃ k, 0 < k ∧ k < bytes.length ∧ (pa + k) % 64 = 0 ∧
        (exec i s = .next ((put s pa (bytes.take k)).hostRest port (.hostWrite port ⟨pa + k, true⟩ (bytes.drop k))) ∧ k ≤ 64 ∨
         exec i s = .next ((put s (pa + k) (bytes.drop k)).hostRest port (.hostWrite port ⟨pa, true⟩ (bytes.take k))) ∧ bytes.length ≤ k + 64)))) ∧
    (∀ pa bytes n, (localSize < pa + bytes.length → refused (.hostWrite port ⟨pa, false⟩ bytes)) ∧
      (localSize < pa + n → refused (.hostRead port ⟨4, pa⟩ n))) ∧
    (∀ pa n, pa % 64 + n ≤ 64 → 0 < n → pa + n ≤ localSize → (s.homeRead 256 0 pa n).2.poison = false → (s.homeRead 256 0 pa n).2.err = none →
      ∃ u, exec (.hostRead port ⟨4, pa⟩ n) s = .next u ∧
        u.outbox = (s.homeRead 256 0 pa n).1.outbox ++ [.completion port (s.homeRead 256 0 pa n).2.data false]) ∧
    (∀ c q, c < 256 → q < 64 → exec (.hostRead port ⟨2, 4096 * c + 64 * q⟩ 8) s = .next { s with
      outbox := s.outbox ++ [.completion port (wordBytes 8 ((s.queue c q).status false)) false] }) ∧
    (∀ off n, n ≠ 8 ∨ off % 64 ≠ 0 → exec (.hostRead port ⟨2, off⟩ n) s = .next { s with
      outbox := s.outbox ++ [.completion port (List.replicate n 0) false] }) ∧
    (exec (.hostRead port ⟨0, 0x08⟩ 8) s = .next { s with outbox := s.outbox ++ [.completion port (wordBytes 8 s.mgmt.modcapNext) false] })) ∧
  (∀ ctx name ring vector, s.hostOk port = true → 0xF0 ≤ spaceOf name → spaceOf name ≤ 0xF5 → 0 < vector → vector ≤ 255 → ctx < 256 →
    ∃ u, exec (.hostSubscriptionRegister port ctx name ring vector) s = .next u ∧
      u.mgmt.hostSubs = s.mgmt.hostSubs ++ [(port, ctx, (s.ctx ctx).inc, name, ring, vector)] ∧ u.agenda.length = s.agenda.length + 1) ∧
  (∀ sub payload ctx inc name ring vector, s.mgmt.hostSubs[sub]? = some (port, ctx, inc, name, ring, vector) → (s.ctx ctx).inc = inc →
    ((s.link (hostLink port)).usable = true →
      ∃ u, exec (.hostEventLanding sub payload) s = .next u ∧ u.outbox = s.outbox ++ [.ring port ring payload, .msix port vector]) ∧
    ((s.link (hostLink port)).usable = false → ∃ t, exec (.hostEventLanding sub payload) s = .next (s.sendAt t 0 (.hostEventLanding sub payload))))

/-- R381, R390 to R393, R395 to R397: what the management controller does with writes of its registers, with the boot flash and with reports, and what the
supply and the temperature do. How long a write of a flash slot takes is free (log 5). -/
def Obligations.ManagementEvents : Prop := ∀ (s : State),
  let m := s.mgmt
  let next (i : Instr) (m' : Mgmt) := exec i s = .next { s with mgmt := m' }
  (∀ v : Word, 4000 ≤ v.toNat % 65536 → v.toNat % 65536 ≤ 32000 → m.low = none → next (.modcapWrite v) { m with modcapNext := v.toNat % 65536 }) ∧
  (∀ v : Word, v.toNat % 65536 < 4000 ∨ 32000 < v.toNat % 65536 → exec (.modcapWrite v) s = .next s) ∧
  (∀ v : Word, next (.defopWrite v) { m with defopNext := v.toNat % 16 }) ∧
  (∀ v : Word, (∀ k < 64, (s.link (2 + k)).st = .down ∨ (s.link (2 + k)).st = .quarantined) → ∃ u, exec (.modnumWrite v) s = .next u ∧
    u.modnum = v.toNat % 1024 ∧ u.domainNum = v.toNat / 1024 % 128 ∧ u.mgmt.modValid = true ∧ u.mgmt.config = some (v.toNat % 131072) ∧ u.tagNum = s.tagNum) ∧
  (∀ v : Word, (∃ k < 64, (s.link (2 + k)).st ≠ .down ∧ (s.link (2 + k)).st ≠ .quarantined) → exec (.modnumWrite v) s = .next s) ∧
  (∀ port, s.hostOk port = true → exec (.tilemapRead port) s = .next { s with
    mgmt := { m with tileIdx := (m.tileIdx + 1) % 384 }, outbox := s.outbox ++ [.completion port (bytesOf 8 (s.tilemap m.tileIdx)) false] }) ∧
  (∀ site, ∃ u, exec (.tilecmdClear site) s = .next u ∧ u.mgmt.defective.contains site = false ∧
    ∀ j, j ≠ site → u.mgmt.defective.contains j = m.defective.contains j) ∧
  (∀ site < 6144, ∀ i ∈ [Instr.tilecmdSet site, .defectiveErrors site], i = .tilecmdSet site ∨ 16 < (KMap.getD s.ueTimes site []).length →
    ∃ u, exec i s = .next u ∧ u.mgmt.defective.contains site = true ∧ ∀ j, j ≠ site → u.mgmt.defective.contains j = m.defective.contains j) ∧
  (∀ site, (KMap.getD s.ueTimes site []).length ≤ 16 → exec (.defectiveErrors site) s = .next s) ∧
  (∀ v : Word, let c := (v.extractLsb' 13 3).toNat
    (c = 0 → exec (.mgmtRegisterWrite 0x30 v) s = exec (.tilecmdClear (v.extractLsb' 0 13).toNat) s) ∧
    (c = 1 → exec (.mgmtRegisterWrite 0x30 v) s = exec (.tilecmdSet (v.extractLsb' 0 13).toNat) s) ∧ (1 < c → exec (.mgmtRegisterWrite 0x30 v) s = .next s)) ∧
  (∀ off (v : Word), 0x100 ≤ off → off < 0x400 → off % 8 = 0 → ∃ l, next (.freezeWrite off v) { m with freeze := l } ∧
    ∀ i, l.contains i = if 8 * (off - 0x100) ≤ i ∧ i < 8 * (off - 0x100) + 64 then v.getLsbD (i % 64) else m.freeze.contains i) ∧
  (∀ off (v : Word), 0x400 ≤ off → off < 0x700 → off % 8 = 0 → ∃ l, next (.dbgWrite off v) { m with dbg := l } ∧
    ∀ i, l.contains i = if 8 * (off - 0x400) ≤ i ∧ i < 8 * (off - 0x400) + 64 then v.getLsbD (i % 64) else m.dbg.contains i) ∧
  (∀ site, ((s.takeBits site).tileAt site).freezeOn = m.freeze.contains site ∧
    ∀ k < 4, ((s.takeBits site).slotAt site k).sys.dbgen = m.dbg.contains site) ∧
  (∀ v : Word, v.toNat ≤ 383 → next (.mgmtRegisterWrite 0x28 v) { m with tileIdx := v.toNat }) ∧
  (∀ nonce, nonce.length = 48 → exec (.attestation nonce) s = .next { s with outbox := s.outbox ++ [.report (m.reportBody nonce ++ Config.ecdsaSign (m.reportBody nonce))] }) ∧
  (m.recovery = false → next .rollup { m with rollback := max m.rollback m.version }) ∧
  (∀ image, m.recovery = false → m.flashing = none → ∃ t, s.time ≤ t ∧ next (.firmwareWrite image) { m with flashing := some (1 - m.running, t, image) }) ∧
  (∀ i d sm sc c, i < 1024 → next (.admissionTableWrite i d sm sc c true) { m with admission := KMap.set m.admission i (d, sm, sc, c) } ∧
    next (.admissionTableWrite i d sm sc c false) { m with admission := KMap.del m.admission i }) ∧
  (let n := m.settle s.time
    ∃ u, exec .moduleReset s = .next u ∧ u.mem = [] ∧ u.ctxs = [] ∧ u.time = 0 ∧ u.disabled = s.disabled ∧ u.mgmt.flashA = n.flashA ∧
    u.mgmt.flashB = n.flashB ∧ u.mgmt.rollback = m.rollback ∧ u.mgmt.ready = false ∧
    (u.powered = true ↔ bootCode n n.flashA = 0 ∨ bootCode n n.flashB = 0) ∧ (u.mgmt.recovery = true ↔ u.powered = false)) ∧
  (∀ slot t image, m.flashing = some (slot, t, image) → let n := m.settle s.time
    (if slot = 0 then n.flashA else n.flashB) = (if t ≤ s.time then image else []) ∧ (if slot = 0 then n.flashB = m.flashB else n.flashA = m.flashA)) ∧
  (m.low = none → next .lowInput { m with low := some m.modcapNext, modcapNext := 16000 }) ∧
  (∀ n, m.low = some n → next .inputRestored { m with low := none, modcapNext := n }) ∧
  (∀ site, ∀ i ∈ [Instr.supplyLoss, .overtempTrip site], ∃ u, exec i s = .next u ∧ u.powered = false ∧ u.discarded = [(0, localSize)] ∧
    u.scratchUndef = [(0, 6144 * 2 ^ 32)] ∧ u.mgmt = s.mgmt ∧ u.time = s.time) ∧
  (∀ site, ∃ u, exec (.hotTile site) s = .next u ∧ u.mgmt.hot.contains site = true) ∧
  (∀ site, ∃ u, exec (.hotTileClear site) s = .next u ∧ u.mgmt.hot.contains site = false) ∧
  (∀ dom, ∃ u, exec (.hotDomainHold dom) s = .next u ∧ u.mgmt.held.contains dom = true ∧
    KMap.get? u.opReq dom = (if s.opOf dom = 0 then none else some 0)) ∧
  (∀ dom, ∃ u, exec (.hotDomainRelease dom) s = .next u ∧ u.mgmt.held.contains dom = false)

/-! ### Whole bundles, every instruction, every state -/

/-- R106: NOP has no effect, and a bit set in its body raises RSVFIELD at decode. -/
def Obligations.NopDoesNothing : Prop :=
  (∀ (h : Hdr) (f : RRR) (s : State), exec (.nop h f) s = .next s) ∧
  (∀ h : Hdr, ∀ body : BitVec 48, h.pred ≠ 0 ∨ h.neg = false →
    let y : Syl := ⟨mkWord 5 0 h body, none⟩
    (body = 0 → decodeSyl y [] = .instr (.nop h ⟨0, 0, 0, 0, 0, 0⟩) []) ∧ (body ≠ 0 → decodeSyl y [] = .rejected .rsvfield))

/-- R104: a computed target of BRI, CALL or RET that is not aligned raises SPALIGN with the target, and its bundle does nothing else; an aligned one is
taken wherever it lies, and a bundle outside the code region raises FETCHRANGE at its own address. LOOP with a count of 0 goes to 2^64 - 1 and branches. -/
def Obligations.ComputedTargets : Prop := ∀ (s : State),
  (∀ (h : Hdr) (f : BrF), s.guard h = true →
    let a := s.readS 40 f.a
    let t := a + f.off.signExtend 64
    let stops (i : Instr) (v : Word) := exec i s = .next (takeTrap ⟨.spalign, 0, v⟩ s)
    (t.toNat % 8 ≠ 0 → stops (.bri h f) t ∧ stops (.callInd h f) t) ∧ (a.toNat % 8 ≠ 0 → stops (.ret h f) a) ∧
    (t.toNat % 8 = 0 → ∃ u v, exec (.bri h f) s = .next u ∧ exec (.callInd h f) s = .next v ∧ u.iss.npc = some t ∧ v.iss.npc = some t) ∧
    (a.toNat % 8 = 0 → ∃ u, exec (.ret h f) s = .next u ∧ u.iss.npc = some a) ∧
    (a = 0 → exec (.loopS h f) s = .next ((s.cResult f.a (BitVec.allOnes 64)).branchTo (s.cur.pc + f.off.signExtend 64) 1))) ∧
  (∀ site slot, let s1 := s.begin_ site slot
    s1.cur.wait ≠ .ways → s1.cur.after = none → s1.cur.codeSize < s1.cur.pc.toNat + 8 → s.tryBundle site slot = takeTrap ⟨.fetchrange, 0, s1.cur.pc⟩ s1 ∧
    (s1.cur.pend = [] → s1.cur.mmag = none → s1.cur.sys.intrap = false → s1.cur.sys.trapbase.getLsbD 63 = true →
      (s.tryBundle site slot).cur.sys.epc = epcOf s1.cur.pc ∧ (s.tryBundle site slot).cur.sys.eval = s1.cur.pc))

/-- R33: a syllable of any class that is guarded off changes no state, raises no fault and does not wait. -/
def Obligations.GuardedOff : Prop := ∀ (i : Instr) (h : Hdr) (s : State), hdrOfInstr i = some h → s.guard h = false → exec i s = .next s

/-- R42: a0 reads 0 and p0 reads 1 in every state, as operand and in the file; what writes them, at once or later, leaves the slot as it is. -/
def Obligations.HardwiredRegisters : Prop := ∀ (s : State) (place lat : Nat) (v : Word) (b : Bool) (f : Files) (x : VReg),
  s.readS place 0 = 0 ∧ s.readP place 0 = true ∧ f.getA 0 = 0 ∧ f.getP 0 = true ∧ f.put (.a 0) x = f ∧ f.put (.p 0) x = f ∧
  (s.sResult 0 v lat).cur = s.cur ∧ (s.cResult 0 v lat).cur = s.cur ∧ (s.pResult 0 b).cur = s.cur ∧ s.cur.await (dstS 0) = s.cur

/-- R33, R49, R51, R93, R95, R101, R102, R116, R118, R119, R126, R132: the frame of the S and V syllables. Where one neither traps nor waits, all that it does to the machine is
to put results on their way to its destination register; flags and the generator go on with the bundle's end. -/
def Obligations.RegisterFrame : Prop := ∀ (h : Hdr) (f : RRR) (g : RRI) (s t : State),
  let only (i : Instr) (ok : Reg → Prop) := exec i s = .next t →
    (∃ k, t = takeTrap k s) ∨ (∃ c, t = holdBundle c id s) ∨
    (Keeps s t ∧ ∃ e : List InFlight, t.cur = { s.cur with infl := s.cur.infl ++ e } ∧ ∀ x ∈ e, ok x.dst ∨ x.dst = .dead)
  (∀ i ∈ [Instr.add h f, .sub h f, .mul h f, .mulh h f, .mulhn h f, .div h f, .divn h f, .remS h f, .remn h f, .andS h f, .orS h f, .xorS h f,
      .andn h f, .shl h f, .shr h f, .sar h f, .rotr h f, .min h f, .minn h f, .max h f, .maxn h f, .clz h f, .popc h f, .bswap h f, .bfx h f,
      .bfxs h f, .bfi h f, .sxt h f, .zxt h f, .crcs h f, .mov h f, .lea h f, .sel h f, .nmake h f, .pget h f, .vmcnt h f, .vext h f],
    only i (fun r => r = dstS f.d)) ∧
  only (.li h g) (fun r => r = dstS g.d) ∧
  (∀ i ∈ [Instr.cmp h f, .pand h f, .por h f, .pxor h f, .pnot h f], only i (fun r => r = .p f.d.toNat)) ∧
  only (.pset h f) (fun r => ∃ n, 0 < n ∧ n < 8 ∧ r = .p n) ∧
  (∀ i ∈ [Instr.vadd h f, .vsub h f, .vmul h f, .vfma h f, .vfms h f, .vimul h f, .vimulh h f, .vmax h f, .vmin h f, .vcmp h f, .vsel h f, .vand h f,
      .vor h f, .vxor h f, .vshl h f, .vshr h f, .vsar h f, .vneg h f, .vabs h f, .vmov h f, .vsplat h f, .vins h f, .vperm h f, .vrot h f,
      .vredadd h f, .vredmax h f, .vredmin h f, .vscan h f, .vpack h f, .vunpk h f, .vcvt h f, .vrint h f, .vscale h f, .vexp2 h f, .vlog2 h f,
      .vrcpa h f, .vrsqa h f, .vdiv h f, .vsqrt h f, .vclass h f, .vrand h f, .vjoin h f],
    only i (fun r => r = dstV f.d))

/-- R49, R135: the end of a bundle writes no global memory, and of the scratchpad only the bytes that the bundle's stores reach through the slot's
windows and lent ways; a single store into window A leaves there the bytes that it was given. -/
def Obligations.BundleStores : Prop := ∀ (s : State), s.iss.done = false →
  let u := endBundle s
  u.mem = s.mem ∧
  (∀ a, Memory.readByte u.scratch a ≠ Memory.readByte s.scratch a → ∃ p bs k, (p, bs, k) ∈ s.iss.wr ∧ ∃ i < bs.length, ∃ b,
    progByte s.cur s.curTile s.iss.slot (p + i) = some b ∧ a = scratchKey s.iss.site b) ∧
  (∀ p bs k, s.iss.wr = [(p, bs, k)] → p + bs.length ≤ s.cur.sys.sizeA → p + bs.length ≤ 0x100000 →
    ∀ i < bs.length, Memory.readByte u.scratch (scratchKey s.iss.site (s.cur.sys.baseA * 4096 + p + i)) = bs.getD i 0)

/-- R40, R49, log 6: where the bundle of the slot that holds issue is one well-formed syllable, nothing else may happen and nothing holds it, the next
step runs that syllable and ends its bundle. -/
def Obligations.StepRunsDecoded : Prop := ∀ (s : State) (site slot : Nat) (it : Item), s.cands = [.bundleIssue site slot] →
  s.issueReady site slot = true → s.alone site slot it → s.unhindered site slot it →
  lateWaitOf it.i (s.aloneAt site slot it) = none ∨ (∃ u, effOf it.i (s.aloneAt site slot it) = .ok u) →
  step s = ended (onNext endBundle (exec it.i (s.aloneAt site slot it)))

/-- R32, R34 to R37, R58: words written out from the encoding tables decode to the instructions that they stand for; a reserved class, an opcode that is
not assigned, and the guard !p0 are refused by name. -/
def Obligations.DecodeWords : Prop :=
  let h0 : Hdr := ⟨false, false, 0⟩
  decodeTableWord 64 0x0010_0909_0B00_0300 = some (.add h0 ⟨0x09, 0x09, 0x0B, 0, 3, 0⟩) ∧
  decodeTableWord 128 0x6000_0000_1234_5678_01D0_0700_0000_0009 = some (.li h0 ⟨7, 0, 9, some ⟨false, 0x12345678⟩⟩) ∧
  decodeTableWord 64 0xB012_080A_0B98_0004 = some (.ld ⟨true, false, 2⟩ ⟨0x08, 0x0A, 0x0B, 2, 6, 0, 0, 4⟩) ∧
  decodeTableWord 64 0xA030_010A_0B02_0000 = some (.mma ⟨true, false, 0⟩ ⟨1, 0x0A, 0x0B, 2, 0, 0⟩) ∧
  decodeTableWord 64 0xC060_0A0B_0C50_0100 = some (.subscribe ⟨true, false, 0⟩ ⟨0x0A, 0x0B, 0x0C, 5, 0, 1, 0⟩) ∧
  decodeTableWord 64 0xD050_0700_FFFF_FFD8 = some (.loopS ⟨true, false, 0⟩ ⟨7, 0, 0xFFFFFFD8⟩) ∧
  decode (bytesOf 8 0xF010_0000_0000_0000) = .rejected .class7 ∧
  decode (bytesOf 8 0xDFF0_0000_0000_0000) = .rejected .badop ∧
  decode (bytesOf 8 0xD008_0000_0000_0000) = .rejected .badguard

/-- R31 to R37: for every well-formed syllable, at every value of its operands, decoding the bytes of its words gives it back with what follows; an
F-RRI owner without an X must not be followed by an X, which it would take. -/
def Obligations.RoundTrip : Prop := ∀ (i : Instr) (rest : List Byte), i.isSyl = true → i.wf = true →
  rest.length < 8 ∨ wK (BitVec.ofNat 64 (wordOfBytes (rest.take 8))) ≠ 6 → decode (bytesOfWords (encode i) ++ rest) = .instr i rest

/-- Every step keeps both memories in their canonical form, whatever happens in it (the model's choice of representation, log 3; R392 for what an
unlisted byte of global memory reads as). -/
def Obligations.StepKeepsCanonical : Prop := ∀ s t : State, s.Canonical → step s = .next t → t.Canonical

/-- R298, R392: what reset leaves: TIME 0, every domain at OP0, every context FREE at incarnation 0, global memory all 0, MODCAP 32 kW, DEFOP 15, no
freeze bit, no binding. READY is still 0, since the PCIe ports train (log 36), and the memories are in their canonical form (log 3). -/
def Obligations.ResetState : Prop :=
  State.reset.Canonical ∧ State.reset.time = 0 ∧ State.reset.mgmt.modcap = 32000 ∧ State.reset.mgmt.defop = 15 ∧ State.reset.mgmt.ready = false ∧
  (∀ d, State.reset.opOf d = 0) ∧ (∀ c, (State.reset.ctx c).st = .free ∧ (State.reset.ctx c).inc = 0) ∧
  (∀ a, Memory.readByte State.reset.mem a = 0) ∧ (∀ site, (State.reset.tileAt site).freezeOn = false) ∧
  (∀ site slot, (State.reset.slotAt site slot).bound = none)

/-- R147 to R149, R146: the way changes and the locks complete. A WAYMASK or WAYGATE of a mask that is allowed begins
a change whose end gives D the former mask, with bit 16 set where a locked line and bit 17 where a poisoned line left the cache, gives the ways that it
takes to the slot, or gates them, and lets the slot go on. LLOCK, LUNLK: as in WaysAndLocks. -/
def Obligations.WaysAndLocksComplete : Prop := ∀ (h : Hdr) (f : RRR) (s : State), s.guard h = true → s.cur.wayChange = [] →
  let a := (s.readS 32 f.a).toNat
  let n := (s.readS 24 f.b).toNat
  let t := s.curTile
  let cache (w : Nat) := s.cacheWay s.iss.site w
  let allowed (cur : Nat) := a < 1024 ∧ (∀ w < 10, a.testBit w = true → cur.testBit w = true ∨ cache w = true) ∧
    2 ≤ ((List.range 10).filter (fun w => cache w && !(a.testBit w))).length
  let going (cur : Nat) := t.lines.filter (fun l => l.filled && (a.testBit l.way && !(cur.testBit l.way)))
  let answer (cur : Nat) := cur + (if (going cur).any (fun l => l.lock.isSome) then 2 ^ 16 else 0) + (if (going cur).any (fun l => l.poison || (l.dirty && s.lineStruck s.iss.site l)) then 2 ^ 17 else 0)
  let completes (i : Instr) (cur : Nat) (taken : WayRole) := ∃ b u, exec i s = .next b ∧ b.cur.wait = .ways ∧ (dstS f.d ≠ .a 0 → dstS f.d ∈ b.cur.pend) ∧
    exec (.wayChangeComplete s.iss.site s.iss.slot) b = .next u ∧ u.cur.wait = .none ∧ u.cur.f = s.cur.f.put (dstS f.d) (BitVec.ofNat 1024 (answer cur)) ∧
    ∀ w < 10, u.curTile.ways.toList.getD w .cache =
      if a.testBit w ∧ cur.testBit w = false then taken else if cur.testBit w ∧ a.testBit w = false then .cache else t.ways.toList.getD w .cache
  (allowed (t.lentMask s.iss.slot) → s.cur.chanInWays .frozen (fun w => (t.lentMask s.iss.slot).testBit w && !(a.testBit w)) = false →
    completes (.waymask h f) (t.lentMask s.iss.slot) (.lent s.iss.slot)) ∧
  (allowed t.gatedMask → completes (.waygate h f) t.gatedMask .gated) ∧
  (waitLlock f s = none → lockPre s a n = none → (∀ va ∈ pagesOf a n, ∃ tr, s.known s.iss.site s.iss.slot va 0 = .ok tr) →
    ∃ u, exec (.llock h f) s = .next u ∧
      ∀ vl ∈ linesOf a n, ∃ l ∈ u.curTile.lines, l.is s.cur.sys.ctxid s.cur.sys.incarn vl = true ∧ l.lock = some s.iss.slot) ∧
  (s.cur.acquiring = 0 → (∀ l ∈ t.lines, l.lock = some s.iss.slot → s.iss.lock0.contains l.vline = true) → ∃ u, exec (.lunlk h f) s = .next u ∧ u.cur.lockLost = false ∧
    ∀ l ∈ u.curTile.lines, overlaps a n l.vline = true → l.lock ≠ some s.iss.slot)
end

