-- ==== Sys2Proof/Laws/Encoding.lean ====
section
/-! SUPPORT. Fields of a syllable word read back what the encoder wrote there (R32, R34, R37). -/

namespace Sys2Proof
open Sys2Proof.Machine
set_option Elab.async false

/-- Every bit of an encoded word. -/
theorem mkWord_bit (k op : Nat) (h : Hdr) (b : BitVec 48) (i : Nat) :
    (mkWord k op h b).getLsbD i =
      if i < 48 then b.getLsbD i
      else if i - 48 < 3 then h.pred.getLsbD (i - 48)
      else if i - 48 - 3 < 1 then (bit h.neg).getLsbD (i - 48 - 3)
      else if i - 48 - 3 - 1 < 8 then (BitVec.ofNat 8 op).getLsbD (i - 48 - 3 - 1)
      else if i - 48 - 3 - 1 - 8 < 3 then (BitVec.ofNat 3 k).getLsbD (i - 48 - 3 - 1 - 8)
      else (bit h.last).getLsbD (i - 48 - 3 - 1 - 8 - 3) := by
  show BitVec.getLsbD (bit h.last ++ BitVec.ofNat 3 k ++ BitVec.ofNat 8 op ++ bit h.neg ++ h.pred ++ b) i = _
  rw [BitVec.getLsbD_append, BitVec.getLsbD_append, BitVec.getLsbD_append, BitVec.getLsbD_append, BitVec.getLsbD_append]

theorem XExt.word_bit (x : XExt) (i : Nat) :
    x.word.getLsbD i =
      if i < 60 then x.xv.getLsbD i else if i - 60 < 3 then (6#3).getLsbD (i - 60) else (bit x.last).getLsbD (i - 60 - 3) := by
  show BitVec.getLsbD (bit x.last ++ 6#3 ++ x.xv) i = _
  rw [BitVec.getLsbD_append, BitVec.getLsbD_append]

theorem bit_zero (b : Bool) : (bit b).getLsbD 0 = b := by cases b <;> rfl

theorem wBody_mkWord (k op : Nat) (h : Hdr) (b : BitVec 48) : wBody (mkWord k op h b) = b := by
  apply BitVec.eq_of_getLsbD_eq
  intro i hi
  rw [wBody, BitVec.getLsbD_extractLsb', mkWord_bit]
  simp [hi]

theorem wK_mkWord (k op : Nat) (h : Hdr) (b : BitVec 48) : wK (mkWord k op h b) = k % 8 := by
  have : (mkWord k op h b).extractLsb' 60 3 = BitVec.ofNat 3 k := by
    apply BitVec.eq_of_getLsbD_eq
    intro i hi
    rw [BitVec.getLsbD_extractLsb', mkWord_bit, if_neg (by omega), if_neg (by omega), if_neg (by omega), if_neg (by omega), if_pos (by omega),
      show 60 + i - 48 - 3 - 1 - 8 = i by omega]
    simp [hi]
  rw [wK, this, BitVec.toNat_ofNat]

theorem wOp_mkWord (k op : Nat) (h : Hdr) (b : BitVec 48) : wOp (mkWord k op h b) = op % 256 := by
  have : (mkWord k op h b).extractLsb' 52 8 = BitVec.ofNat 8 op := by
    apply BitVec.eq_of_getLsbD_eq
    intro i hi
    rw [BitVec.getLsbD_extractLsb', mkWord_bit, if_neg (by omega), if_neg (by omega), if_neg (by omega), if_pos (by omega),
      show 52 + i - 48 - 3 - 1 = i by omega]
    simp [hi]
  rw [wOp, this, BitVec.toNat_ofNat]

theorem wE_mkWord (k op : Nat) (h : Hdr) (b : BitVec 48) : wE (mkWord k op h b) = h.last := by
  rw [wE, mkWord_bit]
  exact bit_zero h.last

theorem wGN_mkWord (k op : Nat) (h : Hdr) (b : BitVec 48) : wGN (mkWord k op h b) = h.neg := by
  rw [wGN, mkWord_bit]
  exact bit_zero h.neg

theorem pred_mkWord (k op : Nat) (h : Hdr) (b : BitVec 48) : (mkWord k op h b).extractLsb' 48 3 = h.pred := by
  apply BitVec.eq_of_getLsbD_eq
  intro i hi
  rw [BitVec.getLsbD_extractLsb', mkWord_bit, if_neg (by omega), if_pos (by omega), show 48 + i - 48 = i by omega]
  simp [hi]

theorem hdrOf_mkWord (k op : Nat) (h : Hdr) (b : BitVec 48) : hdrOf (mkWord k op h b) = h := by
  have h1 := wE_mkWord k op h b
  have h2 := wGN_mkWord k op h b
  rw [wE] at h1
  rw [wGN] at h2
  rw [hdrOf, h1, h2, pred_mkWord]

theorem XExt.ofWord_word (x : XExt) : XExt.ofWord x.word = x := by
  have h1 : x.word.getLsbD 63 = x.last := by
    rw [XExt.word_bit]
    exact bit_zero x.last
  have h2 : x.word.extractLsb' 0 60 = x.xv := by
    apply BitVec.eq_of_getLsbD_eq
    intro i hi
    rw [BitVec.getLsbD_extractLsb', XExt.word_bit, if_pos (by omega), Nat.zero_add]
    simp [hi]
  rw [XExt.ofWord, h1, h2]

theorem XExt.map_ofWord_word (x : Option XExt) : (x.map XExt.word).map XExt.ofWord = x := by
  cases x with
  | none => rfl
  | some y => exact congrArg some y.ofWord_word

/-- A field of a concatenation: the low part, and the part above it. -/
theorem append_low {n m : Nat} (x : BitVec n) (y : BitVec m) : (x ++ y).extractLsb' 0 m = y := by
  apply BitVec.eq_of_getLsbD_eq
  intro i hi
  rw [BitVec.getLsbD_extractLsb', BitVec.getLsbD_append, if_pos (by omega), Nat.zero_add]
  simp [hi]

theorem append_field {n m : Nat} (x : BitVec n) (y : BitVec m) (p w : Nat) :
    (x ++ y).extractLsb' (m + p) w = x.extractLsb' p w := by
  apply BitVec.eq_of_getLsbD_eq
  intro i hi
  rw [BitVec.getLsbD_extractLsb', BitVec.getLsbD_extractLsb', BitVec.getLsbD_append, if_neg (by omega), show m + p + i - m = p + i by omega]

theorem RRR.unpack_pack (f : RRR) : RRR.unpack f.pack = f := by
  have h1 : f.pack.extractLsb' 40 8 = f.d := (append_field _ f.m 32 8).trans ((append_field _ f.t 24 8).trans ((append_field _ f.c 16 8).trans
    ((append_field _ f.b 8 8).trans ((append_field f.d f.a 0 8).trans (BitVec.extractLsb'_eq_self ..)))))
  have h2 : f.pack.extractLsb' 32 8 = f.a := (append_field _ f.m 24 8).trans ((append_field _ f.t 16 8).trans ((append_field _ f.c 8 8).trans
    ((append_field _ f.b 0 8).trans (append_low _ _))))
  have h3 : f.pack.extractLsb' 24 8 = f.b := (append_field _ f.m 16 8).trans ((append_field _ f.t 8 8).trans ((append_field _ f.c 0 8).trans (append_low _ _)))
  have h4 : f.pack.extractLsb' 16 8 = f.c := (append_field _ f.m 8 8).trans ((append_field _ f.t 0 8).trans (append_low _ _))
  have h5 : f.pack.extractLsb' 8 8 = f.t := (append_field _ f.m 0 8).trans (append_low _ _)
  have h6 : f.pack.extractLsb' 0 8 = f.m := append_low _ _
  rw [RRR.unpack, h1, h2, h3, h4, h5, h6]

theorem RRI.unpack_pack (f : RRI) : RRI.unpack f.pack f.x = f := by
  have h1 : f.pack.extractLsb' 40 8 = f.d := (append_field _ f.imm 8 8).trans ((append_field f.d f.a 0 8).trans (BitVec.extractLsb'_eq_self ..))
  have h2 : f.pack.extractLsb' 32 8 = f.a := (append_field _ f.imm 0 8).trans (append_low _ _)
  have h3 : f.pack.extractLsb' 0 32 = f.imm := append_low _ _
  rw [RRI.unpack, h1, h2, h3]

theorem MemF.unpack_pack (f : MemF) : MemF.unpack f.pack = f := by
  have h1 : f.pack.extractLsb' 40 8 = f.d := (append_field _ f.disp 26 8).trans ((append_field _ f.ords 24 8).trans ((append_field _ f.ordk 22 8).trans
    ((append_field _ f.t 18 8).trans ((append_field _ f.sc 16 8).trans ((append_field _ f.idx 8 8).trans
      ((append_field f.d f.base 0 8).trans (BitVec.extractLsb'_eq_self ..)))))))
  have h2 : f.pack.extractLsb' 32 8 = f.base := (append_field _ f.disp 18 8).trans ((append_field _ f.ords 16 8).trans ((append_field _ f.ordk 14 8).trans
    ((append_field _ f.t 10 8).trans ((append_field _ f.sc 8 8).trans ((append_field _ f.idx 0 8).trans (append_low _ _))))))
  have h3 : f.pack.extractLsb' 24 8 = f.idx := (append_field _ f.disp 10 8).trans ((append_field _ f.ords 8 8).trans ((append_field _ f.ordk 6 8).trans
    ((append_field _ f.t 2 8).trans ((append_field _ f.sc 0 8).trans (append_low _ _)))))
  have h4 : f.pack.extractLsb' 22 2 = f.sc := (append_field _ f.disp 8 2).trans ((append_field _ f.ords 6 2).trans ((append_field _ f.ordk 4 2).trans
    ((append_field _ f.t 0 2).trans (append_low _ _))))
  have h5 : f.pack.extractLsb' 18 4 = f.t := (append_field _ f.disp 4 4).trans ((append_field _ f.ords 2 4).trans ((append_field _ f.ordk 0 4).trans (append_low _ _)))
  have h6 : f.pack.extractLsb' 16 2 = f.ordk := (append_field _ f.disp 2 2).trans ((append_field _ f.ords 0 2).trans (append_low _ _))
  have h7 : f.pack.extractLsb' 14 2 = f.ords := (append_field _ f.disp 0 2).trans (append_low _ _)
  have h8 : f.pack.extractLsb' 0 14 = f.disp := append_low _ _
  rw [MemF.unpack, h1, h2, h3, h4, h5, h6, h7, h8]

theorem BrF.unpack_pack (f : BrF) : BrF.unpack f.pack = f := by
  have h1 : f.pack.extractLsb' 40 8 = f.a := (append_field _ f.off 8 8).trans ((append_field f.a f.f 0 8).trans (BitVec.extractLsb'_eq_self ..))
  have h2 : f.pack.extractLsb' 32 8 = f.f := (append_field _ f.off 0 8).trans (append_low _ _)
  have h3 : f.pack.extractLsb' 0 32 = f.off := append_low _ _
  rw [BrF.unpack, h1, h2, h3]

theorem NamF.unpack_pack (f : NamF) : NamF.unpack f.pack = f := by
  have h1 : f.pack.extractLsb' 40 8 = f.n := (append_field _ f.i8 32 8).trans ((append_field _ f.f 24 8).trans ((append_field _ f.t 20 8).trans
    ((append_field _ f.s 16 8).trans ((append_field _ f.b 8 8).trans ((append_field f.n f.a 0 8).trans (BitVec.extractLsb'_eq_self ..))))))
  have h2 : f.pack.extractLsb' 32 8 = f.a := (append_field _ f.i8 24 8).trans ((append_field _ f.f 16 8).trans ((append_field _ f.t 12 8).trans
    ((append_field _ f.s 8 8).trans ((append_field _ f.b 0 8).trans (append_low _ _)))))
  have h3 : f.pack.extractLsb' 24 8 = f.b := (append_field _ f.i8 16 8).trans ((append_field _ f.f 8 8).trans ((append_field _ f.t 4 8).trans
    ((append_field _ f.s 0 8).trans (append_low _ _))))
  have h4 : f.pack.extractLsb' 20 4 = f.s := (append_field _ f.i8 12 4).trans ((append_field _ f.f 4 4).trans ((append_field _ f.t 0 4).trans (append_low _ _)))
  have h5 : f.pack.extractLsb' 16 4 = f.t := (append_field _ f.i8 8 4).trans ((append_field _ f.f 0 4).trans (append_low _ _))
  have h6 : f.pack.extractLsb' 8 8 = f.f := (append_field _ f.i8 0 8).trans (append_low _ _)
  have h7 : f.pack.extractLsb' 0 8 = f.i8 := append_low _ _
  rw [NamF.unpack, h1, h2, h3, h4, h5, h6, h7]

end Sys2Proof
end

