-- ==== Sys2Proof/Laws/KMap.lean ====
section
/-! SUPPORT. Laws of finite maps: a read after a write, and the order of the keys. -/

namespace Sys2Proof.Machine
set_option Elab.async false

variable {α : Type}

@[simp] theorem KMap.get?_set_same (m : KMap α) (k : Nat) (x : α) : KMap.get? (KMap.set m k x) k = some x := by
  induction m with
  | nil => simp [KMap.set, KMap.get?]
  | cons e m ih =>
    obtain ⟨j, y⟩ := e
    rw [KMap.set]
    split
    · simp [KMap.get?]
    · split
      · simp [KMap.get?]
      · rw [KMap.get?, if_neg (by omega), ih]

theorem KMap.get?_set_other (m : KMap α) (k i : Nat) (x : α) (h : i ≠ k) : KMap.get? (KMap.set m k x) i = KMap.get? m i := by
  induction m with
  | nil => simp [KMap.set, KMap.get?, Ne.symm h]
  | cons e m ih =>
    obtain ⟨j, y⟩ := e
    rw [KMap.set]
    split
    · simp [KMap.get?, Ne.symm h]
    · split
      · subst_vars
        simp [KMap.get?, Ne.symm h]
      · simp only [KMap.get?, ih]

@[simp] theorem KMap.get?_del_same (m : KMap α) (k : Nat) : KMap.get? (KMap.del m k) k = none := by
  induction m with
  | nil => rfl
  | cons e m ih =>
    obtain ⟨j, y⟩ := e
    rw [KMap.del]
    split
    · exact ih
    · rw [KMap.get?, if_neg ‹_›, ih]

theorem KMap.get?_del_other (m : KMap α) (k i : Nat) (h : i ≠ k) : KMap.get? (KMap.del m k) i = KMap.get? m i := by
  induction m with
  | nil => rfl
  | cons e m ih =>
    obtain ⟨j, y⟩ := e
    rw [KMap.del]
    split
    · subst_vars
      rw [ih, KMap.get?, if_neg (Ne.symm h)]
    · simp only [KMap.get?, ih]

@[simp] theorem KMap.getD_set_same (m : KMap α) (k : Nat) (x d : α) : KMap.getD (KMap.set m k x) k d = x := by
  simp [KMap.getD]

theorem KMap.getD_set_other (m : KMap α) (k i : Nat) (x d : α) (h : i ≠ k) : KMap.getD (KMap.set m k x) i d = KMap.getD m i d := by
  simp [KMap.getD, KMap.get?_set_other m k i x h]

theorem KMap.risesFrom_mono (m : KMap α) {lo lo' : Nat} (hl : lo' ≤ lo) (h : KMap.risesFrom lo m = true) : KMap.risesFrom lo' m = true := by
  cases m with
  | nil => rfl
  | cons e m =>
    obtain ⟨j, y⟩ := e
    simp only [KMap.risesFrom, Bool.and_eq_true, decide_eq_true_eq] at h ⊢
    exact ⟨by omega, h.2⟩

theorem KMap.risesFrom_set (m : KMap α) (lo k : Nat) (x : α) (hk : lo ≤ k) (h : KMap.risesFrom lo m = true) :
    KMap.risesFrom lo (KMap.set m k x) = true := by
  induction m generalizing lo with
  | nil => simp [KMap.set, KMap.risesFrom, hk]
  | cons e m ih =>
    obtain ⟨j, y⟩ := e
    simp only [KMap.risesFrom, Bool.and_eq_true, decide_eq_true_eq] at h
    rw [KMap.set]
    split
    · simp only [KMap.risesFrom, Bool.and_eq_true, decide_eq_true_eq]
      exact ⟨hk, by omega, h.2⟩
    · split
      · subst_vars
        simp only [KMap.risesFrom, Bool.and_eq_true, decide_eq_true_eq]
        exact ⟨hk, h.2⟩
      · simp only [KMap.risesFrom, Bool.and_eq_true, decide_eq_true_eq]
        exact ⟨h.1, ih (j + 1) (by omega) h.2⟩

theorem KMap.risesFrom_del (m : KMap α) (lo k : Nat) (h : KMap.risesFrom lo m = true) : KMap.risesFrom lo (KMap.del m k) = true := by
  induction m generalizing lo with
  | nil => rfl
  | cons e m ih =>
    obtain ⟨j, y⟩ := e
    simp only [KMap.risesFrom, Bool.and_eq_true, decide_eq_true_eq] at h
    rw [KMap.del]
    split
    · exact KMap.risesFrom_mono _ (by omega) (ih (j + 1) h.2)
    · simp only [KMap.risesFrom, Bool.and_eq_true, decide_eq_true_eq]
      exact ⟨h.1, ih (j + 1) h.2⟩

/-- Values that all satisfy a test still do after a write of one that does, and after a deletion. -/
theorem KMap.all_set (m : KMap α) (k : Nat) (x : α) (p : Nat × α → Bool) (hx : p (k, x) = true) (h : m.all p = true) :
    (KMap.set m k x).all p = true := by
  induction m with
  | nil => simp [KMap.set, hx]
  | cons e m ih =>
    obtain ⟨j, y⟩ := e
    simp only [List.all_cons, Bool.and_eq_true] at h
    rw [KMap.set]
    split
    · simp [hx, h.1, h.2]
    · split
      · simp [hx, h.2]
      · simp only [List.all_cons, Bool.and_eq_true]
        exact ⟨h.1, ih h.2⟩

theorem KMap.all_del (m : KMap α) (k : Nat) (p : Nat × α → Bool) (h : m.all p = true) : (KMap.del m k).all p = true := by
  induction m with
  | nil => rfl
  | cons e m ih =>
    obtain ⟨j, y⟩ := e
    simp only [List.all_cons, Bool.and_eq_true] at h
    rw [KMap.del]
    split
    · exact ih h.2
    · simp only [List.all_cons, Bool.and_eq_true]
      exact ⟨h.1, ih h.2⟩

end Sys2Proof.Machine
end

