-- ==== Sys2Proof/Laws/Memory.lean ====
section
/-! SUPPORT. Laws of memory: every operation keeps the canonical form; a byte read after a write. -/

namespace Sys2Proof.Machine
set_option Elab.async false

theorem Memory.wf_iff (m : Memory) : Memory.wf m = true ↔ KMap.risesFrom 0 m = true ∧ m.all (fun c => decide (c.2 ≠ 0)) = true := by
  rw [Memory.wf, Bool.and_eq_true]

theorem Memory.wf_nil : Memory.wf [] = true := rfl

theorem Memory.wf_writeByte (m : Memory) (a : Nat) (b : Byte) (h : Memory.wf m = true) : Memory.wf (Memory.writeByte m a b) = true := by
  rw [Memory.wf_iff] at h ⊢
  rw [Memory.writeByte]
  split
  · exact ⟨KMap.risesFrom_del m 0 a h.1, KMap.all_del m a _ h.2⟩
  · exact ⟨KMap.risesFrom_set m 0 a b (Nat.zero_le a) h.1, KMap.all_set m a b _ (by simpa using ‹¬ b = 0›) h.2⟩

theorem Memory.wf_writeBytes (m : Memory) (a : Nat) (bs : List Byte) (h : Memory.wf m = true) : Memory.wf (Memory.writeBytes m a bs) = true := by
  induction bs generalizing m a with
  | nil => exact h
  | cons b bs ih => exact ih _ _ (Memory.wf_writeByte m a b h)

@[simp] theorem Memory.readByte_writeByte_same (m : Memory) (a : Nat) (b : Byte) : Memory.readByte (Memory.writeByte m a b) a = b := by
  rw [Memory.writeByte]
  split
  · rw [Memory.readByte, KMap.getD, KMap.get?_del_same, ‹b = 0›]
    rfl
  · rw [Memory.readByte, KMap.getD_set_same]

theorem Memory.readByte_writeByte_other (m : Memory) (a i : Nat) (b : Byte) (h : i ≠ a) :
    Memory.readByte (Memory.writeByte m a b) i = Memory.readByte m i := by
  rw [Memory.writeByte]
  split
  · rw [Memory.readByte, KMap.getD, KMap.get?_del_other m a i h, Memory.readByte, KMap.getD]
  · rw [Memory.readByte, KMap.getD_set_other m a i b 0 h, Memory.readByte]

theorem Memory.readByte_writeBytes_below (m : Memory) (a i : Nat) (bs : List Byte) (h : i < a) :
    Memory.readByte (Memory.writeBytes m a bs) i = Memory.readByte m i := by
  induction bs generalizing m a with
  | nil => rfl
  | cons b bs ih => rw [Memory.writeBytes, ih _ (a + 1) (by omega), Memory.readByte_writeByte_other m a i b (by omega)]

theorem Memory.readByte_writeBytes_above (m : Memory) (a i : Nat) (bs : List Byte) (h : a + bs.length ≤ i) :
    Memory.readByte (Memory.writeBytes m a bs) i = Memory.readByte m i := by
  induction bs generalizing m a with
  | nil => rfl
  | cons b bs ih =>
    rw [List.length_cons] at h
    rw [Memory.writeBytes, ih _ (a + 1) (by omega), Memory.readByte_writeByte_other m a i b (by omega)]

/-- A store to local memory keeps both memories canonical. -/
theorem State.memPut_wf (s : State) (la : Nat) (bs : List Byte) (h : Memory.wf s.mem = true) : Memory.wf (s.memPut la bs).mem = true :=
  Memory.wf_writeBytes s.mem la bs h
@[simp] theorem State.memPut_scratch (s : State) (la : Nat) (bs : List Byte) : (s.memPut la bs).scratch = s.scratch := rfl
@[simp] theorem State.memPut_slots (s : State) (la : Nat) (bs : List Byte) : (s.memPut la bs).slots = s.slots := rfl

/-- A masked store keeps the canonical form; each byte that it picks has its new value, and every other byte reads as before. -/
theorem State.putPicked_wf (s : State) (la : Nat) (bs : List (Bool × Byte)) (h : Memory.wf s.mem = true) :
    Memory.wf (s.putPicked la bs).mem = true := by
  induction bs generalizing s la with
  | nil => exact h
  | cons e r ih =>
    obtain ⟨m, b⟩ := e
    cases m with
    | true => exact ih _ _ (State.memPut_wf s la [b] h)
    | false => exact ih _ _ h

theorem State.putPicked_outside (s : State) (la a : Nat) (bs : List (Bool × Byte)) (h : a < la ∨ la + bs.length ≤ a) :
    Memory.readByte (s.putPicked la bs).mem a = Memory.readByte s.mem a := by
  induction bs generalizing s la with
  | nil => rfl
  | cons e r ih =>
    obtain ⟨m, b⟩ := e
    simp only [List.length_cons] at h
    cases m with
    | true => exact (ih _ _ (by omega)).trans (Memory.readByte_writeByte_other s.mem la a b (by omega))
    | false => exact ih _ _ (by omega)

theorem State.putPicked_read (s : State) (la i : Nat) (bs : List (Bool × Byte)) (h : i < bs.length) :
    Memory.readByte (s.putPicked la bs).mem (la + i) = if bs[i].1 then bs[i].2 else Memory.readByte s.mem (la + i) := by
  induction bs generalizing s la i with
  | nil => simp at h
  | cons e r ih =>
    obtain ⟨m, b⟩ := e
    cases i with
    | zero =>
      cases m with
      | true => exact (State.putPicked_outside (s.memPut la [b]) (la + 1) la r (by omega)).trans (Memory.readByte_writeByte_same s.mem la b)
      | false => exact State.putPicked_outside s (la + 1) la r (by omega)
    | succ j =>
      simp only [List.length_cons] at h
      have e1 : la + (j + 1) = la + 1 + j := by omega
      cases m with
      | true =>
        have := ih (s.memPut la [b]) (la + 1) j (by omega)
        simp only [State.putPicked, e1, this, List.getElem_cons_succ]
        split
        · rfl
        · exact Memory.readByte_writeByte_other s.mem la _ b (by omega)
      | false => simpa only [State.putPicked, e1, List.getElem_cons_succ] using ih s (la + 1) j (by omega)

/-- A store to scratch keeps the canonical form of scratch, and leaves global memory alone. -/
theorem State.scratchPut_wf (s : State) (site slot p : Nat) (b : Byte) (h : Memory.wf s.scratch = true) :
    Memory.wf (s.scratchPut site slot p b).scratch = true := by
  simp only [State.scratchPut]
  split
  · split
    · exact Memory.wf_writeByte _ _ _ h
    · exact Memory.wf_writeByte _ _ _ h
  · exact h

theorem State.scratchPut_mem (s : State) (site slot p : Nat) (b : Byte) : (s.scratchPut site slot p b).mem = s.mem := by
  simp only [State.scratchPut]
  split
  · split <;> rfl
  · rfl

theorem State.scratchPutAll_wf (s : State) (site slot p : Nat) (bs : List Byte) (h : Memory.wf s.scratch = true) :
    Memory.wf (s.scratchPutAll site slot p bs).scratch = true := by
  induction bs generalizing s p with
  | nil => exact h
  | cons b bs ih => exact ih _ _ (State.scratchPut_wf s site slot p b h)

theorem State.scratchPutAll_mem (s : State) (site slot p : Nat) (bs : List Byte) : (s.scratchPutAll site slot p bs).mem = s.mem := by
  induction bs generalizing s p with
  | nil => rfl
  | cons b bs ih => rw [State.scratchPutAll, ih, State.scratchPut_mem]

theorem State.clearUE_scratch (s : State) (site slot p n : Nat) : (s.clearUE site slot p n).scratch = s.scratch := by
  simp only [State.clearUE]
  split <;> rfl
theorem State.clearUE_mem (s : State) (site slot p n : Nat) : (s.clearUE site slot p n).mem = s.mem := by
  simp only [State.clearUE]
  split <;> rfl

/-- Noting which reads of the unit are raced touches neither memory. -/
theorem State.noteWrites_scratch (s : State) (site slot p n : Nat) (u : Option Nat) : (s.noteWrites site slot p n u).scratch = s.scratch := by
  simp only [State.noteWrites]; split <;> rfl
theorem State.noteWrites_mem (s : State) (site slot p n : Nat) (u : Option Nat) : (s.noteWrites site slot p n u).mem = s.mem := by
  simp only [State.noteWrites]; split <;> rfl

theorem State.scratchWrite_wf (s : State) (site slot p : Nat) (bs : List Byte) (u : Option Nat) (h : Memory.wf s.scratch = true) :
    Memory.wf (s.scratchWrite site slot p bs u).scratch = true := by
  rw [State.scratchWrite, State.clearUE_scratch]
  exact State.scratchPutAll_wf _ site slot p bs (by rw [State.noteWrites_scratch]; exact h)

theorem State.scratchWrite_mem (s : State) (site slot p : Nat) (bs : List Byte) (u : Option Nat) : (s.scratchWrite site slot p bs u).mem = s.mem := by
  rw [State.scratchWrite, State.clearUE_mem, State.scratchPutAll_mem, State.noteWrites_mem]

theorem State.noteStore_scratch (s : State) (site slot p : Nat) (bs : List Byte) (u : Option Nat) :
    (s.noteStore site slot p bs u).scratch = s.scratch := by
  simp only [State.noteStore]; split <;> rfl
theorem State.noteStore_mem (s : State) (site slot p : Nat) (bs : List Byte) (u : Option Nat) : (s.noteStore site slot p bs u).mem = s.mem := by
  simp only [State.noteStore]; split <;> rfl

/-- A store keeps the canonical form of scratch, and leaves global memory alone. -/
theorem State.storeS_wf (s : State) (site slot p : Nat) (bs : List Byte) (a : Bool) (h : Memory.wf s.scratch = true) :
    Memory.wf (s.storeS site slot p bs a).scratch = true := by
  simp only [State.storeS]
  split <;> exact State.scratchWrite_wf _ site slot p _ _ (by rw [State.noteStore_scratch]; exact h)
theorem State.storeS_mem (s : State) (site slot p : Nat) (bs : List Byte) (a : Bool) : (s.storeS site slot p bs a).mem = s.mem := by
  simp only [State.storeS]
  split <;> exact (State.scratchWrite_mem _ site slot p _ _).trans (State.noteStore_mem _ _ _ _ _ _)

theorem applyStores_wf (site slot : Nat) (wr : List (Nat × List Byte × Bool)) (s : State) (h : Memory.wf s.scratch = true) :
    Memory.wf (applyStores site slot wr s).scratch = true := by
  induction wr generalizing s with
  | nil => exact h
  | cons e wr ih => exact ih _ (State.storeS_wf _ site slot e.1 e.2.1 e.2.2 h)

theorem applyStores_mem (site slot : Nat) (wr : List (Nat × List Byte × Bool)) (s : State) : (applyStores site slot wr s).mem = s.mem := by
  induction wr generalizing s with
  | nil => rfl
  | cons e wr ih => exact (ih _).trans (State.storeS_mem _ site slot e.1 e.2.1 e.2.2)

end Sys2Proof.Machine
end

