-- ==== Sys2Proof/Laws/PerInstr.lean ====
section
/-! SUPPORT. For each instruction: the syllable that encodes it gives the instruction back, field by field. -/

namespace Sys2Proof.Laws.Encodes
open Sys2Proof.Machine
set_option Elab.async false

/-- The words of the encoding tables (R32, R34, R37, R58) hold the whole instruction: its syllable, where it has one, reads back as it. An event of
another agent has no words. -/
def Statement (i : Instr) : Prop :=
  match i.syl? with
  | some s => i.variantOk = true → ofSyl s = some i
  | none => encode i = []

/-- Reading back a syllable goes by its class, opcode, header, body and X. -/
theorem ofSyl_mkWord (k op : Nat) (h : Hdr) (b : BitVec 48) (x : Option XExt) :
    ofSyl ⟨mkWord k op h b, x.map XExt.word⟩ =
      match k % 8 with
      | 0 => ofS (op % 256) h b x
      | 1 => ofV (op % 256) h b
      | 2 => ofM (op % 256) h b
      | 3 => ofL (op % 256) h b
      | 4 => ofN (op % 256) h b
      | 5 => ofC (op % 256) h b x
      | _ => none := by
  simp only [ofSyl, wK_mkWord, wOp_mkWord, hdrOf_mkWord, wBody_mkWord, XExt.map_ofWord_word] <;> rfl

theorem add (h : Hdr) (f : RRR) : Statement (.add h f) := by
  intro _
  refine (ofSyl_mkWord 0 0x01 h f.pack none).trans ?_
  exact congrArg (fun g => some (Instr.add h g)) f.unpack_pack
theorem sub (h : Hdr) (f : RRR) : Statement (.sub h f) := by
  intro _
  refine (ofSyl_mkWord 0 0x02 h f.pack none).trans ?_
  exact congrArg (fun g => some (Instr.sub h g)) f.unpack_pack
theorem mul (h : Hdr) (f : RRR) : Statement (.mul h f) := by
  intro _
  refine (ofSyl_mkWord 0 0x03 h f.pack none).trans ?_
  exact congrArg (fun g => some (Instr.mul h g)) f.unpack_pack
theorem mulh (h : Hdr) (f : RRR) : Statement (.mulh h f) := by
  intro _
  refine (ofSyl_mkWord 0 0x04 h f.pack none).trans ?_
  exact congrArg (fun g => some (Instr.mulh h g)) f.unpack_pack
theorem mulhn (h : Hdr) (f : RRR) : Statement (.mulhn h f) := by
  intro _
  refine (ofSyl_mkWord 0 0x05 h f.pack none).trans ?_
  exact congrArg (fun g => some (Instr.mulhn h g)) f.unpack_pack
theorem div (h : Hdr) (f : RRR) : Statement (.div h f) := by
  intro _
  refine (ofSyl_mkWord 0 0x06 h f.pack none).trans ?_
  exact congrArg (fun g => some (Instr.div h g)) f.unpack_pack
theorem divn (h : Hdr) (f : RRR) : Statement (.divn h f) := by
  intro _
  refine (ofSyl_mkWord 0 0x07 h f.pack none).trans ?_
  exact congrArg (fun g => some (Instr.divn h g)) f.unpack_pack
theorem remS (h : Hdr) (f : RRR) : Statement (.remS h f) := by
  intro _
  refine (ofSyl_mkWord 0 0x08 h f.pack none).trans ?_
  exact congrArg (fun g => some (Instr.remS h g)) f.unpack_pack
theorem remn (h : Hdr) (f : RRR) : Statement (.remn h f) := by
  intro _
  refine (ofSyl_mkWord 0 0x09 h f.pack none).trans ?_
  exact congrArg (fun g => some (Instr.remn h g)) f.unpack_pack
theorem andS (h : Hdr) (f : RRR) : Statement (.andS h f) := by
  intro _
  refine (ofSyl_mkWord 0 0x0A h f.pack none).trans ?_
  exact congrArg (fun g => some (Instr.andS h g)) f.unpack_pack
theorem orS (h : Hdr) (f : RRR) : Statement (.orS h f) := by
  intro _
  refine (ofSyl_mkWord 0 0x0B h f.pack none).trans ?_
  exact congrArg (fun g => some (Instr.orS h g)) f.unpack_pack
theorem xorS (h : Hdr) (f : RRR) : Statement (.xorS h f) := by
  intro _
  refine (ofSyl_mkWord 0 0x0C h f.pack none).trans ?_
  exact congrArg (fun g => some (Instr.xorS h g)) f.unpack_pack
theorem andn (h : Hdr) (f : RRR) : Statement (.andn h f) := by
  intro _
  refine (ofSyl_mkWord 0 0x0D h f.pack none).trans ?_
  exact congrArg (fun g => some (Instr.andn h g)) f.unpack_pack
theorem shl (h : Hdr) (f : RRR) : Statement (.shl h f) := by
  intro _
  refine (ofSyl_mkWord 0 0x0E h f.pack none).trans ?_
  exact congrArg (fun g => some (Instr.shl h g)) f.unpack_pack
theorem shr (h : Hdr) (f : RRR) : Statement (.shr h f) := by
  intro _
  refine (ofSyl_mkWord 0 0x0F h f.pack none).trans ?_
  exact congrArg (fun g => some (Instr.shr h g)) f.unpack_pack
theorem sar (h : Hdr) (f : RRR) : Statement (.sar h f) := by
  intro _
  refine (ofSyl_mkWord 0 0x10 h f.pack none).trans ?_
  exact congrArg (fun g => some (Instr.sar h g)) f.unpack_pack
theorem rotr (h : Hdr) (f : RRR) : Statement (.rotr h f) := by
  intro _
  refine (ofSyl_mkWord 0 0x11 h f.pack none).trans ?_
  exact congrArg (fun g => some (Instr.rotr h g)) f.unpack_pack
theorem min (h : Hdr) (f : RRR) : Statement (.min h f) := by
  intro _
  refine (ofSyl_mkWord 0 0x12 h f.pack none).trans ?_
  exact congrArg (fun g => some (Instr.min h g)) f.unpack_pack
theorem max (h : Hdr) (f : RRR) : Statement (.max h f) := by
  intro _
  refine (ofSyl_mkWord 0 0x13 h f.pack none).trans ?_
  exact congrArg (fun g => some (Instr.max h g)) f.unpack_pack
theorem minn (h : Hdr) (f : RRR) : Statement (.minn h f) := by
  intro _
  refine (ofSyl_mkWord 0 0x14 h f.pack none).trans ?_
  exact congrArg (fun g => some (Instr.minn h g)) f.unpack_pack
theorem maxn (h : Hdr) (f : RRR) : Statement (.maxn h f) := by
  intro _
  refine (ofSyl_mkWord 0 0x15 h f.pack none).trans ?_
  exact congrArg (fun g => some (Instr.maxn h g)) f.unpack_pack
theorem clz (h : Hdr) (f : RRR) : Statement (.clz h f) := by
  intro _
  refine (ofSyl_mkWord 0 0x16 h f.pack none).trans ?_
  exact congrArg (fun g => some (Instr.clz h g)) f.unpack_pack
theorem popc (h : Hdr) (f : RRR) : Statement (.popc h f) := by
  intro _
  refine (ofSyl_mkWord 0 0x17 h f.pack none).trans ?_
  exact congrArg (fun g => some (Instr.popc h g)) f.unpack_pack
theorem bfx (h : Hdr) (f : RRR) : Statement (.bfx h f) := by
  intro _
  refine (ofSyl_mkWord 0 0x18 h f.pack none).trans ?_
  exact congrArg (fun g => some (Instr.bfx h g)) f.unpack_pack
theorem bfxs (h : Hdr) (f : RRR) : Statement (.bfxs h f) := by
  intro _
  refine (ofSyl_mkWord 0 0x19 h f.pack none).trans ?_
  exact congrArg (fun g => some (Instr.bfxs h g)) f.unpack_pack
theorem bfi (h : Hdr) (f : RRR) : Statement (.bfi h f) := by
  intro _
  refine (ofSyl_mkWord 0 0x1A h f.pack none).trans ?_
  exact congrArg (fun g => some (Instr.bfi h g)) f.unpack_pack
theorem sel (h : Hdr) (f : RRR) : Statement (.sel h f) := by
  intro _
  refine (ofSyl_mkWord 0 0x1B h f.pack none).trans ?_
  exact congrArg (fun g => some (Instr.sel h g)) f.unpack_pack
theorem mov (h : Hdr) (f : RRR) : Statement (.mov h f) := by
  intro _
  refine (ofSyl_mkWord 0 0x1C h f.pack none).trans ?_
  exact congrArg (fun g => some (Instr.mov h g)) f.unpack_pack
theorem li (h : Hdr) (f : RRI) : Statement (.li h f) := by
  intro _
  refine (ofSyl_mkWord 0 0x1D h f.pack f.x).trans ?_
  exact congrArg (fun g => some (Instr.li h g)) f.unpack_pack
theorem lea (h : Hdr) (f : RRR) : Statement (.lea h f) := by
  intro _
  refine (ofSyl_mkWord 0 0x1E h f.pack none).trans ?_
  exact congrArg (fun g => some (Instr.lea h g)) f.unpack_pack
theorem sxt (h : Hdr) (f : RRR) : Statement (.sxt h f) := by
  intro _
  refine (ofSyl_mkWord 0 0x1F h f.pack none).trans ?_
  exact congrArg (fun g => some (Instr.sxt h g)) f.unpack_pack
theorem zxt (h : Hdr) (f : RRR) : Statement (.zxt h f) := by
  intro _
  refine (ofSyl_mkWord 0 0x20 h f.pack none).trans ?_
  exact congrArg (fun g => some (Instr.zxt h g)) f.unpack_pack
theorem bswap (h : Hdr) (f : RRR) : Statement (.bswap h f) := by
  intro _
  refine (ofSyl_mkWord 0 0x21 h f.pack none).trans ?_
  exact congrArg (fun g => some (Instr.bswap h g)) f.unpack_pack
theorem crcs (h : Hdr) (f : RRR) : Statement (.crcs h f) := by
  intro _
  refine (ofSyl_mkWord 0 0x22 h f.pack none).trans ?_
  exact congrArg (fun g => some (Instr.crcs h g)) f.unpack_pack
theorem nmake (h : Hdr) (f : RRR) : Statement (.nmake h f) := by
  intro _
  refine (ofSyl_mkWord 0 0x23 h f.pack none).trans ?_
  exact congrArg (fun g => some (Instr.nmake h g)) f.unpack_pack
theorem cmp (h : Hdr) (f : RRR) : Statement (.cmp h f) := by
  intro _
  refine (ofSyl_mkWord 0 0x28 h f.pack none).trans ?_
  exact congrArg (fun g => some (Instr.cmp h g)) f.unpack_pack
theorem pand (h : Hdr) (f : RRR) : Statement (.pand h f) := by
  intro _
  refine (ofSyl_mkWord 0 0x30 h f.pack none).trans ?_
  exact congrArg (fun g => some (Instr.pand h g)) f.unpack_pack
theorem por (h : Hdr) (f : RRR) : Statement (.por h f) := by
  intro _
  refine (ofSyl_mkWord 0 0x31 h f.pack none).trans ?_
  exact congrArg (fun g => some (Instr.por h g)) f.unpack_pack
theorem pxor (h : Hdr) (f : RRR) : Statement (.pxor h f) := by
  intro _
  refine (ofSyl_mkWord 0 0x32 h f.pack none).trans ?_
  exact congrArg (fun g => some (Instr.pxor h g)) f.unpack_pack
theorem pnot (h : Hdr) (f : RRR) : Statement (.pnot h f) := by
  intro _
  refine (ofSyl_mkWord 0 0x33 h f.pack none).trans ?_
  exact congrArg (fun g => some (Instr.pnot h g)) f.unpack_pack
theorem pset (h : Hdr) (f : RRR) : Statement (.pset h f) := by
  intro _
  refine (ofSyl_mkWord 0 0x34 h f.pack none).trans ?_
  exact congrArg (fun g => some (Instr.pset h g)) f.unpack_pack
theorem pget (h : Hdr) (f : RRR) : Statement (.pget h f) := by
  intro _
  refine (ofSyl_mkWord 0 0x35 h f.pack none).trans ?_
  exact congrArg (fun g => some (Instr.pget h g)) f.unpack_pack
theorem vadd (h : Hdr) (f : RRR) : Statement (.vadd h f) := by
  intro _
  refine (ofSyl_mkWord 1 0x01 h f.pack none).trans ?_
  exact congrArg (fun g => some (Instr.vadd h g)) f.unpack_pack
theorem vsub (h : Hdr) (f : RRR) : Statement (.vsub h f) := by
  intro _
  refine (ofSyl_mkWord 1 0x02 h f.pack none).trans ?_
  exact congrArg (fun g => some (Instr.vsub h g)) f.unpack_pack
theorem vmul (h : Hdr) (f : RRR) : Statement (.vmul h f) := by
  intro _
  refine (ofSyl_mkWord 1 0x03 h f.pack none).trans ?_
  exact congrArg (fun g => some (Instr.vmul h g)) f.unpack_pack
theorem vfma (h : Hdr) (f : RRR) : Statement (.vfma h f) := by
  intro _
  refine (ofSyl_mkWord 1 0x04 h f.pack none).trans ?_
  exact congrArg (fun g => some (Instr.vfma h g)) f.unpack_pack
theorem vfms (h : Hdr) (f : RRR) : Statement (.vfms h f) := by
  intro _
  refine (ofSyl_mkWord 1 0x05 h f.pack none).trans ?_
  exact congrArg (fun g => some (Instr.vfms h g)) f.unpack_pack
theorem vmax (h : Hdr) (f : RRR) : Statement (.vmax h f) := by
  intro _
  refine (ofSyl_mkWord 1 0x06 h f.pack none).trans ?_
  exact congrArg (fun g => some (Instr.vmax h g)) f.unpack_pack
theorem vmin (h : Hdr) (f : RRR) : Statement (.vmin h f) := by
  intro _
  refine (ofSyl_mkWord 1 0x07 h f.pack none).trans ?_
  exact congrArg (fun g => some (Instr.vmin h g)) f.unpack_pack
theorem vabs (h : Hdr) (f : RRR) : Statement (.vabs h f) := by
  intro _
  refine (ofSyl_mkWord 1 0x08 h f.pack none).trans ?_
  exact congrArg (fun g => some (Instr.vabs h g)) f.unpack_pack
theorem vneg (h : Hdr) (f : RRR) : Statement (.vneg h f) := by
  intro _
  refine (ofSyl_mkWord 1 0x09 h f.pack none).trans ?_
  exact congrArg (fun g => some (Instr.vneg h g)) f.unpack_pack
theorem vcmp (h : Hdr) (f : RRR) : Statement (.vcmp h f) := by
  intro _
  refine (ofSyl_mkWord 1 0x0A h f.pack none).trans ?_
  exact congrArg (fun g => some (Instr.vcmp h g)) f.unpack_pack
theorem vsel (h : Hdr) (f : RRR) : Statement (.vsel h f) := by
  intro _
  refine (ofSyl_mkWord 1 0x0B h f.pack none).trans ?_
  exact congrArg (fun g => some (Instr.vsel h g)) f.unpack_pack
theorem vand (h : Hdr) (f : RRR) : Statement (.vand h f) := by
  intro _
  refine (ofSyl_mkWord 1 0x0C h f.pack none).trans ?_
  exact congrArg (fun g => some (Instr.vand h g)) f.unpack_pack
theorem vor (h : Hdr) (f : RRR) : Statement (.vor h f) := by
  intro _
  refine (ofSyl_mkWord 1 0x0D h f.pack none).trans ?_
  exact congrArg (fun g => some (Instr.vor h g)) f.unpack_pack
theorem vxor (h : Hdr) (f : RRR) : Statement (.vxor h f) := by
  intro _
  refine (ofSyl_mkWord 1 0x0E h f.pack none).trans ?_
  exact congrArg (fun g => some (Instr.vxor h g)) f.unpack_pack
theorem vshl (h : Hdr) (f : RRR) : Statement (.vshl h f) := by
  intro _
  refine (ofSyl_mkWord 1 0x0F h f.pack none).trans ?_
  exact congrArg (fun g => some (Instr.vshl h g)) f.unpack_pack
theorem vshr (h : Hdr) (f : RRR) : Statement (.vshr h f) := by
  intro _
  refine (ofSyl_mkWord 1 0x10 h f.pack none).trans ?_
  exact congrArg (fun g => some (Instr.vshr h g)) f.unpack_pack
theorem vsar (h : Hdr) (f : RRR) : Statement (.vsar h f) := by
  intro _
  refine (ofSyl_mkWord 1 0x11 h f.pack none).trans ?_
  exact congrArg (fun g => some (Instr.vsar h g)) f.unpack_pack
theorem vmov (h : Hdr) (f : RRR) : Statement (.vmov h f) := by
  intro _
  refine (ofSyl_mkWord 1 0x12 h f.pack none).trans ?_
  exact congrArg (fun g => some (Instr.vmov h g)) f.unpack_pack
theorem vsplat (h : Hdr) (f : RRR) : Statement (.vsplat h f) := by
  intro _
  refine (ofSyl_mkWord 1 0x13 h f.pack none).trans ?_
  exact congrArg (fun g => some (Instr.vsplat h g)) f.unpack_pack
theorem vext (h : Hdr) (f : RRR) : Statement (.vext h f) := by
  intro _
  refine (ofSyl_mkWord 1 0x14 h f.pack none).trans ?_
  exact congrArg (fun g => some (Instr.vext h g)) f.unpack_pack
theorem vins (h : Hdr) (f : RRR) : Statement (.vins h f) := by
  intro _
  refine (ofSyl_mkWord 1 0x15 h f.pack none).trans ?_
  exact congrArg (fun g => some (Instr.vins h g)) f.unpack_pack
theorem vperm (h : Hdr) (f : RRR) : Statement (.vperm h f) := by
  intro _
  refine (ofSyl_mkWord 1 0x16 h f.pack none).trans ?_
  exact congrArg (fun g => some (Instr.vperm h g)) f.unpack_pack
theorem vrot (h : Hdr) (f : RRR) : Statement (.vrot h f) := by
  intro _
  refine (ofSyl_mkWord 1 0x17 h f.pack none).trans ?_
  exact congrArg (fun g => some (Instr.vrot h g)) f.unpack_pack
theorem vredadd (h : Hdr) (f : RRR) : Statement (.vredadd h f) := by
  intro _
  refine (ofSyl_mkWord 1 0x18 h f.pack none).trans ?_
  exact congrArg (fun g => some (Instr.vredadd h g)) f.unpack_pack
theorem vredmax (h : Hdr) (f : RRR) : Statement (.vredmax h f) := by
  intro _
  refine (ofSyl_mkWord 1 0x19 h f.pack none).trans ?_
  exact congrArg (fun g => some (Instr.vredmax h g)) f.unpack_pack
theorem vredmin (h : Hdr) (f : RRR) : Statement (.vredmin h f) := by
  intro _
  refine (ofSyl_mkWord 1 0x1A h f.pack none).trans ?_
  exact congrArg (fun g => some (Instr.vredmin h g)) f.unpack_pack
theorem vscan (h : Hdr) (f : RRR) : Statement (.vscan h f) := by
  intro _
  refine (ofSyl_mkWord 1 0x1B h f.pack none).trans ?_
  exact congrArg (fun g => some (Instr.vscan h g)) f.unpack_pack
theorem vcvt (h : Hdr) (f : RRR) : Statement (.vcvt h f) := by
  intro _
  refine (ofSyl_mkWord 1 0x1C h f.pack none).trans ?_
  exact congrArg (fun g => some (Instr.vcvt h g)) f.unpack_pack
theorem vpack (h : Hdr) (f : RRR) : Statement (.vpack h f) := by
  intro _
  refine (ofSyl_mkWord 1 0x1D h f.pack none).trans ?_
  exact congrArg (fun g => some (Instr.vpack h g)) f.unpack_pack
theorem vunpk (h : Hdr) (f : RRR) : Statement (.vunpk h f) := by
  intro _
  refine (ofSyl_mkWord 1 0x1E h f.pack none).trans ?_
  exact congrArg (fun g => some (Instr.vunpk h g)) f.unpack_pack
theorem vexp2 (h : Hdr) (f : RRR) : Statement (.vexp2 h f) := by
  intro _
  refine (ofSyl_mkWord 1 0x1F h f.pack none).trans ?_
  exact congrArg (fun g => some (Instr.vexp2 h g)) f.unpack_pack
theorem vlog2 (h : Hdr) (f : RRR) : Statement (.vlog2 h f) := by
  intro _
  refine (ofSyl_mkWord 1 0x20 h f.pack none).trans ?_
  exact congrArg (fun g => some (Instr.vlog2 h g)) f.unpack_pack
theorem vrcpa (h : Hdr) (f : RRR) : Statement (.vrcpa h f) := by
  intro _
  refine (ofSyl_mkWord 1 0x21 h f.pack none).trans ?_
  exact congrArg (fun g => some (Instr.vrcpa h g)) f.unpack_pack
theorem vrsqa (h : Hdr) (f : RRR) : Statement (.vrsqa h f) := by
  intro _
  refine (ofSyl_mkWord 1 0x22 h f.pack none).trans ?_
  exact congrArg (fun g => some (Instr.vrsqa h g)) f.unpack_pack
theorem vsqrt (h : Hdr) (f : RRR) : Statement (.vsqrt h f) := by
  intro _
  refine (ofSyl_mkWord 1 0x23 h f.pack none).trans ?_
  exact congrArg (fun g => some (Instr.vsqrt h g)) f.unpack_pack
theorem vdiv (h : Hdr) (f : RRR) : Statement (.vdiv h f) := by
  intro _
  refine (ofSyl_mkWord 1 0x24 h f.pack none).trans ?_
  exact congrArg (fun g => some (Instr.vdiv h g)) f.unpack_pack
theorem vclass (h : Hdr) (f : RRR) : Statement (.vclass h f) := by
  intro _
  refine (ofSyl_mkWord 1 0x25 h f.pack none).trans ?_
  exact congrArg (fun g => some (Instr.vclass h g)) f.unpack_pack
theorem vscale (h : Hdr) (f : RRR) : Statement (.vscale h f) := by
  intro _
  refine (ofSyl_mkWord 1 0x26 h f.pack none).trans ?_
  exact congrArg (fun g => some (Instr.vscale h g)) f.unpack_pack
theorem vrint (h : Hdr) (f : RRR) : Statement (.vrint h f) := by
  intro _
  refine (ofSyl_mkWord 1 0x27 h f.pack none).trans ?_
  exact congrArg (fun g => some (Instr.vrint h g)) f.unpack_pack
theorem vimul (h : Hdr) (f : RRR) : Statement (.vimul h f) := by
  intro _
  refine (ofSyl_mkWord 1 0x28 h f.pack none).trans ?_
  exact congrArg (fun g => some (Instr.vimul h g)) f.unpack_pack
theorem vimulh (h : Hdr) (f : RRR) : Statement (.vimulh h f) := by
  intro _
  refine (ofSyl_mkWord 1 0x29 h f.pack none).trans ?_
  exact congrArg (fun g => some (Instr.vimulh h g)) f.unpack_pack
theorem vrand (h : Hdr) (f : RRR) : Statement (.vrand h f) := by
  intro _
  refine (ofSyl_mkWord 1 0x2A h f.pack none).trans ?_
  exact congrArg (fun g => some (Instr.vrand h g)) f.unpack_pack
theorem vmcnt (h : Hdr) (f : RRR) : Statement (.vmcnt h f) := by
  intro _
  refine (ofSyl_mkWord 1 0x2B h f.pack none).trans ?_
  exact congrArg (fun g => some (Instr.vmcnt h g)) f.unpack_pack
theorem vjoin (h : Hdr) (f : RRR) : Statement (.vjoin h f) := by
  intro _
  refine (ofSyl_mkWord 1 0x2C h f.pack none).trans ?_
  exact congrArg (fun g => some (Instr.vjoin h g)) f.unpack_pack
theorem mshape (h : Hdr) (f : RRR) : Statement (.mshape h f) := by
  intro _
  refine (ofSyl_mkWord 2 0x01 h f.pack none).trans ?_
  exact congrArg (fun g => some (Instr.mshape h g)) f.unpack_pack
theorem mzero (h : Hdr) (f : RRR) : Statement (.mzero h f) := by
  intro _
  refine (ofSyl_mkWord 2 0x02 h f.pack none).trans ?_
  exact congrArg (fun g => some (Instr.mzero h g)) f.unpack_pack
theorem mma (h : Hdr) (f : RRR) : Statement (.mma h f) := by
  intro _
  refine (ofSyl_mkWord 2 0x03 h f.pack none).trans ?_
  exact congrArg (fun g => some (Instr.mma h g)) f.unpack_pack
theorem mmat (h : Hdr) (f : RRR) : Statement (.mmat h f) := by
  intro _
  refine (ofSyl_mkWord 2 0x04 h f.pack none).trans ?_
  exact congrArg (fun g => some (Instr.mmat h g)) f.unpack_pack
theorem mmag (h : Hdr) (f : RRR) : Statement (.mmag h f) := by
  intro _
  refine (ofSyl_mkWord 2 0x05 h f.pack none).trans ?_
  exact congrArg (fun g => some (Instr.mmag h g)) f.unpack_pack
theorem mcb (h : Hdr) (f : RRR) : Statement (.mcb h f) := by
  intro _
  refine (ofSyl_mkWord 2 0x06 h f.pack none).trans ?_
  exact congrArg (fun g => some (Instr.mcb h g)) f.unpack_pack
theorem macld (h : Hdr) (f : RRR) : Statement (.macld h f) := by
  intro _
  refine (ofSyl_mkWord 2 0x07 h f.pack none).trans ?_
  exact congrArg (fun g => some (Instr.macld h g)) f.unpack_pack
theorem macst (h : Hdr) (f : RRR) : Statement (.macst h f) := by
  intro _
  refine (ofSyl_mkWord 2 0x08 h f.pack none).trans ?_
  exact congrArg (fun g => some (Instr.macst h g)) f.unpack_pack
theorem macadd (h : Hdr) (f : RRR) : Statement (.macadd h f) := by
  intro _
  refine (ofSyl_mkWord 2 0x09 h f.pack none).trans ?_
  exact congrArg (fun g => some (Instr.macadd h g)) f.unpack_pack
theorem mwait (h : Hdr) (f : RRR) : Statement (.mwait h f) := by
  intro _
  refine (ofSyl_mkWord 2 0x0A h f.pack none).trans ?_
  exact congrArg (fun g => some (Instr.mwait h g)) f.unpack_pack
theorem ld (h : Hdr) (f : MemF) : Statement (.ld h f) := by
  intro _
  refine (ofSyl_mkWord 3 0x01 h f.pack none).trans ?_
  exact congrArg (fun g => some (Instr.ld h g)) f.unpack_pack
theorem st (h : Hdr) (f : MemF) : Statement (.st h f) := by
  intro _
  refine (ofSyl_mkWord 3 0x02 h f.pack none).trans ?_
  exact congrArg (fun g => some (Instr.st h g)) f.unpack_pack
theorem vld (h : Hdr) (f : MemF) : Statement (.vld h f) := by
  intro _
  refine (ofSyl_mkWord 3 0x03 h f.pack none).trans ?_
  exact congrArg (fun g => some (Instr.vld h g)) f.unpack_pack
theorem vst (h : Hdr) (f : MemF) : Statement (.vst h f) := by
  intro _
  refine (ofSyl_mkWord 3 0x04 h f.pack none).trans ?_
  exact congrArg (fun g => some (Instr.vst h g)) f.unpack_pack
theorem vgath (h : Hdr) (f : MemF) : Statement (.vgath h f) := by
  intro _
  refine (ofSyl_mkWord 3 0x05 h f.pack none).trans ?_
  exact congrArg (fun g => some (Instr.vgath h g)) f.unpack_pack
theorem vscat (h : Hdr) (f : MemF) : Statement (.vscat h f) := by
  intro _
  refine (ofSyl_mkWord 3 0x06 h f.pack none).trans ?_
  exact congrArg (fun g => some (Instr.vscat h g)) f.unpack_pack
theorem ldg (h : Hdr) (f : MemF) : Statement (.ldg h f) := by
  intro _
  refine (ofSyl_mkWord 3 0x07 h f.pack none).trans ?_
  exact congrArg (fun g => some (Instr.ldg h g)) f.unpack_pack
theorem stg (h : Hdr) (f : MemF) : Statement (.stg h f) := by
  intro _
  refine (ofSyl_mkWord 3 0x08 h f.pack none).trans ?_
  exact congrArg (fun g => some (Instr.stg h g)) f.unpack_pack
theorem vldg (h : Hdr) (f : MemF) : Statement (.vldg h f) := by
  intro _
  refine (ofSyl_mkWord 3 0x09 h f.pack none).trans ?_
  exact congrArg (fun g => some (Instr.vldg h g)) f.unpack_pack
theorem vstg (h : Hdr) (f : MemF) : Statement (.vstg h f) := by
  intro _
  refine (ofSyl_mkWord 3 0x0A h f.pack none).trans ?_
  exact congrArg (fun g => some (Instr.vstg h g)) f.unpack_pack
theorem atoms (h : Hdr) (f : MemF) : Statement (.atoms h f) := by
  intro _
  refine (ofSyl_mkWord 3 0x0B h f.pack none).trans ?_
  exact congrArg (fun g => some (Instr.atoms h g)) f.unpack_pack
theorem atomg (h : Hdr) (f : MemF) : Statement (.atomg h f) := by
  intro _
  refine (ofSyl_mkWord 3 0x0C h f.pack none).trans ?_
  exact congrArg (fun g => some (Instr.atomg h g)) f.unpack_pack
theorem pref (h : Hdr) (f : MemF) : Statement (.pref h f) := by
  intro _
  refine (ofSyl_mkWord 3 0x0D h f.pack none).trans ?_
  exact congrArg (fun g => some (Instr.pref h g)) f.unpack_pack
theorem clean (h : Hdr) (f : RRR) : Statement (.clean h f) := by
  intro _
  refine (ofSyl_mkWord 3 0x0E h f.pack none).trans ?_
  exact congrArg (fun g => some (Instr.clean h g)) f.unpack_pack
theorem inval (h : Hdr) (f : RRR) : Statement (.inval h f) := by
  intro _
  refine (ofSyl_mkWord 3 0x0F h f.pack none).trans ?_
  exact congrArg (fun g => some (Instr.inval h g)) f.unpack_pack
theorem discard (h : Hdr) (f : RRR) : Statement (.discard h f) := by
  intro _
  refine (ofSyl_mkWord 3 0x10 h f.pack none).trans ?_
  exact congrArg (fun g => some (Instr.discard h g)) f.unpack_pack
theorem waymask (h : Hdr) (f : RRR) : Statement (.waymask h f) := by
  intro _
  refine (ofSyl_mkWord 3 0x11 h f.pack none).trans ?_
  exact congrArg (fun g => some (Instr.waymask h g)) f.unpack_pack
theorem waygate (h : Hdr) (f : RRR) : Statement (.waygate h f) := by
  intro _
  refine (ofSyl_mkWord 3 0x12 h f.pack none).trans ?_
  exact congrArg (fun g => some (Instr.waygate h g)) f.unpack_pack
theorem llock (h : Hdr) (f : RRR) : Statement (.llock h f) := by
  intro _
  refine (ofSyl_mkWord 3 0x13 h f.pack none).trans ?_
  exact congrArg (fun g => some (Instr.llock h g)) f.unpack_pack
theorem lunlk (h : Hdr) (f : RRR) : Statement (.lunlk h f) := by
  intro _
  refine (ofSyl_mkWord 3 0x14 h f.pack none).trans ?_
  exact congrArg (fun g => some (Instr.lunlk h g)) f.unpack_pack
theorem fence (h : Hdr) (f : RRR) : Statement (.fence h f) := by
  intro _
  refine (ofSyl_mkWord 3 0x15 h f.pack none).trans ?_
  exact congrArg (fun g => some (Instr.fence h g)) f.unpack_pack
theorem xfence (h : Hdr) (f : RRR) : Statement (.xfence h f) := by
  intro _
  refine (ofSyl_mkWord 3 0x16 h f.pack none).trans ?_
  exact congrArg (fun g => some (Instr.xfence h g)) f.unpack_pack
theorem chkv (h : Hdr) (f : RRR) : Statement (.chkv h f) := by
  intro _
  refine (ofSyl_mkWord 3 0x17 h f.pack none).trans ?_
  exact congrArg (fun g => some (Instr.chkv h g)) f.unpack_pack
theorem scfg (h : Hdr) (f : NamF) : Statement (.scfg h f) := by
  intro _
  refine (ofSyl_mkWord 4 0x01 h f.pack none).trans ?_
  exact congrArg (fun g => some (Instr.scfg h g)) f.unpack_pack
theorem sgo (h : Hdr) (f : NamF) : Statement (.sgo h f) := by
  intro _
  refine (ofSyl_mkWord 4 0x02 h f.pack none).trans ?_
  exact congrArg (fun g => some (Instr.sgo h g)) f.unpack_pack
theorem sstop (h : Hdr) (f : NamF) : Statement (.sstop h f) := by
  intro _
  refine (ofSyl_mkWord 4 0x03 h f.pack none).trans ?_
  exact congrArg (fun g => some (Instr.sstop h g)) f.unpack_pack
theorem sparm (h : Hdr) (f : NamF) : Statement (.sparm h f) := by
  intro _
  refine (ofSyl_mkWord 4 0x04 h f.pack none).trans ?_
  exact congrArg (fun g => some (Instr.sparm h g)) f.unpack_pack
theorem sfence (h : Hdr) (f : NamF) : Statement (.sfence h f) := by
  intro _
  refine (ofSyl_mkWord 4 0x05 h f.pack none).trans ?_
  exact congrArg (fun g => some (Instr.sfence h g)) f.unpack_pack
theorem subscribe (h : Hdr) (f : NamF) : Statement (.subscribe h f) := by
  intro _
  refine (ofSyl_mkWord 4 0x06 h f.pack none).trans ?_
  exact congrArg (fun g => some (Instr.subscribe h g)) f.unpack_pack
theorem unsub (h : Hdr) (f : NamF) : Statement (.unsub h f) := by
  intro _
  refine (ofSyl_mkWord 4 0x07 h f.pack none).trans ?_
  exact congrArg (fun g => some (Instr.unsub h g)) f.unpack_pack
theorem pub (h : Hdr) (f : NamF) : Statement (.pub h f) := by
  intro _
  refine (ofSyl_mkWord 4 0x08 h f.pack none).trans ?_
  exact congrArg (fun g => some (Instr.pub h g)) f.unpack_pack
theorem pubr (h : Hdr) (f : NamF) : Statement (.pubr h f) := by
  intro _
  refine (ofSyl_mkWord 4 0x09 h f.pack none).trans ?_
  exact congrArg (fun g => some (Instr.pubr h g)) f.unpack_pack
theorem nhold (h : Hdr) (f : NamF) : Statement (.nhold h f) := by
  intro _
  refine (ofSyl_mkWord 4 0x0A h f.pack none).trans ?_
  exact congrArg (fun g => some (Instr.nhold h g)) f.unpack_pack
theorem nrels (h : Hdr) (f : NamF) : Statement (.nrels h f) := by
  intro _
  refine (ofSyl_mkWord 4 0x0B h f.pack none).trans ?_
  exact congrArg (fun g => some (Instr.nrels h g)) f.unpack_pack
theorem npoll (h : Hdr) (f : NamF) : Statement (.npoll h f) := by
  intro hv
  simp [Instr.variantOk] at hv
  refine (ofSyl_mkWord 4 0x0C h f.pack none).trans ?_
  simp [ofN, hv, NamF.unpack_pack]
theorem npollAck (h : Hdr) (f : NamF) : Statement (.npollAck h f) := by
  intro hv
  simp [Instr.variantOk] at hv
  refine (ofSyl_mkWord 4 0x0C h f.pack none).trans ?_
  simp [ofN, hv, NamF.unpack_pack]
theorem npollInj (h : Hdr) (f : NamF) : Statement (.npollInj h f) := by
  intro hv
  simp [Instr.variantOk] at hv
  refine (ofSyl_mkWord 4 0x0C h f.pack none).trans ?_
  simp [ofN, hv, NamF.unpack_pack]
theorem lsend (h : Hdr) (f : NamF) : Statement (.lsend h f) := by
  intro _
  refine (ofSyl_mkWord 4 0x0D h f.pack none).trans ?_
  exact congrArg (fun g => some (Instr.lsend h g)) f.unpack_pack
theorem nop (h : Hdr) (f : RRR) : Statement (.nop h f) := by
  intro _
  refine (ofSyl_mkWord 5 0x00 h f.pack none).trans ?_
  exact congrArg (fun g => some (Instr.nop h g)) f.unpack_pack
theorem br (h : Hdr) (f : BrF) : Statement (.br h f) := by
  intro _
  refine (ofSyl_mkWord 5 0x01 h f.pack none).trans ?_
  exact congrArg (fun g => some (Instr.br h g)) f.unpack_pack
theorem bri (h : Hdr) (f : BrF) : Statement (.bri h f) := by
  intro _
  refine (ofSyl_mkWord 5 0x02 h f.pack none).trans ?_
  exact congrArg (fun g => some (Instr.bri h g)) f.unpack_pack
theorem callS (h : Hdr) (f : BrF) : Statement (.callS h f) := by
  intro hv
  simp [Instr.variantOk] at hv
  refine (ofSyl_mkWord 5 0x03 h f.pack none).trans ?_
  simp [ofC, hv, BrF.unpack_pack]
theorem callInd (h : Hdr) (f : BrF) : Statement (.callInd h f) := by
  intro hv
  simp [Instr.variantOk] at hv
  refine (ofSyl_mkWord 5 0x03 h f.pack none).trans ?_
  simp [ofC, hv, BrF.unpack_pack]
theorem ret (h : Hdr) (f : BrF) : Statement (.ret h f) := by
  intro _
  refine (ofSyl_mkWord 5 0x04 h f.pack none).trans ?_
  exact congrArg (fun g => some (Instr.ret h g)) f.unpack_pack
theorem loopS (h : Hdr) (f : BrF) : Statement (.loopS h f) := by
  intro _
  refine (ofSyl_mkWord 5 0x05 h f.pack none).trans ?_
  exact congrArg (fun g => some (Instr.loopS h g)) f.unpack_pack
theorem exitS (h : Hdr) (f : RRR) : Statement (.exitS h f) := by
  intro _
  refine (ofSyl_mkWord 5 0x06 h f.pack none).trans ?_
  exact congrArg (fun g => some (Instr.exitS h g)) f.unpack_pack
theorem yieldSlot (h : Hdr) (f : RRR) : Statement (.yieldSlot h f) := by
  intro hv
  simp [Instr.variantOk] at hv
  refine (ofSyl_mkWord 5 0x07 h f.pack none).trans ?_
  simp [ofC, hv, RRR.unpack_pack]
theorem yieldWp (h : Hdr) (f : RRR) : Statement (.yieldWp h f) := by
  intro hv
  simp [Instr.variantOk] at hv
  refine (ofSyl_mkWord 5 0x07 h f.pack none).trans ?_
  simp [ofC, hv, RRR.unpack_pack]
theorem yieldAny (h : Hdr) (f : RRR) : Statement (.yieldAny h f) := by
  intro hv
  simp [Instr.variantOk] at hv
  refine (ofSyl_mkWord 5 0x07 h f.pack none).trans ?_
  simp [ofC, hv, RRR.unpack_pack]
theorem yieldTime (h : Hdr) (f : RRR) : Statement (.yieldTime h f) := by
  intro hv
  simp [Instr.variantOk] at hv
  refine (ofSyl_mkWord 5 0x07 h f.pack none).trans ?_
  simp [ofC, hv, RRR.unpack_pack]
theorem waitwp (h : Hdr) (f : RRR) : Statement (.waitwp h f) := by
  intro _
  refine (ofSyl_mkWord 5 0x08 h f.pack none).trans ?_
  exact congrArg (fun g => some (Instr.waitwp h g)) f.unpack_pack
theorem trapS (h : Hdr) (f : RRI) : Statement (.trapS h f) := by
  intro _
  refine (ofSyl_mkWord 5 0x09 h f.pack f.x).trans ?_
  exact congrArg (fun g => some (Instr.trapS h g)) f.unpack_pack
theorem rft (h : Hdr) (f : RRR) : Statement (.rft h f) := by
  intro _
  refine (ofSyl_mkWord 5 0x0A h f.pack none).trans ?_
  exact congrArg (fun g => some (Instr.rft h g)) f.unpack_pack
theorem sysr (h : Hdr) (f : RRI) : Statement (.sysr h f) := by
  intro _
  refine (ofSyl_mkWord 5 0x0B h f.pack f.x).trans ?_
  exact congrArg (fun g => some (Instr.sysr h g)) f.unpack_pack
theorem sysw (h : Hdr) (f : RRI) : Statement (.sysw h f) := by
  intro hv
  simp [Instr.variantOk] at hv
  refine (ofSyl_mkWord 5 0x0C h f.pack f.x).trans ?_
  simp [ofC, hv, RRI.unpack_pack]
theorem syswPgroot (h : Hdr) (f : RRI) : Statement (.syswPgroot h f) := by
  intro hv
  simp [Instr.variantOk] at hv
  refine (ofSyl_mkWord 5 0x0C h f.pack f.x).trans ?_
  simp [ofC, hv, RRI.unpack_pack]
theorem syswBackbase (h : Hdr) (f : RRI) : Statement (.syswBackbase h f) := by
  intro hv
  simp [Instr.variantOk] at hv
  refine (ofSyl_mkWord 5 0x0C h f.pack f.x).trans ?_
  simp [ofC, hv, RRI.unpack_pack]
theorem launch (h : Hdr) (f : RRR) : Statement (.launch h f) := by
  intro _
  refine (ofSyl_mkWord 5 0x0D h f.pack none).trans ?_
  exact congrArg (fun g => some (Instr.launch h g)) f.unpack_pack
theorem qpost (h : Hdr) (f : RRR) : Statement (.qpost h f) := by
  intro _
  refine (ofSyl_mkWord 5 0x0E h f.pack none).trans ?_
  exact congrArg (fun g => some (Instr.qpost h g)) f.unpack_pack
theorem qctlCreate (h : Hdr) (f : RRR) : Statement (.qctlCreate h f) := by
  intro hv
  simp [Instr.variantOk] at hv
  refine (ofSyl_mkWord 5 0x0F h f.pack none).trans ?_
  simp [ofC, hv, RRR.unpack_pack]
theorem qctlDrain (h : Hdr) (f : RRR) : Statement (.qctlDrain h f) := by
  intro hv
  simp [Instr.variantOk] at hv
  refine (ofSyl_mkWord 5 0x0F h f.pack none).trans ?_
  simp [ofC, hv, RRR.unpack_pack]
theorem qctlClose (h : Hdr) (f : RRR) : Statement (.qctlClose h f) := by
  intro hv
  simp [Instr.variantOk] at hv
  refine (ofSyl_mkWord 5 0x0F h f.pack none).trans ?_
  simp [ofC, hv, RRR.unpack_pack]
theorem qctlLevel (h : Hdr) (f : RRR) : Statement (.qctlLevel h f) := by
  intro hv
  simp [Instr.variantOk] at hv
  refine (ofSyl_mkWord 5 0x0F h f.pack none).trans ?_
  simp [ofC, hv, RRR.unpack_pack]
theorem qctlQuery (h : Hdr) (f : RRR) : Statement (.qctlQuery h f) := by
  intro hv
  simp [Instr.variantOk] at hv
  refine (ofSyl_mkWord 5 0x0F h f.pack none).trans ?_
  simp [ofC, hv, RRR.unpack_pack]
theorem gjoin (h : Hdr) (f : RRR) : Statement (.gjoin h f) := by
  intro _
  refine (ofSyl_mkWord 5 0x10 h f.pack none).trans ?_
  exact congrArg (fun g => some (Instr.gjoin h g)) f.unpack_pack
theorem gleave (h : Hdr) (f : RRR) : Statement (.gleave h f) := by
  intro _
  refine (ofSyl_mkWord 5 0x11 h f.pack none).trans ?_
  exact congrArg (fun g => some (Instr.gleave h g)) f.unpack_pack
theorem gctlCancel (h : Hdr) (f : RRR) : Statement (.gctlCancel h f) := by
  intro hv
  simp [Instr.variantOk] at hv
  refine (ofSyl_mkWord 5 0x12 h f.pack none).trans ?_
  simp [ofC, hv, RRR.unpack_pack]
theorem gctlPrio (h : Hdr) (f : RRR) : Statement (.gctlPrio h f) := by
  intro hv
  simp [Instr.variantOk] at hv
  refine (ofSyl_mkWord 5 0x12 h f.pack none).trans ?_
  simp [ofC, hv, RRR.unpack_pack]
theorem gctlCap (h : Hdr) (f : RRR) : Statement (.gctlCap h f) := by
  intro hv
  simp [Instr.variantOk] at hv
  refine (ofSyl_mkWord 5 0x12 h f.pack none).trans ?_
  simp [ofC, hv, RRR.unpack_pack]
theorem gctlCut (h : Hdr) (f : RRR) : Statement (.gctlCut h f) := by
  intro hv
  simp [Instr.variantOk] at hv
  refine (ofSyl_mkWord 5 0x12 h f.pack none).trans ?_
  simp [ofC, hv, RRR.unpack_pack]
theorem gctlRestore (h : Hdr) (f : RRR) : Statement (.gctlRestore h f) := by
  intro hv
  simp [Instr.variantOk] at hv
  refine (ofSyl_mkWord 5 0x12 h f.pack none).trans ?_
  simp [ofC, hv, RRR.unpack_pack]
theorem gctlQuery (h : Hdr) (f : RRR) : Statement (.gctlQuery h f) := by
  intro hv
  simp [Instr.variantOk] at hv
  refine (ofSyl_mkWord 5 0x12 h f.pack none).trans ?_
  simp [ofC, hv, RRR.unpack_pack]
theorem gwait (h : Hdr) (f : RRR) : Statement (.gwait h f) := by
  intro _
  refine (ofSyl_mkWord 5 0x13 h f.pack none).trans ?_
  exact congrArg (fun g => some (Instr.gwait h g)) f.unpack_pack
theorem binit (h : Hdr) (f : RRR) : Statement (.binit h f) := by
  intro _
  refine (ofSyl_mkWord 5 0x14 h f.pack none).trans ?_
  exact congrArg (fun g => some (Instr.binit h g)) f.unpack_pack
theorem barv (h : Hdr) (f : RRR) : Statement (.barv h f) := by
  intro _
  refine (ofSyl_mkWord 5 0x15 h f.pack none).trans ?_
  exact congrArg (fun g => some (Instr.barv h g)) f.unpack_pack
theorem bwait (h : Hdr) (f : RRR) : Statement (.bwait h f) := by
  intro _
  refine (ofSyl_mkWord 5 0x16 h f.pack none).trans ?_
  exact congrArg (fun g => some (Instr.bwait h g)) f.unpack_pack
theorem stepo (h : Hdr) (f : RRR) : Statement (.stepo h f) := by
  intro _
  refine (ofSyl_mkWord 5 0x17 h f.pack none).trans ?_
  exact congrArg (fun g => some (Instr.stepo h g)) f.unpack_pack
theorem stepc (h : Hdr) (f : RRR) : Statement (.stepc h f) := by
  intro _
  refine (ofSyl_mkWord 5 0x18 h f.pack none).trans ?_
  exact congrArg (fun g => some (Instr.stepc h g)) f.unpack_pack
theorem slack (h : Hdr) (f : RRR) : Statement (.slack h f) := by
  intro _
  refine (ofSyl_mkWord 5 0x19 h f.pack none).trans ?_
  exact congrArg (fun g => some (Instr.slack h g)) f.unpack_pack
theorem ctxk (h : Hdr) (f : RRR) : Statement (.ctxk h f) := by
  intro _
  refine (ofSyl_mkWord 5 0x1A h f.pack none).trans ?_
  exact congrArg (fun g => some (Instr.ctxk h g)) f.unpack_pack
theorem reclm (h : Hdr) (f : RRR) : Statement (.reclm h f) := by
  intro _
  refine (ofSyl_mkWord 5 0x1B h f.pack none).trans ?_
  exact congrArg (fun g => some (Instr.reclm h g)) f.unpack_pack
theorem ctxrStart (h : Hdr) (f : RRR) : Statement (.ctxrStart h f) := by
  intro hv
  simp [Instr.variantOk] at hv
  refine (ofSyl_mkWord 5 0x1C h f.pack none).trans ?_
  simp [ofC, hv, RRR.unpack_pack]
theorem ctxrFree (h : Hdr) (f : RRR) : Statement (.ctxrFree h f) := by
  intro hv
  simp [Instr.variantOk] at hv
  refine (ofSyl_mkWord 5 0x1C h f.pack none).trans ?_
  simp [ofC, hv, RRR.unpack_pack]
theorem evict (h : Hdr) (f : RRR) : Statement (.evict h f) := by
  intro hv
  simp [Instr.variantOk] at hv
  refine (ofSyl_mkWord 5 0x1D h f.pack none).trans ?_
  simp [ofC, hv, RRR.unpack_pack]
theorem evictUnbind (h : Hdr) (f : RRR) : Statement (.evictUnbind h f) := by
  intro hv
  simp [Instr.variantOk] at hv
  refine (ofSyl_mkWord 5 0x1D h f.pack none).trans ?_
  simp [ofC, hv, RRR.unpack_pack]
theorem chkpNow (h : Hdr) (f : RRR) : Statement (.chkpNow h f) := by
  intro hv
  simp [Instr.variantOk] at hv
  refine (ofSyl_mkWord 5 0x1E h f.pack none).trans ?_
  simp [ofC, hv, RRR.unpack_pack]
theorem chkpBgon (h : Hdr) (f : RRR) : Statement (.chkpBgon h f) := by
  intro hv
  simp [Instr.variantOk] at hv
  refine (ofSyl_mkWord 5 0x1E h f.pack none).trans ?_
  simp [ofC, hv, RRR.unpack_pack]
theorem chkpBgoff (h : Hdr) (f : RRR) : Statement (.chkpBgoff h f) := by
  intro hv
  simp [Instr.variantOk] at hv
  refine (ofSyl_mkWord 5 0x1E h f.pack none).trans ?_
  simp [ofC, hv, RRR.unpack_pack]
theorem idle (h : Hdr) (f : RRR) : Statement (.idle h f) := by
  intro _
  refine (ofSyl_mkWord 5 0x1F h f.pack none).trans ?_
  exact congrArg (fun g => some (Instr.idle h g)) f.unpack_pack
theorem brk (h : Hdr) (f : RRR) : Statement (.brk h f) := by
  intro _
  refine (ofSyl_mkWord 5 0x20 h f.pack none).trans ?_
  exact congrArg (fun g => some (Instr.brk h g)) f.unpack_pack
theorem bundleIssue (site slot : Nat) : Statement (.bundleIssue site slot) := rfl
theorem resultLand (site slot idx : Nat) : Statement (.resultLand site slot idx) := rfl
theorem interlockedResultLand (site slot ctx inc : Nat) (dst : Reg) (val : VReg) (then_ : Reply) : Statement (.interlockedResultLand site slot ctx inc dst val then_) := rfl
theorem quantumGrant (site slot : Nat) : Statement (.quantumGrant site slot) := rfl
theorem quantumEnd (site : Nat) : Statement (.quantumEnd site) := rfl
theorem watchdog (site slot : Nat) : Statement (.watchdog site slot) := rfl
theorem idleWake (site slot : Nat) : Statement (.idleWake site slot) := rfl
theorem brkResume (site slot : Nat) (pc : Option Word) : Statement (.brkResume site slot pc) := rfl
theorem matrixStart (site : Nat) : Statement (.matrixStart site) := rfl
theorem matrixComplete (site : Nat) : Statement (.matrixComplete site) := rfl
theorem mmagRowArrive (site slot ctx inc : Nat) (k : RowRef) (off : Nat) (r : MemReply) : Statement (.mmagRowArrive site slot ctx inc k off r) := rfl
theorem slewRefill (dom : Nat) : Statement (.slewRefill dom) := rfl
theorem wayChangeComplete (site slot : Nat) : Statement (.wayChangeComplete site slot) := rfl
theorem wayPowerUp (site way : Nat) : Statement (.wayPowerUp site way) := rfl
theorem l1Fill (site ctx inc vline : Nat) (r : MemReply) : Statement (.l1Fill site ctx inc vline r) := rfl
theorem l1Writeback (site ctx vline : Nat) : Statement (.l1Writeback site ctx vline) := rfl
theorem maintWalk (site : Nat) : Statement (.maintWalk site) := rfl
theorem channelBeat (site slot ch : Nat) : Statement (.channelBeat site slot ch) := rfl
theorem channelDataArrive (site slot ch ctx inc seq : Nat) (r : MemReply) : Statement (.channelDataArrive site slot ch ctx inc seq r) := rfl
theorem pubInject (site slot : Nat) : Statement (.pubInject site slot) := rfl
theorem subAtRouter (site : Nat) (port : Port) (m : SubMsg) : Statement (.subAtRouter site port m) := rfl
theorem subAtHome (m : SubMsg) : Statement (.subAtHome m) := rfl
theorem installNotice (m : SubMsg) (nh : Bool) : Statement (.installNotice m nh) := rfl
theorem withdrawal (site : Nat) (port : Port) (m : SubMsg) : Statement (.withdrawal site port m) := rfl
theorem segmentAtRouter (site : Nat) (port : Port) (toHome : Bool) (g : Seg) : Statement (.segmentAtRouter site port toHome g) := rfl
theorem segmentAtHome (port : Option Port) (g : Seg) : Statement (.segmentAtHome port g) := rfl
theorem orderNotice (ctx inc : Nat) (tag : Tag) : Statement (.orderNotice ctx inc tag) := rfl
theorem routerMerge (i j : Nat) : Statement (.routerMerge i j) := rfl
theorem contributionAtHome (g : Seg) : Statement (.contributionAtHome g) := rfl
theorem copyAtTilePort (site : Nat) (target : Option (Nat × Nat)) (g : Seg) : Statement (.copyAtTilePort site target g) := rfl
theorem copyLanded (site slot sub : Nat) : Statement (.copyLanded site slot sub) := rfl
theorem landingAckAtHome (m : SlotMsg) : Statement (.landingAckAtHome m) := rfl
theorem divertedCopyAtHome (m : SlotMsg) (g : Seg) : Statement (.divertedCopyAtHome m g) := rfl
theorem pullAtHome (m : SlotMsg) : Statement (.pullAtHome m) := rfl
theorem nextRequestAtHome (m : SlotMsg) : Statement (.nextRequestAtHome m) := rfl
theorem lingerExpire (ctx : Nat) (name : Word) (seq : Nat) : Statement (.lingerExpire ctx name seq) := rfl
theorem nholdAtHome (ctx inc : Nat) (name : Word) (who : Asker) : Statement (.nholdAtHome ctx inc name who) := rfl
theorem nrelsAtHome (ctx inc : Nat) (name : Word) (who : Asker) : Statement (.nrelsAtHome ctx inc name who) := rfl
theorem spillReadBack (ctx : Nat) (name : Word) (seq : Nat) : Statement (.spillReadBack ctx name seq) := rfl
theorem overflowStallNotice (site : Nat) (o : CtxInc) : Statement (.overflowStallNotice site o) := rfl
theorem overflowSpaceNotice (site : Nat) (o : CtxInc) : Statement (.overflowSpaceNotice site o) := rfl
theorem overflowStallTimeout (ctx : Nat) : Statement (.overflowStallTimeout ctx) := rfl
theorem fallthroughRequest (hedge ctx inc : Nat) (b : Backed) : Statement (.fallthroughRequest hedge ctx inc b) := rfl
theorem fallthroughData (ctx inc : Nat) (name : Word) (linger : Nat) (r : MemReply) : Statement (.fallthroughData ctx inc name linger r) := rfl
theorem backingTableReread (ctx inc : Nat) : Statement (.backingTableReread ctx inc) := rfl
theorem matchEntryEcc (site ctx : Nat) (name : Word) : Statement (.matchEntryEcc site ctx name) := rfl
theorem meshEcc (i : Nat) : Statement (.meshEcc i) := rfl
theorem rickFailedMark (site : Nat) : Statement (.rickFailedMark site) := rfl
theorem standInReply (r : StandIn) : Statement (.standInReply r) := rfl
theorem reinstallAtHome (m : SubMsg) : Statement (.reinstallAtHome m) := rfl
theorem retire (site slot : Nat) : Statement (.retire site slot) := rfl
theorem parkComplete (site slot : Nat) : Statement (.parkComplete site slot) := rfl
theorem parkWake (site slot : Nat) : Statement (.parkWake site slot) := rfl
theorem parkRestore (site slot : Nat) : Statement (.parkRestore site slot) := rfl
theorem recordAppend (ctx inc q : Nat) (rec_ : List Word) (src : RecSrc) : Statement (.recordAppend ctx inc q rec_ src) := rfl
theorem hostAppendWrite (w : WindowAt) (bytes : List Byte) : Statement (.hostAppendWrite w bytes) := rfl
theorem gateSatisfied (ctx inc : Nat) (r : HeadRef) (name : Word) : Statement (.gateSatisfied ctx inc r name) := rfl
theorem recordExpand (ctx q : Nat) : Statement (.recordExpand ctx q) := rfl
theorem membershipReserve (o : CtxInc) (r : HeadRef) (g n : Nat) : Statement (.membershipReserve o r g n) := rfl
theorem instancePlace (uid site slot : Nat) : Statement (.instancePlace uid site slot) := rfl
theorem placementMessage (p : Placing) (ctx inc : Nat) : Statement (.placementMessage p ctx inc) := rfl
theorem loadDone (uid : Nat) : Statement (.loadDone uid) := rfl
theorem migrate (uid site slot : Nat) : Statement (.migrate uid site slot) := rfl
theorem memberTerminalUpdate (ctx inc g : Nat) (how : Nat) (cause : Nat) : Statement (.memberTerminalUpdate ctx inc g how cause) := rfl
theorem cancelAtTile (uid g : Nat) : Statement (.cancelAtTile uid g) := rfl
theorem cutMarkAtHome (o : CtxInc) (c : CutRef) (name : Word) (uid sub : Nat) : Statement (.cutMarkAtHome o c name uid sub) := rfl
theorem cutMarksConfirmed (o : CtxInc) (c : CutRef) : Statement (.cutMarksConfirmed o c) := rfl
theorem cutRecordWrite (o : CtxInc) (c : CutRef) (name : Word) (uid sub : Nat) : Statement (.cutRecordWrite o c name uid sub) := rfl
theorem cutComplete (ctx g : Nat) : Statement (.cutComplete ctx g) := rfl
theorem groupRequestAtScheduler (ctx inc g : Nat) (op : GOp) (who : Asker) (midx : Nat) : Statement (.groupRequestAtScheduler ctx inc g op who midx) := rfl
theorem binitAtHome (r : BarReq) (n : Nat) : Statement (.binitAtHome r n) := rfl
theorem arrivalAtHome (r : BarReq) : Statement (.arrivalAtHome r) := rfl
theorem bwaitAtHome (r : BarReq) (sub : Nat) (land : Word) : Statement (.bwaitAtHome r sub land) := rfl
theorem pinReleaseMessage (ctx inc : Nat) (name : Word) : Statement (.pinReleaseMessage ctx inc name) := rfl
theorem governorDecision (b : Nat) : Statement (.governorDecision b) := rfl
theorem opChangeComplete (dom : Nat) : Statement (.opChangeComplete dom) := rfl
theorem completionNotice (ctx inc g stamp : Nat) : Statement (.completionNotice ctx inc g stamp) := rfl
theorem deadlineCheck (ctx id b : Nat) : Statement (.deadlineCheck ctx id b) := rfl
theorem copyDeliveredReport (ctx inc : Nat) (name : Word) : Statement (.copyDeliveredReport ctx inc name) := rfl
theorem stepRequestAtGovernor (ctx inc : Nat) (op : StepOp) (who : Asker) : Statement (.stepRequestAtGovernor ctx inc op who) := rfl
theorem faultWindowClose (i : Nat) : Statement (.faultWindowClose i) := rfl
theorem freezeOnFault (site : Nat) : Statement (.freezeOnFault site) := rfl
theorem descriptorReadDone (ctx : Nat) (who : Asker) (issuer issuerInc : Nat) (va : Nat) : Statement (.descriptorReadDone ctx who issuer issuerInc va) := rfl
theorem bindingInstall (site ctx : Nat) : Statement (.bindingInstall site ctx) := rfl
theorem bindingsAcknowledged (ctx : Nat) : Statement (.bindingsAcknowledged ctx) := rfl
theorem incarnationBroadcast (agent ctx : Nat) : Statement (.incarnationBroadcast agent ctx) := rfl
theorem sweepDone (agent ctx drops : Nat) : Statement (.sweepDone agent ctx drops) := rfl
theorem reclaim (ctx : Nat) : Statement (.reclaim ctx) := rfl
theorem linkFenceExpire (ctx : Nat) : Statement (.linkFenceExpire ctx) := rfl
theorem evictionComplete (uid : Nat) : Statement (.evictionComplete uid) := rfl
theorem restore (uid site slot : Nat) : Statement (.restore uid site slot) := rfl
theorem backgroundWrite (site slot : Nat) : Statement (.backgroundWrite site slot) := rfl
theorem tokenRefill (site : Nat) : Statement (.tokenRefill site) := rfl
theorem saveOrderAtTile (uid : Nat) (why : SaveWhy) : Statement (.saveOrderAtTile uid why) := rfl
theorem pageWalk (w : WalkReq) : Statement (.pageWalk w) := rfl
theorem migRewalk (w : WalkReq) : Statement (.migRewalk w) := rfl
theorem invalidationAtAgent (agent ctx : Nat) : Statement (.invalidationAtAgent agent ctx) := rfl
theorem invpClear (ctx : Nat) : Statement (.invpClear ctx) := rfl
theorem memoryRequestAtHome (r : MemReq) : Statement (.memoryRequestAtHome r) := rfl
theorem memoryWriteAcknowledgement (ctx inc : Nat) (who : Requester) : Statement (.memoryWriteAcknowledgement ctx inc who) := rfl
theorem linkEnable (l : Nat) : Statement (.linkEnable l) := rfl
theorem linkQuarantine (l : Nat) : Statement (.linkQuarantine l) := rfl
theorem linkRelease (l : Nat) : Statement (.linkRelease l) := rfl
theorem linkTrainedFull (l : Nat) : Statement (.linkTrainedFull l) := rfl
theorem linkTrainedReduced (l : Nat) : Statement (.linkTrainedReduced l) := rfl
theorem linkTrainingTimeout (l : Nat) : Statement (.linkTrainingTimeout l) := rfl
theorem linkRetry (l : Nat) : Statement (.linkRetry l) := rfl
theorem errorBurst (l : Nat) : Statement (.errorBurst l) := rfl
theorem linkLoss (l : Nat) : Statement (.linkLoss l) := rfl
theorem flitReceive (l : Nat) (f : Flit) : Statement (.flitReceive l f) := rfl
theorem ageout (f : Flit) : Statement (.ageout f) := rfl
theorem remoteRequest (l : Nat) (f : Flit) : Statement (.remoteRequest l f) := rfl
theorem remoteResponse (tag : Nat) (r : MemReply) : Statement (.remoteResponse tag r) := rfl
theorem remotetmo (tag : Nat) : Statement (.remotetmo tag) := rfl
theorem lsendSegmentReceive (f : LFrame) : Statement (.lsendSegmentReceive f) := rfl
theorem lsendVerdict (id : Nat) (accept : Bool) : Statement (.lsendVerdict id accept) := rfl
theorem lsendVerdictTimeout (id : Nat) : Statement (.lsendVerdictTimeout id) := rfl
theorem frameResend (port id : Nat) : Statement (.frameResend port id) := rfl
theorem ptpMessage (port : Nat) (msg : List Byte) : Statement (.ptpMessage port msg) := rfl
theorem switchLinkReport (k module : Nat) (usable : Bool) : Statement (.switchLinkReport k module usable) := rfl
theorem hostWrite (port : Nat) (w : HostAt) (bytes : List Byte) : Statement (.hostWrite port w bytes) := rfl
theorem hostRead (port : Nat) (r : BarAt) (n : Nat) : Statement (.hostRead port r n) := rfl
theorem hostEventLanding (sub : Nat) (payload : List Byte) : Statement (.hostEventLanding sub payload) := rfl
theorem modcapWrite (v : Word) : Statement (.modcapWrite v) := rfl
theorem defopWrite (v : Word) : Statement (.defopWrite v) := rfl
theorem modnumWrite (v : Word) : Statement (.modnumWrite v) := rfl
theorem tilemapRead (port : Nat) : Statement (.tilemapRead port) := rfl
theorem tilecmdClear (site : Nat) : Statement (.tilecmdClear site) := rfl
theorem tilecmdSet (site : Nat) : Statement (.tilecmdSet site) := rfl
theorem freezeWrite (off : Nat) (v : Word) : Statement (.freezeWrite off v) := rfl
theorem dbgWrite (off : Nat) (v : Word) : Statement (.dbgWrite off v) := rfl
theorem attestation (nonce : List Byte) : Statement (.attestation nonce) := rfl
theorem rollup : Statement .rollup := rfl
theorem admissionTableWrite (i srcDomain srcModule srcCtx dstCtx : Nat) (valid : Bool) : Statement (.admissionTableWrite i srcDomain srcModule srcCtx dstCtx valid) := rfl
theorem hostSubscriptionRegister (port ctx : Nat) (name : Word) (ring vector : Nat) : Statement (.hostSubscriptionRegister port ctx name ring vector) := rfl
theorem firmwareWrite (image : List Byte) : Statement (.firmwareWrite image) := rfl
theorem mgmtRegisterWrite (off : Nat) (v : Word) : Statement (.mgmtRegisterWrite off v) := rfl
theorem moduleReset : Statement .moduleReset := rfl
theorem lowInput : Statement .lowInput := rfl
theorem inputRestored : Statement .inputRestored := rfl
theorem supplyLoss : Statement .supplyLoss := rfl
theorem hotTile (site : Nat) : Statement (.hotTile site) := rfl
theorem hotTileClear (site : Nat) : Statement (.hotTileClear site) := rfl
theorem hotDomainHold (dom : Nat) : Statement (.hotDomainHold dom) := rfl
theorem hotDomainRelease (dom : Nat) : Statement (.hotDomainRelease dom) := rfl
theorem overtempTrip (site : Nat) : Statement (.overtempTrip site) := rfl
theorem defectiveErrors (site : Nat) : Statement (.defectiveErrors site) := rfl
theorem queueOperationAtScheduler (ctx inc q : Nat) (op : QOp) (who : Asker) : Statement (.queueOperationAtScheduler ctx inc q op who) := rfl
theorem placementAcknowledgement (field site : Nat) : Statement (.placementAcknowledgement field site) := rfl

end Sys2Proof.Laws.Encodes
end

