-- ==== Sys2Proof/Laws/State.lean ====
section
/-! SUPPORT. What each named update of the state leaves alone and what it changes, field by field. -/

namespace Sys2Proof.Machine
set_option Elab.async false

variable (s : State)

@[simp] theorem State.setSlotAt_tick (site slot : Nat) (x : Slot) : (s.setSlotAt site slot x).tick = s.tick := rfl
@[simp] theorem State.setSlotAt_time (site slot : Nat) (x : Slot) : (s.setSlotAt site slot x).time = s.time := rfl
@[simp] theorem State.setSlotAt_agenda (site slot : Nat) (x : Slot) : (s.setSlotAt site slot x).agenda = s.agenda := rfl
@[simp] theorem State.setSlotAt_iss (site slot : Nat) (x : Slot) : (s.setSlotAt site slot x).iss = s.iss := rfl
@[simp] theorem State.setSlotAt_tiles (site slot : Nat) (x : Slot) : (s.setSlotAt site slot x).tiles = s.tiles := rfl
@[simp] theorem State.setSlotAt_scratch (site slot : Nat) (x : Slot) : (s.setSlotAt site slot x).scratch = s.scratch := rfl
@[simp] theorem State.setSlotAt_scratchUE (site slot : Nat) (x : Slot) : (s.setSlotAt site slot x).scratchUE = s.scratchUE := rfl
@[simp] theorem State.setSlotAt_scratchUndef (site slot : Nat) (x : Slot) : (s.setSlotAt site slot x).scratchUndef = s.scratchUndef := rfl
@[simp] theorem State.setSlotAt_walkers (site slot : Nat) (x : Slot) : (s.setSlotAt site slot x).walkers = s.walkers := rfl
@[simp] theorem State.setSlotAt_hedges (site slot : Nat) (x : Slot) : (s.setSlotAt site slot x).hedges = s.hedges := rfl
@[simp] theorem State.setSlotAt_hedgeTokens (site slot : Nat) (x : Slot) : (s.setSlotAt site slot x).hedgeTokens = s.hedgeTokens := rfl
@[simp] theorem State.setSlotAt_hedgeServed (site slot : Nat) (x : Slot) : (s.setSlotAt site slot x).hedgeServed = s.hedgeServed := rfl
@[simp] theorem State.setSlotAt_refills (site slot : Nat) (x : Slot) : (s.setSlotAt site slot x).refills = s.refills := rfl
@[simp] theorem State.setSlotAt_disabled (site slot : Nat) (x : Slot) : (s.setSlotAt site slot x).disabled = s.disabled := rfl
@[simp] theorem State.setSlotAt_deadRouters (site slot : Nat) (x : Slot) : (s.setSlotAt site slot x).deadRouters = s.deadRouters := rfl
@[simp] theorem State.setSlotAt_detour (site slot : Nat) (x : Slot) : (s.setSlotAt site slot x).detour = s.detour := rfl
@[simp] theorem State.setSlotAt_matches_ (site slot : Nat) (x : Slot) : (s.setSlotAt site slot x).matches_ = s.matches_ := rfl
@[simp] theorem State.setSlotAt_homes (site slot : Nat) (x : Slot) : (s.setSlotAt site slot x).homes = s.homes := rfl
@[simp] theorem State.setSlotAt_failedRicks (site slot : Nat) (x : Slot) : (s.setSlotAt site slot x).failedRicks = s.failedRicks := rfl
@[simp] theorem State.setSlotAt_ovflStall (site slot : Nat) (x : Slot) : (s.setSlotAt site slot x).ovflStall = s.ovflStall := rfl
@[simp] theorem State.setSlotAt_mem (site slot : Nat) (x : Slot) : (s.setSlotAt site slot x).mem = s.mem := rfl
@[simp] theorem State.setSlotAt_gran (site slot : Nat) (x : Slot) : (s.setSlotAt site slot x).gran = s.gran := rfl
@[simp] theorem State.setSlotAt_tagNum (site slot : Nat) (x : Slot) : (s.setSlotAt site slot x).tagNum = s.tagNum := rfl
@[simp] theorem State.setSlotAt_struck (site slot : Nat) (x : Slot) : (s.setSlotAt site slot x).struck = s.struck := rfl
@[simp] theorem State.setSlotAt_ueTimes (site slot : Nat) (x : Slot) : (s.setSlotAt site slot x).ueTimes = s.ueTimes := rfl
@[simp] theorem State.setSlotAt_discarded (site slot : Nat) (x : Slot) : (s.setSlotAt site slot x).discarded = s.discarded := rfl
@[simp] theorem State.setSlotAt_ctxs (site slot : Nat) (x : Slot) : (s.setSlotAt site slot x).ctxs = s.ctxs := rfl
@[simp] theorem State.setSlotAt_modnum (site slot : Nat) (x : Slot) : (s.setSlotAt site slot x).modnum = s.modnum := rfl
@[simp] theorem State.setSlotAt_windows (site slot : Nat) (x : Slot) : (s.setSlotAt site slot x).windows = s.windows := rfl
@[simp] theorem State.setSlotAt_ops (site slot : Nat) (x : Slot) : (s.setSlotAt site slot x).ops = s.ops := rfl
@[simp] theorem State.setSlotAt_quantaUsed (site slot : Nat) (x : Slot) : (s.setSlotAt site slot x).quantaUsed = s.quantaUsed := rfl
@[simp] theorem State.setSlotAt_slewAt (site slot : Nat) (x : Slot) : (s.setSlotAt site slot x).slewAt = s.slewAt := rfl
@[simp] theorem State.setSlotAt_slewHeld (site slot : Nat) (x : Slot) : (s.setSlotAt site slot x).slewHeld = s.slewHeld := rfl
@[simp] theorem State.setSlotAt_links (site slot : Nat) (x : Slot) : (s.setSlotAt site slot x).links = s.links := rfl
@[simp] theorem State.setSlotAt_swDown (site slot : Nat) (x : Slot) : (s.setSlotAt site slot x).swDown = s.swDown := rfl
@[simp] theorem State.setSlotAt_out (site slot : Nat) (x : Slot) : (s.setSlotAt site slot x).out = s.out := rfl
@[simp] theorem State.setSlotAt_nextTag (site slot : Nat) (x : Slot) : (s.setSlotAt site slot x).nextTag = s.nextTag := rfl
@[simp] theorem State.setSlotAt_domainNum (site slot : Nat) (x : Slot) : (s.setSlotAt site slot x).domainNum = s.domainNum := rfl
@[simp] theorem State.setSlotAt_brks (site slot : Nat) (x : Slot) : (s.setSlotAt site slot x).brks = s.brks := rfl
@[simp] theorem State.setSlotAt_insts (site slot : Nat) (x : Slot) : (s.setSlotAt site slot x).insts = s.insts := rfl
@[simp] theorem State.setSlotAt_nextUid (site slot : Nat) (x : Slot) : (s.setSlotAt site slot x).nextUid = s.nextUid := rfl
@[simp] theorem State.setSlotAt_placeOut (site slot : Nat) (x : Slot) : (s.setSlotAt site slot x).placeOut = s.placeOut := rfl
@[simp] theorem State.setSlotAt_queues (site slot : Nat) (x : Slot) : (s.setSlotAt site slot x).queues = s.queues := rfl
@[simp] theorem State.setSlotAt_groups (site slot : Nat) (x : Slot) : (s.setSlotAt site slot x).groups = s.groups := rfl
@[simp] theorem State.setSlotAt_bars (site slot : Nat) (x : Slot) : (s.setSlotAt site slot x).bars = s.bars := rfl
@[simp] theorem State.setSlotAt_steps (site slot : Nat) (x : Slot) : (s.setSlotAt site slot x).steps = s.steps := rfl
@[simp] theorem State.setSlotAt_est (site slot : Nat) (x : Slot) : (s.setSlotAt site slot x).est = s.est := rfl
@[simp] theorem State.setSlotAt_boundary (site slot : Nat) (x : Slot) : (s.setSlotAt site slot x).boundary = s.boundary := rfl
@[simp] theorem State.setSlotAt_calm (site slot : Nat) (x : Slot) : (s.setSlotAt site slot x).calm = s.calm := rfl
@[simp] theorem State.setSlotAt_busy (site slot : Nat) (x : Slot) : (s.setSlotAt site slot x).busy = s.busy := rfl
@[simp] theorem State.setSlotAt_opReq (site slot : Nat) (x : Slot) : (s.setSlotAt site slot x).opReq = s.opReq := rfl
@[simp] theorem State.setSlotAt_evicts (site slot : Nat) (x : Slot) : (s.setSlotAt site slot x).evicts = s.evicts := rfl
@[simp] theorem State.setSlotAt_lsends (site slot : Nat) (x : Slot) : (s.setSlotAt site slot x).lsends = s.lsends := rfl
@[simp] theorem State.setSlotAt_lsendIn (site slot : Nat) (x : Slot) : (s.setSlotAt site slot x).lsendIn = s.lsendIn := rfl
@[simp] theorem State.setSlotAt_seen (site slot : Nat) (x : Slot) : (s.setSlotAt site slot x).seen = s.seen := rfl
@[simp] theorem State.setSlotAt_frameSeq (site slot : Nat) (x : Slot) : (s.setSlotAt site slot x).frameSeq = s.frameSeq := rfl
@[simp] theorem State.setSlotAt_inq (site slot : Nat) (x : Slot) : (s.setSlotAt site slot x).inq = s.inq := rfl
@[simp] theorem State.setSlotAt_mgmt (site slot : Nat) (x : Slot) : (s.setSlotAt site slot x).mgmt = s.mgmt := rfl
@[simp] theorem State.setSlotAt_powered (site slot : Nat) (x : Slot) : (s.setSlotAt site slot x).powered = s.powered := rfl
@[simp] theorem State.setSlotAt_outbox (site slot : Nat) (x : Slot) : (s.setSlotAt site slot x).outbox = s.outbox := rfl

@[simp] theorem State.setTileAt_tick (site : Nat) (x : Tile) : (s.setTileAt site x).tick = s.tick := rfl
@[simp] theorem State.setTileAt_time (site : Nat) (x : Tile) : (s.setTileAt site x).time = s.time := rfl
@[simp] theorem State.setTileAt_agenda (site : Nat) (x : Tile) : (s.setTileAt site x).agenda = s.agenda := rfl
@[simp] theorem State.setTileAt_iss (site : Nat) (x : Tile) : (s.setTileAt site x).iss = s.iss := rfl
@[simp] theorem State.setTileAt_slots (site : Nat) (x : Tile) : (s.setTileAt site x).slots = s.slots := rfl
@[simp] theorem State.setTileAt_scratch (site : Nat) (x : Tile) : (s.setTileAt site x).scratch = s.scratch := rfl
@[simp] theorem State.setTileAt_scratchUE (site : Nat) (x : Tile) : (s.setTileAt site x).scratchUE = s.scratchUE := rfl
@[simp] theorem State.setTileAt_scratchUndef (site : Nat) (x : Tile) : (s.setTileAt site x).scratchUndef = s.scratchUndef := rfl
@[simp] theorem State.setTileAt_walkers (site : Nat) (x : Tile) : (s.setTileAt site x).walkers = s.walkers := rfl
@[simp] theorem State.setTileAt_hedges (site : Nat) (x : Tile) : (s.setTileAt site x).hedges = s.hedges := rfl
@[simp] theorem State.setTileAt_hedgeTokens (site : Nat) (x : Tile) : (s.setTileAt site x).hedgeTokens = s.hedgeTokens := rfl
@[simp] theorem State.setTileAt_hedgeServed (site : Nat) (x : Tile) : (s.setTileAt site x).hedgeServed = s.hedgeServed := rfl
@[simp] theorem State.setTileAt_refills (site : Nat) (x : Tile) : (s.setTileAt site x).refills = s.refills := rfl
@[simp] theorem State.setTileAt_disabled (site : Nat) (x : Tile) : (s.setTileAt site x).disabled = s.disabled := rfl
@[simp] theorem State.setTileAt_deadRouters (site : Nat) (x : Tile) : (s.setTileAt site x).deadRouters = s.deadRouters := rfl
@[simp] theorem State.setTileAt_detour (site : Nat) (x : Tile) : (s.setTileAt site x).detour = s.detour := rfl
@[simp] theorem State.setTileAt_matches_ (site : Nat) (x : Tile) : (s.setTileAt site x).matches_ = s.matches_ := rfl
@[simp] theorem State.setTileAt_homes (site : Nat) (x : Tile) : (s.setTileAt site x).homes = s.homes := rfl
@[simp] theorem State.setTileAt_failedRicks (site : Nat) (x : Tile) : (s.setTileAt site x).failedRicks = s.failedRicks := rfl
@[simp] theorem State.setTileAt_ovflStall (site : Nat) (x : Tile) : (s.setTileAt site x).ovflStall = s.ovflStall := rfl
@[simp] theorem State.setTileAt_mem (site : Nat) (x : Tile) : (s.setTileAt site x).mem = s.mem := rfl
@[simp] theorem State.setTileAt_gran (site : Nat) (x : Tile) : (s.setTileAt site x).gran = s.gran := rfl
@[simp] theorem State.setTileAt_tagNum (site : Nat) (x : Tile) : (s.setTileAt site x).tagNum = s.tagNum := rfl
@[simp] theorem State.setTileAt_struck (site : Nat) (x : Tile) : (s.setTileAt site x).struck = s.struck := rfl
@[simp] theorem State.setTileAt_ueTimes (site : Nat) (x : Tile) : (s.setTileAt site x).ueTimes = s.ueTimes := rfl
@[simp] theorem State.setTileAt_discarded (site : Nat) (x : Tile) : (s.setTileAt site x).discarded = s.discarded := rfl
@[simp] theorem State.setTileAt_ctxs (site : Nat) (x : Tile) : (s.setTileAt site x).ctxs = s.ctxs := rfl
@[simp] theorem State.setTileAt_modnum (site : Nat) (x : Tile) : (s.setTileAt site x).modnum = s.modnum := rfl
@[simp] theorem State.setTileAt_windows (site : Nat) (x : Tile) : (s.setTileAt site x).windows = s.windows := rfl
@[simp] theorem State.setTileAt_ops (site : Nat) (x : Tile) : (s.setTileAt site x).ops = s.ops := rfl
@[simp] theorem State.setTileAt_quantaUsed (site : Nat) (x : Tile) : (s.setTileAt site x).quantaUsed = s.quantaUsed := rfl
@[simp] theorem State.setTileAt_slewAt (site : Nat) (x : Tile) : (s.setTileAt site x).slewAt = s.slewAt := rfl
@[simp] theorem State.setTileAt_slewHeld (site : Nat) (x : Tile) : (s.setTileAt site x).slewHeld = s.slewHeld := rfl
@[simp] theorem State.setTileAt_links (site : Nat) (x : Tile) : (s.setTileAt site x).links = s.links := rfl
@[simp] theorem State.setTileAt_swDown (site : Nat) (x : Tile) : (s.setTileAt site x).swDown = s.swDown := rfl
@[simp] theorem State.setTileAt_out (site : Nat) (x : Tile) : (s.setTileAt site x).out = s.out := rfl
@[simp] theorem State.setTileAt_nextTag (site : Nat) (x : Tile) : (s.setTileAt site x).nextTag = s.nextTag := rfl
@[simp] theorem State.setTileAt_domainNum (site : Nat) (x : Tile) : (s.setTileAt site x).domainNum = s.domainNum := rfl
@[simp] theorem State.setTileAt_brks (site : Nat) (x : Tile) : (s.setTileAt site x).brks = s.brks := rfl
@[simp] theorem State.setTileAt_insts (site : Nat) (x : Tile) : (s.setTileAt site x).insts = s.insts := rfl
@[simp] theorem State.setTileAt_nextUid (site : Nat) (x : Tile) : (s.setTileAt site x).nextUid = s.nextUid := rfl
@[simp] theorem State.setTileAt_placeOut (site : Nat) (x : Tile) : (s.setTileAt site x).placeOut = s.placeOut := rfl
@[simp] theorem State.setTileAt_queues (site : Nat) (x : Tile) : (s.setTileAt site x).queues = s.queues := rfl
@[simp] theorem State.setTileAt_groups (site : Nat) (x : Tile) : (s.setTileAt site x).groups = s.groups := rfl
@[simp] theorem State.setTileAt_bars (site : Nat) (x : Tile) : (s.setTileAt site x).bars = s.bars := rfl
@[simp] theorem State.setTileAt_steps (site : Nat) (x : Tile) : (s.setTileAt site x).steps = s.steps := rfl
@[simp] theorem State.setTileAt_est (site : Nat) (x : Tile) : (s.setTileAt site x).est = s.est := rfl
@[simp] theorem State.setTileAt_boundary (site : Nat) (x : Tile) : (s.setTileAt site x).boundary = s.boundary := rfl
@[simp] theorem State.setTileAt_calm (site : Nat) (x : Tile) : (s.setTileAt site x).calm = s.calm := rfl
@[simp] theorem State.setTileAt_busy (site : Nat) (x : Tile) : (s.setTileAt site x).busy = s.busy := rfl
@[simp] theorem State.setTileAt_opReq (site : Nat) (x : Tile) : (s.setTileAt site x).opReq = s.opReq := rfl
@[simp] theorem State.setTileAt_evicts (site : Nat) (x : Tile) : (s.setTileAt site x).evicts = s.evicts := rfl
@[simp] theorem State.setTileAt_lsends (site : Nat) (x : Tile) : (s.setTileAt site x).lsends = s.lsends := rfl
@[simp] theorem State.setTileAt_lsendIn (site : Nat) (x : Tile) : (s.setTileAt site x).lsendIn = s.lsendIn := rfl
@[simp] theorem State.setTileAt_seen (site : Nat) (x : Tile) : (s.setTileAt site x).seen = s.seen := rfl
@[simp] theorem State.setTileAt_frameSeq (site : Nat) (x : Tile) : (s.setTileAt site x).frameSeq = s.frameSeq := rfl
@[simp] theorem State.setTileAt_inq (site : Nat) (x : Tile) : (s.setTileAt site x).inq = s.inq := rfl
@[simp] theorem State.setTileAt_mgmt (site : Nat) (x : Tile) : (s.setTileAt site x).mgmt = s.mgmt := rfl
@[simp] theorem State.setTileAt_powered (site : Nat) (x : Tile) : (s.setTileAt site x).powered = s.powered := rfl
@[simp] theorem State.setTileAt_outbox (site : Nat) (x : Tile) : (s.setTileAt site x).outbox = s.outbox := rfl

@[simp] theorem State.setCtx_tick (c : Nat) (x : Ctx) : (s.setCtx c x).tick = s.tick := rfl
@[simp] theorem State.setCtx_time (c : Nat) (x : Ctx) : (s.setCtx c x).time = s.time := rfl
@[simp] theorem State.setCtx_agenda (c : Nat) (x : Ctx) : (s.setCtx c x).agenda = s.agenda := rfl
@[simp] theorem State.setCtx_iss (c : Nat) (x : Ctx) : (s.setCtx c x).iss = s.iss := rfl
@[simp] theorem State.setCtx_slots (c : Nat) (x : Ctx) : (s.setCtx c x).slots = s.slots := rfl
@[simp] theorem State.setCtx_tiles (c : Nat) (x : Ctx) : (s.setCtx c x).tiles = s.tiles := rfl
@[simp] theorem State.setCtx_scratch (c : Nat) (x : Ctx) : (s.setCtx c x).scratch = s.scratch := rfl
@[simp] theorem State.setCtx_scratchUE (c : Nat) (x : Ctx) : (s.setCtx c x).scratchUE = s.scratchUE := rfl
@[simp] theorem State.setCtx_scratchUndef (c : Nat) (x : Ctx) : (s.setCtx c x).scratchUndef = s.scratchUndef := rfl
@[simp] theorem State.setCtx_walkers (c : Nat) (x : Ctx) : (s.setCtx c x).walkers = s.walkers := rfl
@[simp] theorem State.setCtx_hedges (c : Nat) (x : Ctx) : (s.setCtx c x).hedges = s.hedges := rfl
@[simp] theorem State.setCtx_hedgeTokens (c : Nat) (x : Ctx) : (s.setCtx c x).hedgeTokens = s.hedgeTokens := rfl
@[simp] theorem State.setCtx_hedgeServed (c : Nat) (x : Ctx) : (s.setCtx c x).hedgeServed = s.hedgeServed := rfl
@[simp] theorem State.setCtx_refills (c : Nat) (x : Ctx) : (s.setCtx c x).refills = s.refills := rfl
@[simp] theorem State.setCtx_disabled (c : Nat) (x : Ctx) : (s.setCtx c x).disabled = s.disabled := rfl
@[simp] theorem State.setCtx_deadRouters (c : Nat) (x : Ctx) : (s.setCtx c x).deadRouters = s.deadRouters := rfl
@[simp] theorem State.setCtx_detour (c : Nat) (x : Ctx) : (s.setCtx c x).detour = s.detour := rfl
@[simp] theorem State.setCtx_matches_ (c : Nat) (x : Ctx) : (s.setCtx c x).matches_ = s.matches_ := rfl
@[simp] theorem State.setCtx_homes (c : Nat) (x : Ctx) : (s.setCtx c x).homes = s.homes := rfl
@[simp] theorem State.setCtx_failedRicks (c : Nat) (x : Ctx) : (s.setCtx c x).failedRicks = s.failedRicks := rfl
@[simp] theorem State.setCtx_ovflStall (c : Nat) (x : Ctx) : (s.setCtx c x).ovflStall = s.ovflStall := rfl
@[simp] theorem State.setCtx_mem (c : Nat) (x : Ctx) : (s.setCtx c x).mem = s.mem := rfl
@[simp] theorem State.setCtx_gran (c : Nat) (x : Ctx) : (s.setCtx c x).gran = s.gran := rfl
@[simp] theorem State.setCtx_tagNum (c : Nat) (x : Ctx) : (s.setCtx c x).tagNum = s.tagNum := rfl
@[simp] theorem State.setCtx_struck (c : Nat) (x : Ctx) : (s.setCtx c x).struck = s.struck := rfl
@[simp] theorem State.setCtx_ueTimes (c : Nat) (x : Ctx) : (s.setCtx c x).ueTimes = s.ueTimes := rfl
@[simp] theorem State.setCtx_discarded (c : Nat) (x : Ctx) : (s.setCtx c x).discarded = s.discarded := rfl
@[simp] theorem State.setCtx_modnum (c : Nat) (x : Ctx) : (s.setCtx c x).modnum = s.modnum := rfl
@[simp] theorem State.setCtx_windows (c : Nat) (x : Ctx) : (s.setCtx c x).windows = s.windows := rfl
@[simp] theorem State.setCtx_ops (c : Nat) (x : Ctx) : (s.setCtx c x).ops = s.ops := rfl
@[simp] theorem State.setCtx_quantaUsed (c : Nat) (x : Ctx) : (s.setCtx c x).quantaUsed = s.quantaUsed := rfl
@[simp] theorem State.setCtx_slewAt (c : Nat) (x : Ctx) : (s.setCtx c x).slewAt = s.slewAt := rfl
@[simp] theorem State.setCtx_slewHeld (c : Nat) (x : Ctx) : (s.setCtx c x).slewHeld = s.slewHeld := rfl
@[simp] theorem State.setCtx_links (c : Nat) (x : Ctx) : (s.setCtx c x).links = s.links := rfl
@[simp] theorem State.setCtx_swDown (c : Nat) (x : Ctx) : (s.setCtx c x).swDown = s.swDown := rfl
@[simp] theorem State.setCtx_out (c : Nat) (x : Ctx) : (s.setCtx c x).out = s.out := rfl
@[simp] theorem State.setCtx_nextTag (c : Nat) (x : Ctx) : (s.setCtx c x).nextTag = s.nextTag := rfl
@[simp] theorem State.setCtx_domainNum (c : Nat) (x : Ctx) : (s.setCtx c x).domainNum = s.domainNum := rfl
@[simp] theorem State.setCtx_brks (c : Nat) (x : Ctx) : (s.setCtx c x).brks = s.brks := rfl
@[simp] theorem State.setCtx_insts (c : Nat) (x : Ctx) : (s.setCtx c x).insts = s.insts := rfl
@[simp] theorem State.setCtx_nextUid (c : Nat) (x : Ctx) : (s.setCtx c x).nextUid = s.nextUid := rfl
@[simp] theorem State.setCtx_placeOut (c : Nat) (x : Ctx) : (s.setCtx c x).placeOut = s.placeOut := rfl
@[simp] theorem State.setCtx_queues (c : Nat) (x : Ctx) : (s.setCtx c x).queues = s.queues := rfl
@[simp] theorem State.setCtx_groups (c : Nat) (x : Ctx) : (s.setCtx c x).groups = s.groups := rfl
@[simp] theorem State.setCtx_bars (c : Nat) (x : Ctx) : (s.setCtx c x).bars = s.bars := rfl
@[simp] theorem State.setCtx_steps (c : Nat) (x : Ctx) : (s.setCtx c x).steps = s.steps := rfl
@[simp] theorem State.setCtx_est (c : Nat) (x : Ctx) : (s.setCtx c x).est = s.est := rfl
@[simp] theorem State.setCtx_boundary (c : Nat) (x : Ctx) : (s.setCtx c x).boundary = s.boundary := rfl
@[simp] theorem State.setCtx_calm (c : Nat) (x : Ctx) : (s.setCtx c x).calm = s.calm := rfl
@[simp] theorem State.setCtx_busy (c : Nat) (x : Ctx) : (s.setCtx c x).busy = s.busy := rfl
@[simp] theorem State.setCtx_opReq (c : Nat) (x : Ctx) : (s.setCtx c x).opReq = s.opReq := rfl
@[simp] theorem State.setCtx_evicts (c : Nat) (x : Ctx) : (s.setCtx c x).evicts = s.evicts := rfl
@[simp] theorem State.setCtx_lsends (c : Nat) (x : Ctx) : (s.setCtx c x).lsends = s.lsends := rfl
@[simp] theorem State.setCtx_lsendIn (c : Nat) (x : Ctx) : (s.setCtx c x).lsendIn = s.lsendIn := rfl
@[simp] theorem State.setCtx_seen (c : Nat) (x : Ctx) : (s.setCtx c x).seen = s.seen := rfl
@[simp] theorem State.setCtx_frameSeq (c : Nat) (x : Ctx) : (s.setCtx c x).frameSeq = s.frameSeq := rfl
@[simp] theorem State.setCtx_inq (c : Nat) (x : Ctx) : (s.setCtx c x).inq = s.inq := rfl
@[simp] theorem State.setCtx_mgmt (c : Nat) (x : Ctx) : (s.setCtx c x).mgmt = s.mgmt := rfl
@[simp] theorem State.setCtx_powered (c : Nat) (x : Ctx) : (s.setCtx c x).powered = s.powered := rfl
@[simp] theorem State.setCtx_outbox (c : Nat) (x : Ctx) : (s.setCtx c x).outbox = s.outbox := rfl

@[simp] theorem State.setIss_tick (x : Iss) : (s.setIss x).tick = s.tick := rfl
@[simp] theorem State.setIss_time (x : Iss) : (s.setIss x).time = s.time := rfl
@[simp] theorem State.setIss_agenda (x : Iss) : (s.setIss x).agenda = s.agenda := rfl
@[simp] theorem State.setIss_slots (x : Iss) : (s.setIss x).slots = s.slots := rfl
@[simp] theorem State.setIss_tiles (x : Iss) : (s.setIss x).tiles = s.tiles := rfl
@[simp] theorem State.setIss_scratch (x : Iss) : (s.setIss x).scratch = s.scratch := rfl
@[simp] theorem State.setIss_scratchUE (x : Iss) : (s.setIss x).scratchUE = s.scratchUE := rfl
@[simp] theorem State.setIss_scratchUndef (x : Iss) : (s.setIss x).scratchUndef = s.scratchUndef := rfl
@[simp] theorem State.setIss_walkers (x : Iss) : (s.setIss x).walkers = s.walkers := rfl
@[simp] theorem State.setIss_hedges (x : Iss) : (s.setIss x).hedges = s.hedges := rfl
@[simp] theorem State.setIss_hedgeTokens (x : Iss) : (s.setIss x).hedgeTokens = s.hedgeTokens := rfl
@[simp] theorem State.setIss_hedgeServed (x : Iss) : (s.setIss x).hedgeServed = s.hedgeServed := rfl
@[simp] theorem State.setIss_refills (x : Iss) : (s.setIss x).refills = s.refills := rfl
@[simp] theorem State.setIss_disabled (x : Iss) : (s.setIss x).disabled = s.disabled := rfl
@[simp] theorem State.setIss_deadRouters (x : Iss) : (s.setIss x).deadRouters = s.deadRouters := rfl
@[simp] theorem State.setIss_detour (x : Iss) : (s.setIss x).detour = s.detour := rfl
@[simp] theorem State.setIss_matches_ (x : Iss) : (s.setIss x).matches_ = s.matches_ := rfl
@[simp] theorem State.setIss_homes (x : Iss) : (s.setIss x).homes = s.homes := rfl
@[simp] theorem State.setIss_failedRicks (x : Iss) : (s.setIss x).failedRicks = s.failedRicks := rfl
@[simp] theorem State.setIss_ovflStall (x : Iss) : (s.setIss x).ovflStall = s.ovflStall := rfl
@[simp] theorem State.setIss_mem (x : Iss) : (s.setIss x).mem = s.mem := rfl
@[simp] theorem State.setIss_gran (x : Iss) : (s.setIss x).gran = s.gran := rfl
@[simp] theorem State.setIss_tagNum (x : Iss) : (s.setIss x).tagNum = s.tagNum := rfl
@[simp] theorem State.setIss_struck (x : Iss) : (s.setIss x).struck = s.struck := rfl
@[simp] theorem State.setIss_ueTimes (x : Iss) : (s.setIss x).ueTimes = s.ueTimes := rfl
@[simp] theorem State.setIss_discarded (x : Iss) : (s.setIss x).discarded = s.discarded := rfl
@[simp] theorem State.setIss_ctxs (x : Iss) : (s.setIss x).ctxs = s.ctxs := rfl
@[simp] theorem State.setIss_modnum (x : Iss) : (s.setIss x).modnum = s.modnum := rfl
@[simp] theorem State.setIss_windows (x : Iss) : (s.setIss x).windows = s.windows := rfl
@[simp] theorem State.setIss_ops (x : Iss) : (s.setIss x).ops = s.ops := rfl
@[simp] theorem State.setIss_quantaUsed (x : Iss) : (s.setIss x).quantaUsed = s.quantaUsed := rfl
@[simp] theorem State.setIss_slewAt (x : Iss) : (s.setIss x).slewAt = s.slewAt := rfl
@[simp] theorem State.setIss_slewHeld (x : Iss) : (s.setIss x).slewHeld = s.slewHeld := rfl
@[simp] theorem State.setIss_links (x : Iss) : (s.setIss x).links = s.links := rfl
@[simp] theorem State.setIss_swDown (x : Iss) : (s.setIss x).swDown = s.swDown := rfl
@[simp] theorem State.setIss_out (x : Iss) : (s.setIss x).out = s.out := rfl
@[simp] theorem State.setIss_nextTag (x : Iss) : (s.setIss x).nextTag = s.nextTag := rfl
@[simp] theorem State.setIss_domainNum (x : Iss) : (s.setIss x).domainNum = s.domainNum := rfl
@[simp] theorem State.setIss_brks (x : Iss) : (s.setIss x).brks = s.brks := rfl
@[simp] theorem State.setIss_insts (x : Iss) : (s.setIss x).insts = s.insts := rfl
@[simp] theorem State.setIss_nextUid (x : Iss) : (s.setIss x).nextUid = s.nextUid := rfl
@[simp] theorem State.setIss_placeOut (x : Iss) : (s.setIss x).placeOut = s.placeOut := rfl
@[simp] theorem State.setIss_queues (x : Iss) : (s.setIss x).queues = s.queues := rfl
@[simp] theorem State.setIss_groups (x : Iss) : (s.setIss x).groups = s.groups := rfl
@[simp] theorem State.setIss_bars (x : Iss) : (s.setIss x).bars = s.bars := rfl
@[simp] theorem State.setIss_steps (x : Iss) : (s.setIss x).steps = s.steps := rfl
@[simp] theorem State.setIss_est (x : Iss) : (s.setIss x).est = s.est := rfl
@[simp] theorem State.setIss_boundary (x : Iss) : (s.setIss x).boundary = s.boundary := rfl
@[simp] theorem State.setIss_calm (x : Iss) : (s.setIss x).calm = s.calm := rfl
@[simp] theorem State.setIss_busy (x : Iss) : (s.setIss x).busy = s.busy := rfl
@[simp] theorem State.setIss_opReq (x : Iss) : (s.setIss x).opReq = s.opReq := rfl
@[simp] theorem State.setIss_evicts (x : Iss) : (s.setIss x).evicts = s.evicts := rfl
@[simp] theorem State.setIss_lsends (x : Iss) : (s.setIss x).lsends = s.lsends := rfl
@[simp] theorem State.setIss_lsendIn (x : Iss) : (s.setIss x).lsendIn = s.lsendIn := rfl
@[simp] theorem State.setIss_seen (x : Iss) : (s.setIss x).seen = s.seen := rfl
@[simp] theorem State.setIss_frameSeq (x : Iss) : (s.setIss x).frameSeq = s.frameSeq := rfl
@[simp] theorem State.setIss_inq (x : Iss) : (s.setIss x).inq = s.inq := rfl
@[simp] theorem State.setIss_mgmt (x : Iss) : (s.setIss x).mgmt = s.mgmt := rfl
@[simp] theorem State.setIss_powered (x : Iss) : (s.setIss x).powered = s.powered := rfl
@[simp] theorem State.setIss_outbox (x : Iss) : (s.setIss x).outbox = s.outbox := rfl

@[simp] theorem State.setCur_tick (x : Slot) : (s.setCur x).tick = s.tick := rfl
@[simp] theorem State.setCur_time (x : Slot) : (s.setCur x).time = s.time := rfl
@[simp] theorem State.setCur_agenda (x : Slot) : (s.setCur x).agenda = s.agenda := rfl
@[simp] theorem State.setCur_iss (x : Slot) : (s.setCur x).iss = s.iss := rfl
@[simp] theorem State.setCur_tiles (x : Slot) : (s.setCur x).tiles = s.tiles := rfl
@[simp] theorem State.setCur_scratch (x : Slot) : (s.setCur x).scratch = s.scratch := rfl
@[simp] theorem State.setCur_scratchUE (x : Slot) : (s.setCur x).scratchUE = s.scratchUE := rfl
@[simp] theorem State.setCur_scratchUndef (x : Slot) : (s.setCur x).scratchUndef = s.scratchUndef := rfl
@[simp] theorem State.setCur_walkers (x : Slot) : (s.setCur x).walkers = s.walkers := rfl
@[simp] theorem State.setCur_hedges (x : Slot) : (s.setCur x).hedges = s.hedges := rfl
@[simp] theorem State.setCur_hedgeTokens (x : Slot) : (s.setCur x).hedgeTokens = s.hedgeTokens := rfl
@[simp] theorem State.setCur_hedgeServed (x : Slot) : (s.setCur x).hedgeServed = s.hedgeServed := rfl
@[simp] theorem State.setCur_refills (x : Slot) : (s.setCur x).refills = s.refills := rfl
@[simp] theorem State.setCur_disabled (x : Slot) : (s.setCur x).disabled = s.disabled := rfl
@[simp] theorem State.setCur_deadRouters (x : Slot) : (s.setCur x).deadRouters = s.deadRouters := rfl
@[simp] theorem State.setCur_detour (x : Slot) : (s.setCur x).detour = s.detour := rfl
@[simp] theorem State.setCur_matches_ (x : Slot) : (s.setCur x).matches_ = s.matches_ := rfl
@[simp] theorem State.setCur_homes (x : Slot) : (s.setCur x).homes = s.homes := rfl
@[simp] theorem State.setCur_failedRicks (x : Slot) : (s.setCur x).failedRicks = s.failedRicks := rfl
@[simp] theorem State.setCur_ovflStall (x : Slot) : (s.setCur x).ovflStall = s.ovflStall := rfl
@[simp] theorem State.setCur_mem (x : Slot) : (s.setCur x).mem = s.mem := rfl
@[simp] theorem State.setCur_gran (x : Slot) : (s.setCur x).gran = s.gran := rfl
@[simp] theorem State.setCur_tagNum (x : Slot) : (s.setCur x).tagNum = s.tagNum := rfl
@[simp] theorem State.setCur_struck (x : Slot) : (s.setCur x).struck = s.struck := rfl
@[simp] theorem State.setCur_ueTimes (x : Slot) : (s.setCur x).ueTimes = s.ueTimes := rfl
@[simp] theorem State.setCur_discarded (x : Slot) : (s.setCur x).discarded = s.discarded := rfl
@[simp] theorem State.setCur_ctxs (x : Slot) : (s.setCur x).ctxs = s.ctxs := rfl
@[simp] theorem State.setCur_modnum (x : Slot) : (s.setCur x).modnum = s.modnum := rfl
@[simp] theorem State.setCur_windows (x : Slot) : (s.setCur x).windows = s.windows := rfl
@[simp] theorem State.setCur_ops (x : Slot) : (s.setCur x).ops = s.ops := rfl
@[simp] theorem State.setCur_quantaUsed (x : Slot) : (s.setCur x).quantaUsed = s.quantaUsed := rfl
@[simp] theorem State.setCur_slewAt (x : Slot) : (s.setCur x).slewAt = s.slewAt := rfl
@[simp] theorem State.setCur_slewHeld (x : Slot) : (s.setCur x).slewHeld = s.slewHeld := rfl
@[simp] theorem State.setCur_links (x : Slot) : (s.setCur x).links = s.links := rfl
@[simp] theorem State.setCur_swDown (x : Slot) : (s.setCur x).swDown = s.swDown := rfl
@[simp] theorem State.setCur_out (x : Slot) : (s.setCur x).out = s.out := rfl
@[simp] theorem State.setCur_nextTag (x : Slot) : (s.setCur x).nextTag = s.nextTag := rfl
@[simp] theorem State.setCur_domainNum (x : Slot) : (s.setCur x).domainNum = s.domainNum := rfl
@[simp] theorem State.setCur_brks (x : Slot) : (s.setCur x).brks = s.brks := rfl
@[simp] theorem State.setCur_insts (x : Slot) : (s.setCur x).insts = s.insts := rfl
@[simp] theorem State.setCur_nextUid (x : Slot) : (s.setCur x).nextUid = s.nextUid := rfl
@[simp] theorem State.setCur_placeOut (x : Slot) : (s.setCur x).placeOut = s.placeOut := rfl
@[simp] theorem State.setCur_queues (x : Slot) : (s.setCur x).queues = s.queues := rfl
@[simp] theorem State.setCur_groups (x : Slot) : (s.setCur x).groups = s.groups := rfl
@[simp] theorem State.setCur_bars (x : Slot) : (s.setCur x).bars = s.bars := rfl
@[simp] theorem State.setCur_steps (x : Slot) : (s.setCur x).steps = s.steps := rfl
@[simp] theorem State.setCur_est (x : Slot) : (s.setCur x).est = s.est := rfl
@[simp] theorem State.setCur_boundary (x : Slot) : (s.setCur x).boundary = s.boundary := rfl
@[simp] theorem State.setCur_calm (x : Slot) : (s.setCur x).calm = s.calm := rfl
@[simp] theorem State.setCur_busy (x : Slot) : (s.setCur x).busy = s.busy := rfl
@[simp] theorem State.setCur_opReq (x : Slot) : (s.setCur x).opReq = s.opReq := rfl
@[simp] theorem State.setCur_evicts (x : Slot) : (s.setCur x).evicts = s.evicts := rfl
@[simp] theorem State.setCur_lsends (x : Slot) : (s.setCur x).lsends = s.lsends := rfl
@[simp] theorem State.setCur_lsendIn (x : Slot) : (s.setCur x).lsendIn = s.lsendIn := rfl
@[simp] theorem State.setCur_seen (x : Slot) : (s.setCur x).seen = s.seen := rfl
@[simp] theorem State.setCur_frameSeq (x : Slot) : (s.setCur x).frameSeq = s.frameSeq := rfl
@[simp] theorem State.setCur_inq (x : Slot) : (s.setCur x).inq = s.inq := rfl
@[simp] theorem State.setCur_mgmt (x : Slot) : (s.setCur x).mgmt = s.mgmt := rfl
@[simp] theorem State.setCur_powered (x : Slot) : (s.setCur x).powered = s.powered := rfl
@[simp] theorem State.setCur_outbox (x : Slot) : (s.setCur x).outbox = s.outbox := rfl

@[simp] theorem State.setCurTile_tick (x : Tile) : (s.setCurTile x).tick = s.tick := rfl
@[simp] theorem State.setCurTile_time (x : Tile) : (s.setCurTile x).time = s.time := rfl
@[simp] theorem State.setCurTile_agenda (x : Tile) : (s.setCurTile x).agenda = s.agenda := rfl
@[simp] theorem State.setCurTile_iss (x : Tile) : (s.setCurTile x).iss = s.iss := rfl
@[simp] theorem State.setCurTile_slots (x : Tile) : (s.setCurTile x).slots = s.slots := rfl
@[simp] theorem State.setCurTile_scratch (x : Tile) : (s.setCurTile x).scratch = s.scratch := rfl
@[simp] theorem State.setCurTile_scratchUE (x : Tile) : (s.setCurTile x).scratchUE = s.scratchUE := rfl
@[simp] theorem State.setCurTile_scratchUndef (x : Tile) : (s.setCurTile x).scratchUndef = s.scratchUndef := rfl
@[simp] theorem State.setCurTile_walkers (x : Tile) : (s.setCurTile x).walkers = s.walkers := rfl
@[simp] theorem State.setCurTile_hedges (x : Tile) : (s.setCurTile x).hedges = s.hedges := rfl
@[simp] theorem State.setCurTile_hedgeTokens (x : Tile) : (s.setCurTile x).hedgeTokens = s.hedgeTokens := rfl
@[simp] theorem State.setCurTile_hedgeServed (x : Tile) : (s.setCurTile x).hedgeServed = s.hedgeServed := rfl
@[simp] theorem State.setCurTile_refills (x : Tile) : (s.setCurTile x).refills = s.refills := rfl
@[simp] theorem State.setCurTile_disabled (x : Tile) : (s.setCurTile x).disabled = s.disabled := rfl
@[simp] theorem State.setCurTile_deadRouters (x : Tile) : (s.setCurTile x).deadRouters = s.deadRouters := rfl
@[simp] theorem State.setCurTile_detour (x : Tile) : (s.setCurTile x).detour = s.detour := rfl
@[simp] theorem State.setCurTile_matches_ (x : Tile) : (s.setCurTile x).matches_ = s.matches_ := rfl
@[simp] theorem State.setCurTile_homes (x : Tile) : (s.setCurTile x).homes = s.homes := rfl
@[simp] theorem State.setCurTile_failedRicks (x : Tile) : (s.setCurTile x).failedRicks = s.failedRicks := rfl
@[simp] theorem State.setCurTile_ovflStall (x : Tile) : (s.setCurTile x).ovflStall = s.ovflStall := rfl
@[simp] theorem State.setCurTile_mem (x : Tile) : (s.setCurTile x).mem = s.mem := rfl
@[simp] theorem State.setCurTile_gran (x : Tile) : (s.setCurTile x).gran = s.gran := rfl
@[simp] theorem State.setCurTile_tagNum (x : Tile) : (s.setCurTile x).tagNum = s.tagNum := rfl
@[simp] theorem State.setCurTile_struck (x : Tile) : (s.setCurTile x).struck = s.struck := rfl
@[simp] theorem State.setCurTile_ueTimes (x : Tile) : (s.setCurTile x).ueTimes = s.ueTimes := rfl
@[simp] theorem State.setCurTile_discarded (x : Tile) : (s.setCurTile x).discarded = s.discarded := rfl
@[simp] theorem State.setCurTile_ctxs (x : Tile) : (s.setCurTile x).ctxs = s.ctxs := rfl
@[simp] theorem State.setCurTile_modnum (x : Tile) : (s.setCurTile x).modnum = s.modnum := rfl
@[simp] theorem State.setCurTile_windows (x : Tile) : (s.setCurTile x).windows = s.windows := rfl
@[simp] theorem State.setCurTile_ops (x : Tile) : (s.setCurTile x).ops = s.ops := rfl
@[simp] theorem State.setCurTile_quantaUsed (x : Tile) : (s.setCurTile x).quantaUsed = s.quantaUsed := rfl
@[simp] theorem State.setCurTile_slewAt (x : Tile) : (s.setCurTile x).slewAt = s.slewAt := rfl
@[simp] theorem State.setCurTile_slewHeld (x : Tile) : (s.setCurTile x).slewHeld = s.slewHeld := rfl
@[simp] theorem State.setCurTile_links (x : Tile) : (s.setCurTile x).links = s.links := rfl
@[simp] theorem State.setCurTile_swDown (x : Tile) : (s.setCurTile x).swDown = s.swDown := rfl
@[simp] theorem State.setCurTile_out (x : Tile) : (s.setCurTile x).out = s.out := rfl
@[simp] theorem State.setCurTile_nextTag (x : Tile) : (s.setCurTile x).nextTag = s.nextTag := rfl
@[simp] theorem State.setCurTile_domainNum (x : Tile) : (s.setCurTile x).domainNum = s.domainNum := rfl
@[simp] theorem State.setCurTile_brks (x : Tile) : (s.setCurTile x).brks = s.brks := rfl
@[simp] theorem State.setCurTile_insts (x : Tile) : (s.setCurTile x).insts = s.insts := rfl
@[simp] theorem State.setCurTile_nextUid (x : Tile) : (s.setCurTile x).nextUid = s.nextUid := rfl
@[simp] theorem State.setCurTile_placeOut (x : Tile) : (s.setCurTile x).placeOut = s.placeOut := rfl
@[simp] theorem State.setCurTile_queues (x : Tile) : (s.setCurTile x).queues = s.queues := rfl
@[simp] theorem State.setCurTile_groups (x : Tile) : (s.setCurTile x).groups = s.groups := rfl
@[simp] theorem State.setCurTile_bars (x : Tile) : (s.setCurTile x).bars = s.bars := rfl
@[simp] theorem State.setCurTile_steps (x : Tile) : (s.setCurTile x).steps = s.steps := rfl
@[simp] theorem State.setCurTile_est (x : Tile) : (s.setCurTile x).est = s.est := rfl
@[simp] theorem State.setCurTile_boundary (x : Tile) : (s.setCurTile x).boundary = s.boundary := rfl
@[simp] theorem State.setCurTile_calm (x : Tile) : (s.setCurTile x).calm = s.calm := rfl
@[simp] theorem State.setCurTile_busy (x : Tile) : (s.setCurTile x).busy = s.busy := rfl
@[simp] theorem State.setCurTile_opReq (x : Tile) : (s.setCurTile x).opReq = s.opReq := rfl
@[simp] theorem State.setCurTile_evicts (x : Tile) : (s.setCurTile x).evicts = s.evicts := rfl
@[simp] theorem State.setCurTile_lsends (x : Tile) : (s.setCurTile x).lsends = s.lsends := rfl
@[simp] theorem State.setCurTile_lsendIn (x : Tile) : (s.setCurTile x).lsendIn = s.lsendIn := rfl
@[simp] theorem State.setCurTile_seen (x : Tile) : (s.setCurTile x).seen = s.seen := rfl
@[simp] theorem State.setCurTile_frameSeq (x : Tile) : (s.setCurTile x).frameSeq = s.frameSeq := rfl
@[simp] theorem State.setCurTile_inq (x : Tile) : (s.setCurTile x).inq = s.inq := rfl
@[simp] theorem State.setCurTile_mgmt (x : Tile) : (s.setCurTile x).mgmt = s.mgmt := rfl
@[simp] theorem State.setCurTile_powered (x : Tile) : (s.setCurTile x).powered = s.powered := rfl
@[simp] theorem State.setCurTile_outbox (x : Tile) : (s.setCurTile x).outbox = s.outbox := rfl

@[simp] theorem State.sendAt_tick (due chan : Nat) (ev : Instr) : (s.sendAt due chan ev).tick = s.tick := rfl
@[simp] theorem State.sendAt_time (due chan : Nat) (ev : Instr) : (s.sendAt due chan ev).time = s.time := rfl
@[simp] theorem State.sendAt_iss (due chan : Nat) (ev : Instr) : (s.sendAt due chan ev).iss = s.iss := rfl
@[simp] theorem State.sendAt_slots (due chan : Nat) (ev : Instr) : (s.sendAt due chan ev).slots = s.slots := rfl
@[simp] theorem State.sendAt_tiles (due chan : Nat) (ev : Instr) : (s.sendAt due chan ev).tiles = s.tiles := rfl
@[simp] theorem State.sendAt_scratch (due chan : Nat) (ev : Instr) : (s.sendAt due chan ev).scratch = s.scratch := rfl
@[simp] theorem State.sendAt_scratchUE (due chan : Nat) (ev : Instr) : (s.sendAt due chan ev).scratchUE = s.scratchUE := rfl
@[simp] theorem State.sendAt_scratchUndef (due chan : Nat) (ev : Instr) : (s.sendAt due chan ev).scratchUndef = s.scratchUndef := rfl
@[simp] theorem State.sendAt_walkers (due chan : Nat) (ev : Instr) : (s.sendAt due chan ev).walkers = s.walkers := rfl
@[simp] theorem State.sendAt_hedges (due chan : Nat) (ev : Instr) : (s.sendAt due chan ev).hedges = s.hedges := rfl
@[simp] theorem State.sendAt_hedgeTokens (due chan : Nat) (ev : Instr) : (s.sendAt due chan ev).hedgeTokens = s.hedgeTokens := rfl
@[simp] theorem State.sendAt_hedgeServed (due chan : Nat) (ev : Instr) : (s.sendAt due chan ev).hedgeServed = s.hedgeServed := rfl
@[simp] theorem State.sendAt_refills (due chan : Nat) (ev : Instr) : (s.sendAt due chan ev).refills = s.refills := rfl
@[simp] theorem State.sendAt_disabled (due chan : Nat) (ev : Instr) : (s.sendAt due chan ev).disabled = s.disabled := rfl
@[simp] theorem State.sendAt_deadRouters (due chan : Nat) (ev : Instr) : (s.sendAt due chan ev).deadRouters = s.deadRouters := rfl
@[simp] theorem State.sendAt_detour (due chan : Nat) (ev : Instr) : (s.sendAt due chan ev).detour = s.detour := rfl
@[simp] theorem State.sendAt_matches_ (due chan : Nat) (ev : Instr) : (s.sendAt due chan ev).matches_ = s.matches_ := rfl
@[simp] theorem State.sendAt_homes (due chan : Nat) (ev : Instr) : (s.sendAt due chan ev).homes = s.homes := rfl
@[simp] theorem State.sendAt_failedRicks (due chan : Nat) (ev : Instr) : (s.sendAt due chan ev).failedRicks = s.failedRicks := rfl
@[simp] theorem State.sendAt_ovflStall (due chan : Nat) (ev : Instr) : (s.sendAt due chan ev).ovflStall = s.ovflStall := rfl
@[simp] theorem State.sendAt_mem (due chan : Nat) (ev : Instr) : (s.sendAt due chan ev).mem = s.mem := rfl
@[simp] theorem State.sendAt_gran (due chan : Nat) (ev : Instr) : (s.sendAt due chan ev).gran = s.gran := rfl
@[simp] theorem State.sendAt_tagNum (due chan : Nat) (ev : Instr) : (s.sendAt due chan ev).tagNum = s.tagNum := rfl
@[simp] theorem State.sendAt_struck (due chan : Nat) (ev : Instr) : (s.sendAt due chan ev).struck = s.struck := rfl
@[simp] theorem State.sendAt_ueTimes (due chan : Nat) (ev : Instr) : (s.sendAt due chan ev).ueTimes = s.ueTimes := rfl
@[simp] theorem State.sendAt_discarded (due chan : Nat) (ev : Instr) : (s.sendAt due chan ev).discarded = s.discarded := rfl
@[simp] theorem State.sendAt_ctxs (due chan : Nat) (ev : Instr) : (s.sendAt due chan ev).ctxs = s.ctxs := rfl
@[simp] theorem State.sendAt_modnum (due chan : Nat) (ev : Instr) : (s.sendAt due chan ev).modnum = s.modnum := rfl
@[simp] theorem State.sendAt_windows (due chan : Nat) (ev : Instr) : (s.sendAt due chan ev).windows = s.windows := rfl
@[simp] theorem State.sendAt_ops (due chan : Nat) (ev : Instr) : (s.sendAt due chan ev).ops = s.ops := rfl
@[simp] theorem State.sendAt_quantaUsed (due chan : Nat) (ev : Instr) : (s.sendAt due chan ev).quantaUsed = s.quantaUsed := rfl
@[simp] theorem State.sendAt_slewAt (due chan : Nat) (ev : Instr) : (s.sendAt due chan ev).slewAt = s.slewAt := rfl
@[simp] theorem State.sendAt_slewHeld (due chan : Nat) (ev : Instr) : (s.sendAt due chan ev).slewHeld = s.slewHeld := rfl
@[simp] theorem State.sendAt_links (due chan : Nat) (ev : Instr) : (s.sendAt due chan ev).links = s.links := rfl
@[simp] theorem State.sendAt_swDown (due chan : Nat) (ev : Instr) : (s.sendAt due chan ev).swDown = s.swDown := rfl
@[simp] theorem State.sendAt_out (due chan : Nat) (ev : Instr) : (s.sendAt due chan ev).out = s.out := rfl
@[simp] theorem State.sendAt_nextTag (due chan : Nat) (ev : Instr) : (s.sendAt due chan ev).nextTag = s.nextTag := rfl
@[simp] theorem State.sendAt_domainNum (due chan : Nat) (ev : Instr) : (s.sendAt due chan ev).domainNum = s.domainNum := rfl
@[simp] theorem State.sendAt_brks (due chan : Nat) (ev : Instr) : (s.sendAt due chan ev).brks = s.brks := rfl
@[simp] theorem State.sendAt_insts (due chan : Nat) (ev : Instr) : (s.sendAt due chan ev).insts = s.insts := rfl
@[simp] theorem State.sendAt_nextUid (due chan : Nat) (ev : Instr) : (s.sendAt due chan ev).nextUid = s.nextUid := rfl
@[simp] theorem State.sendAt_placeOut (due chan : Nat) (ev : Instr) : (s.sendAt due chan ev).placeOut = s.placeOut := rfl
@[simp] theorem State.sendAt_queues (due chan : Nat) (ev : Instr) : (s.sendAt due chan ev).queues = s.queues := rfl
@[simp] theorem State.sendAt_groups (due chan : Nat) (ev : Instr) : (s.sendAt due chan ev).groups = s.groups := rfl
@[simp] theorem State.sendAt_bars (due chan : Nat) (ev : Instr) : (s.sendAt due chan ev).bars = s.bars := rfl
@[simp] theorem State.sendAt_steps (due chan : Nat) (ev : Instr) : (s.sendAt due chan ev).steps = s.steps := rfl
@[simp] theorem State.sendAt_est (due chan : Nat) (ev : Instr) : (s.sendAt due chan ev).est = s.est := rfl
@[simp] theorem State.sendAt_boundary (due chan : Nat) (ev : Instr) : (s.sendAt due chan ev).boundary = s.boundary := rfl
@[simp] theorem State.sendAt_calm (due chan : Nat) (ev : Instr) : (s.sendAt due chan ev).calm = s.calm := rfl
@[simp] theorem State.sendAt_busy (due chan : Nat) (ev : Instr) : (s.sendAt due chan ev).busy = s.busy := rfl
@[simp] theorem State.sendAt_opReq (due chan : Nat) (ev : Instr) : (s.sendAt due chan ev).opReq = s.opReq := rfl
@[simp] theorem State.sendAt_evicts (due chan : Nat) (ev : Instr) : (s.sendAt due chan ev).evicts = s.evicts := rfl
@[simp] theorem State.sendAt_lsends (due chan : Nat) (ev : Instr) : (s.sendAt due chan ev).lsends = s.lsends := rfl
@[simp] theorem State.sendAt_lsendIn (due chan : Nat) (ev : Instr) : (s.sendAt due chan ev).lsendIn = s.lsendIn := rfl
@[simp] theorem State.sendAt_seen (due chan : Nat) (ev : Instr) : (s.sendAt due chan ev).seen = s.seen := rfl
@[simp] theorem State.sendAt_frameSeq (due chan : Nat) (ev : Instr) : (s.sendAt due chan ev).frameSeq = s.frameSeq := rfl
@[simp] theorem State.sendAt_inq (due chan : Nat) (ev : Instr) : (s.sendAt due chan ev).inq = s.inq := rfl
@[simp] theorem State.sendAt_mgmt (due chan : Nat) (ev : Instr) : (s.sendAt due chan ev).mgmt = s.mgmt := rfl
@[simp] theorem State.sendAt_powered (due chan : Nat) (ev : Instr) : (s.sendAt due chan ev).powered = s.powered := rfl
@[simp] theorem State.sendAt_outbox (due chan : Nat) (ev : Instr) : (s.sendAt due chan ev).outbox = s.outbox := rfl

@[simp] theorem State.setIss_iss (x : Iss) : (s.setIss x).iss = x := rfl
@[simp] theorem State.setIss_cur (x : Iss) (h : x.site = s.iss.site) (k : x.slot = s.iss.slot) : (s.setIss x).cur = s.cur := by
  rw [State.cur, State.setIss_iss, h, k]
  rfl
@[simp] theorem State.slotAt_setIss (x : Iss) (site slot : Nat) : (s.setIss x).slotAt site slot = s.slotAt site slot := rfl
@[simp] theorem State.slotAt_setTileAt (site' : Nat) (t : Tile) (site slot : Nat) : (s.setTileAt site' t).slotAt site slot = s.slotAt site slot := rfl
@[simp] theorem State.tileAt_setSlotAt (site' slot' : Nat) (x : Slot) (site : Nat) : (s.setSlotAt site' slot' x).tileAt site = s.tileAt site := rfl
@[simp] theorem State.tileAt_setCur (x : Slot) (site : Nat) : (s.setCur x).tileAt site = s.tileAt site := rfl
@[simp] theorem State.ctx_setSlotAt (site slot : Nat) (x : Slot) (c : Nat) : (s.setSlotAt site slot x).ctx c = s.ctx c := rfl
@[simp] theorem State.slotAt_setSlotAt_same (site slot : Nat) (x : Slot) : (s.setSlotAt site slot x).slotAt site slot = x :=
  KMap.getD_set_same ..
theorem State.slotAt_setSlotAt_other (site slot site' slot' : Nat) (x : Slot) (h : slotKey site' slot' ≠ slotKey site slot) :
    (s.setSlotAt site slot x).slotAt site' slot' = s.slotAt site' slot' := KMap.getD_set_other _ _ _ _ _ h
@[simp] theorem State.tileAt_setTileAt_same (site : Nat) (t : Tile) : (s.setTileAt site t).tileAt site = t := KMap.getD_set_same ..
theorem State.tileAt_setTileAt_other (site site' : Nat) (t : Tile) (h : site' ≠ site) : (s.setTileAt site t).tileAt site' = s.tileAt site' :=
  KMap.getD_set_other _ _ _ _ _ h
@[simp] theorem State.ctx_setCtx_same (c : Nat) (x : Ctx) : (s.setCtx c x).ctx c = x := KMap.getD_set_same ..
theorem State.ctx_setCtx_other (c c' : Nat) (x : Ctx) (h : c' ≠ c) : (s.setCtx c x).ctx c' = s.ctx c' := KMap.getD_set_other _ _ _ _ _ h
@[simp] theorem State.cur_setCur (x : Slot) : (s.setCur x).cur = x := State.slotAt_setSlotAt_same ..

end Sys2Proof.Machine
end

