-- ==== Sys2Proof/Tests/Slice0.lean ====
section
/-! SUPPORT. Tests of the model: ill-formed terms that are refused, words of the spec's encoding tables, a witness for the hypotheses of every
statement, and small tests of single instructions. -/

namespace Sys2Proof.Tests
open Sys2Proof Sys2Proof.Machine

set_option Elab.async false

/-! ### States -/

def h0 : Hdr := ⟨true, false, 0⟩
/-- A slot that runs, with an empty bundle at issue. -/
def tRun : State := (State.reset.withProgram []).begin_ 0 0
/-- Some main registers set. -/
def withA (s : State) (l : List (Nat × Word)) : State :=
  s.setCur { s.cur with f := l.foldl (fun f e => f.put (.a e.1) (e.2.zeroExtend 1024)) s.cur.f }
def tA (l : List (Nat × Word)) : State := withA tRun l
def setX (s : State) (g : Slot → Slot) : State := s.setCur (g s.cur)
def setT (s : State) (g : Tile → Tile) : State := s.setCurTile (g s.curTile)
/-- F-RRR with destination a5, sources a1, a2, a3 and a type. -/
def rrr (t : Nat) (m : Nat := 0) (c : Nat := 3) : RRR := ⟨5, 1, 2, BitVec.ofNat 8 c, BitVec.ofNat 8 t, BitVec.ofNat 8 m⟩

/-! ### Witnesses: S class and control -/

/-- The premise of every statement about a syllable, and its opposite in GuardedOff. -/
theorem witness_GuardedOff : tRun.guard h0 = true ∧ tRun.guard ⟨true, true, 0⟩ = false ∧ hdrOfInstr (.nop h0 (rrr 0)) = some h0 := by decide +kernel

/-- In range; past the range under CK; a divisor of 0 and one that is not. -/
theorem witness_ScalarArithmetic :
    tyBring (rrrT (rrr 3)) (mSat 0) (mCk 0) ((tA [(1, 7), (2, 9)]).srcA (rrr 3) + 9) = some 16 ∧
    tyBring (rrrT (rrr 0 16)) (mSat 16) (mCk 16) ((tA [(1, 127)]).srcA (rrr 0 16) + 1) = none ∧
    (tA [(2, 1)]).srcB (rrr 3) ≠ 0 ∧ (tA []).srcB (rrr 3) = 0 ∧
    tyBring (rrrT (rrr 3)) false false (Int.tdiv (-7) 1) = some (-7) := by decide +kernel

/-- One below the width, the width with and without CK. -/
theorem witness_ScalarShifts :
    ((tA [(2, 31)]).readS 24 2).toNat < tyBits (rrrT (rrr 2)) ∧ tyBits (rrrT (rrr 2)) ≤ ((tA [(2, 32)]).readS 24 2).toNat ∧
    mCk (rrr 2).m = false ∧ mCk (rrr 2 16).m = true := by decide +kernel

/-- A field that ends at bit 63, and one that passes it. -/
theorem witness_ScalarFieldsAndCounts :
    ((tA [(3, 0x073F)]).readS 16 3).toNat % 64 + ((tA [(3, 0x073F)]).readS 16 3).toNat / 256 % 64 + 1 = 71 ∧
    ((tA [(3, 0x0738)]).readS 16 3).toNat % 64 + (((tA [(3, 0x0738)]).readS 16 3).toNat / 256 % 64 + 1) = 64 := by decide +kernel

def br : BrF := ⟨1, 0, 8⟩
/-- Aligned and unaligned targets; IDLE with a latch bit, with a count of 0, with neither; BRK with and without DBGEN. -/
theorem witness_BranchesAndStops :
    ((tA [(1, 0x40)]).readS 40 br.a + br.off.signExtend 64).extractLsb' 0 3 = 0 ∧
    ((tA [(1, 0x41)]).readS 40 br.a + br.off.signExtend 64).extractLsb' 0 3 ≠ 0 ∧
    ((tA [(1, 0x40)]).readS 40 br.a).extractLsb' 0 3 = 0 ∧ ((tA [(1, 0x47)]).readS 40 br.a).extractLsb' 0 3 ≠ 0 ∧
    ((tA [(1, 1)]).readS 32 1).toNat ≠ 0 ∧ (setX (tA [(1, 1)]) (fun x => { x with latch := 1 })).cur.latch ≠ 0 ∧
    ((tA []).readS 32 1).toNat = 0 ∧ tRun.cur.latch = 0 ∧ tRun.cur.sys.dbgen = false ∧
    (setX tRun (fun x => { x with sys := { x.sys with dbgen := true } })).cur.sys.dbgen = true := by decide +kernel

def sysw (n : Nat) : RRI := ⟨0, 1, BitVec.ofNat 32 n, none⟩
/-- Every register that SYSW writes, with values that it takes and does not take. -/
theorem witness_SystemRegisters :
    (∀ n ∈ [0x000, 0x001, 0x002, 0x003, 0x004, 0x021, 0x050, 0x051, 0x052, 0x053, 0x80F, 0x020, 0x022, 0x802, 0x803, 0x804, 0x805, 0x800, 0x801],
      (waitSysw (sysw n) (tA [(1, 0)])).isNone = true ∧ sysBad n ((tA [(1, 0)]).readS 32 1) = false) ∧
    (sysw 0x022).imm.toNat % 4096 = 0x022 ∧ sysBad 0x022 1 = false ∧ (tA [(1, 1)]).readS 32 1 ≠ 0 ∧
    sysBad 0x020 (BitVec.allOnes 64) = true ∧ (waitSysw (sysw 0x020) (tA [(1, BitVec.allOnes 64)])).isNone = true ∧
    (sysw 0x030).imm.toNat % 4096 = 0x030 ∧ (sysw 0x031).imm.toNat % 4096 = 0x031 := by decide +kernel

def tHandler : State := setX tRun (fun x => { x with sys := { x.sys with trapbase := 0x8000000000000100, intrap := true } })
/-- Outside a handler with TRAPBASE valid and not; in a handler; a bundle whose RFT has acted. -/
theorem witness_TrapAndReturn :
    tHandler.cur.sys.intrap = true ∧ tHandler.cur.pend = [] ∧ tRun.cur.sys.intrap = false ∧ tRun.cur.mmag = none ∧
    tHandler.cur.sys.trapbase.getLsbD 63 = true ∧ tRun.cur.sys.trapbase.getLsbD 63 = false ∧
    (setX tRun (fun x => { x with sys := { x.sys with trapbase := 0x8000000000000100 } })).cur.sys.trapbase.getLsbD 63 = true ∧
    (tHandler.setIss { tHandler.iss with rft := true }).iss.rft = true ∧ tHandler.iss.done = false ∧ tHandler.iss.after = none := by decide +kernel

/-- Targets on and off a multiple of 8, LOOP with a count of 0, and a bundle past the end of its code region. -/
theorem witness_ComputedTargets :
    ((tA [(1, 0x38)]).readS 40 br.a + br.off.signExtend 64).toNat % 8 = 0 ∧ ((tA [(1, 0x39)]).readS 40 br.a).toNat % 8 ≠ 0 ∧
    ((tA [(1, 0x39)]).readS 40 br.a + br.off.signExtend 64).toNat % 8 ≠ 0 ∧ ((tA [(1, 0x38)]).readS 40 br.a).toNat % 8 = 0 ∧ (tA []).readS 40 br.a = 0 ∧
    (let s := setX tRun (fun x => { x with pc := 4089, sys := { x.sys with trapbase := 0x8000000000000100 } })
     let s1 := s.begin_ 0 0
     s1.cur.wait ≠ .ways ∧ s1.cur.after = none ∧ s1.cur.codeSize < s1.cur.pc.toNat + 8 ∧ s1.cur.pend = [] ∧ s1.cur.mmag = none ∧ s1.cur.sys.intrap = false ∧
     s1.cur.sys.trapbase.getLsbD 63 = true) := by decide +kernel

/-- Both bodies of a NOP. -/
theorem witness_NopDoesNothing : h0.pred ≠ 0 ∨ h0.neg = false := by decide

/-! ### Witnesses: V class -/

def sr (s : State) (seed : Word) : State := setX s (fun x => { x with sys := { x.sys with rngseed := seed } })
/-- To nearest even, and SR with a generator that is not 0; no lane traps. -/
theorem witness_VectorRounding :
    vModeOf tRun (rrr 10) ≤ 5 ∧ rrrT (rrr 10) = 10 ∧ vModeOf (sr tRun 1) (rrr 10 5) = 5 ∧ (sr tRun 1).cur.sys.rngseed ≠ 0 := by decide +kernel
theorem witness_VectorRounding_quiet : vQuiet tRun (fun n => fLane (fpAdd fmtF32 (vRndOf tRun (rrr 10) n) false
    (laneF (tRun.readV 32 1) n) (laneF (tRun.readV 24 2) n))) := by
  unfold vQuiet; decide +kernel

/-- Integer and float types; no lane traps. -/
theorem witness_VectorLanes : rrrT (rrr 2) ≠ 10 ∧ rrrT (rrr 10) = 10 ∧
    (∀ i < 32, (iLane 2 16 (laneI 2 (tRun.readV 32 1) i + laneI 2 (tRun.readV 24 2) i)).bad = none) ∧
    (∀ k < 5, tRun.cur.sys.fptrapen.getLsbD k = false) := by decide +kernel

def maxV : VReg := ofLanes (fun n => if n = 0 then 0 else 0x7FFFFFFF)
def withV (s : State) (l : List (Nat × VReg)) : State := setX s (fun x => { x with f := l.foldl (fun f e => f.put (.v e.1) e.2) x.f })
/-- DYN with modes 5, 6 and 7; SR with a generator of 0; a sum that overflows in lane 1 and in none before it; a codebook that VCVT does not wait for. -/
theorem witness_VectorTraps :
    (waitVcvt (rrr 10 0 8) tRun).isNone = true ∧ cvtSrc (rrr 10 0 8) ≠ 13 ∧ vModeOf tRun (rrr 10) ≤ 5 ∧ rrrT (rrr 2) ≠ 10 ∧
    (let s := setX tRun (fun x => { x with sys := { x.sys with fpstatus := 5 } }); 5 ≤ vModeOf s (rrr 10 6) ∧ rrrT (rrr 10 6) = 10) ∧
    (∀ k ∈ [6, 7], let s := setX tRun (fun x => { x with sys := { x.sys with fpstatus := BitVec.ofNat 64 k } })
      mRnd (rrr 10 6).m = 6 ∧ 6 ≤ vModeOf s (rrr 10 6)) ∧
    vModeOf tRun (rrr 10 5) = 5 ∧ (sr tRun 0).cur.sys.rngseed = 0 ∧
    rrrT (rrr 2 16) = 2 ∧ mSat (rrr 2 16).m = false ∧ mCk (rrr 2 16).m = true ∧
    (let s := withV tRun [(1, maxV), (2, maxV)]
     tyFits 2 (laneI 2 (s.readV 32 1) 1 + laneI 2 (s.readV 24 2) 1) = false ∧
     tyFits 2 (laneI 2 (s.readV 32 1) 0 + laneI 2 (s.readV 24 2) 0) = true) := by decide +kernel

/-- An enabled division by zero in lane 0, whose nodes and whose quotient raise it; a shift by 32 under CK in lane 3 and by less before it. -/
theorem witness_VectorTraps_float :
    (let s := setX (withV tRun [(1, ofLanes (fun _ => 0x3F800000))]) (fun x => { x with sys := { x.sys with fptrapen := 0x1F } })
     let q := fLane (fpDiv fmtF32 (vRndOf s (rrr 10) 0) false (laneF (s.readV 32 1) 0) (laneF (s.readV 24 2) 0))
     s.cur.sys.fptrapen.getLsbD 1 = true ∧ q.flags / 2 % 2 = 1 ∧ q.bad = none ∧ q.flags % 2 = 0) ∧
    (let s := setX (withV tRun [(1, ofLanes (fun _ => 0x7F800000)), (2, ofLanes (fun _ => 0xFF800000))]) (fun x => { x with sys := { x.sys with fptrapen := 1 } })
     (vFault 1 (treeGo (addNode 10 0 ⟨0, 0⟩) 5 ((List.range 32).zip ((List.range 32).map (fun i => if i % 2 = 0 then lane (s.readV 32 1) i else
       lane (s.readV 24 2) i))) []).2).isSome = true) ∧
    (let b := ofLanes (fun n => if n = 3 then 32 else 31)
     (lane b 3).toNat = 32 ∧ (∀ m < 3, (lane b m).toNat < 32) ∧ mCk (rrr 2 16).m = true) := by decide +kernel

/-- Lane numbers 31 and 32; a generator of 1 and of 0. -/
theorem witness_VectorWhole :
    ((tA [(2, 31)]).readS 24 2).toNat < 32 ∧ 32 ≤ ((tA [(2, 32)]).readS 24 2).toNat ∧ ((tA [(3, 31)]).readS 16 3).toNat < 32 ∧
    32 ≤ ((tA [(3, 32)]).readS 16 3).toNat ∧ (sr tRun 1).cur.sys.rngseed ≠ 0 ∧ (sr tRun 0).cur.sys.rngseed = 0 := by decide +kernel

/-- No node of a tree or of a scan traps. -/
theorem witness_VectorReductions :
    let ls := (List.range 32).map (lane (tRun.readV 32 1))
    vFault tRun.cur.sys.fptrapen (treeGo (maxMinLane 2 true) 5 ((List.range 32).zip ls) []).2 = none ∧
    vFault tRun.cur.sys.fptrapen (treeGo (addNode 10 0 ⟨0, 0⟩) 5 ((List.range 32).zip ls) []).2 = none ∧
    vFault tRun.cur.sys.fptrapen (scanGo (addNode 10 0 ⟨0, 0⟩) [1, 2, 4, 8, 16] ls []).2 = none ∧ vModeOf tRun (rrr 10) < 5 := by decide +kernel

def kcb : MOp := { tRun.mOp 4 0 (rrr 0) 0 with acc := 0 }
/-- A source other than k4, k4 with a codebook that is loaded, and k4 with one pending. -/
theorem witness_VectorConvert :
    cvtSrc (rrr 10 0 8) = 8 ∧ vModeOf tRun (rrr 10 0 8) ≤ 5 ∧ cvtSrc (rrr 10 0 13) = 13 ∧ tRun.curTile.unit = [] ∧
    (setT tRun (fun t => { t with unit := [kcb] })).curTile.unit.any (fun o => decide (o.slot = 0 ∧ o.kind = 4 ∧ o.acc = cvtKb (rrr 10 0 13))) = true ∧
    (∀ i < 32, (convert 8 10 (vRndOf tRun (rrr 10 0 8) i) false false ((lane (tRun.readV 32 1) i).toNat)).bad = none) := by decide +kernel

/-! ### Witnesses: M class -/

/-- Both windows are there, h3 holds a 1 x 1 x 1 shape of f16, and the bases of a multiply are in a1 and a2. -/
def tMat : State := setX (tA [(1, 0x2000), (2, 0x100000)]) (fun x =>
  { x with sys := { x.sys with sizeB := 0x10000 }
           f := { x.f with h := x.f.h.setIfInBounds 3 0x44000000, hValid := x.f.hValid.setIfInBounds 3 true } })
def mm (c : Nat := 3) : RRR := ⟨1, 1, 2, BitVec.ofNat 8 c, 0, 0⟩
/-- Every syllable of the unit passes its checks and waits for nothing. -/
theorem witness_MatrixIssue :
    (waitMma (mm) tMat).isNone = true ∧ tMat.mCheck (tMat.mOp 0 1 mm 0) 3 0 0 = none ∧
    (waitMmat (mm) tMat).isNone = true ∧ tMat.mCheck (tMat.mOp 1 1 mm 0) 3 0 0 = none ∧
    (waitMzero mm tMat).isNone = true ∧ (waitMcb mm tMat).isNone = true ∧ tMat.mCheck (tMat.mOp 4 1 mm 0) 0 0 0 = none ∧
    (waitMacld mm tMat).isNone = true ∧ tMat.mCheck (tMat.mOp 5 1 mm 10) 0 0 0 = none ∧
    (waitMacst mm tMat).isNone = true ∧ tMat.mCheck (tMat.mOp 6 3 mm 0) 0 0 0 = none ∧
    (waitMacadd mm tMat).isNone = true ∧ tMat.mCheck (tMat.mOp 7 1 mm 10) 0 0 0 = none ∧
    tMat.curTile.unit.any (fun o => decide (o.slot = tMat.iss.slot)) = false := by decide +kernel

/-- A shape word that MSHAPE takes, one that it does not, and multiplies whose shape register was never written. -/
theorem witness_MatrixChecks :
    (let v := (tA [(1, 0x44000000)]).readS 32 1
     v.getLsbD 63 = false ∧ Shp.typeOk (Shp.atype v) = true ∧ Shp.typeOk (Shp.btype v) = true) ∧
    ((tA [(1, BitVec.allOnes 64)]).readS 32 1).getLsbD 63 = true ∧
    (∀ k ∈ [0, 1, 2], (waitMultiply (mm 4) tMat).isNone = true ∧ tMat.mCheck (tMat.mOp k 1 (mm 4) 0) 4 0 0 = some ⟨.badshape, 1, 4⟩) ∧
    tMat.cur.mmag = none := by decide +kernel

def opDone (kind : Nat) : MOp := { tMat.mOp kind 1 mm 0 with k := 1, started := true }
def opLast : MOp := { opDone 2 with k := 0 }
def run0 : MmagRun := ⟨0, 1, [], [(0, 0x100000, [0, 0])], [], none⟩
def tGather : State := setT (setX tMat (fun x => { x with mmag := some run0 })) (fun t => { t with unit := [opLast] })
/-- A held MMAG whose one row has arrived. -/
theorem witness_MatrixGatherEnds :
    tGather.cur.mmag = some run0 ∧ run0.stopped = none ∧ tGather.mmagOp tGather.iss.site tGather.iss.slot = some opLast ∧
    Shp.k opLast.shape ≤ opLast.k + 1 ∧ rowIn opLast run0 = true ∧ rowBad run0 opLast.k = none ∧ opLast.acc < 4 := by decide +kernel

/-- A started MMA and a started MMAT at the head of the unit. -/
theorem witness_MatrixMultiply :
    (∀ k ∈ [0, 1], let s := setT tMat (fun t => { t with unit := [opDone k] })
      (s.tileAt 0).unit = opDone k :: [] ∧ (opDone k).started = true ∧ ((opDone k).kind = 0 ∨ (opDone k).kind = 1) ∧ (opDone k).acc < 4) := by
  decide +kernel

/-! ### Witnesses: L class -/

def mem (t : Nat) (k : Nat := 0) (o : Nat := 0) (op : Nat := 0) : MemF :=
  ⟨5, 1, 0, 0, BitVec.ofNat 4 t, BitVec.ofNat 2 k, BitVec.ofNat 2 o, BitVec.ofNat 14 (op * 1024)⟩
/-- Addresses at the code region's end and the window's last doubleword and line; one past the window; one off its alignment; a store into code. -/
theorem witness_ScratchLoadsAndStores :
    (let s := tA [(1, 0xFFF8)]; s.scratchCheck (s.ea (mem 7) 8).toNat 8 false true 8 = none ∧ s.scratchCheck (s.ea (mem 7) 8).toNat 8 true false 8 = none) ∧
    (let s := tA [(1, 0xFF80)]
     s.scratchCheck (s.ea (mem 7) 128).toNat 128 false true 128 = none ∧ s.scratchCheck (s.ea (mem 7) 128).toNat 128 true false 128 = none) ∧
    (let s := tA [(1, 0x1000)]; s.scratchCheck (s.ea (mem 7) 8).toNat 8 true false 8 = none) ∧
    (let s := tA [(1, 0x10000)]; (s.scratchCheck (s.ea (mem 7) 8).toNat 8 false true 8).isSome = true) ∧
    (let s := tA [(1, 0x2004)]; (s.scratchCheck (s.ea (mem 7) 8).toNat 8 false true 8).isSome = true ∧
      (s.scratchCheck (s.ea (mem 7) 128).toNat 128 false true 128).isSome = true) ∧
    (let s := tA [(1, 0xFF8)]; (s.scratchCheck (s.ea (mem 7) 8).toNat 8 true false 8).isSome = true) ∧
    (let s := tA [(1, 0xF80)]; (s.scratchCheck (s.ea (mem 7) 128).toNat 128 true false 128).isSome = true) := by decide +kernel

def tGath : State := withV (tA [(1, 0x2000)]) [(2, ofLanes (fun i => BitVec.ofNat 32 (4 * i)))]
def gath : MemF := ⟨5, 1, 2, 0, 6, 0, 0, 0⟩
/-- Lanes that all lie in the window; atomics on and off a multiple of 8; a granule for CHKV. -/
theorem witness_ScratchGatherAndAtomics :
    tGath.laneFault gath false true = none ∧ tGath.laneFault gath true false = none ∧
    (let s := tA [(1, 0x2008)]
     let q := (s.eaAtom (mem 7) 8).toNat
     q % 8 = 0 ∧ s.scratchCheck q 8 true true 1 = none) ∧
    ((tA [(1, 0x2004)]).eaAtom (mem 7) 8).toNat % 8 ≠ 0 ∧ (tA [(1, 0x2040)]).scratchCheck 0x2040 64 false true 64 = none := by decide +kernel

def okIs (k : Known) (t : Trans) : Bool := match k with | .ok u => u == t | _ => false
def faultIs (k : Known) (f : FKind) : Bool := match k with | .fault g => g == f | _ => false
def page : Trans := ⟨0, 0, 0, 16, 0, true, true, true⟩
/-- The tile holds a translation of the first 64 KiB. -/
def tMap : State := setT (tA [(1, 0x8000), (2, 128)]) (fun t => { t with tlb := [page] })
/-- Loads, stores and an atomic at an aligned address whose translation is known. -/
theorem witness_GlobalAccesses :
    let s := tMap
    let ea := s.ea (mem 7) 8
    globalPre ea 8 .aligng = none ∧ globalPre (s.ea (mem 7) 128) 128 .aligng = none ∧ globalPre (s.eaAtom (mem 7) 8) 8 .atomalign = none ∧
    (∀ k ∈ [0, 1, 2], okIs (s.known s.iss.site s.iss.slot 0x8000 k) page = true) ∧ ea = 0x8000 ∧ s.ecc1 (ea.toNat / 128) = false ∧
    (waitLdg (mem 7) s).isNone = true ∧ (waitVldg (mem 7) s).isNone = true ∧ (waitStg (mem 7) s).isNone = true ∧
    (waitVstg (mem 7) s).isNone = true ∧ (waitAtomg (mem 7) s).isNone = true := by decide +kernel

/-- The bundle at issue has met an error in a dirty line. -/
def tStruck : State := { tMap with struck := [.eccl1 0 0 256] }
theorem witness_GlobalAccessTraps_ecc : globalPre (tStruck.ea (mem 7) 8) 8 .aligng = none ∧ tStruck.ecc1 ((tStruck.ea (mem 7) 8).toNat / 128) = true ∧
    (waitLdg (mem 7) tStruck).isNone = true ∧ (waitStg (mem 7) tStruck).isNone = true ∧ okIs (tStruck.known 0 0 0x8000 0) page = true := by decide +kernel

/-- The same of the vector forms and the atomic; addresses off their alignment. -/
theorem witness_GlobalAccessTraps_forms :
    tStruck.ecc1 ((tStruck.ea (mem 7) 128).toNat / 128) = true ∧ tStruck.ecc1 ((tStruck.eaAtom (mem 7) 8).toNat / 128) = true ∧
    globalPre (tStruck.ea (mem 7) 128) 128 .aligng = none ∧ globalPre (tStruck.eaAtom (mem 7) 8) 8 .atomalign = none ∧
    (waitVldg (mem 7) tStruck).isNone = true ∧ (waitVstg (mem 7) tStruck).isNone = true ∧ (waitAtomg (mem 7) tStruck).isNone = true ∧
    okIs (tStruck.known 0 0 0x8000 1) page = true ∧ okIs (tStruck.known 0 0 0x8000 2) page = true := by decide +kernel
theorem witness_GlobalAccessTraps_align :
    ((tA [(1, 0xFFFFFFFFFFFFFC)]).ea (mem 7) 128).toNat % 128 ≠ 0 ∧ ((tA [(1, 0xFFFFFFFFFFFFFC)]).eaAtom (mem 7) 8).toNat % 8 ≠ 0 := by decide +kernel
/-- A page that forbids atomics, and a leaf entry that lets one read and write and forbids atomics. -/
theorem witness_GlobalAccessTraps_atomic :
    (let s := setX (tA [(1, 0x8000)]) (fun x => { x with walks := [⟨0x8000, 2, .fault .atomunsup⟩] })
     faultIs (s.known s.iss.site s.iss.slot 0x8000 2) .atomunsup = true ∧ (waitAtomg (mem 7) s).isNone = true) ∧
    (let e := 0xB800000000000000
     (match leafOutcome 0 0 0 0x8000 0 4 e with | .done _ => true | _ => false) = true ∧ e.testBit 59 = true ∧ e.testBit 58 = false) := by decide +kernel

/-- The first address that is not canonical, the last doubleword that is, one off its alignment, and a page whose walk has failed. -/
theorem witness_GlobalAccessTraps :
    2 ^ 56 ≤ ((tA [(1, 0x100000000000000)]).ea (mem 7) 8).toNat ∧
    globalPre ((tA [(1, 0xFFFFFFFFFFFFF8)]).ea (mem 7) 8) 8 .aligng = none ∧
    ((tA [(1, 0xFFFFFFFFFFFFFC)]).ea (mem 7) 8).toNat < 2 ^ 56 ∧ ((tA [(1, 0xFFFFFFFFFFFFFC)]).ea (mem 7) 8).toNat % 8 ≠ 0 ∧
    (∀ k ∈ [0, 1], let s := setX (tA [(1, 0x8000)]) (fun x => { x with walks := [⟨0x8000, k, .fault .ptebad⟩] })
      faultIs (s.known s.iss.site s.iss.slot 0x8000 k) .ptebad = true ∧
      (if k = 0 then (waitLdg (mem 7) s).isNone else (waitStg (mem 7) s).isNone) = true) := by decide +kernel

def fen (c : Nat) (d : Nat := 1) : RRR := ⟨BitVec.ofNat 8 d, 1, 2, BitVec.ofNat 8 c, 0, 0⟩
/-- A range of one line, an empty range, ranges that end at and past 2^56; fences of every kind that wait for nothing. -/
theorem witness_LineMaintenance :
    (waitPref (mem 7) tMap).isNone = true ∧ tMap.cur.acquiring = 0 ∧ (tMap.readS 24 2).toNat = 128 ∧ rangeFault 0x8000 128 = none ∧
    rangeFault (2 ^ 56 - 128) 128 = none ∧ (rangeFault (2 ^ 56 - 128) 129).isSome = true ∧ ((tA [(1, 0x8000)]).readS 24 2).toNat = 0 ∧
    (waitDiscard (fen 0) tMap).isNone = true ∧ discardPre 0x8000 128 = none ∧
    (∀ va ∈ pagesOf 0x8000 128, okIs (tMap.known tMap.iss.site tMap.iss.slot va 1) page = true) ∧
    (waitFence (fen 2) tMap).isNone = true ∧ fenceKind (fen 2) = 2 ∧ (waitFence (fen 5) tMap).isNone = true ∧ fenceKind (fen 5) ≠ 2 ∧
    fenceX (fen 5) ≠ .tile ∧ fenceX (fen 1) = .tile ∧ (waitXfence (fen 1) tMap).isNone = true ∧ (waitXfence (fen 5 2) tMap).isNone = true ∧
    hasPath ((fen 5 2).d.toNat % 64) 0 = false := by decide +kernel

/-- Every way is CACHE: eight may be lent or gated, none held is given back; the request 1,024; a range of one line to lock. -/
theorem witness_WaysAndLocks :
    let t := tMap.curTile
    (∀ w < 10, (0xFF : Nat).testBit w = true → tMap.cacheWay 0 w = true) ∧
    2 ≤ ((List.range 10).filter (fun w => tMap.cacheWay 0 w && !((0xFF : Nat).testBit w))).length ∧
    tMap.cur.chanInWays .frozen (fun w => (t.lentMask 0).testBit w && !((0xFF : Nat).testBit w)) = false ∧
    ((tA [(1, 0xFF)]).readS 32 1).toNat < 1024 ∧ 1024 ≤ ((tA [(1, 1024)]).readS 32 1).toNat ∧
    (waitLlock (rrr 0) tMap).isNone = true ∧ lockPre tMap 0x8000 128 = none ∧
    (∀ va ∈ pagesOf 0x8000 128, okIs (tMap.known tMap.iss.site tMap.iss.slot va 0) page = true) ∧ tMap.cur.acquiring = 0 ∧ tMap.cur.wayChange = [] ∧
    (let s := setX tMap (fun x => { x with wayChange := [⟨.a 5, false, 3, 0⟩] }); s.wayMask false = 3 ∧ s.wayMask true = 0) ∧
    (∀ l ∈ t.lines, l.lock = some tMap.iss.slot → tMap.iss.lock0.contains l.vline = true) := by decide +kernel
/-- The same, and a mask that gives ways back, lent and gated. -/
theorem witness_WaysAndLocksComplete :
    (∀ r ∈ [WayRole.lent 0, .gated], let s := setT (tA [(1, 0xFC)]) (fun t => t.setWays (fun w q => if w < 3 then r else q))
      let cur := if r = .gated then s.curTile.gatedMask else s.curTile.lentMask 0
      cur = 7 ∧ ((s.readS 32 1).toNat < 1024) ∧ (∀ w < 10, (0xFC : Nat).testBit w = true → cur.testBit w = true ∨ s.cacheWay 0 w = true) ∧
      s.cur.chanInWays .frozen (fun w => cur.testBit w && !((0xFC : Nat).testBit w)) = false) ∧
    2 ≤ ((List.range 10).filter (fun w => (setT (tA [(1, 0xFC)]) (fun t => t.setWays (fun w q => if w < 1 then .gated else q))).cacheWay 0 w &&
      !((0xFC : Nat).testBit w))).length ∧ (waitLlock (rrr 0) tMap).isNone = true ∧ lockPre tMap 0x8000 128 = none ∧ tMap.cur.acquiring = 0 ∧ tMap.cur.wayChange = [] ∧
    (∀ l ∈ tMap.curTile.lines, l.lock = some tMap.iss.slot → tMap.iss.lock0.contains l.vline = true) := by decide +kernel

/-! ### Witnesses: N class -/

def withCh (s : State) (st : ChState) (wp : Nat := 0) : State := setX s (fun x => x.setChan 5 { Chan.idle with st := st, wp := wp, recd := BitVec.ofNat 512 (0x277 * 2 ^ 384) })
def nam (f : Nat := 0) (i8 : Nat := 0) : NamF := ⟨12, 1, 2, 5, 0, BitVec.ofNat 8 f, BitVec.ofNat 8 i8⟩
/-- A channel in each state; a record that SCFG takes; SPARM of a base and of an extent of 65,535. -/
theorem witness_Channels :
    (∀ st ∈ [ChState.idle, .ready, .running, .frozen], ((withCh tRun st).cur.chan 5).st = st) ∧
    (let s := { tA [(1, 0x2000)] with scratch := [(0x2030, 0x77), (0x2031, 0x02)] }
     s.scratchFault 0 0 0x2000 64 64 3 true = none ∧ Shape.badField (BitVec.ofNat 512 (bytesWord (s.curBytes 0x2000 64))) = none ∧
     Shape.rnd (BitVec.ofNat 512 (bytesWord (s.curBytes 0x2000 64))) ≠ 5) ∧
    (nam 0 1).i8.toNat < 2 ∧ ((tA [(1, 0xFFFF)]).readS 32 1).toNat ≤ 0xFFFF ∧
    Shape.badField (setField ((withCh tRun .ready).cur.chan 5).recd 2 0xFFFF) = none := by decide +kernel

def wwp : RRR := ⟨0, 1, 0, 5, 0, 0⟩
/-- A channel that writes global memory, with a beat on its way to another module. -/
theorem witness_Channels_far :
    (let s := setX tRun (fun x => x.setChan 5 { Chan.idle with st := .running, beat := some ⟨8, 0x8000, 3⟩, recd := BitVec.ofNat 512 (1 * 2 ^ 384) })
     (s.cur.chan 5).beat = some ⟨8, 0x8000, 3⟩ ∧ (s.cur.chan 5).st = .running) ∧
    (∃ d < 512, Shape.dir (BitVec.ofNat 512 (2 ^ d)) = 1) := by
  refine ⟨by decide +kernel, 392, by decide, by decide +kernel⟩

/-- A mask of the one FROZEN channel, masks without it; wp at x and one below it in each state. -/
theorem witness_ChannelWaits :
    (withCh tRun .frozen).cur.chanOf (sfMask (nam 0 32)) .frozen = some 5 ∧ (withCh tRun .frozen).cur.chanOf (sfMask (nam 0 31)) .frozen = none ∧
    (waitSfence (nam 0 32) (withCh tRun .ready)).isNone = true ∧
    (∀ st ∈ [ChState.idle, .ready, .running, .frozen], ∀ wp ∈ [8, 7],
      let s := withCh (tA [(1, 8)]) st wp
      let s := s.setIss { s.iss with ch0 := s.cur.ch.toList }
      s.iss.ch0 = s.cur.ch.toList ∧ (s.cur.chan (wwp.c.toNat % 16)).st = st ∧ ((s.readS 32 wwp.a).toNat = (s.cur.chan 5).wp ↔ wp = 8) ∧
      (s.cur.chan 5).wp ≤ (s.readS 32 wwp.a).toNat) := by decide +kernel

def withSub (s : State) (st : SubState) (persist : Bool) : State :=
  setX s (fun x => x.setSub 5 { SubSlot.idle with st := st, persist := persist, name := 7, land := 0x2000, bytes := 64 })
/-- A SUB whose checks hold and one that fails; a slot in each state, one-shot and persistent. -/
theorem witness_Subscriptions :
    subCheck (nam 1) (tA [(12, 7), (1, 0x2000), (2, 64)]) = none ∧ tRun.curTile.withheld.length < 64 ∧
    (subCheck (nam 1) (tA [(12, 7), (1, 0x2001), (2, 64)])).isSome = true ∧
    (∀ st ∈ [SubState.idle, .armed, .waitspace, .landed, .failed], ∀ p ∈ [true, false],
      ((withSub tRun st p).cur.subAt 5).st = st ∧ ((withSub tRun st p).cur.subAt 5).persist = p) := by decide +kernel

def tPub : State := tA [(12, 7), (1, 0x2000), (2, 64)]
def tSend : State := tA [(12, 7), (1, 0x2000), (2, 0x100000040)]
def fullQ (s : State) : State := setX s (fun x => { x with injq := List.replicate 8 ⟨7, 0x2000, 64, 0, none, none, false, 0, 0, [], []⟩ })
/-- Publications of 64 bytes with an empty queue and with a full one; a size of 0; a reduction of one contribution; the spaces 0xEF and 0xF0; an LSEND
to a domain and module. -/
theorem witness_Publications :
    pubCheck (nam) tPub = none ∧ tPub.cur.injq.length < 8 ∧ (pubCheck nam (tA [(12, 7), (1, 0x2000)])).isSome = true ∧
    pubrCheck (nam) (tA [(12, 7), (1, 0x2000), (2, 0x100000040)]) = none ∧ (pubrCheck nam tPub).isSome = true ∧
    spaceOf ((tA [(12, 0xEF00000000000000)]).nameOf nam) < 0xF0 ∧ 0xF0 ≤ spaceOf ((tA [(12, 0xF000000000000000)]).nameOf nam) ∧
    lsendCheck nam tSend = none ∧ (lsendCheck nam tPub).isSome = true ∧ 8 ≤ (fullQ tSend).cur.injq.length ∧
    lsendCheck nam (fullQ tSend) = none := by decide +kernel

/-! ### Witnesses: C class -/

def pub0 : Templ := ⟨0, 1, 7, 0, 0, 0, 0, 0x2000, 64, 0, false⟩
def kern0 : Kern :=
  { code := 4096, image := [], trap := 0, scrA := 0x10000, scrB := 0, land := 4096, args := 0, landB := false, yld := true, cost := 0, prio := 0, pure := false,
    acc := 0, groups := [none, none, none, none], subs := [], pubs := [] }
def inst0 : Inst :=
  { ctx := 0, inc := 0, q := 0, image := 0x8000, kern := kern0, idx := 0, x := 0, y := 0, z := 0, step := 0, groups := [none, none, none, none], base := 0,
    args := 0, st := .placed, place := some (0, 0), from_ := none, rec_ := none, kept := none, cut := none }
/-- The slot runs instance 0. -/
def withInst (s : State) (i : Inst) : State := setX { s with insts := [(0, i)] } (fun x => { x with inst := some 0 })
def tInst : State := withInst tRun inst0
def yielder (s : State) : State := setX s (fun x => { x with yld := true })

/-- EXIT with and without templates; an instance that may yield, one without YLD, one in a handler; each condition at its bound. -/
theorem witness_ExitAndYield :
    (rrr 0 0 0).c.getLsbD 0 = false ∧ (rrr 0 0 1).c.getLsbD 0 = true ∧ tInst.pubTempls = [] ∧
    (withInst tRun { inst0 with kern := { kern0 with pubs := [pub0] } }).exitCheck pub0 = none ∧
    (withInst tRun { inst0 with kern := { kern0 with pubs := [pub0] } }).pubTempls = [pub0] ∧
    tRun.cur.yld = false ∧ (yielder tRun).cur.yld = true ∧ (yielder tRun).cur.sys.intrap = false ∧ (yielder tHandler).cur.sys.intrap = true ∧
    (∀ st ∈ [SubState.idle, .landed, .failed], ((withSub tRun st false).begin_ 0 0).atIssue.parkHolds 0 (.slot 5) = true) ∧
    ((withSub tRun .armed false).begin_ 0 0).atIssue.parkHolds 0 (.slot 5) = false ∧
    (∀ st ∈ [ChState.idle, .ready, .running, .frozen], (((withCh (tA [(1, 8)]) st 7).begin_ 0 0).atIssue.chan 5).wp < ((tA [(1, 8)]).readS 32 1).toNat ∧
      (((withCh (tA [(1, 8)]) st 7).begin_ 0 0).atIssue.chan 5).st = st) ∧ (((withCh (tA [(1, 8)]) .running 8).begin_ 0 0).atIssue.chan 5).wp = ((tA [(1, 8)]).readS 32 1).toNat ∧
    (setX tRun (fun x => { x with latch := 4 })).cur.latch.toNat % 8 ≠ 0 ∧ tRun.cur.latch.toNat % 8 = 0 ∧
    ((tA [(1, 0)]).readS 32 1).toNat ≤ tRun.time ∧ tRun.time < ((tA [(1, 1)]).readS 32 1).toNat := by decide +kernel

def rec0 : List Word := (dwords (tRun.curBytes 0x2000 64)).map (BitVec.ofNat 64)
def tQueue (b : Word) : State := setX (tA [(1, 0x8000), (2, b)]) (fun x => { x with sys := { x.sys with privc := true } })
/-- A record of zeros with no gate, queues of 2^4 and 2^16 records, levels 9 and, privileged, 11. -/
theorem witness_LaunchesAndQueues :
    (tA [(1, 0x2000)]).scratchFault 0 0 0x2000 64 64 0 true = none ∧ (rec0.getD 1 0).extractLsb' 54 10 = 0 ∧ (rec0.getD 1 0).getLsbD 52 = false ∧
    rec0.map (·.toNat) = List.replicate 8 0 ∧ (gatesOf (List.replicate 8 0)).all (fun g => decide (spaceOf g < 0xF6)) = true ∧ ((tQueue 0).readS 32 1).toNat % 4096 = 0 ∧ ((tQueue 0).readS 32 1).toNat < 2 ^ 56 ∧
    ((tQueue 0x904).readS 24 2).toNat % 32 = 4 ∧ ((tQueue 0xB10).readS 24 2).toNat % 32 = 16 ∧
    (tQueue 0x904).readS 24 2 &&& 0xFFFFFFFFFFFFE0E0 = 0 ∧ (tQueue 0xB10).readS 24 2 &&& 0xFFFFFFFFFFFFE0E0 = 0 ∧
    (tQueue 0).cur.sys.privc = true ∧ ((tQueue 0x904).readS 24 2).extractLsb' 8 4 = 9 ∧ ((tQueue 0xB10).readS 24 2).extractLsb' 8 4 = 11 ∧
    ((tA [(1, 25)]).readS 32 1).toNat < 32 ∧ ((tA [(1, 25)]).readS 32 1).toNat % 16 < 10 := by decide +kernel

def member (g : Option Nat) : State := setX (tA [(1, 3), (2, 0x2000)]) (fun x => { x with sys := { x.sys with groups := [g, none, none, none] } })
/-- Groups 3 and 256; a slot that holds group 3, one that may join it, one whose four places are taken; a landing area; a cut area. -/
theorem witness_GroupSyllables :
    256 ≤ ((tA [(1, 256)]).readS 32 1).toNat ∧ ((member none).readS 32 1).toNat < 256 ∧ (member (some 3)).cur.holds 3 = some 0 ∧
    (member none).cur.holds 3 = none ∧ (member none).cur.freeMember = some 0 ∧ (member (some 3)).cur.leaving.contains 3 = false ∧
    (let s := setX (member none) (fun x => { x with sys := { x.sys with groups := [some 1, some 2, some 4, some 5] } })
     s.cur.holds 3 = none ∧ s.cur.freeMember = none) ∧
    ((tA [(2, 9)]).readS 24 2).toNat < 10 ∧ ((tA [(2, 0xFFFFFF)]).readS 24 2).toNat < 2 ^ 24 ∧
    (member none).landCheck 3 ((member none).readS 24 2).toNat = none ∧ ((member none).landCheck 3 0x2020).isSome = true ∧
    (let a := (tA [(1, 0x1000003)]).readS 32 1
     a &&& 0xFFFF000000FFFF00 = 0 ∧ (a.extractLsb' 24 24).toNat ≠ 0) ∧
    ((tA [(2, 0x8000)]).readS 24 2).toNat % 4096 = 0 ∧ ((tA [(2, 0x8000)]).readS 24 2).toNat < 2 ^ 56 := by decide +kernel

def tBar : State := tA [(1, 0x100000005), (2, 0x2000)]
/-- Barriers 5 and 4,096; counts 0, 1, 16,777,215 and one more; BWAIT before its home's reply, refused, completed, and with its phase to come. -/
theorem witness_BarrierSyllables :
    ((tA [(1, 5)]).readS 32 1).toNat < 4096 ∧ (tA [(2, 1)]).readS 24 2 ≠ 0 ∧ ((tA [(2, 0xFFFFFF)]).readS 24 2).toNat ≤ 16777215 ∧
    (tA []).readS 24 2 = 0 ∧ 16777215 < ((tA [(2, 0x1000000)]).readS 24 2).toNat ∧ tBar.readS 32 1 &&& 0xFFFFF000 = 0 ∧
    (tA [(1, 4096)]).readS 32 1 &&& 0xFFFFF000 ≠ 0 ∧ bwaitCheck (rrr 0) tBar = none ∧ tBar.cur.bw = none ∧ tBar.cur.pend.contains (dstS 5) = false ∧
    (setX tBar (fun x => { x with bw := some (7, some .barphase, false) })).cur.bw = some (7, some .barphase, false) ∧
    (setX tBar (fun x => { x with bw := some (7, none, true) })).cur.bw = some (7, none, true) ∧
    (setX tBar (fun x => { x with bw := some (7, none, false) })).cur.bw = some (7, none, false) ∧
    tBar.cur.nameHeld 3 (barName 5 1) = false ∧ bwaitCheck (rrr 0) (setX tBar (fun x => { x with bw := some (7, none, false) })) = none := by decide +kernel

/-- Steps 0 and 256; budgets of 0, 1 and 2^48. -/
theorem witness_StepSyllables :
    ((tA [(1, 255)]).readS 32 1).toNat < 256 ∧ 256 ≤ ((tA [(1, 256)]).readS 32 1).toNat ∧ (tA [(2, 1)]).readS 24 2 ≠ 0 ∧
    ((tA [(2, 0xFFFFFFFFFFFF)]).readS 24 2).toNat < 2 ^ 48 ∧ (tA []).readS 24 2 = 0 ∧ 2 ^ 48 ≤ ((tA [(2, 0x1000000000000)]).readS 24 2).toNat := by
  decide +kernel

def withCtx (s : State) (c : Nat) (st : CtxState) (inc : Nat := 0) : State := s.setCtx c { Ctx.reset with st := st, inc := inc }
/-- Contexts 7 and 256; context 7 in each state; an INC that is right, one that is not, one that is not looked at. -/
theorem witness_ContextSyllables :
    256 ≤ ((tA [(1, 256)]).readS 32 1).toNat ∧ ((tA [(1, 7)]).readS 32 1).toNat < 256 ∧
    (∀ st ∈ [CtxState.free, .creating, .active, .killed, .reclaimed], ((withCtx tRun 7 st).ctx 7).st = st) ∧ 7 ≠ tRun.cur.sys.ctxid ∧
    ((tA [(2, 0x1003)]).readS 24 2).getLsbD 12 = true ∧ ((tA [(2, 0x1003)]).readS 24 2).toNat % 4096 = ((withCtx tRun 7 .active 3).ctx 7).inc ∧
    ((tA [(2, 0x1003)]).readS 24 2).toNat % 4096 ≠ ((withCtx tRun 7 .active 4).ctx 7).inc ∧ ((tA [(2, 3)]).readS 24 2).getLsbD 12 = false := by decide +kernel

/-! ### Witnesses: events of a tile and of memory -/

def win0 : FaultWin := ⟨0, 0, 7, 0, 0, 0, 0, 0, [], 0⟩
/-- Slot 0 of tile 0 at each event of issue. -/
theorem witness_IssueEvents :
    let s := tRun
    s.issueReady 0 0 = true ∧ (s.slotAt 0 0).bound = some (0, 0) ∧ s.stale (agSite 0 0) 0 0 = false ∧ (s.tileAt 0).frozen = false ∧
    (setX s (fun x => { x with infl := [⟨.a 63, 7, 0, 0, none, none⟩] })).cur.infl[0]?.isSome = true ∧
    (setT s (fun t => { t with issuing := none })).bestCand 0 = some 0 ∧ (setT s (fun t => { t with issuing := none })).curTile.issuing = none ∧ s.switchReady 0 0 = true ∧
    (setT s (fun t => { t with quantum := 0 })).quantumOver 0 = true ∧ s.curTile.freezeReq = false ∧
    s.slewDue 0 = false ∧ { s with time := 128 }.slewDue 0 = true ∧
    (setX s (fun x => { x with held := true, waited := 2 ^ 32 })).cur.watchdogDue = true ∧
    (setX s (fun x => { x with wait := .idle (.a 5) 0 0 })).cur.wait = .idle (.a 5) 0 0 ∧ s.idleOver 0 0 0 = true ∧ s.cur.latch = 0 ∧
    (setX s (fun x => { x with wait := (.idle (.a 5) 9 0), latch := 1 })).cur.latch ≠ 0 ∧ (setX s (fun x => { x with wait := .brk })).cur.wait = .brk ∧
    (setT tMat (fun t => { t with unit := [opDone 0] })).curTile.unit = opDone 0 :: [] ∧
    (setX s (fun x => { x with mmag := some ⟨4, 1, [(0, 64)], [], [], none⟩ })).cur.mmag = some ⟨4, 1, [(0, 64)], [], [], none⟩ ∧
    s.slewWaiters 0 = [] ∧ KMap.getD { s with quantaUsed := [(0, 1)] }.quantaUsed 0 0 ≠ 0 ∧
    (setX s (fun x => { x with slewWait := true })).slewWaiters 0 = (0, 0) :: [] ∧
    { s with windows := [win0], time := 1001 }.windowDone 0 = true ∧ { s with windows := [win0], time := 1000 }.windowDone 0 = false ∧
    (s.ctx win0.ctx).inc = win0.inc := by decide +kernel

def line0 (filled : Bool) : Line := ⟨0, 0, 256, 0x8000, 0, 0, filled, if filled then 1 else 0, filled, false, false, false, none, 0, []⟩
def tLine (filled : Bool) : State := setT tMap (fun t => { t with lines := [line0 filled] })
/-- Page tables for the first 64 GiB of context 0, mapped as they are. -/
def tPaged : State :=
  { tMap.setCtx 0 { Ctx.reset with st := .active, pgroot := 0x2001, backbase := 0x8000, savebase := 0x9000 } with
    mem := [(0x2001, 0x40), (0x2007, 0x80), (0x4007, 0xBC)] }
def req0 : MemReq := ⟨0, 0, 0x8000, 0x8000, .write [1, 2] false, .ackC 0 0 false⟩
def inval0 : Inval := ⟨0, 0, true, []⟩
/-- Fills, write-backs, walks, ways, a write of two bytes, acknowledgements, page walks and rereads, invalidations, and channel 5 with a beat. -/
theorem witness_MemoryEvents :
    (tLine false).stale (agSite 0 1) 0 0 = false ∧ (tLine false).curTile.frozen = false ∧
    (tLine false).curTile.lines.find? (fun l => l.is 0 0 256 && !l.filled) = some (line0 false) ∧
    (tLine true).curTile.lines.find? (fun l => decide (l.ctx = 0) && decide (l.vline = 256) && l.filled && l.dirty) = some (line0 true) ∧
    (setT tRun (fun t => { t with walks := [⟨0, 0, none, 0, 0, []⟩] })).curTile.walks = ⟨0, 0, none, 0, 0, []⟩ :: [] ∧
    (setX tRun (fun x => { x with wayChange := [⟨.a 5, false, 1, 0⟩] })).cur.wayChange = ⟨.a 5, false, 1, 0⟩ :: [] ∧
    tRun.stale (agMem (stackOf (paLocal req0.pa))) 0 0 = false ∧ req0.op = .write [1, 2] false ∧ tRun.cur.bound = some (0, 0) ∧
    (tPaged.walkNow (fieldOf 0) 0 0 0x8000 2).out = .done ⟨0, 0, 0, 36, 0, true, true, true⟩ ∧ MemReq.lineOf req0 = none ∧
    MemReq.lineOf ⟨0, 0, 0x8000, 0x8000, .line (List.replicate 128 3) (1 + 2 ^ 64) false, .ackC 0 0 false⟩ = some 0 ∧ invalTurn inval0 24576 = true ∧ inval0.released = true ∧
    (setX (setT tRun (fun t => t.setWays (fun _ _ => .gated))) (fun x => { x with wayChange := [⟨.a 5, true, 0, 8⟩] })).powering 0 3 = true ∧
    (setX tRun (fun x => { x with walks := [⟨0x8000, 1, .waiting true⟩] })).cur.walks.any (fun k => decide (k.va = 0x8000) && decide (k.kind = 1)) = true ∧
    ((tRun.setCtx 0 { Ctx.reset with inval := [inval0] }).ctx 0).inval = inval0 :: [] ∧ inval0.told.contains 3 = false ∧
    tPaged.stale (agHedge 0) 0 0 = false ∧ (match (tPaged.sysRead (walkerOfHedge 0) 0 0 0x8000 1024).2 with | .ok _ => true | _ => false) = true := by
  decide +kernel
/-- An invalidation that every agent has reported. -/
theorem witness_MemoryEvents_over : (tRun.setCtx 0 { Ctx.reset with inval := [{ inval0 with told := tRun.invalAgents }] }).invalOver 0 = true := by
  have e : (tRun.setCtx 0 { Ctx.reset with inval := [{ inval0 with told := tRun.invalAgents }] }).invalAgents = tRun.invalAgents := rfl
  have a : (tRun.setCtx 0 { Ctx.reset with inval := [{ inval0 with told := tRun.invalAgents }] }).accessesOut 0 = false := by decide
  have c : ((tRun.setCtx 0 { Ctx.reset with inval := [{ inval0 with told := tRun.invalAgents }] }).ctx 0).inval =
    [{ inval0 with told := tRun.invalAgents }] := rfl
  simp [State.invalOver, a, c, e]

/-- Channel 5 reads 64 bytes from 0x8000 on; its flit waits at the port, for which the context has tokens. -/
def tBeat : State := setT (setX tRun (fun x => { x.setChan 5 { Chan.idle with st := .running, tr := some page, recd := BitVec.ofNat 512 (0x8000 + 7 * 2 ^ 128 + 0x77 * 2 ^ 384) } with
  port := [5] })) (fun t => { t with tokens := [(0, 64)] })
theorem witness_MemoryEvents_channel :
    tBeat.beatReady 0 0 5 = true ∧ Shape.dir (tBeat.cur.chan 5).recd = 0 ∧ Shape.srcAddr (tBeat.cur.chan 5).recd 0 = 0x8000 ∧
    (match chanTrans tBeat.cur (tBeat.cur.chan 5) 0x8000 0 with | .ok (some t) => decide (t = page) | _ => false) = true ∧
    ((setX tRun (fun x => x.setChan 5 { Chan.idle with st := .running, beat := some ⟨8, 0x8000, 3⟩ })).cur.chan 5).beat = some ⟨8, 0x8000, 3⟩ := by decide +kernel
/-- With 63 tokens, or with another context of the tile before it in the round, the flit waits (R317, R422). -/
theorem test_port_waits :
    (setT tBeat (fun t => { t with tokens := [(0, 63)] })).beatReady 0 0 5 = false ∧ roundPlace 255 0 = 0 ∧ roundPlace 9 8 = 254 ∧ roundPlace 8 9 = 0 ∧
    roundPlace 8 8 = 255 := by decide +kernel

/-! ### Witnesses: events of names -/

def seg0 : Seg := ⟨0, 0, 7, [⟨0, 0, 1⟩], 0, 64, 5, List.replicate 64 1, [], [], none, none, 0⟩
def sub0 : SubMsg := ⟨0, 0, 7, 0, 0, 5, false, 64, 1, false, false, false, none, none, 0⟩
def pend0 (g : Seg) : Pending := ⟨0, 0, .segmentAtRouter 0 .tile true g, none, [], [], []⟩
def red0 : RedHdr := ⟨1, 2, 0, false, 1⟩
def landing : State := setX tRun (fun x => x.setSub 15 { SubSlot.idle with st := .armed, name := 7, land := 0x2000, bytes := 64, recv := some ⟨some 1, 64, [0], none, none, false⟩ })
/-- A name whose home is another site than 0, and one at its home; a subscribed slot; a landing area that is complete; two contributions that merge. -/
theorem witness_NameEvents :
    tRun.stale (agSite 0 2) 0 0 = false ∧ tRun.homeOf 0 7 ≠ 0 ∧ (tRun.homeOf 0 7) < 6144 ∧ tRun.matchAt 0 0 0 7 = none ∧
    { tRun with matches_ := [(0, [⟨0, 0, 7, 0, 0, 0, 0, 1⟩])] }.matchAt 0 0 0 7 = some ⟨0, 0, 7, 0, 0, 0, 0, 1⟩ ∧ sub0.u = false ∧ 0 < sub0.count ∧
    seg0.red = none ∧ tRun.curTile.withheld = [] ∧ tRun.cur.bound = some (0, 0) ∧ ((withSub tRun .armed false).cur.subAt sub0.sub).name = sub0.name ∧
    ((withSub tRun .armed false).cur.subAt sub0.sub).st ≠ .idle ∧ (landing.cur.subAt 15).recv = some ⟨some 1, 64, [0], none, none, false⟩ ∧
    ([0] : List Nat).length = segsOf 64 ∧ KMap.get? { tRun with ovflStall := [(0, (0, false, [9]))], time := 1000000 }.ovflStall 0 = some (0, false, [9]) ∧
    (mergeable (pend0 { seg0 with red := some red0 }) (pend0 { seg0 with red := some red0 })).isSome = true := by decide +kernel
/-- A first segment at an ARMED slot whose area is free, with room, without, and poisoned; one that meets an area in use; a segment of another copy. -/
theorem witness_NameEvents_copy :
    (let s := withSub tRun .armed false
     (s.cur.subAt 5).st = .armed ∧ (s.cur.subAt 5).recv = none ∧ seg0.idx = 0 ∧ s.marked 0 0 5 seg0 = false ∧ s.cur.areaFree 5 = true ∧
     seg0.size ≤ (s.cur.subAt 5).bytes ∧ (s.cur.subAt 5).bytes < ({ seg0 with size := 128 } : Seg).size ∧ segsOf seg0.size = 1 ∧
     (s.cur.subAt 5).name = seg0.name) ∧
    (setX (withSub tRun .armed false) (fun x => x.setSub 6 { SubSlot.idle with st := .landed, name := 8, land := 0x2000, bytes := 64 })).cur.areaFree 5 = false ∧
    (⟨some 1, 64, [0], some ⟨9, 0, 1⟩, none, false⟩ : Receiving).tag ≠ seg0.tags.head? ∧ (landing.cur.subAt 15).st = .armed := by decide +kernel
theorem firstBad_off (g : Seg) (c : BitVec 32) (h1 : g.bytes.length / 64 = 1) (h2 : g.poison = []) (h3 : c ≠ Seg.checkAt g 0) :
    Seg.firstBad { g with checks := [c] } = some 0 := by
  have e : (decide (([c] : List (BitVec 32)).getD 0 0 ≠ Seg.checkAt { g with checks := [c] } 0)) = true := decide_eq_true h3
  have r : List.range 1 = [0] := rfl
  unfold Seg.firstBad
  simp only [h1, r, List.find?]
  rw [e]; simp [h2]
theorem off_by_one (c : BitVec 32) : c + 1 ≠ c := by
  intro h
  have := congrArg BitVec.toNat h
  simp [BitVec.toNat_add] at this
  omega
theorem all_poison (g : Seg) (h1 : g.bytes.length / 64 = 1) : Seg.firstBad { g with poison := [0] } = none := by
  have r : List.range 1 = [0] := rfl
  unfold Seg.firstBad
  simp only [h1, r, List.find?]
  rfl
theorem off_check (g : Seg) (h1 : g.bytes.length / 64 = 1) (h2 : g.poison = []) :
    Seg.firstBad { g with checks := [Seg.checkAt g 0 + 1] } = some 0 := firstBad_off g _ h1 h2 (off_by_one _)
theorem seg0_one : seg0.bytes.length / 64 = 1 := by decide +kernel
/-- A segment all of whose granules are poison has no bad check value; one whose check value is one off has. -/
theorem witness_NameEvents_check : Seg.firstBad { seg0 with poison := [0] } = none ∧
    Seg.firstBad { seg0 with checks := [Seg.checkAt seg0 0 + 1] } = some 0 :=
  ⟨all_poison seg0 seg0_one, off_check seg0 seg0_one rfl⟩
/-- A queue whose first publication has its flit at the port. -/
theorem witness_NameEvents_inject :
    (setT (setX tRun (fun x => { x with port := [16], injq := [⟨7, 0x2000, 64, 0, none, none, false, 0, 0, [], []⟩] }))
      (fun t => { t with tokens := [(0, 64)] })).injectReady 0 0 = true := by decide +kernel

def copy0 : Copy := ⟨1, 64, [⟨0, 0, 1⟩], [seg0], 0, [], [], [], 0, []⟩
def rec_ : SubRec := ⟨0, 0, 5, true, false, false, none, false, false, 0, (0, 0), 0⟩
def held0 : HeldEnt := ⟨0, 0, 5, none, [], [seg0], [], [], false, 0⟩
def home0 : HomeName := { HomeName.empty 0 0 7 with next := 2, copies := [copy0], subs := [rec_] }
def slot0 : SlotMsg := ⟨0, 0, 7, 0, 0, 5, some ⟨0, 0, 1⟩, some 1, false⟩
def tHome (h : HomeName) : State := (tRun.setCtx 0 { Ctx.reset with rickquota := 1 }).setHome h
/-- A home with a copy and a subscriber; held entries; pins; an expired copy; a reduction to open. -/
theorem witness_HomeEvents :
    tRun.staleHome 0 0 7 = false ∧ tRun.failedRicks.contains (tRun.homeOf 0 7) = false ∧ sub0.site < 6144 ∧ tRun.homeName 0 0 7 = HomeName.empty 0 0 7 ∧
    (HomeName.empty 0 0 7).closing = [] ∧
    (tRun.roomFor 9 64 1).2 = .rick ∧ (tRun.roomFor (tRun.homeOf 0 7) 0 1).2.ok = true ∧ 
    (let g := { seg0 with red := some red0 }
     (RedOpen.opened red0 g 0).refuses red0 g = none ∧ ((RedOpen.opened red0 g 0).refuses { red0 with op := 2 } g).isSome = true ∧
     (tRun.roomFor 9 (((RedOpen.opened red0 g 0).take red0 g false 0).stored false - (RedOpen.opened red0 g 0).stored false) 1).2.ok = true) ∧
    (home0.copies.find? (fun c => (slot0.seq == some c.seq) || decide (c.tags.head? = seg0.tags.head?))) = some copy0 ∧
    home0.subs.find? (fun q => q.is 0 0 5) = some rec_ ∧ home0.current = some copy0 ∧ home0.pins < 65535 ∧ (tHome home0).quota 0 ≠ 0 ∧
    (tHome home0).quotaUsed 0 0 ≤ (tHome home0).quota 0 ∧ 0 < { home0 with pins := 1 }.pins ∧ home0.expired 0 copy0 = true ∧
    KMap.get? (tHome home0).homes (homeKey 0 7) = some home0 ∧
    { home0 with held := [held0] }.held.find? (fun e => e.mine slot0) = some held0 ∧ held0.seq = none ∧
    [held0].any (fun e => e.of 0 0 5 && e.isRecord && e.seq == slot0.seq) = false ∧
    (tRun.readAll 0 0 0 [] copy0.segs).2 = some [seg0] ∧ seqAfter 2 1 = true ∧
    (let s := tHome home0; s.quota 0 ≠ 0 ∧ 0 < ({ home0 with pins := 1 } : HomeName).pins ∧ home0.pins = 0 ∧ home0.sysPins = 0) ∧
    tRun.quotaUsed (tRun.homeOf 0 7) 0 + (if home0.quotaCounts 0 copy0 then 0 else copy0.size) ≤ (tHome home0).quota 0 := by decide +kernel
def backed : Ctx := { tPaged.ctx 0 with backing := [(0x8000000000010000, 0x0000000000000001)] }
/-- The space 0 is backed by one granule of 64 bytes at 0x10000; key 0 is its last. -/
theorem witness_HomeEvents_backed :
    backed.backs (spaceOf 0) = some (0x8000000000010000, 1) ∧ (0 : Nat) < ((1 : Word).extractLsb' 0 48).toNat ∧
    (match ((tPaged.setCtx 0 backed).sysRead 64 0 0 0x10000 64).2 with | .ok _ => true | _ => false) = true ∧
    (match (tPaged.ftGo 1 0 0 ⟨0, 0x8000000000010000, 1, []⟩ [(0x10000, 64)] []).2 with | .ok bs => decide (bs.length = 64) | _ => false) = true ∧
    (let s := { tPaged with mem := [(0x2001, 0x40), (0x2007, 0x80), (0x4005, 0x04), (0x4007, 0xBC)] }
     match s.transFor 65 0 0 0x10000 0 with | (s1, .done tr) => s1.far (tr.pa 0x10000) | _ => false) = true ∧
    (match (tRun.ftGo 1 0 0 ⟨0, 0x8000000000010000, 1, []⟩ [(0x10000, 64)] []).2 with | .fault k => decide (k = .nomap) | _ => false) = true ∧
    backValid 0x8000000000010000 = true ∧ backValid 0x6800000000000000 = false ∧
    tRun.stale (agHedge (2 * (nearestRim (tRun.homeOf 0 7) - 64))) 0 0 = false := by decide +kernel

/-! ### Witnesses: events of kernels, queues, groups, barriers and steps -/

def rec1 : List Word := [0x8000, 0, 0, -1, -1, -1, 0, 0]
def checked (n : Nat) : List Word := rec1.take 7 ++ [BitVec.ofNat 64 n]
def goodRec : List Word := checked (recCheck 0 0 rec1)
def queue0 : Queue := { Queue.reset with st := .open_, base := 0x8000, lg := 4, kern := some kern0, recs := [(0, goodRec)], gates := some [] }
def tQ (q : Queue) : State := { tPaged with queues := [(0, q)] }
/-- A queue in each state, full and not, with a record whose check holds; gates; memberships asked for, within the limit and past it. -/
theorem witness_QueueEvents :
    tRun.stale (agSched (schedOf 0 0)) 0 0 = false ∧ (∀ st ∈ [QueueState.none, .open_, .draining, .closed], ((tQ { queue0 with st := st }).queue 0 0).st = st) ∧
    2 ^ queue0.lg ≤ (List.replicate 16 (0, goodRec)).length ∧ queue0.recs.length < 2 ^ queue0.lg ∧
    (match ((tQ queue0).sysWrite (schedOf 0 0) 0 0 0x8000 (goodRec.flatMap (fun w => wordBytes 8 w.toNat))).2 with | .ok _ => true | _ => false) = true ∧
    ((tQ queue0).queue 0 0).gates = some [] ∧ ({ queue0 with asked := [3] } : Queue).asked.contains 3 = true ∧
    (tQ queue0).expandReady 0 0 = true ∧ (tQ { queue0 with refused := some 3 }).expandReady 0 0 = true := by decide +kernel
theorem witness_QueueEvents_record : recordBad 0 0 goodRec = none := by
  have key : ∀ n, recCheck 0 0 rec1 = n → n < 2 ^ 32 → recordBad 0 0 (checked n) = none := by
    intro n e l
    have c : recCheck 0 0 (checked n) = n := by
      have t : (checked n).take 7 = rec1.take 7 := rfl
      have u : recCheck 0 0 (checked n) = recCheck 0 0 rec1 := by unfold recCheck; rw [t]
      rw [u, e]
    have d : (checked n).getD 7 0 = BitVec.ofNat 64 n := rfl
    have d1 : (checked n).getD 1 0 = 0 := rfl
    have g : (gatesOf (checked n)).any (fun g => decide (0xF6 ≤ spaceOf g)) = false := rfl
    have k : (BitVec.ofNat 64 n).extractLsb' 0 32 = BitVec.ofNat 32 n := by
      apply BitVec.eq_of_toNat_eq; simp
    have h : (BitVec.ofNat 64 n).extractLsb' 32 32 = 0 := by
      apply BitVec.eq_of_toNat_eq; simp [Nat.shiftRight_eq_div_pow]; omega
    unfold recordBad; simp only [c, d, d1, g, k, h]; simp
  exact key _ rfl (BitVec.isLt _)
/-- Memberships at the limit of a group and past it. -/
theorem witness_QueueEvents_limit :
    ((tQ queue0).group 0 3).live + ((tQ queue0).group 0 3).reservedSum + 16777215 ≤ 16777215 ∧
    16777215 < ((tQ queue0).group 0 3).live + ((tQ queue0).group 0 3).reservedSum + 16777216 := by
  have e : ((tQ queue0).group 0 3).live = 0 ∧ ((tQ queue0).group 0 3).reservedSum = 0 := by decide +kernel
  omega

def newInst : Inst := { inst0 with st := .defined, place := none, kern := { kern0 with scrA := 0, yld := false } }
def parkedOn (s : State) (c : ParkCond) (st : InstState) (d : Bool) : State := setX s (fun x => { x with park := some c, st := st, parkDone := d, parkAt := 0x2000 })
/-- Placement of a new instance in the free slot, its load, a park that completes and one that ends, the ends of an instance. -/
theorem witness_InstanceEvents :
    (let s := { tRun with insts := [(0, newInst)] }; s.inst 0 = some newInst ∧ s.nextPlace 0 = some (0, 0, 0)) ∧
    tInst.inst 0 = some inst0 ∧ inst0.place = some (0, 0) ∧ tInst.stale (agSite 0 0) 0 0 = false ∧ tInst.cur.inst = some 0 ∧
    (setX tInst (fun x => { x with st := .placed, codeOf := some (0, 0, 0x8000, kern0.image) })).cur.codeOf = some (inst0.ctx, inst0.inc, inst0.image, inst0.kern.image) ∧
    (match (tInst.sysRead (fieldOf 0) 0 0 inst0.args.toNat inst0.kern.args).2 with | .ok _ => true | _ => false) = true ∧
    (parkedOn tInst (.slot 5) .running false).parkReady 0 0 = true ∧ (parkedOn tInst (.time 0) .parked true).cur.parkHolds 0 (.time 0) = true ∧
    (parkedOn tInst (.time 0) .running true).curTile.issuing = some 0 ∧
    (setX tInst (fun x => { x with wait := .exiting })).endReady 0 0 = some 0 ∧ (setX tInst (fun x => { x with st := .faulted })).endReady 0 0 = some 1 ∧
    (setX tInst (fun x => { x with cancelReq := some 3 })).endReady 0 0 = some 2 ∧ tInst.cur.st ≠ .faulted ∧ tInst.cur.wait = .none ∧
    tInst.cur.cancelReq = none := by decide +kernel

def group0 : Group := { Group.reset with st := .active, live := 1 }
def tGroup (g : Group) : State := tPaged.setGroup 0 3 g
/-- A group with one member and with two, at the limit of memberships, cancelling, and in each part of a cut. -/
theorem witness_GroupEvents :
    tPaged.stale (agSched (schedOf 0 3)) 0 0 = false ∧ ((tGroup group0).group 0 3).live = 1 ∧ 1 < ({ group0 with live := 2 } : Group).live ∧
    ({ group0 with live := 16777214 } : Group).live + group0.reservedSum + 1 ≤ 16777215 ∧ group0.cancelling = false ∧ group0.st = .active ∧
    1 < ({ group0 with st := .cutting, marks := 2 } : Group).marks ∧ tPaged.failedRicks.contains (tPaged.homeOf 0 7) = false ∧
    (tPaged.homeName 0 (tPaged.ctx 0).inc 7).marks = [] ∧
    (match (tPaged.walkNow (walkerOfHedge (hedgeOfSite (tPaged.homeOf 0 7))) 0 0 0x10000 1).out with | .done _ => true | _ => false) = true ∧
    (tGroup { group0 with st := .cutting, ordered := true }).cutReady 0 3 = true ∧
    (tGroup { group0 with st := .cutting, ordered := true, sent := true, base := 0x10000 }).cutReady 0 3 = true ∧
    (match ((tGroup { group0 with base := 0x10000 }).sysWrite (schedOf 0 3) 0 0 0x10000 (cutHeader 0 0 0 3 0)).2 with | .ok _ => true | _ => false) = true := by
  decide +kernel
theorem witness_GroupEvents_members : (tGroup group0).cutMembers 0 3 = [] := by
  simp [State.cutMembers, State.members, show (tGroup group0).insts = [] from rfl]
/-- A member that leaves; a mark of another use of the group. -/
theorem witness_GroupEvents_leave :
    (let s := withInst tRun { inst0 with groups := [none, some 3, none, none] }
     s.instOf 0 0 = some (0, { inst0 with groups := [none, some 3, none, none] })) ∧
    ({ inst0 with groups := [none, some 3, none, none] } : Inst).groups.getD 1 none = some 3 ∧ (1 : Nat) ≠ group0.use := by decide +kernel

def bar0 : Bar := ⟨0, 4, 0xFFFFFFFF, 2, 1, 0, 0⟩
def breq (p : Nat) : BarReq := ⟨0, 0, 5, p, 5, ⟨0, 0, .a 5⟩⟩
/-- Barrier 5 in phase 2^32 - 1: requests for it, for the next, for the two after that and for the one before it. -/
theorem witness_BarrierEvents :
    tRun.staleHome 0 0 (barName 5 0) = false ∧ tRun.failedRicks.contains (tRun.barHome 0 5) = false ∧ tRun.bar 0 0 5 = none ∧
    (tRun.setBar 0 5 bar0).bar 0 0 5 = some bar0 ∧ bar0.phase < 2 ^ 32 ∧
    [0xFFFFFFFF, 0, 1, 0x7FFFFFFE, 0x7FFFFFFF, 0xFFFFFFFE].map (fun p => ((breq p).phase + 2 ^ 32 - bar0.phase) % 2 ^ 32) =
      [0, 1, 2, 2 ^ 31 - 1, 2 ^ 31, 2 ^ 32 - 1] ∧ (breq 0).who.dst ≠ Reg.dead ∧ (0 : Nat) < bar0.ahead ∧ bar0.ahead ≤ 1 ∧ bar0.ahead ≠ bar0.count ∧
    bar0.arr + 1 < bar0.count ∧ ({ bar0 with arr := 3 } : Bar).arr + 1 = bar0.count ∧ ({ bar0 with ahead := 4 } : Bar).ahead = bar0.count := by
  decide +kernel

def step0 : StepEnt := ⟨0, true, 9, 3, 8000, 0, .pending, 0, false, 0, none, 0, 0⟩
def tStep (e : StepEnt) : State := { tRun with steps := [(0, e)], time := 16000 }
/-- A free entry, none free, an OPEN step named rightly and wrongly, its deadline's boundary, copies to come, a point requested. -/
theorem witness_StepEvents :
    tRun.stale agGov 0 0 = false ∧ (List.range 16).find? (fun id => (tRun.stepAt 0 0 id).isNone) = some 0 ∧
    (∀ id < 16, ({ tRun with steps := (List.range 16).map (fun i => (i, step0)) }.stepAt 0 0 id).isSome = true) ∧
    (tStep step0).openStep 0 0 0 9 = some step0 ∧ (tStep step0).openStep 0 0 0 8 = none ∧ (tStep step0).stepAt 0 0 0 = some step0 ∧
    step0.t0 < 1 ∧ step0.done = 0 ∧ (tStep step0).deadlineDue 0 0 16000 = true ∧ (tStep step0).noticesIn 0 0 step0 = true ∧
    ((9 * 2 ^ 20 : Word).extractLsb' 48 4).toNat = 0 ∧ ((9 * 2 ^ 20 : Word).extractLsb' 20 28).toNat = step0.seq ∧
    ({ step0 with open_ := false } : StepEnt).copies ≤ 1 ∧ 1 < ({ step0 with copies := 2 } : StepEnt).copies ∧ (tStep step0).boundary ≤ (tStep step0).time ∧
    KMap.get? { tRun with opReq := [(0, 7)] }.opReq 0 = some 7 ∧ (∀ p ∈ tRun.slots, p.2.slewAway = none) ∧ (tStep step0).steps = [(0, step0)] ∧
    step0.open_ = true ∧ step0.outcome = .pending := by decide +kernel
/-- A member with work in a step that is due at 16,000: its tile has load, and a load that no point and one that every point finishes in time. -/
def tLoad : State :=
  { tRun with steps := [(0, { step0 with dl := 16000 })], time := 8000, boundary := 8000
              insts := [(0, { inst0 with groups := [some 3, none, none, none], kern := { kern0 with cost := 8000 } })] }
theorem witness_StepEvents_load :
    tLoad.boundary ≤ tLoad.time ∧ (tLoad.stepLoads.any (fun l => l.loads.any (fun p => decide (p.2.num ≠ 0) && decide (domainOf p.1 = 0)))) = true ∧
    fits ⟨0, 1⟩ 0 95 1 = true ∧ (∀ n < 16, fits ⟨1000, 1⟩ n 95 1 = false) ∧
    tRun.candidateDomains.contains 0 = true ∧ tRun.stepLoads = [] := by decide +kernel

/-! ### Witnesses: contexts, saves -/

def desc0 : List Nat := [0x101, 1, 0, 0, 0, 0, 0, 0]
def killed7 : Ctx := { Ctx.reset with st := .killed, inc := 1, linkUse := true, told := (List.range 74).map agLink }
/-- Context 7 creating, with a descriptor off and on its alignment; with sites to bind and with none; killed, with the link fence over. -/
theorem witness_ContextEvents :
    ((tRun.setCtx 7 killed7).ctx 7).st = .killed ∧ killed7.told.contains 3 = false ∧ killed7.swept.contains 3 = false ∧ killed7.linkUse = true ∧
    killed7.fenceOk = false ∧ (∀ l < 74, killed7.told.contains (agLink l) = true) ∧ killed7.fence + 1000000 ≤ { tRun with time := 1000000 }.time ∧
    ((tRun.setCtx 7 { Ctx.reset with st := .creating }).ctx 7).startWho = none ∧ (0x8001 : Nat) % 64 ≠ 0 ∧ (0x8000 : Nat) % 64 = 0 ∧
    (match (tPaged.sysRead (fieldOf 0) 0 0 0x8000 64).2 with | .ok bs => decide (tPaged.descCause 7 (descOf (dwords bs)) ≠ 0) | _ => false) = true ∧
    (let s := { tPaged with mem := tPaged.mem ++ [(0x8001, 1), (0x8008, 2)] }
     match (s.sysRead (fieldOf 0) 0 0 0x8000 64).2 with | .ok bs => decide (s.descCause 7 (descOf (dwords bs)) = 0) | _ => false) = true ∧
    ({ Ctx.reset with st := .creating, toBind := [3] } : Ctx).toBind.contains 3 = true ∧
    ({ Ctx.reset with st := .creating, startWho := some (⟨0, 0, .a 5⟩, 0, 0) } : Ctx).toBind = [] ∧
    tRun.stale (agSched (fieldOf 0)) 0 0 = false ∧ (tRun.setCtx 0 { Ctx.reset with inc := 1, told := [agSched 0] }).stale (agSched (fieldOf 0)) 0 0 = true ∧ tRun.boundTo 0 = [0] ∧
    tRun.refillDue 0 = false ∧ { tRun with time := 1000000 }.refillDue 0 = true := by decide +kernel
/-- A context of which every agent has reported its sweep. -/
theorem witness_ContextEvents_reclaim : (tRun.setCtx 7 { Ctx.reset with st := .killed, swept := tRun.agents }).reclaimReady 7 = true := by
  have key : ∀ s : State, (s.ctx 7).st = .killed → (s.ctx 7).linkUse = false → (s.ctx 7).swept = s.agents → s.reclaimReady 7 = true := by
    intro s h1 h2 h3
    simp [State.reclaimReady, h1, h2, h3]
  exact key _ rfl rfl rfl

def tSave (x : Slot → Slot) (i : Inst) : State := withInst (setX tPaged x) i
def saved0 : Inst := { inst0 with st := .placed, rec_ := some (0, true), kept := some Slot.empty }
/-- An instance that an order reaches; one that is to be saved and may be, with a record area of no record; one to be restored; a tile to freeze. -/
theorem witness_SaveEvents :
    tInst.inst 0 = some inst0 ∧ inst0.place = some (0, 0) ∧ tInst.stale (agSite 0 0) inst0.ctx inst0.inc = false ∧ tInst.cur.inst = some 0 ∧
    tInst.cur.st ≠ .placed ∧ tInst.cur.st ≠ .faulted ∧ tInst.cur.cancelReq = none ∧ tInst.cur.exits = false ∧
    (let s := tSave (fun x => { x with stopReq := some .evict }) inst0
     s.stoppable 0 0 = true ∧ s.cur.stopReq = some .evict ∧ (match (s.takeRec (fieldOf 0) inst0).2 with | .full => true | _ => false) = true) ∧
    (match ((withInst tRun inst0).takeRec (fieldOf 0) inst0).2 with | .fault k _ => decide (k = .nomap) | _ => false) = true ∧
    (match (tPaged.takeRec (fieldOf 0) saved0).2 with | .got h => decide (h = 0) | _ => false) = true ∧
    (tSave (fun x => { x with st := .placed }) saved0).restoreReady 0 0 = true ∧ saved0.kept = some Slot.empty ∧ saved0.rec_ = some (0, true) ∧
    (match ((withInst tRun saved0).readRecord (fieldOf 0) 0 0 0 [(0, 8)] []).2.1 with | .fault k _ => decide (k = .nomap) | _ => false) = true ∧
    (let s := setX tInst (fun x => { x with chkp := [(.a 5, [], 0)] })
     s.chkpReady 0 0 = true ∧ s.cur.chkp = (.a 5, [], 0) :: [] ∧ s.instOf 0 0 = some (0, inst0)) ∧
    tInst.cur.stopReq = none ∧ (setT tRun (fun t => { t with freezeReq := true })).curTile.freezeReq = true := by decide +kernel

/-! ### Witnesses: links, host, management -/

def tLink (l : Nat) (x : Link) : State := { tRun with links := [(l, x)], time := 100000000 }
/-- A link in each state, a training that times out, a retry that is due. -/
theorem witness_LinkStates :
    (∀ st ∈ [LinkState.down, .training, .up, .degraded, .quarantined], ((tLink 2 { Link.reset with st := st }).link 2).st = st) ∧
    ({ Link.reset with trainings := [90000000] } : Link).trainings.getLast? = some 90000000 ∧ 90000000 + 10000000 ≤ (tLink 2 Link.reset).time ∧
    ({ Link.reset with retryAt := some 100000000 } : Link).retryAt = some (tLink 2 Link.reset).time ∧
    ({ Link.reset with st := .degraded } : Link).usable = true ∧ tRun.hasLink 73 = true ∧ tRun.hasLink 74 = false ∧
    { tRun with mgmt := { tRun.mgmt with bifurcated := [1] } }.hasLink 75 = true := by decide +kernel

def flit (ty : Nat) : Flit := ⟨ty, 0, 0, 31249, 1, 0, 0, 4095, false, 0, 3, some req0, some { data := [], poison := false, err := none }, none, false⟩
def frame0 : LFrame :=
  { srcDomain := 0, srcModule := 1, srcCtx := 3, dstCtx := 0, name := 7, linger := 5, seq := 9, id := 0, age := 0, idx := 0, size := 64
    bytes := List.replicate 64 1, checks := frameChecks 7 0 0 (List.replicate 64 1) }
def lsend0 : LSendOut := ⟨0, 0, 0, 0, 7, 1, 1, 0, 5, 8192, 0, 0, [(9, some 0, 0, [], 0)], 1, 0⟩
/-- A flit that is sent carries its link check, a segment its check values (R374, R388). -/
theorem header_lcrc (f : Flit) (c : BitVec 32) : Flit.header { f with lcrc := c } = Flit.header f := rfl
theorem slot_lcrc (f : Flit) (c : BitVec 32) : Flit.slot { f with lcrc := c } = Flit.slot f := rfl
theorem sent_checked (f : Flit) (a b : Nat) : (Flit.send f a b).lcrc = Flit.linkCheck (Flit.send f a b) := by
  have e : ∀ (g : Flit) (c : BitVec 32), Flit.linkCheck { g with lcrc := c } = Flit.linkCheck g := fun g c => by
    unfold Flit.linkCheck; rw [header_lcrc g c, slot_lcrc g c]
  exact (e _ _).symm
theorem segment_sound (f : LFrame) (h : f.checks = frameChecks f.name f.idx f.part f.bytes) : LFrame.sound f = true := by simp [LFrame.sound, h]
theorem witness_checks : (Flit.send (flit 0) 0 4095).lcrc = Flit.linkCheck (Flit.send (flit 0) 0 4095) ∧ LFrame.sound frame0 = true :=
  ⟨sent_checked _ _ _, segment_sound _ rfl⟩
/-- A flit in order, one out of order, one with a bad check; a request of 1 ms and one just younger; a request that is out; a frame that is not admitted and
one that is too old; the last verdict of an LSEND and an earlier one; frames without a verdict. -/
theorem witness_LinkEvents :
    (let x := (tLink 2 { Link.reset with st := .up }).link 2
     x.usable = true ∧ (flit 0).seq = (x.rxSeq + 1) % 4096 ∧ { flit 7 with nak := true }.nak = true ∧ (flit 7).ty = 7 ∧ (1 : Nat) ≠ (x.rxSeq + 1) % 4096) ∧
    (let s : State := { tRun with inq := [(2, 0, flit 0)], time := 32 }
     s.inq.find? (fun e => e.1 == 2 && e.2.2 == flit 0) = some (2, 0, flit 0) ∧ (flit 0).req = some req0 ∧ 31250 ≤ min 65535 (31249 + (s.time - 0) / 32) ∧
     min 65535 (31249 + (31 - 0) / 32) < 31250) ∧
    KMap.get? { tRun with out := [(3, (0, req0))], time := 2000000 }.out 3 = some (0, req0) ∧ MemOp.whole req0.op = false ∧
    MemOp.whole (.read 128) = true ∧ frame0.srcDomain = tRun.domainNum ∧ tRun.seen = [] ∧
    tRun.admits frame0 = false ∧
    (let s := { (tRun.setCtx 3 { Ctx.reset with st := .active }) with mgmt := { tRun.mgmt with admission := [(0, (0, 1, 0, 3))] } }
     s.admits { frame0 with dstCtx := 3, srcCtx := 0 } = true ∧ s.lsendIn = [] ∧ frame0.bytes.length < 8192 ∧ frame0.size ≤ frame0.bytes.length ∧
     (s.ctx 3).inc = 0) ∧ (tRun.timeBase / 32 + 65536 - 0 % 65536) % 65536 < 31250 ∧
    (let s := tLink 66 { Link.reset with st := .up }
     (s.link (66 + 0)).usable = true ∧ 31250 ≤ (s.timeBase / 32 + 65536 - 53030 % 65536) % 65536) ∧
    (let s : State := { tRun with lsends := [(0, lsend0)], time := 1000000 }
     s.lsends.find? (fun p => p.2.frames.any (fun f => decide (f.1 = 9))) = some (0, lsend0) ∧ lsend0.accepted + 1 ≠ lsend0.pieces s.domainNum ∧
     ({ lsend0 with accepted := 1 } : LSendOut).accepted + 1 = lsend0.pieces s.domainNum ∧ lsend0.frames ≠ [] ∧ lsend0.t0 + 1000000 ≤ s.time ∧
     s.resendsDue.find? (fun e => decide (e.1 = 0) && decide (e.2.1 = 9)) = some (0, 9, 0)) := by decide +kernel

/-- Bring-up is over. -/
def isReady (s : State) : State := { s with mgmt := { s.mgmt with ready := true } }
/-- Granule ends of host writes; the last byte of local memory and one past it; a read within a granule; host subscriptions to the first and the last space, vector and context. -/
theorem witness_HostEvents :
    (isReady (tLink 1 { Link.reset with st := .up })).hostOk 1 = true ∧ tRun.hostOk 5 = false ∧ (isReady (tLink 1 { Link.reset with st := .up })).hostOk 3 = false ∧
    (tLink 1 { Link.reset with st := .up }).hostOk 1 = false ∧ ((tLink 1 { Link.reset with st := .up }).link (hostLink 1)).usable = true ∧
    (tRun.link (hostLink 1)).usable = false ∧
    (isReady { (tLink 75 { Link.reset with st := .up }) with mgmt := { tRun.mgmt with bifurcated := [1] } }).hostOk 3 = true ∧
    ([1, 2] : List Byte).length ≤ 64 - 62 % 64 ∧ 64 - 63 % 64 < ([1, 2] : List Byte).length ∧ localSize - 1 + ([7] : List Byte).length ≤ localSize ∧
    localSize < localSize - 1 + ([7, 8] : List Byte).length ∧ 63 % 64 + 1 ≤ 64 ∧ (tRun.homeRead 256 0 63 1).2.poison = false ∧
    (tRun.homeRead 256 0 63 1).2.err = none ∧ 0xF0 ≤ spaceOf 0xF000000000000000 ∧ spaceOf 0xF500000000000000 ≤ 0xF5 ∧
    { tRun with mgmt := { tRun.mgmt with hostSubs := [(1, 255, 0, 0xF000000000000000, 2, 255)] } }.mgmt.hostSubs[0]? =
      some (1, 255, 0, 0xF000000000000000, 2, 255) ∧ (tRun.ctx 255).inc = 0 := by decide +kernel

/-- Powers at and around the bounds; links all DOWN and one that is not; bits of the first and last freeze and debug words; an image slot. -/
theorem witness_ManagementEvents :
    4000 ≤ (4000 : Word).toNat % 65536 ∧ (32000 : Word).toNat % 65536 ≤ 32000 ∧ (3999 : Word).toNat % 65536 < 4000 ∧ 32000 < (32001 : Word).toNat % 65536 ∧
    tRun.mgmt.low = none ∧ (∀ k < 64, (tRun.link (2 + k)).st = .down) ∧ ((tLink 65 { Link.reset with st := .up }).link (2 + 63)).st ≠ .down ∧
    ((tLink 65 { Link.reset with st := .up }).link (2 + 63)).st ≠ .quarantined ∧ (0x3F8 % 8 = 0 ∧ 0x6F8 % 8 = 0) ∧ (383 : Word).toNat ≤ 383 ∧
    tRun.mgmt.recovery = false ∧ { tRun.mgmt with low := some 16000 }.low = some 16000 ∧ (List.replicate 48 (7 : Byte)).length = 48 ∧
    16 < (KMap.getD [(3, List.replicate 17 0)] 3 []).length ∧ (KMap.getD [(3, List.replicate 16 0)] 3 []).length ≤ 16 ∧
    ((0x1FFF : Word).extractLsb' 13 3).toNat = 0 ∧ ((0x2007 : Word).extractLsb' 13 3).toNat = 1 ∧ ((0x4007 : Word).extractLsb' 13 3).toNat = 2 ∧
    tRun.mgmt.flashing = none ∧ { tRun.mgmt with flashing := some (1, 5, []) }.flashing = some (1, 5, []) := by decide +kernel

/-! ### Witnesses: whole bundles and every state -/

/-- A syllable that leaves a next state, and what a bundle that stores has stored. -/
theorem witness_RegisterFrame : ∃ t, exec (.add h0 (rrr 3)) tRun = .next t := ⟨_, rfl⟩
theorem witness_BundleStores :
    tRun.iss.done = false ∧ (tRun.setIss { tRun.iss with wr := [(0xFFF8, wordBytes 8 7, false)] }).iss.wr = [(0xFFF8, wordBytes 8 7, false)] ∧
    0xFFF8 + (wordBytes 8 7).length ≤ tRun.cur.sys.sizeA ∧ 0xFFF8 + (wordBytes 8 7).length ≤ 0x100000 := by decide +kernel
def nop0 : Item := ⟨.nop h0 ⟨0, 0, 0, 0, 0, 0⟩, ⟨0xD000000000000000, none⟩, 0, 0⟩
def tNop : State := State.reset.withProgram (bytesOf 8 0xD000000000000000)
/-- A program of one NOP. -/
theorem witness_StepRunsDecoded :
    tNop.cands = [.bundleIssue 0 0] ∧ tNop.issueReady 0 0 = true ∧ ((tNop.begin_ 0 0).fetch 0 0 == ⟨encode nop0.i, true, none⟩) = true ∧
    checkBundle (encode nop0.i) true (tNop.begin_ 0 0).cur.sys.privc = none ∧ itemsOf (encode nop0.i) = [nop0] ∧ (tNop.begin_ 0 0).cur.after = none ∧
    (tNop.begin_ 0 0).cur.wait ≠ .ways ∧ nop0.locked (tNop.aloneAt 0 0 nop0).cur = false ∧ (tNop.aloneAt 0 0 nop0).guarded [nop0] = (tNop.aloneFrom 0 0 nop0).guarded [nop0] ∧ (tNop.aloneAt 0 0 nop0).markFault nop0.syl = none ∧
    (lateWaitOf nop0.i (tNop.aloneAt 0 0 nop0)).isNone = true := by decide +kernel
/-- A syllable, an owner with its X, and nothing after them. -/
theorem witness_RoundTrip :
    nop0.i.isSyl = true ∧ nop0.i.wf = true ∧ (Instr.li ⟨false, false, 0⟩ ⟨7, 0, 9, some ⟨false, 0x12345678⟩⟩).wf = true ∧ ([] : List Byte).length < 8 := by
  decide +kernel
theorem witness_StepKeepsCanonical : State.reset.Canonical ∧ ∃ t, step tNop = .next t :=
  ⟨by unfold State.Canonical; decide, by
    have h : tNop.choose = some (.bundleIssue 0 0) := by decide +kernel
    unfold step; rw [h]; exact ⟨_, rfl⟩⟩

/-! ### Ill-formed terms -/

/-- Each check of R40 on one syllable refuses a term that fails it and no other; so do the checks of shared opcodes, of owners and of places. -/
theorem test_wf_reserved : sylFault ⟨0x0010_0909_0B01_0300, none⟩ = some .rsvfield ∧ sylFault ⟨0xD000_0000_0000_0001, none⟩ = some .rsvfield ∧
    (Instr.nop h0 ⟨0, 0, 0, 0, 0, 1⟩).wf = false := by decide +kernel
theorem test_wf_opcode : sylFault ⟨0xF000_0000_0000_0000, none⟩ = some .class7 ∧ sylFault ⟨0x6000_0000_0000_0000, none⟩ = some .xorphan ∧
    sylFault ⟨0xDFF0_0000_0000_0000, none⟩ = some .badop ∧ sylFault ⟨0xD008_0000_0000_0000, none⟩ = some .badguard ∧
    sylFault ⟨0x0010_0909_0B00_0300, some 0x6000_0000_0000_0000⟩ = some .xorphan := by decide +kernel
/-- A format that ADD has not, a rounding mode 7, a destination of class 7, and a write of CTXID. -/
theorem test_wf_fields : (Instr.add h0 ⟨5, 1, 2, 0, 10, 0⟩).wf = false ∧ (Instr.vadd h0 ⟨5, 1, 2, 0, 10, 7⟩).wf = false ∧
    (Instr.add h0 ⟨0xE5, 1, 2, 0, 3, 0⟩).wf = false ∧ (Instr.sysw h0 (sysw 0x010)).wf = false ∧ (Instr.add h0 ⟨5, 1, 2, 0, 3, 0⟩).wf = true := by
  decide +kernel
/-- The address of another constructor's row, an owner that ends the bundle before its X, and places outside the machine. -/
theorem test_wf_rest : (Instr.gctlCut h0 ⟨7, 6, 11, 0, 0, 0⟩).wf = false ∧ (Instr.gctlCut h0 ⟨7, 6, 11, 3, 0, 0⟩).wf = true ∧
    (Instr.li ⟨true, false, 0⟩ ⟨7, 0, 9, some ⟨true, 1⟩⟩).wf = false ∧ (Instr.bundleIssue 6144 0).wf = false ∧ (Instr.bundleIssue 6143 3).wf = true ∧
    (Instr.channelBeat 0 0 16).wf = false ∧ (Instr.tokenRefill 6192).wf = false ∧ (Instr.linkEnable 75).wf = true ∧ (Instr.linkEnable 76).wf = false := by decide +kernel

/-! ### Words of the encoding tables (R32 to R37 and each chapter's opcode table), one family after the other -/

/-- A header with E set and no guard. -/
def e0 : Hdr := ⟨true, false, 0⟩
theorem test_decode_scalar : decodeTableWord 64 0x0010_0909_0B00_0300 = some (.add ⟨false, false, 0⟩ ⟨9, 9, 11, 0, 3, 0⟩) ∧
    decodeTableWord 128 0x6000_0000_1234_5678_01D0_0700_0000_0009 = some (.li ⟨false, false, 0⟩ ⟨7, 0, 9, some ⟨false, 0x12345678⟩⟩) := by decide +kernel
theorem test_decode_control : decodeTableWord 64 0xD050_0700_FFFF_FFD8 = some (.loopS e0 ⟨7, 0, 0xFFFFFFD8⟩) ∧
    decodeTableWord 64 0xD080_0006_0003_0000 = some (.waitwp e0 ⟨0, 6, 0, 3, 0, 0⟩) ∧
    decodeTableWord 64 0xD090_0000_0000_0007 = some (.trapS e0 ⟨0, 0, 7, none⟩) ∧ decodeTableWord 64 0xD0A0_0000_0000_0000 = some (.rft e0 ⟨0, 0, 0, 0, 0, 0⟩) ∧
    decodeTableWord 64 0xD000_0000_0000_0000 = some (.nop e0 ⟨0, 0, 0, 0, 0, 0⟩) := by decide +kernel
theorem test_decode_vector : decodeTableWord 64 0x1130_000B_0000_0600 = some (.vsplat ⟨false, false, 0⟩ ⟨0, 0x0B, 0, 0, 6, 0⟩) ∧
    decodeTableWord 64 0x3040_000C_0000_0000 = some (.vst ⟨false, false, 0⟩ ⟨0, 0x0C, 0, 0, 0, 0, 0, 0⟩) := by decide +kernel
theorem test_decode_memory : decodeTableWord 64 0xB012_080A_0B98_0004 = some (.ld ⟨true, false, 2⟩ ⟨8, 10, 11, 2, 6, 0, 0, 4⟩) ∧
    decodeTableWord 64 0xB080_010B_001E_4000 = some (.stg e0 ⟨1, 11, 0, 0, 7, 2, 1, 0⟩) ∧
    decodeTableWord 64 0xB070_020B_001D_4000 = some (.ldg e0 ⟨2, 11, 0, 0, 7, 1, 1, 0⟩) ∧
    decodeTableWord 64 0xB150_0000_0006_0000 = some (.fence e0 ⟨0, 0, 0, 6, 0, 0⟩) := by decide +kernel
theorem test_decode_channel : decodeTableWord 64 0xC010_0007_0030_0000 = some (.scfg e0 ⟨0, 7, 0, 3, 0, 0, 0⟩) ∧
    decodeTableWord 64 0xC020_0000_0010_0000 = some (.sgo e0 ⟨0, 0, 0, 1, 0, 0, 0⟩) ∧
    decodeTableWord 64 0xC040_000A_0000_0001 = some (.sparm e0 ⟨0, 10, 0, 0, 0, 0, 1⟩) ∧
    decodeTableWord 64 0xC050_0000_0001_0001 = some (.sfence e0 ⟨0, 0, 0, 0, 1, 0, 1⟩) := by decide +kernel
theorem test_decode_matrix : decodeTableWord 64 0xA030_010A_0B02_0000 = some (.mma e0 ⟨1, 10, 11, 2, 0, 0⟩) := by decide +kernel
theorem test_decode_name : decodeTableWord 64 0xC060_0A0B_0C50_0100 = some (.subscribe e0 ⟨10, 11, 12, 5, 0, 1, 0⟩) ∧
    decodeTableWord 64 0xC0C0_0007_0050_0100 = some (.npollAck e0 ⟨0, 7, 0, 5, 0, 1, 0⟩) ∧
    decodeTableWord 64 0xC080_0A0B_0C00_0128 = some (.pub e0 ⟨10, 11, 12, 0, 0, 1, 0x28⟩) := by decide +kernel
theorem test_decode_instance : decodeTableWord 64 0xD0D0_090A_0B0C_0300 = some (.launch e0 ⟨9, 10, 11, 12, 3, 0⟩) ∧
    decodeTableWord 64 0xD070_0006_0301_0000 = some (.yieldWp e0 ⟨0, 6, 3, 1, 0, 0⟩) ∧
    decodeTableWord 64 0xD060_0000_0001_0000 = some (.exitS e0 ⟨0, 0, 0, 1, 0, 0⟩) := by decide +kernel
theorem test_decode_queue_group : decodeTableWord 64 0xD0E0_090A_0000_0300 = some (.qpost e0 ⟨9, 10, 0, 0, 3, 0⟩) ∧
    decodeTableWord 64 0xD0F0_0700_0001_0300 = some (.qctlDrain e0 ⟨7, 0, 0, 1, 3, 0⟩) ∧
    decodeTableWord 64 0xD120_0706_0B03_0000 = some (.gctlCut e0 ⟨7, 6, 11, 3, 0, 0⟩) ∧
    decodeTableWord 64 0xD130_0706_0A02_0000 = some (.gwait e0 ⟨7, 6, 10, 2, 0, 0⟩) := by decide +kernel
theorem test_decode_barrier_step : decodeTableWord 64 0xD140_0706_0800_0000 = some (.binit e0 ⟨7, 6, 8, 0, 0, 0⟩) ∧
    decodeTableWord 64 0xD160_0706_0A03_0000 = some (.bwait e0 ⟨7, 6, 10, 3, 0, 0⟩) ∧
    decodeTableWord 64 0xD170_0706_0800_0000 = some (.stepo e0 ⟨7, 6, 8, 0, 0, 0⟩) := by decide +kernel
theorem test_decode_context : decodeTableWord 64 0xD1A0_0706_0800_0000 = some (.ctxk e0 ⟨7, 6, 8, 0, 0, 0⟩) ∧
    decodeTableWord 64 0xD1B0_0706_0000_0000 = some (.reclm e0 ⟨7, 6, 0, 0, 0, 0⟩) ∧
    decodeTableWord 64 0xD1C0_0706_0001_0000 = some (.ctxrFree e0 ⟨7, 6, 0, 1, 0, 0⟩) ∧
    decodeTableWord 64 0xD1D0_0706_0801_0000 = some (.evictUnbind e0 ⟨7, 6, 8, 1, 0, 0⟩) ∧
    decodeTableWord 64 0xD1E0_0700_0000_0000 = some (.chkpNow e0 ⟨7, 0, 0, 0, 0, 0⟩) ∧
    decodeTableWord 64 0xC0D0_0D0E_1100_0000 = some (.lsend e0 ⟨13, 14, 17, 0, 0, 0, 0⟩) := by decide +kernel

/-! ### Small tests; the expected values are worked out by hand from the rule named -/

def resultOf (o : Host.Outcome State Fault Refusal) : Option Nat :=
  match o with | .next t => (t.cur.infl.head?).map (fun e => e.val.toNat % 2 ^ 64) | _ => none
/-- R93: n64 and i8 sums wrap; R91: an i8 result is kept sign-extended. -/
theorem test_add_wraps : resultOf (exec (.add h0 (rrr 7)) (tA [(1, BitVec.allOnes 64), (2, 2)])) = some 1 ∧
    resultOf (exec (.add h0 (rrr 0)) (tA [(1, 127), (2, 1)])) = some 0xFFFFFFFFFFFFFF80 := by decide +kernel
/-- R93, R94: signed division truncates; its remainder has the sign of the dividend. -/
theorem test_div_rem : resultOf (exec (.div h0 (rrr 3)) (tA [(1, -7), (2, 2)])) = some (2 ^ 64 - 3) ∧
    resultOf (exec (.remS h0 (rrr 3)) (tA [(1, -7), (2, 2)])) = some (2 ^ 64 - 1) := by decide +kernel
/-- R93: leading zeros of 1 and of 0. R100: CRC-32C of the digits 1 to 9 is 0xE3069283, the check value of that polynomial. -/
theorem test_clz : resultOf (exec (.clz h0 (rrr 7)) (tA [(1, 1)])) = some 63 ∧ resultOf (exec (.clz h0 (rrr 7)) (tA [(1, 0)])) = some 64 ∧
    crcs 0xFFFFFFFF [0x31, 0x32, 0x33, 0x34, 0x35, 0x36, 0x37, 0x38, 0x39] ^^^ 0xFFFFFFFF = 0xE3069283 := by decide +kernel
/-- R62, R79: 1 + 2^-24 is a tie and goes to even; 1 + 3 * 2^-24 goes up to 1 + 2^-22; R421's sum at byte 0x330. -/
theorem test_float_add :
    (fpAdd fmtF32 ⟨0, 0⟩ false (decF32 0x3F800000) (decF32 0x33800000)).bits = 0x3F800000 ∧
    (fpAdd fmtF32 ⟨0, 0⟩ false (decF32 0x3F800000) (decF32 0x34400000)).bits = 0x3F800002 ∧
    (fpAdd fmtF32 ⟨0, 0⟩ false (decF32 0x41600000) (decF32 0x41E00000)).bits = 0x42280000 := by decide +kernel
/-- R62: RTZ and RUP of the tie. -/
theorem test_float_round :
    (fpAdd fmtF32 ⟨1, 0⟩ false (decF32 0x3F800000) (decF32 0x33800000)).bits = 0x3F800000 ∧
    (fpAdd fmtF32 ⟨2, 0⟩ false (decF32 0x3F800000) (decF32 0x33800000)).bits = 0x3F800001 := by decide +kernel
/-- R103: LOOP of R108's program from 0x40: with a7 = 2 the branch goes to 0x18. -/
theorem test_loop : (match exec (.loopS h0 ⟨7, 0, 0xFFFFFFD8⟩) (setX (tA [(7, 2)]) (fun x => { x with pc := 0x40 })) with
    | .next t => t.iss.npc | _ => none) = some 0x18 := by decide +kernel
/-- R18's case: rim field 78 carries Quinholt links 36 to 39, and field 77 links 32 to 35. R17's table: PCIe ports 0 and 1, the controller, and Ethernet
ports 0, 3 and 7. -/
theorem test_rim : (∀ k ∈ [36, 37, 38, 39], rimOfLink (2 + k) = 78) ∧ (∀ k ∈ [32, 33, 34, 35], rimOfLink (2 + k) = 77) ∧ rimOfLink 0 = 82 ∧
    rimOfLink 1 = 75 ∧ rimOfController = 76 ∧ rimOfLink 66 = 64 ∧ rimOfLink 69 = 75 ∧ rimOfLink 73 = 87 := by decide +kernel
/-- R31, R40: after a step on a NOP at code address 0 the slot is at 8. -/
theorem test_step_nop : (match exec (.bundleIssue 0 0) tNop with | .next t => (t.slotAt 0 0).pc | _ => 0) = 8 := by decide +kernel

end Sys2Proof.Tests
end

section
/-! PROOFS. What the operations that many events share leave alone: sending, sweeping and unbinding change no context, and token buckets are apart. -/

namespace Sys2Proof.Machine

variable {s t u : State}

/-! ### Messages that are sent -/

/-- `t` is `s` with messages added to the agenda. -/
def State.Sends (s t : State) : Prop := ∃ l, t = { s with agenda := s.agenda ++ l }

theorem State.Sends.refl (s : State) : s.Sends s := ⟨[], by simp⟩

theorem State.Sends.trans (h : s.Sends t) (k : t.Sends u) : s.Sends u := by
  obtain ⟨l, rfl⟩ := h
  obtain ⟨m, rfl⟩ := k
  exact ⟨l ++ m, by simp⟩

theorem State.Sends.foldl {α : Type} {f : State → α → State} (hf : ∀ (s : State) a, s.Sends (f s a)) (l : List α) (s : State) :
    s.Sends (l.foldl f s) :=
  List.foldlRecOn l f (.refl s) (fun t h a _ => h.trans (hf t a))

theorem State.Sends.mem_agenda (h : s.Sends t) {p : Pending} (hp : p ∈ s.agenda) : p ∈ t.agenda := by
  obtain ⟨l, rfl⟩ := h
  exact List.mem_append_left l hp

theorem State.Sends.ctx (h : s.Sends t) (c : Nat) : t.ctx c = s.ctx c := by
  obtain ⟨l, rfl⟩ := h
  rfl

theorem State.Sends.est (h : s.Sends t) : t.est = s.est := by
  obtain ⟨l, rfl⟩ := h
  rfl

theorem State.sends_sendAt (s : State) (due chan : Nat) (ev : Instr) : s.Sends (s.sendAt due chan ev) := ⟨_, rfl⟩

theorem State.sends_ctxReply (s : State) (w : Asker × Nat × Nat) (c cause drops : Nat) : s.Sends (s.ctxReply w c cause drops) :=
  s.sends_sendAt ..

theorem State.sends_ctxEvent (s : State) (w : Asker × Nat × Nat) (kind c drops : Nat) : s.Sends (s.ctxEvent w kind c drops) :=
  s.sends_sendAt ..

/-- A message that has just been sent is under way. -/
theorem State.mem_agenda_send (s : State) (chan : Nat) (ev : Instr) : ∃ p ∈ (s.send chan ev).agenda, p.ev = ev :=
  ⟨⟨s.time, chan, ev, none, [], [], []⟩, by simp [State.send, State.sendAt], rfl⟩

/-- The status word of a context is made of that context alone (R319). -/
theorem State.ctxStatus_congr {c : Nat} (h : t.ctx c = s.ctx c) (cause drops : Nat) : t.ctxStatus c cause drops = s.ctxStatus c cause drops := by
  rw [State.ctxStatus, State.ctxStatus, h]

/-- Every one of some askers is sent the same status (R319). -/
theorem State.mem_agenda_ctxReplies (c cause drops : Nat) {w : Asker × Nat × Nat} {l : List (Asker × Nat × Nat)} (h : w ∈ l) (s : State) :
    ∃ p ∈ (l.foldl (fun s w => s.ctxReply w c cause drops) s).agenda, p.ev =
      .interlockedResultLand w.1.site w.1.slot w.2.1 w.2.2 w.1.dst (BitVec.ofNat 1024 (s.ctxStatus c cause drops)) .plain := by
  induction l generalizing s with
  | nil => simp at h
  | cons v l ih =>
    rcases List.mem_cons.mp h with rfl | h
    · obtain ⟨p, hp, he⟩ := s.mem_agenda_send 0
        (.interlockedResultLand w.1.site w.1.slot w.2.1 w.2.2 w.1.dst (BitVec.ofNat 1024 (s.ctxStatus c cause drops)) .plain)
      exact ⟨p, (State.Sends.foldl (fun s w => s.sends_ctxReply w c cause drops) l _).mem_agenda hp, he⟩
    · rw [← State.ctxStatus_congr ((s.sends_ctxReply v c cause drops).ctx c) cause drops]
      exact ih h _

/-! ### What leaves the contexts and the estimates alone -/

theorem State.stopIssue_ctxs (s : State) (site slot : Nat) : (s.stopIssue site slot).ctxs = s.ctxs := by
  rw [State.stopIssue]
  split <;> rfl

theorem State.sweepTile_ctxs (s : State) (site c inc : Nat) : (s.sweepTile site c inc).ctxs = s.ctxs := by
  rw [State.sweepTile]
  refine List.foldlRecOn (motive := fun t : State => t.ctxs = s.ctxs) (List.range 4) _ rfl (fun t h k _ => ?_)
  dsimp only
  split
  · split
    · split <;> exact (State.stopIssue_ctxs _ _ _).trans h
    · exact h
  · exact h

/-- A sweep drops what an agent keeps, and no state of a context (R310). -/
theorem State.sweep_ctxs (s : State) (agent c inc : Nat) : (s.sweep agent c inc).ctxs = s.ctxs := by
  rw [State.sweep]
  dsimp only
  split
  · split
    · exact s.sweepTile_ctxs ..
    all_goals rfl
  · split
    · rfl
    · split
      · rfl
      · split
        · rfl
        · split
          · split <;> rfl
          · rfl

@[simp] theorem State.slotAt_setCtx (s : State) (c : Nat) (x : Ctx) (site slot : Nat) : (s.setCtx c x).slotAt site slot = s.slotAt site slot := rfl
@[simp] theorem State.tileAt_setCtx (s : State) (c : Nat) (x : Ctx) (site : Nat) : (s.setCtx c x).tileAt site = s.tileAt site := rfl

theorem State.ctx_congr (h : t.ctxs = s.ctxs) (c : Nat) : t.ctx c = s.ctx c := congrArg (fun m => KMap.getD m c Ctx.reset) h

/-- Slots that lose their bindings take nothing from a context that has just been written, nor from the estimates (R301). -/
theorem State.unbindAll_setCtx (ps : List (Nat × Slot)) (s : State) (c : Nat) (x : Ctx) :
    let t := ps.foldl (fun s p => s.unbind (p.1 / 4) (p.1 % 4)) (s.setCtx c x)
    t.ctx c = x ∧ t.est = s.est := by
  have h := List.foldlRecOn (motive := fun t : State => t.ctxs = (s.setCtx c x).ctxs ∧ t.est = s.est) ps
    (fun s p => s.unbind (p.1 / 4) (p.1 % 4)) ⟨rfl, rfl⟩ (fun _ h _ _ => h)
  exact ⟨(State.ctx_congr h.1 c).trans (State.ctx_setCtx_same ..), h.2⟩

/-! ### Reclaiming -/

/-- A start that is taken back changes no context that is not CREATING (R298). -/
theorem State.unstart_ctx {c : Nat} (h : (s.ctx c).st ≠ .creating) (p : Pending) : (s.unstart p).ctx c = s.ctx c := by
  rw [State.unstart]
  split
  · rename_i d _ _ _ _ _
    split
    · exact s.ctx_setCtx_other d c _ (by rintro rfl; contradiction)
    · rfl
  · rfl

/-- What is purged is counted, message by message and window by window (R310). -/
theorem State.purge_ctx {c : Nat} (h : (s.ctx c).st ≠ .creating) : (s.purge c).ctx c = { s.ctx c with
    drops := (s.ctx c).drops + (s.agenda.filter (fun p => decide (ctxOfEv s p.ev = some c))).length +
      (s.windows.filter (fun w => decide (w.ctx = c))).length
    rereads := 0, ftWait := [], couldWrite := [] } := by
  have hk (l : List Pending) : (l.foldl (fun s p => s.unstart p) s).ctx c = s.ctx c :=
    List.foldlRecOn (motive := fun t : State => t.ctx c = s.ctx c) l _ rfl
      (fun t ht p _ => (State.unstart_ctx (by rwa [ht]) p).trans ht)
  rw [← hk (s.agenda.filter (fun p => decide (ctxOfEv s p.ev = some c)))]
  exact State.ctx_setCtx_same ..

/-- Where nothing is kept of a context, every estimate is the image's COST (R287). -/
theorem State.estOf_of_forall_ne {c : Nat} (h : ∀ e ∈ s.est, e.1 ≠ c) (i : Inst) : s.estOf c i = ⟨i.kern.cost, 1⟩ := by
  have hnone : s.est.find? (fun e => decide (e.1 = c) && decide (e.2.1 = i.image) && !e.2.2.isEmpty) = none :=
    List.find?_eq_none.mpr (fun e he => by simp [h e he])
  rw [State.estOf, hnone]

theorem State.reclaimReady_killed {c : Nat} (h : s.reclaimReady c = true) : (s.ctx c).st = .killed := by
  simp only [State.reclaimReady, Bool.and_eq_true, beq_iff_eq] at h
  obtain ⟨⟨hst, -⟩, -⟩ := h
  exact hst

/-- RECLAIM: the context is RECLAIMED and what it had is purged before each of its RECLMs is answered (R313, R321). -/
theorem exec_reclaim {c : Nat} (h : s.reclaimReady c = true) : ∃ t : State,
    exec (.reclaim c) s = .next ((s.ctx c).reclWho.foldl (fun s' w => s'.ctxReply w c 0 ((s.purge c).ctx c).drops) t) ∧
    t.ctx c = { (s.purge c).ctx c with st := .reclaimed, reclWho := [] } ∧ t.est = (s.purge c).est := by
  refine ⟨_, if_neg (by simp [h]), ?_⟩
  split
  · rw [(State.sends_ctxEvent ..).ctx, (State.sends_ctxEvent ..).est]
    exact State.unbindAll_setCtx ..
  · exact State.unbindAll_setCtx ..

/-! ### Token buckets (R317) -/

@[simp] theorem State.tokensAt_setTokens_same (s : State) (agent c n : Nat) : (s.setTokens agent c n).tokensAt agent c = n := by
  by_cases h : agent < 6144 <;> simp [State.tokensAt, State.setTokens, h]

theorem State.tokensAt_setTokens_other (s : State) (agent c d n : Nat) (hd : d ≠ c) :
    (s.setTokens agent c n).tokensAt agent d = s.tokensAt agent d := by
  by_cases h : agent < 6144
  · simp [State.tokensAt, State.setTokens, h, KMap.getD_set_other _ _ _ _ _ hd]
  · have hk : 256 * (agent - 6144) + d ≠ 256 * (agent - 6144) + c := by omega
    simp [State.tokensAt, State.setTokens, h, KMap.getD_set_other _ _ _ _ _ hk]

/-- Buckets filled one after another: each has what it was given, and so has one that held it before and is filled with nothing else. -/
theorem State.tokensAt_foldl_setTokens (s : State) (agent : Nat) (v : Nat → Nat) {l : List Nat} {d : Nat}
    (hd : d ∈ l ∨ s.tokensAt agent d = v d) :
    (l.foldl (fun t c => t.setTokens agent c (v c)) s).tokensAt agent d = v d := by
  induction l generalizing s with
  | nil => exact hd.resolve_left List.not_mem_nil
  | cons c l ih =>
    rw [List.foldl_cons]
    refine ih _ ?_
    by_cases h : d = c
    · subst h
      exact .inr (State.tokensAt_setTokens_same ..)
    · rw [State.tokensAt_setTokens_other _ _ _ _ _ h]
      exact hd.imp_left fun m => (List.mem_cons.mp m).resolve_left h

theorem State.refill_eq_foldl_setTokens (s : State) (agent : Nat) : s.refill agent = (s.boundTo agent).foldl (fun t d => t.setTokens agent d
    (if s.portWaits agent d then
      let g := refillCap agent * s.shareOf agent d /
        (s.boundTo agent).foldl (fun n c => if s.portWaits agent c then n + s.shareOf agent c else n) 0
      min (s.tokensAt agent d + g) (2 * g)
    else min (s.tokensAt agent d) (s.shareOf agent d * refillCap agent / 256))) s := by
  rw [State.refill]
  congr 1
  funext t d
  split <;> rfl

/-! ### The statement -/

/-- INCARNATION_BROADCAST reaches an agent that holds the old incarnation (R310, R312). -/
theorem exec_incarnationBroadcast {agent c : Nat} (hst : (s.ctx c).st = .killed) (hto : (s.ctx c).told.contains agent = false) :
    ∃ u, exec (.incarnationBroadcast agent c) s = .next u ∧ (u.ctx c).told = (s.ctx c).told ++ [agent] ∧ (u.ctx c).st = .killed ∧
      ∃ p ∈ u.agenda, p.ev = .sweepDone agent c (s.itemsAt agent c (s.ctx c).inc) := by
  let x := s.ctx c
  let y : Ctx := { x with
    told := x.told ++ [agent], fence := if agLink 0 ≤ agent ∧ agent < agWalker 0 then s.time else x.fence }
  let t := ((s.setCtx c y).sweep agent c x.inc).send (chanKey 28 agent) (.sweepDone agent c (s.itemsAt agent c x.inc))
  have ht : t.ctx c = y := (State.ctx_congr (State.sweep_ctxs ..) c).trans (State.ctx_setCtx_same ..)
  obtain ⟨u, he, hu⟩ : ∃ u, exec (.incarnationBroadcast agent c) s = .next u ∧ t.Sends u := by
    show ∃ u, execIncarnationBroadcast agent c s = .next u ∧ t.Sends u
    rw [execIncarnationBroadcast, if_neg (not_or.mpr ⟨not_not_intro hst, Bool.eq_false_iff.mp hto⟩)]
    dsimp only
    split
    · split
      · exact ⟨_, rfl, (t.sends_ctxReply ..).trans (State.sends_ctxEvent ..)⟩
      · exact ⟨_, rfl, .refl _⟩
    · exact ⟨_, rfl, .refl _⟩
  obtain ⟨p, hp, hev⟩ := ((s.setCtx c y).sweep agent c x.inc).mem_agenda_send (chanKey 28 agent) (.sweepDone agent c (s.itemsAt agent c x.inc))
  exact ⟨u, he, by rw [hu.ctx, ht], by rw [hu.ctx, ht]; exact hst, p, hu.mem_agenda hp, hev⟩

/-- BINDING_INSTALL at a site that is still to be bound (R300, R301, R317). -/
theorem exec_bindingInstall {site c : Nat} {x : Ctx} (hx : s.ctx c = x) (h : x.toBind.contains site = true) :
    ∃ u, exec (.bindingInstall site c) s = .next u ∧ (u.slotAt site x.slot).bound = some (c, x.inc) ∧
    (u.slotAt site x.slot).sys.privc = x.priv ∧ (u.slotAt site x.slot).sys.baseA = x.baseA ∧ (u.slotAt site x.slot).sys.sizeA = x.sizeA ∧
    (u.slotAt site x.slot).sys.share = x.share ∧ (u.ctx c).toBind = x.toBind.erase site ∧ KMap.get? (u.tileAt site).tokens c = some 0 := by
  subst hx
  refine ⟨_, if_neg (by rw [h]; decide), ?_⟩
  simp only [State.slotAt_setCtx, State.slotAt_setTileAt, State.slotAt_setSlotAt_same, State.ctx_setCtx_same, State.tileAt_setCtx,
    State.tileAt_setTileAt_same, KMap.get?_set_same, and_self]

/-- DESCRIPTOR_READ_DONE for an issuer that is not stale, by the alignment of the descriptor and the cause of its checks (R299, R300). -/
theorem exec_descriptorReadDone {who : Asker} {c issuer inc va : Nat} (hst : (s.ctx c).st = .creating) (hwho : (s.ctx c).startWho = none)
    (hs : s.stale (agSched (fieldOf who.site)) issuer inc = false) :
    (va % 64 ≠ 0 → exec (.descriptorReadDone c who issuer inc va) s =
      .next ((s.setCtx c { s.ctx c with st := (s.ctx c).prev }).ctxReply (who, issuer, inc) c (FKind.cause .aligng 2) 0)) ∧
    (∀ s1 bs, va % 64 = 0 → s.sysRead (fieldOf who.site) issuer inc va 64 = (s1, .ok bs) →
      let d := descOf (dwords bs)
      (s1.descCause c d ≠ 0 → exec (.descriptorReadDone c who issuer inc va) s =
        .next ((s1.setCtx c { s1.ctx c with st := (s.ctx c).prev }).ctxReply (who, issuer, inc) c (s1.descCause c d) 0)) ∧
      (s1.descCause c d = 0 → ∃ u, exec (.descriptorReadDone c who issuer inc va) s = .next u ∧
        (u.ctx c).toBind = s1.sitesIn d.fields ∧ (u.ctx c).slot = d.slot ∧ (u.ctx c).priv = d.priv ∧ (u.ctx c).share = d.share ∧
        (u.ctx c).startWho = some (who, issuer, inc) ∧ ∀ p ∈ u.queues, p.1 / 64 ≠ c)) := by
  show (_ → execDescriptorReadDone c who issuer inc va s = _) ∧ ∀ s1 bs, _ → _ →
    (_ → execDescriptorReadDone c who issuer inc va s = _) ∧ (_ → ∃ u, execDescriptorReadDone c who issuer inc va s = _ ∧ _)
  rw [execDescriptorReadDone, if_neg (by simp [hst, hwho]), if_neg (by simp [hs])]
  refine ⟨fun hva => if_pos hva, fun s1 bs hva hr => ?_⟩
  rw [if_neg (not_not_intro hva), hr]
  refine ⟨fun hd => if_pos hd, fun hd => ⟨_, if_neg (not_not_intro hd), ?_⟩⟩
  simp only [State.ctx, State.setCtx, KMap.getD_set_same, true_and]
  exact fun p hp => of_decide_eq_true (List.mem_filter.mp hp).2

/-- Settles O43: each event is executed on the case that the statement names; the lemmas above say what sending, sweeping, purging and refilling keep. -/
theorem contextEvents : Obligations.ContextEvents := by
  intro s c x
  refine ⟨?broadcast, ?sweepDone, ?fence, ?reclaim, ?stale, ?start, ?bind, ?active, ?early, ?refill, ?purged⟩
  case broadcast => exact fun agent hst hto => exec_incarnationBroadcast hst hto
  case sweepDone => exact fun agent drops hst hsw => if_neg (not_or.mpr ⟨not_not_intro hst, Bool.eq_false_iff.mp hsw⟩)
  case fence =>
    intro hst huse hok htold htime
    have hover : s.fenceOver c = true := by
      simp only [State.fenceOver, Bool.and_eq_true, List.all_eq_true, List.mem_range, decide_eq_true_eq, Bool.not_eq_true', beq_iff_eq]
      exact ⟨⟨⟨⟨hst, huse⟩, hok⟩, htold⟩, htime⟩
    exact congrArg Host.Outcome.next (if_pos hover)
  case reclaim =>
    intro h
    obtain ⟨t, he, hc, -⟩ := exec_reclaim h
    have hu := State.Sends.foldl (fun s' w => State.sends_ctxReply s' w c 0 ((s.purge c).ctx c).drops) x.reclWho t
    refine ⟨_, he, by rw [hu.ctx, hc], by rw [hu.ctx, hc], fun w hw => ?_⟩
    rw [State.ctxStatus_congr (hu.ctx c)]
    exact State.mem_agenda_ctxReplies c 0 _ hw t
  case stale =>
    intro who issuer inc va hst hwho hs
    show execDescriptorReadDone c who issuer inc va s = _
    rw [execDescriptorReadDone, if_neg (by simp [x, hst, hwho]), if_pos hs]
  case start => exact fun who issuer inc va hst hwho hs => exec_descriptorReadDone hst hwho hs
  case bind => exact fun site h => exec_bindingInstall rfl h
  case active =>
    intro w hw hst hb
    show execBindingsAcknowledged c s = _
    rw [execBindingsAcknowledged, hw]
    exact if_pos ⟨hst, List.isEmpty_iff.mpr hb⟩
  case early => exact fun agent h => if_pos (by rw [h]; rfl)
  case refill =>
    intro agent h
    refine ⟨_, if_neg (by rw [h]; decide), fun d hd => ?_⟩
    exact (congrArg (fun t : State => t.tokensAt agent d) (s.refill_eq_foldl_setTokens agent)).trans (State.tokensAt_foldl_setTokens s agent _ (.inl hd))
  case purged =>
    intro h u hu
    obtain ⟨t, he, hc, hest⟩ := exec_reclaim h
    obtain rfl := Host.Outcome.next.inj (he.symm.trans hu)
    have hsend := State.Sends.foldl (fun s' w => State.sends_ctxReply s' w c 0 ((s.purge c).ctx c).drops) x.reclWho t
    have hkilled : x.st ≠ .creating := by rw [State.reclaimReady_killed h]; decide
    refine ⟨by rw [hsend.ctx, hc, State.purge_ctx hkilled], fun i => State.estOf_of_forall_ne (fun e he => ?_) i⟩
    rw [hsend.est, hest] at he
    exact of_decide_eq_true (List.mem_filter.mp he).2

end Sys2Proof.Machine
end

section
/-! PROOFS. Subscription slots: what is read after a write, and the operations of a tile that leave them as they are. -/

namespace Sys2Proof.Machine

variable {s t u : State}

/-! ### Reads after writes -/

theorem Slot.subAt_congr {x y : Slot} (h : x.sub = y.sub) (n : Nat) : x.subAt n = y.subAt n := congrArg (fun v => v.toList.getD n SubSlot.idle) h

theorem Slot.subAt_setSub_same (x : Slot) {n : Nat} (w : SubSlot) (h : n < 16) : (x.setSub n w).subAt n = w := by
  simp [Slot.subAt, Slot.setSub, h]

theorem Slot.subAt_setSub_other (x : Slot) {m n : Nat} (w : SubSlot) (h : m ≠ n) : (x.setSub m w).subAt n = x.subAt n := by
  simp [Slot.subAt, Slot.setSub, h]

@[simp] theorem State.slotAt_setSub (s : State) (site slot n : Nat) (w : SubSlot) :
    (s.setSub site slot n w).slotAt site slot = (s.slotAt site slot).setSub n w := State.slotAt_setSlotAt_same ..

theorem State.slotAt_congr (h : t.slots = s.slots) (site slot : Nat) : t.slotAt site slot = s.slotAt site slot :=
  congrArg (fun m => KMap.getD m (slotKey site slot) Slot.empty) h

theorem State.slots_ite {p : Prop} [Decidable p] (ht : t.slots = s.slots) (hu : u.slots = s.slots) : (if p then t else u).slots = s.slots := by
  split
  · exact ht
  · exact hu

@[simp] theorem State.slotAt_sendPort (s : State) (a c chan : Nat) (ev : Instr) (site slot : Nat) :
    (s.sendPort a c chan ev).slotAt site slot = s.slotAt site slot := rfl

@[simp] theorem Slot.subAt_wake (x : Slot) (bits : BitVec 5) (n : Nat) : (x.wake bits).subAt n = x.subAt n := rfl

/-! ### Fault records and forgotten bytes change no slot -/

theorem State.record_slots (s : State) (w : RecWho) (b : RecBody) : (s.record w b).slots = s.slots := by
  rw [State.record]
  split <;> rfl

theorem State.record_matches (s : State) (w : RecWho) (b : RecBody) : (s.record w b).matches_ = s.matches_ := by
  rw [State.record]
  split <;> rfl

theorem State.reportError_slots (s : State) (site : Nat) : (s.reportError site).slots = s.slots := by
  rw [State.reportError]
  split <;> rfl

theorem State.detect_slots (s : State) (site : Nat) (k : FKind) : (s.detect site k).slots = s.slots := by
  have h : (if k = .ecclocal ∨ k = .eccl1 then s.reportError site else s).slots = s.slots := by
    split
    · exact s.reportError_slots site
    · rfl
  rw [State.detect]
  generalize (if k = .ecclocal ∨ k = .eccl1 then s.reportError site else s) = t at h ⊢
  split <;> exact h

theorem State.scratchForget_slots (s : State) (site slot p n : Nat) : (s.scratchForget site slot p n).slots = s.slots := by
  rw [State.scratchForget]
  refine List.foldlRecOn (motive := fun t : State => t.slots = s.slots) _ _ rfl (fun t h e _ => ?_)
  split <;> exact h

theorem State.withdraw_slots (s : State) (site slot n : Nat) (moving : Bool) : (s.withdraw site slot n moving).slots = s.slots := by
  rw [State.withdraw]
  split <;> rfl

/-! ### A slot that becomes a candidate keeps its subscriptions -/

theorem State.markBusy_slots (s : State) (site : Nat) : (s.markBusy site).slots = s.slots := by
  rw [State.markBusy]
  split <;> rfl

theorem State.rejoin_sub (s : State) (site slot : Nat) : ((s.rejoin site slot).slotAt site slot).sub = (s.slotAt site slot).sub := by
  rw [State.rejoin, State.slotAt_congr (State.markBusy_slots ..), State.slotAt_setSlotAt_same]

theorem State.rejoinFrom_sub (s : State) (site slot : Nat) (x : Slot) :
    ((s.rejoinFrom site slot x).slotAt site slot).sub = (s.slotAt site slot).sub := by
  rw [State.rejoinFrom]
  split
  · exact s.rejoin_sub site slot
  · rfl

theorem State.templatesDone_sub (s : State) (site slot : Nat) : ((s.templatesDone site slot).slotAt site slot).sub = (s.slotAt site slot).sub := by
  rw [State.templatesDone]
  split
  · rw [State.becomeReady, State.rejoin_sub, State.slotAt_setSlotAt_same]
  · rfl

/-- Areas that become free arm the WAITSPACE slots, and change no other (R187). -/
theorem State.freeAreas_subAt {site slot n : Nat} (h : ((s.slotAt site slot).subAt n).st ≠ .waitspace) :
    ((s.freeAreas site slot).slotAt site slot).subAt n = (s.slotAt site slot).subAt n := by
  refine List.foldlRecOn (motive := fun t : State => (t.slotAt site slot).subAt n = (s.slotAt site slot).subAt n) _ _ rfl (fun t ht m _ => ?_)
  dsimp only
  split
  · rename_i hm
    have hne : m ≠ n := by
      rintro rfl
      simp [ht, h] at hm
    exact (congrArg (fun x => Slot.subAt x n) (t.slotAt_setSub ..)).trans ((Slot.subAt_setSub_other _ _ hne).trans ht)
  · exact ht

/-! ### Landing -/

theorem State.foldl_scratchForget_slots (site slot : Nat) (p n : Nat → Nat) (l : List Nat) (s : State) :
    (l.foldl (fun s i => s.scratchForget site slot (p i) (n i)) s).slots = s.slots :=
  List.foldlRecOn (motive := fun t : State => t.slots = s.slots) l _ rfl (fun t h _ _ => (t.scratchForget_slots ..).trans h)

/-- What follows a landing fault, whether it is fatal or frees an area, changes nothing of the slot that has FAILED (R187, R225). -/
theorem State.subAt_afterFail {site slot n : Nat} {w : SubSlot} (h : (s.slotAt site slot).subAt n = w) (hw : w.st = .failed) (first : Bool)
    (cause : Nat) (x : Slot) :
    ((if first then s.setSlotAt site slot { s.slotAt site slot with st := .faulted, fatal := cause }
      else (s.freeAreas site slot).rejoinFrom site slot x).slotAt site slot).subAt n = w := by
  cases first with
  | true =>
    rw [if_pos rfl, State.slotAt_setSlotAt_same]
    exact h
  | false =>
    rw [if_neg Bool.false_ne_true, Slot.subAt_congr (State.rejoinFrom_sub ..), State.freeAreas_subAt (by rw [h, hw]; decide), h]

/-- A landing fault leaves its slot FAILED with the kind of the fault (R187). -/
theorem State.failSub_subAt (s : State) (site slot : Nat) {n : Nat} (hn : n < 16) (k : FKind) (size : Nat) (part : Option (Nat × Nat)) :
    ((s.failSub site slot n k size part).slotAt site slot).subAt n =
      { (s.slotAt site slot).subAt n with st := .failed, fkind := k.ctorIdx % 16, size := size, recv := none } := by
  rw [State.failSub]
  refine State.subAt_afterFail ?_ rfl _ _ _
  rw [State.slotAt_congr (State.record_slots ..), State.slotAt_congr (State.detect_slots ..),
    State.slotAt_congr (State.foldl_scratchForget_slots site slot _ _ _ _), State.slotAt_setSub, Slot.subAt_setSub_same _ _ hn]

/-- The first granule of a segment that does not match fails the landing (R187). -/
theorem State.landSeg_bad {site slot n j : Nat} (hn : n < 16) {g : Seg} {r : Receiving} (hgot : r.got.contains g.idx = false)
    (hbad : Seg.firstBad g = some j) :
    (((s.landSeg site slot n g r).slotAt site slot).subAt n).st = .failed ∧
    (((s.landSeg site slot n g r).slotAt site slot).subAt n).fkind = FKind.ctorIdx .pubcheck % 16 := by
  rw [State.landSeg, if_neg (by rw [hgot]; decide), hbad]
  dsimp only
  rw [State.failSub_subAt _ site slot hn]
  exact ⟨rfl, rfl⟩

/-- A segment without a bad check value is written, granule by granule, and noted; with the last of a copy COPY_LANDED is sent (R187). -/
theorem State.landSeg_good {site slot n : Nat} (hn : n < 16) {g : Seg} {r r1 : Receiving} (hgot : r.got.contains g.idx = false)
    (hgood : Seg.firstBad g = none)
    (hr : r1 = { r with got := r.got ++ [g.idx], poison := r.poison || !g.poison.isEmpty, seq := r.seq.orElse (fun _ => g.seq) }) :
    ((s.landSeg site slot n g r).slotAt site slot).subAt n = { (s.slotAt site slot).subAt n with recv := some r1 } ∧
    (s.landSeg site slot n g r).scratch = (s.scratchWrite site slot (((s.slotAt site slot).subAt n).land + 4096 * g.idx) g.bytes).scratch ∧
    (r1.got.length = segsOf r1.size → ∃ p ∈ (s.landSeg site slot n g r).agenda, p.ev = .copyLanded site slot n) := by
  subst hr
  rw [State.landSeg, if_neg (by rw [hgot]; decide), hgood]
  dsimp only
  split
  · refine ⟨?_, rfl, fun _ => State.mem_agenda_send ..⟩
    exact (congrArg (fun x => Slot.subAt x n) (State.slotAt_setSub ..)).trans (Slot.subAt_setSub_same _ _ hn)
  · rename_i hlast
    refine ⟨?_, rfl, fun h => absurd h hlast⟩
    rw [State.slotAt_setSub, Slot.subAt_setSub_same _ _ hn]

/-! ### A copy at its slot (the table of R187) -/

theorem State.copyAtSub_eq_self {site slot n : Nat} {g : Seg} (h : ((s.slotAt site slot).subAt n).st = .idle ∨
    ((s.slotAt site slot).subAt n).st = .landed ∨ ((s.slotAt site slot).subAt n).st = .failed) : s.copyAtSub site slot n g = s := by
  rw [State.copyAtSub]
  rcases h with h | h | h <;> rw [h]

theorem State.copyAtSub_other_copy {site slot n : Nat} {g : Seg} {r : Receiving} (h : ((s.slotAt site slot).subAt n).st = .armed ∨
    ((s.slotAt site slot).subAt n).st = .waitspace) (hr : ((s.slotAt site slot).subAt n).recv = some r) (ht : r.tag ≠ g.tags.head?) :
    s.copyAtSub site slot n g = s := by
  rw [State.copyAtSub]
  rcases h with h | h
  · rw [h, hr]
    exact if_pos ht
  · rw [h, hr]
    exact if_neg (fun k => ht k.1)

/-- The first segment that an ARMED slot is shown: where its area is free it lands or fails, else it is diverted. -/
theorem State.copyAtSub_first {site slot n : Nat} {g : Seg} (hst : ((s.slotAt site slot).subAt n).st = .armed)
    (hr : ((s.slotAt site slot).subAt n).recv = none) (hidx : g.idx = 0) (hm : s.marked site slot n g = false)
    (hf : (s.tileAt site).frozen = false) :
    s.copyAtSub site slot n g =
      if (s.slotAt site slot).areaFree n then
        if ((s.slotAt site slot).subAt n).bytes < g.size then s.failSub site slot n .landsmall g.size
        else s.landSeg site slot n g ⟨g.seq, g.size, [], g.tags.head?, none, false⟩
      else (s.setSub site slot n { (s.slotAt site slot).subAt n with
        st := .waitspace, recv := some ⟨g.seq, g.size, [0], g.tags.head?, none, false⟩, q := g.seq }).divert site slot n g := by
  rw [State.copyAtSub]
  dsimp only
  rw [hst]
  dsimp only
  rw [hr]
  dsimp only
  rw [if_neg (by simp [hidx, hm]), hf, Bool.not_false, Bool.and_true]

/-- COPY_AT_TILE_PORT for a slot that has the copy's name (R187, R311). -/
theorem exec_copyAtTilePort {site slot n : Nat} {g : Seg} (hs : s.stale (agSite site 0) g.ctx g.inc = false)
    (hb : (s.slotAt site slot).bound = some (g.ctx, g.inc)) (hname : ((s.slotAt site slot).subAt n).name = g.name) :
    exec (.copyAtTilePort site (some (slot, n)) g) s = .next (s.copyAtSub site slot n g) := by
  show execCopyAtTilePort site (some (slot, n)) g s = _
  rw [execCopyAtTilePort, if_neg (by rw [hs]; decide)]
  exact if_pos (by simp [hb, hname])

/-- COPY_LANDED for a slot whose copy is complete: it is LANDED with the copy's size, and keeps its name (R187). -/
theorem exec_copyLanded {site slot n : Nat} {r : Receiving} (hn : n < 16) (hr : ((s.slotAt site slot).subAt n).recv = some r)
    (hst : ((s.slotAt site slot).subAt n).st = .armed) (hgot : r.got.length = segsOf r.size) (hf : (s.tileAt site).frozen = false) :
    ∃ u, exec (.copyLanded site slot n) s = .next u ∧ ((u.slotAt site slot).subAt n).st = .landed ∧
      ((u.slotAt site slot).subAt n).size = r.size ∧ ((u.slotAt site slot).subAt n).name = ((s.slotAt site slot).subAt n).name := by
  show ∃ u, execCopyLanded site slot n s = .next u ∧ _
  rw [execCopyLanded]
  dsimp only
  rw [hr]
  dsimp only
  rw [if_neg (by simp [hst, hgot, hf])]
  refine ⟨_, rfl, ?_⟩
  rw [Slot.subAt_congr (State.rejoinFrom_sub ..), Slot.subAt_congr (State.templatesDone_sub ..),
    State.slotAt_congr (State.slots_ite rfl (State.withdraw_slots ..)),
    State.slotAt_congr (State.slots_ite ((State.record_slots ..).trans (State.detect_slots ..)) rfl),
    State.slotAt_sendPort, State.slotAt_setSlotAt_same, Slot.subAt_wake, Slot.subAt_setSub_same _ _ hn]
  exact ⟨rfl, rfl, rfl⟩

end Sys2Proof.Machine
end

section
/-! PROOFS. Injection: a flit of a slot's queue leaves both memories alone, and takes nothing off the agenda (R209, R387). -/

namespace Sys2Proof.Machine

variable {s t u : State}

/-! ### What keeps memory, scratch and every message under way -/

/-- `t` has the memories of `s`, and every message that is under way in `s`. -/
structure State.Keeps (s t : State) : Prop where
  mem : t.mem = s.mem
  scratch : t.scratch = s.scratch
  agenda : s.agenda ⊆ t.agenda

theorem State.Keeps.of_eq (hm : t.mem = s.mem) (hs : t.scratch = s.scratch) (ha : t.agenda = s.agenda) : s.Keeps t :=
  ⟨hm, hs, by rw [ha]; exact List.Subset.refl _⟩

theorem State.Keeps.refl (s : State) : s.Keeps s := .of_eq rfl rfl rfl

theorem State.Keeps.trans (h : s.Keeps t) (k : t.Keeps u) : s.Keeps u :=
  ⟨k.mem.trans h.mem, k.scratch.trans h.scratch, List.Subset.trans h.agenda k.agenda⟩

theorem State.Keeps.foldl {α : Type} {f : State → α → State} (hf : ∀ (s : State) a, s.Keeps (f s a)) (l : List α) (s : State) :
    s.Keeps (l.foldl f s) :=
  List.foldlRecOn l f (.refl s) (fun t h a _ => h.trans (hf t a))

theorem State.Keeps.ite {p : Prop} [Decidable p] (ht : s.Keeps t) (hu : s.Keeps u) : s.Keeps (if p then t else u) := by
  split
  · exact ht
  · exact hu

theorem State.keeps_setSlotAt (s : State) (site slot : Nat) (x : Slot) : s.Keeps (s.setSlotAt site slot x) := .of_eq rfl rfl rfl
theorem State.keeps_setTileAt (s : State) (site : Nat) (x : Tile) : s.Keeps (s.setTileAt site x) := .of_eq rfl rfl rfl
theorem State.keeps_setIss (s : State) (x : Iss) : s.Keeps (s.setIss x) := .of_eq rfl rfl rfl

theorem State.keeps_append (s : State) (p : Pending) : s.Keeps { s with agenda := s.agenda ++ [p] } :=
  ⟨rfl, rfl, List.subset_append_left ..⟩

theorem State.keeps_record (s : State) (w : RecWho) (b : RecBody) : s.Keeps (s.record w b) := by
  rw [State.record]
  exact .ite (.of_eq rfl rfl rfl) (.of_eq rfl rfl rfl)

/-! ### LSENDs (R387, R388) -/

theorem State.keeps_endLsend (s : State) (id : Nat) (k : Option FKind) : s.Keeps (s.endLsend id k) := by
  rw [State.endLsend]
  split
  · exact .refl s
  · dsimp only
    split
    · refine State.Keeps.trans ?_ (State.keeps_record ..)
      exact .ite (.of_eq rfl rfl rfl) (.of_eq rfl rfl rfl)
    · exact .ite (.of_eq rfl rfl rfl) (.of_eq rfl rfl rfl)

theorem State.keeps_noteFrame (s : State) (id : Nat) (port : Option Nat) (idx : Nat) (bytes : List Byte) : s.Keeps (s.noteFrame id port idx bytes) := by
  rw [State.noteFrame]
  split
  · exact .refl s
  · exact .of_eq rfl rfl rfl

theorem State.keeps_egress {k d : Nat} {f : Flit} {own : Bool} (h : s.egress k d f own = some t) : s.Keeps t := by
  rw [State.egress, Option.map_eq_some_iff] at h
  obtain ⟨j, -, rfl⟩ := h
  refine .ite (.of_eq rfl rfl rfl) ?_
  cases own with
  | true => exact .of_eq rfl rfl rfl
  | false => exact .of_eq rfl rfl rfl

theorem State.keeps_sendPart (s : State) (id idx : Nat) (p : Nat × List Byte) : s.Keeps (s.sendPart id idx p) := by
  rw [State.sendPart]
  split
  · exact .refl s
  · split
    · rename_i h
      exact (State.keeps_egress h).trans (State.keeps_noteFrame ..)
    · exact State.keeps_endLsend ..

theorem State.keeps_sendSegment (s : State) (id : Nat) (e : LSendOut) (idx : Nat) (bytes : List Byte) : s.Keeps (s.sendSegment id e idx bytes) := by
  rw [State.sendSegment]
  split
  · exact .foldl (fun s p => s.keeps_sendPart id idx p) _ s
  · split
    · split
      · exact .of_eq rfl rfl rfl
      · exact State.Keeps.trans (t := s.sendFrame _ _ _ _ _ _) (.of_eq rfl rfl rfl) (State.keeps_noteFrame ..)
    · exact State.keeps_endLsend ..

theorem State.keeps_lsendOut (s : State) (site slot : Nat) (q : Queued) (idx : Nat) (buf : List Byte) : s.Keeps (s.lsendOut site slot q idx buf) := by
  rw [State.lsendOut]
  split
  · exact .refl s
  · dsimp only
    by_cases h : idx = 0
    · simp only [if_pos h]
      split
      · exact .of_eq rfl rfl rfl
      · refine State.Keeps.trans ?_ (State.keeps_sendSegment ..)
        exact .of_eq rfl rfl rfl
    · simp only [if_neg h]
      split
      · exact .refl s
      · exact State.keeps_sendSegment ..

/-! ### The release part of an EXIT's templates (R233, R360) -/

theorem State.keeps_sendMemAt (s : State) (site chan : Nat) (r : MemReq) : s.Keeps (s.sendMemAt site chan r) := s.keeps_append _

theorem State.keeps_writeBack (s : State) (site : Nat) (l : Line) : s.Keeps (s.writeBack site l) := by
  rw [State.writeBack]
  dsimp only
  split
  · exact ((State.keeps_setTileAt ..).trans (State.keeps_setSlotAt ..)).trans (State.keeps_sendMemAt ..)
  · exact (State.keeps_setTileAt ..).trans (State.keeps_sendMemAt ..)

theorem State.keeps_beginRelease (s : State) (x : Scope) : s.Keeps (s.beginRelease x) := by
  refine .foldl (fun t l => ?_) _ s
  split
  · exact t.keeps_writeBack ..
  · exact t.keeps_setTileAt ..

theorem State.keeps_enqueue (s : State) (q : Queued) (remote : Bool) : s.Keeps (s.enqueue q remote) := by
  rw [State.enqueue]
  split
  · exact (State.keeps_setSlotAt ..).trans (State.keeps_beginRelease ..)
  · exact State.keeps_setSlotAt ..

theorem State.keeps_exitEnter (s : State) (site slot : Nat) : s.Keeps (s.exitEnter site slot) := by
  rw [State.exitEnter]
  dsimp only
  split
  · split
    · split
      · split
        · exact (((State.keeps_setIss ..).trans (State.keeps_enqueue ..)).trans (State.keeps_setSlotAt ..)).trans (State.keeps_setIss ..)
        · exact State.keeps_setSlotAt ..
      · exact State.keeps_setSlotAt ..
    · exact .refl s
  · exact .refl s

/-- Where no template of an EXIT.pub waits, none enters. -/
theorem State.exitEnter_eq_self {site slot : Nat} (h : ∀ ns, (s.slotAt site slot).wait ≠ .exitPub ns) : s.exitEnter site slot = s := by
  rw [State.exitEnter]
  dsimp only
  split
  · exact absurd ‹_› (h _)
  · rfl

/-! ### One flit (R209, R317) -/

/-- The granule that the first publication of a slot's queue injects next: the bytes of the scratchpad, or a value that a race has left (R209). -/
def State.nextGranule (s : State) (site slot : Nat) (q : Queued) : List Byte := (List.range 64).map (fun i =>
  s.raceByte q.raced (q.addr + q.sent + i) (60000 + i) (s.scratchByte site slot (q.addr + q.sent + i) (6000 + i)))

/-- Does the next flit of a publication complete a segment (R209)? -/
def Queued.completes (q : Queued) : Prop := q.size ≤ q.sent + 64 ∨ 4096 ≤ q.buf.length + 64

/-- The queue of a slot once a flit of its first publication has left, with `buf` what is left of an incomplete segment. -/
def Queued.advance (q : Queued) (qs : List Queued) (buf : List Byte) : List Queued :=
  if q.size ≤ q.sent + 64 then qs else { q with sent := q.sent + 64, buf := buf } :: qs

/-- The state once a flit of a slot has been paid for, its queue being `l`. -/
def State.flitPaid (s : State) (site slot : Nat) (l : List Queued) : State :=
  (s.setSlotAt site slot { s.slotAt site slot with injq := l }).payFlit site slot 16

/-- Tokens and turns of a port are kept apart from slots, memories and messages (R317, R422). -/
theorem State.portPay_frame (s : State) (agent c cost : Nat) : (s.portPay agent c cost).slots = s.slots ∧ s.Keeps (s.portPay agent c cost) := by
  rw [State.portPay]
  split
  · rw [State.setServed, State.setTokens]
    split <;> exact ⟨rfl, .of_eq rfl rfl rfl⟩
  · exact ⟨rfl, .refl s⟩

theorem State.keeps_flitPaid (s : State) (site slot : Nat) (l : List Queued) : s.Keeps (s.flitPaid site slot l) :=
  ((State.keeps_setSlotAt ..).trans (State.keeps_setSlotAt ..)).trans (State.portPay_frame ..).2

theorem State.slotAt_flitPaid (s : State) (site slot : Nat) (l : List Queued) : (s.flitPaid site slot l).slotAt site slot =
    { s.slotAt site slot with injq := l, port := (s.slotAt site slot).port.erase 16 } := by
  rw [State.flitPaid, State.payFlit, State.slotAt_congr (State.portPay_frame ..).1]
  simp only [State.slotAt_setSlotAt_same]

theorem State.length_nextGranule (s : State) (site slot : Nat) (q : Queued) : (s.nextGranule site slot q).length = 64 := by
  rw [State.nextGranule, List.length_map, List.length_range]

section
variable {site slot : Nat} {q : Queued} {qs : List Queued} (out : Queued → Nat → List Byte → State → State)
  (hq : (s.slotAt site slot).injq = q :: qs)
include hq

theorem State.injectFlit_part (h : ¬ q.completes) : s.injectFlit site slot out =
    s.flitPaid site slot ({ q with sent := q.sent + 64, buf := q.buf ++ s.nextGranule site slot q } :: qs) := by
  obtain ⟨hs, hb⟩ := not_or.mp h
  have hbuf : decide (4096 ≤ (q.buf ++ s.nextGranule site slot q).length) = false := by
    rw [List.length_append, State.length_nextGranule, decide_eq_false hb]
  rw [State.nextGranule] at hbuf
  rw [State.injectFlit, hq]
  simp only [hbuf, hs, decide_false, Bool.or_false, Bool.false_eq_true, if_false, Bool.not_false, if_true]
  rfl

/-- A segment that is complete goes to the router of the tile, or out of the module where it is one of an LSEND (R209, R387). -/
theorem State.injectFlit_full (h : q.completes) :
    (q.lsend = none → s.injectFlit site slot out =
      (s.flitPaid site slot (q.advance qs [])).send (linkChan 1 site .tile (s.slotAt site slot).sys.ctxid q.name)
        (.segmentAtRouter site .tile true (Seg.make (s.slotAt site slot).sys.ctxid (s.slotAt site slot).sys.incarn q.name
          ⟨site, slot, q.serial⟩ (q.sent / 4096) q.size q.linger (q.buf ++ s.nextGranule site slot q) q.red 0))) ∧
    (∀ d, q.lsend = some d → s.injectFlit site slot out =
      out q (q.sent / 4096) (q.buf ++ s.nextGranule site slot q) (s.flitPaid site slot (q.advance qs []))) := by
  have hfull : (decide (q.size ≤ q.sent + 64) || decide (4096 ≤ (q.buf ++ s.nextGranule site slot q).length)) = true := by
    rw [List.length_append, State.length_nextGranule, Bool.or_eq_true, decide_eq_true_eq, decide_eq_true_eq]
    exact h
  rw [State.nextGranule] at hfull
  rw [State.injectFlit, hq, State.flitPaid, Queued.advance]
  simp only [hfull, decide_eq_true_eq, if_true, Bool.not_true, Bool.false_eq_true, if_false]
  constructor
  · intro hl
    rw [hl]
    rfl
  · intro d hl
    rw [hl]
    rfl

end

theorem State.injq_exitEnter {site slot : Nat} {l : List Queued} (ht : t.slotAt site slot = (s.flitPaid site slot l).slotAt site slot)
    (hw : ∀ ns, (s.slotAt site slot).wait ≠ .exitPub ns) : ((t.exitEnter site slot).slotAt site slot).injq = l := by
  rw [State.slotAt_flitPaid] at ht
  rw [State.exitEnter_eq_self (by rw [ht]; exact hw), ht]

theorem State.injq_of_injectReady {site slot : Nat} (h : s.injectReady site slot = true) : ∃ q qs, (s.slotAt site slot).injq = q :: qs := by
  cases hq : (s.slotAt site slot).injq with
  | nil => simp [State.injectReady, State.queueFree, hq] at h
  | cons q qs => exact ⟨q, qs, rfl⟩

/-- PUB_INJECT: both memories and the messages under way stay; the queue has advanced, unless templates of an EXIT.pub enter; and a segment that is
complete is sent (R209, R387). -/
theorem exec_pubInject {site slot : Nat} {x : Slot} {q : Queued} {qs : List Queued} (h : s.injectReady site slot = true)
    (hx : s.slotAt site slot = x) (hq : x.injq = q :: qs) : ∃ u, exec (.pubInject site slot) s = .next u ∧ s.Keeps u ∧
    (¬ q.completes → (∀ ns, x.wait ≠ .exitPub ns) →
      (u.slotAt site slot).injq = { q with sent := q.sent + 64, buf := q.buf ++ s.nextGranule site slot q } :: qs) ∧
    (q.completes → q.lsend = none → ((∀ ns, x.wait ≠ .exitPub ns) → (u.slotAt site slot).injq = q.advance qs []) ∧
      ∃ p ∈ u.agenda, p.ev = .segmentAtRouter site .tile true (Seg.make x.sys.ctxid x.sys.incarn q.name ⟨site, slot, q.serial⟩ (q.sent / 4096)
        q.size q.linger (q.buf ++ s.nextGranule site slot q) q.red 0)) := by
  subst hx
  let out (q : Queued) (idx : Nat) (buf : List Byte) (t : State) : State := t.lsendOut site slot q idx buf
  have he : exec (.pubInject site slot) s = .next ((s.injectFlit site slot out).exitEnter site slot) := if_pos h
  refine ⟨_, he, ?_⟩
  by_cases hfull : q.completes
  · obtain ⟨hsegment, hlsend⟩ := State.injectFlit_full out hq hfull
    cases hl : q.lsend with
    | none =>
      rw [hsegment hl]
      refine ⟨?_, fun hn => absurd hfull hn, fun _ _ => ⟨State.injq_exitEnter rfl, ?_⟩⟩
      · exact ((State.keeps_flitPaid ..).trans (State.keeps_append ..)).trans (State.keeps_exitEnter ..)
      · obtain ⟨p, hp, hev⟩ := State.mem_agenda_send ..
        exact ⟨p, (State.keeps_exitEnter ..).agenda hp, hev⟩
    | some d =>
      rw [hlsend d hl]
      refine ⟨?_, fun hn => absurd hfull hn, fun _ hn => nomatch hn⟩
      exact ((State.keeps_flitPaid ..).trans (State.keeps_lsendOut ..)).trans (State.keeps_exitEnter ..)
  · rw [State.injectFlit_part out hq hfull]
    refine ⟨?_, fun _ => State.injq_exitEnter rfl, fun hn => absurd hn hfull⟩
    exact (State.keeps_flitPaid ..).trans (State.keeps_exitEnter ..)

end Sys2Proof.Machine
end

section
/-! PROOFS. Events of routers and tile ports (O35). -/

namespace Sys2Proof.Machine

variable {s t u : State}

/-! ### Routers (R23, R24, R184 to R186) -/

/-- SUB_AT_ROUTER with room for a match entry: it is installed and goes on (R185). -/
theorem exec_subAtRouter_install {site : Nat} {port : Port} {m : SubMsg} (hs : s.stale (agSite site 2) m.ctx m.inc = false)
    (hp : m.persist = false) (hu : m.u = false) (hh : site ≠ s.homeOf m.ctx m.name) (hm : s.matchAt site m.ctx m.inc m.name = none)
    (hl : (KMap.getD s.matches_ site []).length < 4096) :
    let p := s.portTo site (s.homeOf m.ctx m.name)
    exec (.subAtRouter site port m) s = .next ((s.matchAdd site m.ctx m.inc m.name port 1).sendAfter (linkChan 1 site p m.ctx m.name)
      (linkChan 0 site p m.ctx m.name) (.subAtRouter (neighbour site p).1 (neighbour site p).2 { m with count := m.count + 1 })) := by
  show execSubAtRouter site port m s = _
  rw [execSubAtRouter, if_neg (by rw [hs]; decide), hm]
  simp only [hp, hu, hl, decide_true, Bool.or_false, Bool.false_eq_true, if_false, if_true]
  exact if_neg hh

/-- A persistent SUB is installed nowhere; at its home it is handed over (R185). -/
theorem exec_subAtRouter_home {site : Nat} {port : Port} {m : SubMsg} (hs : s.stale (agSite site 2) m.ctx m.inc = false)
    (hp : m.persist = true) (hm : m.moving = false) (hh : site = s.homeOf m.ctx m.name) :
    exec (.subAtRouter site port m) s = .next (s.send (homeChan 0 site m.ctx m.name) (.subAtHome m)) := by
  show execSubAtRouter site port m s = _
  rw [execSubAtRouter, if_neg (by rw [hs]; decide)]
  simp only [hp, hm, Bool.true_or, Bool.false_eq_true, if_false, if_true]
  exact if_pos hh

/-- A WITHDRAWAL that has an entry to take back takes it back and goes on (R186). -/
theorem exec_withdrawal {site : Nat} {port : Port} {m : SubMsg} (hs : s.stale (agSite site 2) m.ctx m.inc = false)
    (hc : 0 < m.count) (hh : site ≠ s.homeOf m.ctx m.name) :
    let p := s.portTo site (s.homeOf m.ctx m.name)
    exec (.withdrawal site port m) s = .next ((s.matchAdd site m.ctx m.inc m.name port (-1)).send (linkChan 0 site p m.ctx m.name)
      (.withdrawal (neighbour site p).1 (neighbour site p).2 { m with count := m.count - 1 })) := by
  show execWithdrawal site port m s = _
  rw [execWithdrawal, if_neg (by rw [hs]; decide)]
  simp only [hc, if_true]
  exact if_neg hh

/-- A publication at its home's router is handed to the home (R24). -/
theorem exec_segmentAtRouter_home {site : Nat} {port : Port} {g : Seg} (hs : s.stale (agSite site 2) g.ctx g.inc = false)
    (hh : site = s.homeOf g.ctx g.name) : exec (.segmentAtRouter site port true g) s =
      .next (s.send (linkChan 2 site .tile g.ctx g.name) (if g.red.isSome then .contributionAtHome g else .segmentAtHome (some port) g)) := by
  show execSegmentAtRouter site port true g s = _
  rw [execSegmentAtRouter, if_neg (by rw [hs]; decide)]
  exact if_pos (by simpa using hh)

/-- A publication that meets a match entry branches by it, and goes on toward its home (R24). -/
theorem exec_segmentAtRouter_branch {site : Nat} {port : Port} {g : Seg} {e : Match} (hs : s.stale (agSite site 2) g.ctx g.inc = false)
    (hh : site ≠ s.homeOf g.ctx g.name) (hr : g.red = none) (hm : s.matchAt site g.ctx g.inc g.name = some e) :
    let p := s.portTo site (s.homeOf g.ctx g.name)
    exec (.segmentAtRouter site port true g) s = .next ((s.branch site (some port) e g).send (linkChan 1 site p g.ctx g.name)
      (.segmentAtRouter (neighbour site p).1 (neighbour site p).2 true g)) := by
  show execSegmentAtRouter site port true g s = _
  rw [execSegmentAtRouter, if_neg (by rw [hs]; decide)]
  dsimp only
  rw [if_neg (by simpa using hh), hm, hr]
  simp only [Option.isSome_none, Bool.false_eq_true, if_false, if_true]

/-- ROUTER_MERGE puts the merged contribution in the place of the earlier one (R197). -/
theorem exec_routerMerge {i j : Nat} {a b : Pending} {site : Nat} {p : Port} {h : Bool} {g1 g2 : Seg} {r1 r2 : RedHdr} (hij : i < j)
    (ha : s.agenda[i]? = some a) (hb : s.agenda[j]? = some b) (hm : mergeable a b = some (site, p, h, g1, g2, r1, r2)) :
    let g := Seg.seal { g1 with bytes := redBytes r1.op g1.bytes g2.bytes, tags := g1.tags ++ g2.tags, linger := max g1.linger g2.linger,
                                poison := (g1.poison ++ g2.poison).eraseDups, red := some { r1 with mult := r1.mult + r2.mult } }
    exec (.routerMerge i j) s = .next { s with agenda := (s.agenda.eraseIdx j).set i { a with ev := .segmentAtRouter site p h g } } := by
  show execRouterMerge i j s = _
  rw [execRouterMerge, ha, hb]
  dsimp only
  rw [if_pos hij, hm]

/-- MATCH_ENTRY_ECC frees the entry (R205). -/
theorem exec_matchEntryEcc {site ctx : Nat} {name : Word} {e : Match}
    (h : (KMap.getD s.matches_ site []).find? (fun m => decide (m.ctx = ctx ∧ m.name = name)) = some e) :
    ∃ u, exec (.matchEntryEcc site ctx name) s = .next u ∧ KMap.getD u.matches_ site [] = (KMap.getD s.matches_ site []).erase e := by
  show ∃ u, execMatchEntryEcc site ctx name s = .next u ∧ _
  rw [execMatchEntryEcc, h]
  refine ⟨_, rfl, ?_⟩
  rw [State.record_matches]
  exact KMap.getD_set_same ..

/-- One place of a list changed, by a map over the places. -/
theorem getElem?_map_zip_range {α β : Type} (f : α × Nat → β) (l : List α) (i : Nat) :
    ((l.zip (List.range l.length)).map f)[i]? = l[i]?.map (fun a => f (a, i)) := by
  rw [List.getElem?_map, List.zip, List.getElem?_zipWith]
  by_cases h : i < l.length
  · simp [h]
  · simp [Nat.le_of_not_lt h]

/-- MESH_ECC changes one message at most, and of a segment only its poison (R205). -/
theorem exec_meshEcc (i : Nat) : ∃ u, exec (.meshEcc i) s = .next u ∧ (∀ j, j ≠ i → u.agenda[j]? = s.agenda[j]?) ∧
    ∀ p port g, s.agenda[i]? = some p → p.ev = .segmentAtHome port g →
      ∃ k, u.agenda[i]? = some { p with ev := .segmentAtHome port (Seg.strike g k) } := by
  refine ⟨_, rfl, fun j hj => ?_, fun p port g hp hev => ⟨Config.pick s.tick 650 % (g.bytes.length / 64), ?_⟩⟩
  · dsimp only
    rw [getElem?_map_zip_range]
    simp [hj]
  · dsimp only
    rw [getElem?_map_zip_range, hp]
    simp [hev, Instr.onSeg]

/-! ### Tile ports (R185, R187, R201) -/

/-- INSTALL_NOTICE for a slot that is subscribed, no withdrawal waiting: the slot keeps what the notice says (R185). -/
theorem exec_installNotice {m : SubMsg} {nh : Bool} (hs : s.stale (agSite m.site 0) m.ctx m.inc = false) (hf : (s.tileAt m.site).frozen = false)
    (hw : (s.tileAt m.site).withheld = []) (hb : (s.slotAt m.site m.slot).bound = some (m.ctx, m.inc)) {w : SubSlot}
    (hu : (s.slotAt m.site m.slot).subAt m.sub = w) (hn : w.name = m.name) (hi : w.st ≠ .idle)
    (hl : ¬ (w.st = .landed ∧ w.persist = false ∧ w.inst = false)) :
    exec (.installNotice m nh) s = .next (s.setSub m.site m.slot m.sub { w with inst := true, count := m.count, u := m.u, nh := nh }) := by
  show execInstallNotice m nh s = _
  rw [execInstallNotice, if_neg (by simp [hs, hf])]
  simp only [hw, hu, List.filter_nil, List.length_nil]
  exact congrArg Host.Outcome.next (if_pos ⟨hb, hn, hi, (if_neg (by simpa using hl)).symm⟩)

/-- ORDER_NOTICE: the slot awaits one notice less (R190). -/
theorem exec_orderNotice {ctx inc : Nat} {tag : Tag} (hb : (s.slotAt tag.site tag.slot).bound = some (ctx, inc))
    (hs : s.stale (agSite tag.site 0) ctx inc = false) (hf : (s.tileAt tag.site).frozen = false) :
    exec (.orderNotice ctx inc tag) s = .next (s.setSlotAt tag.site tag.slot
      { s.slotAt tag.site tag.slot with awaitOrder := (s.slotAt tag.site tag.slot).awaitOrder.erase tag.serial }) :=
  if_neg (by simp [hb, hs, hf])

/-- OVERFLOW_STALL_NOTICE: the context is noted as stalled on the tile (R201). -/
theorem exec_overflowStallNotice {site ctx inc : Nat} (hs : s.stale (agSite site 0) ctx inc = false) :
    ∃ u, exec (.overflowStallNotice site ⟨ctx, inc⟩) s = .next u ∧ (u.tileAt site).stalled.contains ctx = true := by
  show ∃ u, execOverflowStallNotice site ⟨ctx, inc⟩ s = .next u ∧ _
  rw [execOverflowStallNotice, if_neg (by rw [hs]; decide)]
  refine ⟨_, rfl, ?_⟩
  let l := (s.tileAt site).stalled
  have hl : (if l.contains ctx then l else l ++ [ctx]).contains ctx = true := by
    split
    · assumption
    · simp
  refine List.foldlRecOn (motive := fun t : State => (t.tileAt site).stalled.contains ctx = true) _ _ ?_ (fun t ht k _ => ?_)
  · rw [State.tileAt_setTileAt_same]
    exact hl
  · dsimp only
    split
    · exact ht
    · exact ht

/-- OVERFLOW_STALL_TIMEOUT: a stall of 1 ms is recorded once (R201). -/
theorem exec_overflowStallTimeout {ctx t0 : Nat} {rs : List Nat} (h : KMap.get? s.ovflStall ctx = some (t0, false, rs)) (ht : t0 + 1000000 ≤ s.time) :
    exec (.overflowStallTimeout ctx) s = .next ({ s with ovflStall := KMap.set s.ovflStall ctx (t0, true, rs) }.record
      ⟨ctx, (s.ctx ctx).inc, none⟩ { kind := .ovflfull, origin := 3, eval := 0 }) := by
  show execOverflowStallTimeout ctx s = _
  rw [execOverflowStallTimeout, h]
  exact if_pos ht

/-- RICK_FAILED_MARK: the site is marked, and every mark stays (R182). -/
theorem exec_rickFailedMark (site : Nat) : ∃ u, exec (.rickFailedMark site) s = .next u ∧ u.failedRicks.contains site = true ∧
    ∀ n, s.failedRicks.contains n = true → u.failedRicks.contains n = true := by
  refine ⟨_, rfl, ?_⟩
  split
  · exact ⟨‹_›, fun _ h => h⟩
  · refine ⟨by simp, fun n h => ?_⟩
    rw [List.contains_eq_mem, decide_eq_true_eq] at h ⊢
    exact List.mem_append_left _ h

/-- Settles O35: each event is executed on the case that the statement names; of COPY_AT_TILE_PORT those are the rows of the table of R187. -/
theorem nameEvents : Obligations.NameEvents := by
  intro s site slot x onward
  refine ⟨?install, ?home, ?withdrawal, ?atHome, ?branch, ?notice, ?order, ?copy, ?landed, ?stall, ?timeout, ?inject, ?merge, ?entry, ?mesh,
    exec_rickFailedMark site⟩
  case install => exact fun port m hs hp hu hh hm hl => exec_subAtRouter_install hs hp hu hh hm hl
  case home => exact fun port m hs hp hm hh => exec_subAtRouter_home hs hp hm hh
  case withdrawal => exact fun port m hs hc hh => exec_withdrawal hs hc hh
  case atHome => exact fun port g hs hh => exec_segmentAtRouter_home hs hh
  case branch => exact fun port g e hs hh hr hm => exec_segmentAtRouter_branch hs hh hr hm
  case notice =>
    intro m nh hs hf hw hb w hn hi hl
    exact exec_installNotice hs hf hw hb rfl hn hi hl
  case order => exact fun ctx inc tag hb hs hf => exec_orderNotice hb hs hf
  case copy =>
    intro n g hn hs hb hname hf w copy first fails receiving
    have he : copy = .next (s.copyAtSub site slot n g) := exec_copyAtTilePort hs hb hname
    have hfirst : first → s.copyAtSub site slot n g = if x.areaFree n then
          if w.bytes < g.size then s.failSub site slot n .landsmall g.size
          else s.landSeg site slot n g ⟨g.seq, g.size, [], g.tags.head?, none, false⟩
        else (s.setSub site slot n { w with st := .waitspace, recv := some (receiving false), q := g.seq }).divert site slot n g :=
      fun ⟨hst, hrecv, hidx, hmark⟩ => State.copyAtSub_first hst hrecv hidx hmark hf
    refine ⟨?dropped, ?other, ?diverted, ?small, ?bad, ?written⟩
    case dropped => exact fun h => he.trans (congrArg _ (State.copyAtSub_eq_self h))
    case other => exact fun r h hr ht => he.trans (congrArg _ (State.copyAtSub_other_copy h hr ht))
    case diverted =>
      intro h ha
      rw [he, hfirst h, if_neg (by rw [ha]; decide)]
    case small =>
      intro h ha hsize
      refine ⟨_, he, ?_⟩
      rw [hfirst h, if_pos ha, if_pos hsize, State.failSub_subAt _ site slot hn]
      exact ⟨rfl, rfl⟩
    case bad =>
      intro h ha hsize j hj
      refine ⟨_, he, ?_⟩
      rw [hfirst h, if_pos ha, if_neg (Nat.not_lt.mpr hsize)]
      exact State.landSeg_bad hn rfl hj
    case written =>
      intro h ha hsize hgood
      refine ⟨_, he, ?_⟩
      rw [hfirst h, if_pos ha, if_neg (Nat.not_lt.mpr hsize)]
      obtain ⟨-, -, hidx, -⟩ := h
      have hseq : g.seq.orElse (fun _ => g.seq) = g.seq := by cases g.seq <;> rfl
      obtain ⟨hsub, hscratch, hlast⟩ := State.landSeg_good (r := ⟨g.seq, g.size, [], g.tags.head?, none, false⟩)
        (r1 := receiving (!g.poison.isEmpty)) hn rfl hgood (by rw [hidx, hseq]; rfl)
      refine ⟨hsub, ?_, fun hone => hlast hone.symm⟩
      rw [hscratch, hidx]
      rfl
  case landed => exact fun n r hn hr hst hgot hf => exec_copyLanded hn hr hst hgot hf
  case stall => exact fun ctx inc hs => ⟨exec_overflowStallNotice hs, if_neg (by rw [hs]; decide)⟩
  case timeout => exact fun ctx t0 rs h ht => exec_overflowStallTimeout h ht
  case inject =>
    intro h
    obtain ⟨q, qs, hq⟩ := State.injq_of_injectReady h
    obtain ⟨u, he, ⟨hmem, hscratch, -⟩, hpart, hsegment⟩ := exec_pubInject h rfl hq
    exact ⟨q, qs, hq, u, he, hmem, hscratch, hpart, hsegment⟩
  case merge => exact fun i j a b p h g1 g2 r1 r2 hij ha hb hm => exec_routerMerge hij ha hb hm
  case entry => exact fun ctx name e h => exec_matchEntryEcc h
  case mesh => exact fun i => exec_meshEcc i

end Sys2Proof.Machine
end

section
/-! PROOFS. Numbers: a syllable whose guard is on, scalar results brought into range (O1), vector syllables lane by lane (O9). -/

namespace Sys2Proof.Machine

variable {s t : State} {h : Hdr} {f : RRR} {i : Instr} {eff : State → Act}

/-! ### A syllable whose guard is on (R33) -/

theorem asStep_ok (hg : s.guard h = true) (he : eff s = .ok t) : asStep h eff s = .next t := by
  rw [asStep, if_pos hg, he]

theorem asStep_trap {k : TrapInfo} (hg : s.guard h = true) (he : eff s = .trap k) : asStep h eff s = .next (takeTrap k s) := by
  rw [asStep, if_pos hg, he]

/-! ### Exact integer results (R66, R92, R94) -/

section
variable {x y : Int} {lat : Nat}

theorem sArithAct_some (hy : tyBring (rrrT f) (mSat f.m) (mCk f.m) x = some y) :
    sArithAct s f x lat = .ok (s.sResult f.d (tyExtend (rrrT f) y) lat) := by
  rw [sArithAct, hy]

theorem sArithAct_none (hx : tyBring (rrrT f) (mSat f.m) (mCk f.m) x = none) :
    sArithAct s f x lat = .trap ⟨.iovf, 0, BitVec.ofInt 64 x⟩ := by
  rw [sArithAct, hx]

/-- The instruction writes the exact result `x` brought into range, or raises IOVF with it (R66, R92). -/
def Brings (s : State) (f : RRR) (i : Instr) (x : Int) (lat : Nat) : Prop :=
  (∀ y, tyBring (rrrT f) (mSat f.m) (mCk f.m) x = some y → exec i s = .next (s.sResult f.d (tyExtend (rrrT f) y) lat)) ∧
  (tyBring (rrrT f) (mSat f.m) (mCk f.m) x = none → exec i s = .next (takeTrap ⟨.iovf, 0, BitVec.ofInt 64 x⟩ s))

theorem brings_of_sArithAct (hg : s.guard h = true) (hi : exec i s = asStep h eff s) (he : eff s = sArithAct s f x lat) :
    Brings s f i x lat :=
  ⟨fun _ hy => hi.trans (asStep_ok hg (he.trans (sArithAct_some hy))),
   fun hx => hi.trans (asStep_trap hg (he.trans (sArithAct_none hx)))⟩

end

theorem divAct_zero (hb : s.srcB f = 0) (quot : Bool) : divAct s f quot = .trap ⟨.divzero, 0, s.readS 32 f.a⟩ :=
  if_pos hb

theorem divAct_quotient (hb : s.srcB f ≠ 0) : divAct s f true = sArithAct s f (Int.tdiv (s.srcA f) (s.srcB f)) 24 :=
  if_neg hb

theorem divAct_remainder (hb : s.srcB f ≠ 0) :
    divAct s f false = sArithAct s f (s.srcA f - s.srcB f * Int.tdiv (s.srcA f) (s.srcB f)) 24 :=
  if_neg hb

/-- Settles O1: each syllable's effect is one exact result that `sArithAct` brings into range, a product's high half, or the trap of a divisor of 0. -/
theorem scalarArithmetic : Obligations.ScalarArithmetic := by
  intro h f s hg brings a b high
  refine ⟨?add, ?sub, ?mul, ?mulh, ?mulhn, fun hb => ⟨?div, ?divn, ?rem⟩, ?zero⟩
  case add => exact brings_of_sArithAct (eff := effAdd f) hg rfl rfl
  case sub => exact brings_of_sArithAct (eff := effSub f) hg rfl rfl
  case mul => exact brings_of_sArithAct (eff := effMul f) hg rfl rfl
  case mulh => exact asStep_ok (eff := effMulh f) hg rfl
  case mulhn => exact asStep_ok (eff := effMulhn f) hg rfl
  case div => exact brings_of_sArithAct (eff := effDiv f) hg rfl (divAct_quotient hb)
  case divn => exact (brings_of_sArithAct (eff := effDivn f) hg rfl (divAct_quotient hb)).1
  case rem =>
    have hrem : Brings s f (.remS h f) (a - b * Int.tdiv a b) 24 := brings_of_sArithAct (eff := effRemS f) hg rfl (divAct_remainder hb)
    have hremn : Brings s f (.remn h f) (a - b * Int.tdiv a b) 24 := brings_of_sArithAct (eff := effRemn f) hg rfl (divAct_remainder hb)
    exact fun y hy => ⟨hrem.1 y hy, hremn.1 y hy⟩
  case zero =>
    intro hb
    simp only [List.forall_mem_cons, List.not_mem_nil, false_imp_iff, implies_true, and_true]
    exact ⟨asStep_trap (eff := effDiv f) hg (divAct_zero hb true), asStep_trap (eff := effDivn f) hg (divAct_zero hb true),
      asStep_trap (eff := effRemS f) hg (divAct_zero hb false), asStep_trap (eff := effRemn f) hg (divAct_zero hb false)⟩

/-! ### What 32 lanes raise and write (R79, R80, R116, R119) -/

/-- Every kind of R80 has its enable bit among the low five of FPTRAPEN. -/
theorem fpKinds_bit_lt : ∀ p ∈ fpKinds, p.2 < 5 := by decide

/-- No kind is reported where no lane raises a fault or an enabled flag. -/
theorem vFault_eq_none {fptrapen : Word} {es : List (Nat × LaneRes)}
    (hq : ∀ e ∈ es, e.2.bad = none ∧ ∀ k < 5, fptrapen.getLsbD k = true → e.2.flags.testBit k = false) : vFault fptrapen es = none := by
  refine List.findSome?_eq_none_iff.mpr fun kp hkp => ?_
  have hnone : es.filter (fun e => kp.2 e.2) = [] := by
    refine List.filter_eq_nil_iff.mpr fun e he => ?_
    obtain ⟨hbad, hflags⟩ := hq e he
    rcases List.mem_append.mp hkp with hkind | hkind <;> obtain ⟨k, hk, rfl⟩ := List.mem_map.mp hkind
    · simp [hbad]
    · have hbit := hflags k.2 (fpKinds_bit_lt k hk)
      rw [Nat.testBit_eq_decide_div_mod_eq] at hbit
      simpa using hbit
  simp only [hnone, List.foldl_nil, Option.map_none]

theorem vFault_lanes_of_quiet {op : Nat → LaneRes} (hq : vQuiet s op) :
    vFault s.cur.sys.fptrapen ((List.range 32).zip ((List.range 32).map op)) = none := by
  refine vFault_eq_none fun e he => ?_
  rw [← List.map_prod_left_eq_zip] at he
  obtain ⟨n, hn, rfl⟩ := List.mem_map.mp he
  exact hq n (List.mem_range.mp hn)

/-- The flags of all lanes, folded over the numbered lanes or over the lane numbers. -/
theorem foldl_flags_lanes (op : Nat → LaneRes) :
    ((List.range 32).zip ((List.range 32).map op)).foldl (fun n e => n ||| e.2.flags) 0 =
      (List.range 32).foldl (fun n i => n ||| (op i).flags) 0 := by
  rw [← List.map_prod_left_eq_zip, List.foldl_map]

theorem ofLanes_congr {g k : Nat → BitVec 32} (hgk : ∀ n < 32, g n = k n) : ofLanes g = ofLanes k :=
  List.foldr_rel (r := Eq) rfl fun n hn _ _ hacc => by rw [hgk n (List.mem_range.mp hn), hacc]

theorem ofLanes_getD_map_range (op : Nat → LaneRes) :
    ofLanes (fun n => BitVec.ofNat 32 (((List.range 32).map op).getD n ⟨0, 0, none⟩).bits) = ofLanes (fun n => BitVec.ofNat 32 (op n).bits) :=
  ofLanes_congr fun n hn => by simp [List.getD_eq_getElem?_getD, hn]

/-! ### Syllables without rounding (R117) -/

section
variable {lat : Nat} {op : Nat → LaneRes}

theorem vPlain_of_quiet (hq : vQuiet s op) : vPlain s f lat op = .ok (vDone s f lat op) := by
  simp only [vPlain, vFinish, vFault_lanes_of_quiet hq, foldl_flags_lanes, ofLanes_getD_map_range, vDone]

theorem exec_of_vPlain (hg : s.guard h = true) (hi : exec i s = asStep h eff s) (he : eff s = vPlain s f lat op) (hq : vQuiet s op) :
    exec i s = .next (vDone s f lat op) :=
  hi.trans (asStep_ok hg (he.trans (vPlain_of_quiet hq)))

end

theorem vArith_integer {lat : Nat} {fop : Rnd → Fp → Fp → FRes} {iop : Int → Int → Int} (hT : rrrT f ≠ 10) :
    vArith s f lat fop iop = vPlain s f lat (fun n => iLane (rrrT f) f.m
      (iop (laneI (rrrT f) (s.readV 32 f.a) n) (laneI (rrrT f) (s.readV 24 f.b) n))) :=
  if_neg hT

theorem effVneg_integer (hT : rrrT f ≠ 10) : effVneg f s = vPlain s f 2 (fun n => iLane 2 f.m (-(laneI 2 (s.readV 32 f.a) n))) := by
  simp only [effVneg, if_neg hT]

theorem effVabs_integer (hT : rrrT f ≠ 10) :
    effVabs f s = vPlain s f 2 (fun n => iLane 2 f.m ((laneI 2 (s.readV 32 f.a) n).natAbs : Int)) := by
  simp only [effVabs, if_neg hT]

theorem effVneg_float (hT : rrrT f = 10) :
    effVneg f s = vPlain s f 2 (fun n => ⟨(lane (s.readV 32 f.a) n ^^^ 0x80000000).toNat, 0, none⟩) := by
  simp only [effVneg, if_pos hT]

theorem effVabs_float (hT : rrrT f = 10) :
    effVabs f s = vPlain s f 2 (fun n => ⟨(lane (s.readV 32 f.a) n &&& 0x7FFFFFFF).toNat, 0, none⟩) := by
  simp only [effVabs, if_pos hT]

/-- Settles O9: each effect is `vPlain` of the lane's operation; VADD, VSUB, VMUL, VNEG and VABS split on the type. -/
theorem vectorLanes : Obligations.VectorLanes := by
  intro h f s hg va vb T int shift does
  refine ⟨fun hT => ⟨?add, ?sub, ?mul, ?neg, ?abs⟩, fun hT => ⟨?fneg, ?fabs⟩, ?imul, ?imulh, ?max, ?min, ?cmp, ?shl, ?shr, ?sar,
    ?exp2, ?log2, ?rcpa, ?rsqa⟩
  case add => exact exec_of_vPlain (eff := effVadd f) hg rfl (vArith_integer hT)
  case sub => exact exec_of_vPlain (eff := effVsub f) hg rfl (vArith_integer hT)
  case mul => exact exec_of_vPlain (eff := effVmul f) hg rfl (vArith_integer hT)
  case neg => exact exec_of_vPlain hg rfl (effVneg_integer hT)
  case abs => exact exec_of_vPlain hg rfl (effVabs_integer hT)
  case fneg => exact exec_of_vPlain hg rfl (effVneg_float hT)
  case fabs => exact exec_of_vPlain hg rfl (effVabs_float hT)
  case imul => exact exec_of_vPlain (eff := effVimul f) hg rfl rfl
  case imulh => exact exec_of_vPlain (eff := effVimulh f) hg rfl rfl
  case max => exact exec_of_vPlain (eff := effVmax f) hg rfl rfl
  case min => exact exec_of_vPlain (eff := effVmin f) hg rfl rfl
  case cmp => exact exec_of_vPlain (eff := effVcmp f) hg rfl rfl
  case shl => exact exec_of_vPlain (eff := effVshl f) hg rfl rfl
  case shr => exact exec_of_vPlain (eff := effVshr f) hg rfl rfl
  case sar => exact exec_of_vPlain (eff := effVsar f) hg rfl rfl
  case exp2 => exact exec_of_vPlain (eff := effVexp2 f) hg rfl rfl
  case log2 => exact exec_of_vPlain (eff := effVlog2 f) hg rfl rfl
  case rcpa => exact exec_of_vPlain (eff := effVrcpa f) hg rfl rfl
  case rsqa => exact exec_of_vPlain (eff := effVrsqa f) hg rfl rfl

end Sys2Proof.Machine
end

section
/-! PROOFS. The scalar syllables: words and predicates (O2), shifts (O3), fields and counts (O4). -/

namespace Sys2Proof.Machine

variable {s t : State} {h : Hdr} {f : RRR}

/-! ### A syllable that is guarded off, or can wait at issue (R33, R54) -/

theorem asStep_off {eff : State → Act} (hg : s.guard h = false) : asStep h eff s = .next s := if_neg (Bool.eq_false_iff.mp hg)

theorem asStepW_ok {wait : State → Option Hold} {eff : State → Act} (hg : s.guard h = true) (hw : wait s = none) (he : eff s = .ok t) :
    asStepW h wait eff s = .next t := by
  rw [asStepW, if_pos hg, hw]
  exact asStep_ok hg he

theorem asStepW_trap {wait : State → Option Hold} {eff : State → Act} {k : TrapInfo} (hg : s.guard h = true) (hw : wait s = none)
    (he : eff s = .trap k) : asStepW h wait eff s = .next (takeTrap k s) := by
  rw [asStepW, if_pos hg, hw]
  exact asStep_trap hg he

/-! ### Shifts (R95) -/

theorem shiftAct_ok {r : Nat → Int} (hn : (s.readS 24 f.b).toNat < tyBits (rrrT f) ∨ mCk f.m = false) :
    shiftAct s f r = .ok (s.sResult f.d (tyExtend (rrrT f) (r (s.readS 24 f.b).toNat))) := by
  refine if_neg fun ⟨hle, hck⟩ => ?_
  rcases hn with hlt | hck'
  · exact absurd hlt (Nat.not_lt.mpr hle)
  · exact absurd hck (by rw [hck']; decide)

theorem shiftAct_trap {r : Nat → Int} (hn : tyBits (rrrT f) ≤ (s.readS 24 f.b).toNat) (hck : mCk f.m = true) :
    shiftAct s f r = .trap ⟨.shiftamt, 0, s.readS 24 f.b⟩ :=
  if_pos ⟨hn, hck⟩

/-- A shift that raises nothing writes its result at the amount. -/
theorem exec_of_shiftAct {i : Instr} {eff : State → Act} {r : Nat → Int} {x : Int} (hg : s.guard h = true) (hi : exec i s = asStep h eff s)
    (he : eff s = shiftAct s f r) (hn : (s.readS 24 f.b).toNat < tyBits (rrrT f) ∨ mCk f.m = false) (hx : r (s.readS 24 f.b).toNat = x) :
    exec i s = .next (s.sResult f.d (tyExtend (rrrT f) x)) :=
  hx ▸ hi.trans (asStep_ok hg (he.trans (shiftAct_ok hn)))

/-! ### Fields of a word (R96) -/

theorem fieldAct_ok {r : Nat → Nat → Word}
    (hf : (s.readS 16 f.c).toNat % 64 + ((s.readS 16 f.c).toNat / 256 % 64 + 1) ≤ 64) :
    fieldAct s f r = .ok (s.sResult f.d (r ((s.readS 16 f.c).toNat % 64) ((s.readS 16 f.c).toNat / 256 % 64 + 1))) :=
  if_neg (Nat.not_lt.mpr hf)

theorem fieldAct_trap {r : Nat → Nat → Word}
    (hf : 64 < (s.readS 16 f.c).toNat % 64 + ((s.readS 16 f.c).toNat / 256 % 64 + 1)) :
    fieldAct s f r = .trap ⟨.shiftamt, 0, s.readS 16 f.c⟩ :=
  if_pos hf

/-! ### The statements -/

/-- Settles O2: none of these syllables checks anything, so that each writes its result once its guard is on. -/
theorem scalarWordsAndPredicates : Obligations.ScalarWordsAndPredicates := by
  intro h f g s hg a b c p q
  exact ⟨asStep_ok (eff := effAndS f) hg rfl, asStep_ok (eff := effOrS f) hg rfl, asStep_ok (eff := effXorS f) hg rfl,
    asStep_ok (eff := effAndn f) hg rfl, asStep_ok (eff := effMov f) hg rfl, asStep_ok (eff := effLi g) hg rfl,
    asStep_ok (eff := effLea f) hg rfl, asStep_ok (eff := effSel f) hg rfl, asStep_ok (eff := effNmake f) hg rfl,
    asStep_ok (eff := effCrcs f) hg rfl, asStep_ok (eff := effCmp f) hg rfl, asStep_ok (eff := effPand f) hg rfl,
    asStep_ok (eff := effPor f) hg rfl, asStep_ok (eff := effPxor f) hg rfl, asStep_ok (eff := effPnot f) hg rfl,
    asStep_ok (eff := effPset f) hg rfl, asStep_ok (eff := effPget f) hg rfl⟩

/-- Settles O3: the four shifts are `shiftAct` of their result; below the width ROTR's amount is its own remainder. -/
theorem scalarShifts : Obligations.ScalarShifts := by
  intro h f s hg n w a put
  refine ⟨fun hn => ⟨?shl, ?shr, ?sar, ?rotr⟩, fun hn hck => ⟨?shlWide, ?shrWide, ?sarWide, ?rotrWide⟩, fun hn hck => ?trap⟩
  case shl => exact exec_of_shiftAct (eff := effShl f) hg rfl rfl (.inl hn) (if_neg (Nat.not_le.mpr hn))
  case shr => exact exec_of_shiftAct (eff := effShr f) hg rfl rfl (.inl hn) (if_neg (Nat.not_le.mpr hn))
  case sar => exact exec_of_shiftAct (eff := effSar f) hg rfl rfl (.inl hn) (if_neg (Nat.not_le.mpr hn))
  case rotr =>
    have hmod : n % w = n := Nat.mod_eq_of_lt hn
    exact exec_of_shiftAct (eff := effRotr f) hg rfl rfl (.inl hn)
      (congrArg (fun k => ((a / 2 ^ k + a % 2 ^ k * 2 ^ (w - k) : Nat) : Int)) hmod)
  case shlWide => exact exec_of_shiftAct (eff := effShl f) hg rfl rfl (.inr hck) (if_pos hn)
  case shrWide => exact exec_of_shiftAct (eff := effShr f) hg rfl rfl (.inr hck) (if_pos hn)
  case sarWide => exact exec_of_shiftAct (eff := effSar f) hg rfl rfl (.inr hck) (if_pos hn)
  case rotrWide => exact exec_of_shiftAct (eff := effRotr f) hg rfl rfl (.inr hck) rfl
  case trap =>
    simp only [List.forall_mem_cons, List.not_mem_nil, false_imp_iff, implies_true, and_true]
    exact ⟨asStep_trap (eff := effShl f) hg (shiftAct_trap hn hck), asStep_trap (eff := effShr f) hg (shiftAct_trap hn hck),
      asStep_trap (eff := effSar f) hg (shiftAct_trap hn hck), asStep_trap (eff := effRotr f) hg (shiftAct_trap hn hck)⟩

/-- Settles O4: the syllables of two sources and of one write their result; those of a field are `fieldAct`, which the descriptor decides. -/
theorem scalarFieldsAndCounts : Obligations.ScalarFieldsAndCounts := by
  intro h f s hg a w c pos len least most
  refine ⟨?min, ?minn, ?max, ?maxn, ?clz, ?popc, ?sxt, ?zxt, ?bswap, fun hf => ⟨?bfx, ?bfxs, ?bfi⟩, fun hf => ?trap⟩
  case min => exact asStep_ok (eff := effMin f) hg rfl
  case minn => exact asStep_ok (eff := effMinn f) hg rfl
  case max => exact asStep_ok (eff := effMax f) hg rfl
  case maxn => exact asStep_ok (eff := effMaxn f) hg rfl
  case clz => exact asStep_ok (eff := effClz f) hg rfl
  case popc => exact asStep_ok (eff := effPopc f) hg rfl
  case sxt => exact asStep_ok (eff := effSxt f) hg rfl
  case zxt => exact asStep_ok (eff := effZxt f) hg rfl
  case bswap => exact asStep_ok (eff := effBswap f) hg rfl
  case bfx => exact asStep_ok (eff := effBfx f) hg (fieldAct_ok hf)
  case bfxs => exact asStep_ok (eff := effBfxs f) hg (fieldAct_ok hf)
  case bfi => exact asStep_ok (eff := effBfi f) hg (fieldAct_ok hf)
  case trap =>
    simp only [List.forall_mem_cons, List.not_mem_nil, false_imp_iff, implies_true, and_true]
    exact ⟨asStep_trap (eff := effBfx f) hg (fieldAct_trap hf), asStep_trap (eff := effBfxs f) hg (fieldAct_trap hf),
      asStep_trap (eff := effBfi f) hg (fieldAct_trap hf)⟩

end Sys2Proof.Machine
end

section
/-! PROOFS. System registers (O6). -/

namespace Sys2Proof.Machine

variable {s : State} {h : Hdr} {f : RRI}

/-! ### SYSR and SYSW (R109 to R113) -/

theorem effSysr_plain (hn : sysNo f ≠ 0x030) (hn' : sysNo f ≠ 0x031) : effSysr f s = .ok (s.cResult f.d (s.sysVal (sysNo f))) :=
  if_neg (not_or.mpr ⟨hn, hn'⟩)

theorem effSysr_clock (hn : sysNo f = 0x030 ∨ sysNo f = 0x031) :
    effSysr f s = .ok (s.selfReply (dstS f.d) ((s.sysVal (sysNo f)).zeroExtend 1024) .plain) := if_pos hn

theorem effSysw_bad (hb : sysBad (sysNo f) (s.readS 32 f.a) = true) : effSysw f s = .trap ⟨.rsvfield, 0, s.readS 32 f.a⟩ := if_pos hb

/-- The system registers that the slot keeps itself and that a SYSW writes at once (R112). -/
def slotSysRegs : List Nat := [0x000, 0x001, 0x002, 0x003, 0x004, 0x021, 0x050, 0x051, 0x052, 0x053, 0x80F]

section
variable (hb : sysBad (sysNo f) (s.readS 32 f.a) = false)
include hb

theorem effSysw_slot (hn : sysNo f ∈ slotSysRegs) : effSysw f s = .ok (s.setCur (s.cur.sysPut (sysNo f) (s.readS 32 f.a))) := by
  rw [effSysw, if_neg (Bool.eq_false_iff.mp hb)]
  generalize sysNo f = n at hn ⊢
  simp only [slotSysRegs, List.mem_cons, List.not_mem_nil, or_false] at hn
  rcases hn with rfl | rfl | rfl | rfl | rfl | rfl | rfl | rfl | rfl | rfl | rfl <;> rfl

theorem effSysw_fpstatus (hn : sysNo f = 0x020) : effSysw f s = .ok (s.setIss { s.iss with fps := some (s.readS 32 f.a) }) := by
  rw [effSysw, if_neg (Bool.eq_false_iff.mp hb), hn]
  rfl

theorem effSysw_rngseed (hn : sysNo f = 0x022) : effSysw f s =
    if s.readS 32 f.a = 0 then .trap ⟨.rngstate, 0, 0⟩ else .ok (s.setIss { s.iss with rng := some (s.readS 32 f.a) }) := by
  rw [effSysw, if_neg (Bool.eq_false_iff.mp hb), hn]
  rfl

theorem effSysw_ovflbase (hn : sysNo f = 0x802) :
    effSysw f s = .ok (s.setCtx s.cur.sys.ctxsel { s.ctx s.cur.sys.ctxsel with ovflbase := s.readS 32 f.a }) := by
  rw [effSysw, if_neg (Bool.eq_false_iff.mp hb), hn]
  rfl

theorem effSysw_ovflsize (hn : sysNo f = 0x803) :
    effSysw f s = .ok (s.setCtx s.cur.sys.ctxsel { s.ctx s.cur.sys.ctxsel with ovflsize := s.readS 32 f.a }) := by
  rw [effSysw, if_neg (Bool.eq_false_iff.mp hb), hn]
  rfl

theorem effSysw_savebase (hn : sysNo f = 0x804) :
    effSysw f s = .ok (s.setCtx s.cur.sys.ctxsel { s.ctx s.cur.sys.ctxsel with savebase := s.readS 32 f.a }) := by
  rw [effSysw, if_neg (Bool.eq_false_iff.mp hb), hn]
  rfl

theorem effSysw_rickquota (hn : sysNo f = 0x805) :
    effSysw f s = .ok (s.setCtx s.cur.sys.ctxsel { s.ctx s.cur.sys.ctxsel with rickquota := s.readS 32 f.a }) := by
  rw [effSysw, if_neg (Bool.eq_false_iff.mp hb), hn]
  rfl

end

/-! ### PGROOT and BACKBASE (R194, R327, R333) -/

/-- While an invalidation stands, PGROOT reads with INVP (R327). -/
theorem Ctx.pgrootRead_invp {c : Ctx} (hc : c.inval ≠ []) : c.pgrootRead.getLsbD 1 = true := by
  rw [Ctx.pgrootRead, if_neg (by simpa using hc), BitVec.getLsbD_or]
  simp

theorem effSyswPgroot_good (hb : sysBad 0x800 (s.readS 32 f.a) = false) : ∃ u : State, effSyswPgroot f s =
    .ok (u.setCtx s.cur.sys.ctxsel { u.ctx s.cur.sys.ctxsel with
      pgroot := s.readS 32 f.a &&& ~~~ (2 : Word)
      inval := (u.ctx s.cur.sys.ctxsel).inval ++ [⟨s.iss.site, s.iss.slot, false, []⟩] }) :=
  ⟨_, if_neg (Bool.eq_false_iff.mp hb)⟩

/-- A good value of PGROOT is written, and an invalidation is put behind those under way (R327, R333). -/
theorem exec_syswPgroot (hg : s.guard h = true) (hb : sysBad 0x800 (s.readS 32 f.a) = false) :
    ∃ t, exec (.syswPgroot h f) s = .next t ∧ (t.ctx s.cur.sys.ctxsel).pgroot = s.readS 32 f.a &&& ~~~ (2 : Word) ∧
      (t.ctx s.cur.sys.ctxsel).inval.getLast? = some ⟨s.iss.site, s.iss.slot, false, []⟩ ∧
      (t.ctx s.cur.sys.ctxsel).pgrootRead.getLsbD 1 = true := by
  obtain ⟨u, hu⟩ := effSyswPgroot_good hb
  refine ⟨_, asStep_ok (eff := effSyswPgroot f) hg hu, ?_⟩
  rw [State.ctx_setCtx_same]
  exact ⟨rfl, List.getLast?_concat .., Ctx.pgrootRead_invp (List.concat_ne_nil _ _)⟩

/-- A good value of BACKBASE is written, and the hedge agents are sent for the table (R194). -/
theorem exec_syswBackbase (hg : s.guard h = true) (hb : sysBad 0x801 (s.readS 32 f.a) = false) :
    ∃ t, exec (.syswBackbase h f) s = .next t ∧ (t.ctx s.cur.sys.ctxsel).backbase = s.readS 32 f.a ∧
      t.agenda = s.agenda ++
        [⟨s.time, chanKey 5 s.cur.sys.ctxsel, .backingTableReread s.cur.sys.ctxsel (s.ctx s.cur.sys.ctxsel).inc, none, [], [], []⟩] := by
  refine ⟨_, asStep_ok (eff := effSyswBackbase f) hg (if_neg (Bool.eq_false_iff.mp hb)), ?_, ?_⟩
  · exact congrArg Ctx.backbase (State.ctx_setCtx_same ..)
  · rw [State.send, State.sendAt, State.ctx_setCtx_same]
    rfl

/-- Settles O6: SYSR splits on the two clocks, SYSW on the register; PGROOT and BACKBASE have syllables of their own. -/
theorem systemRegisters : Obligations.SystemRegisters := by
  intro h f s hg n v c
  refine ⟨fun hn hn' => ?plain, fun hn => ?clock, fun hw hb => ⟨fun hn => ?slot, fun hn => ?fpstatus, fun hn hv => ?rngseed, fun hn hv => ?rngzero,
    fun hn => ?ovflbase, fun hn => ?ovflsize, fun hn => ?savebase, fun hn => ?rickquota⟩, fun hw hb => ?bad, fun hb => ?pgroot, fun hb => ?backbase⟩
  case plain => exact asStep_ok (eff := effSysr f) hg (effSysr_plain hn hn')
  case clock => exact asStep_ok (eff := effSysr f) hg (effSysr_clock hn)
  case slot => exact asStepW_ok (eff := effSysw f) hg hw (effSysw_slot hb hn)
  case fpstatus => exact asStepW_ok (eff := effSysw f) hg hw (effSysw_fpstatus hb hn)
  case rngseed => exact asStepW_ok (eff := effSysw f) hg hw ((effSysw_rngseed hb hn).trans (if_neg hv))
  case rngzero => exact asStepW_trap (eff := effSysw f) hg hw ((effSysw_rngseed hb hn).trans (if_pos hv))
  case ovflbase => exact asStepW_ok (eff := effSysw f) hg hw (effSysw_ovflbase hb hn)
  case ovflsize => exact asStepW_ok (eff := effSysw f) hg hw (effSysw_ovflsize hb hn)
  case savebase => exact asStepW_ok (eff := effSysw f) hg hw (effSysw_savebase hb hn)
  case rickquota => exact asStepW_ok (eff := effSysw f) hg hw (effSysw_rickquota hb hn)
  case bad => exact asStepW_trap (eff := effSysw f) hg hw (effSysw_bad hb)
  case pgroot => exact exec_syswPgroot hg hb
  case backbase => exact exec_syswBackbase hg hb

end Sys2Proof.Machine
end

section
/-! PROOFS. Branches, IDLE and BRK (O5), and what a NOP's body may hold (O49). -/

namespace Sys2Proof.Machine

variable {s : State} {f : BrF}

/-! ### Computed targets (R104) -/

theorem State.branchInd_aligned {v : Word} (hv : v.extractLsb' 0 3 = 0) : s.branchInd v = .ok (s.branchTo v 3) := if_pos hv

theorem State.branchInd_unaligned {v : Word} (hv : v.extractLsb' 0 3 ≠ 0) : s.branchInd v = .trap ⟨.spalign, 0, v⟩ := if_neg hv

theorem effCallInd_aligned (hv : (s.readS 40 f.a + f.off.signExtend 64).extractLsb' 0 3 = 0) :
    effCallInd f s = .ok ((s.branchTo (s.readS 40 f.a + f.off.signExtend 64) 3).cResult f.a s.nextBundle) := by
  rw [effCallInd, State.branchInd_aligned hv, Act.bind]

theorem effCallInd_unaligned (hv : (s.readS 40 f.a + f.off.signExtend 64).extractLsb' 0 3 ≠ 0) :
    effCallInd f s = .trap ⟨.spalign, 0, s.readS 40 f.a + f.off.signExtend 64⟩ := by
  rw [effCallInd, State.branchInd_unaligned hv, Act.bind]

/-- LOOP of a count of 0 wraps to all ones, which is not 0, and branches (R103). -/
theorem effLoopS_zero (ha : s.readS 40 f.a = 0) :
    effLoopS f s = .ok ((s.cResult f.a (BitVec.allOnes 64)).branchTo (s.cur.pc + f.off.signExtend 64) 1) := by
  have hn : s.readS 40 f.a - 1 = BitVec.allOnes 64 := by
    rw [ha]
    rfl
  simp only [effLoopS, hn]
  rfl

/-! ### IDLE and BRK (R107, R108) -/

section
variable {n : RRR}

theorem effIdle_latch (hk : (s.readS 32 n.a).toNat ≠ 0) (hl : s.cur.latch ≠ 0) :
    effIdle n s = .ok ((s.setCur { s.cur with latch := 0 }).cResult n.d (s.cur.latch.zeroExtend 64)) := by
  simp only [effIdle, if_neg hk, if_pos hl]

theorem effIdle_zero (hk : (s.readS 32 n.a).toNat = 0) :
    effIdle n s = .ok ((s.setCur { s.cur with latch := 0 }).cResult n.d ((s.cur.latch ||| 8).zeroExtend 64)) := by
  have hl : s.cur.latch ||| 8 ≠ 0 := fun h => by simpa using congrArg (·.getLsbD 3) h
  simp only [effIdle, if_pos hk, if_pos hl]

theorem effIdle_waits (hk : (s.readS 32 n.a).toNat ≠ 0) (hl : s.cur.latch = 0) :
    effIdle n s = .ok (s.setCur { s.cur.await (dstS n.d) with wait := .idle (dstS n.d) (s.readS 32 n.a).toNat s.time }) := by
  simp only [effIdle, if_neg hk, hl, ne_eq, not_true_eq_false, if_false]

theorem effBrk_off (hd : s.cur.sys.dbgen = false) : effBrk n s = .ok s := if_neg (by rw [hd]; decide)

theorem effBrk_on (hd : s.cur.sys.dbgen = true) : effBrk n s = .ok { s.setCur { s.cur with wait := .brk } with
    brks := s.brks ++ [(s.iss.site, s.iss.slot, n.d.toNat * 256 + n.a.toNat, s.nextBundle)] } := if_pos hd

end

/-- Settles O5: a relative branch has no case, a computed target is aligned or not, IDLE has its three ends and BRK its two. -/
theorem branchesAndStops : Obligations.BranchesAndStops := by
  intro h n f s hg rel ind link count x k
  refine ⟨?nop, ?br, ?call, ?loop, fun hv => ⟨?bri, ?callInd⟩, fun hv => ⟨?briTrap, ?callIndTrap⟩, fun hv => ?ret, fun hv => ?retTrap,
    fun hk hl => ?idleLatch, fun hk => ?idleZero, fun hk hl => ?idleWaits, fun hd => ?brkOff, fun hd => ?brkOn⟩
  case nop => exact asStep_ok (eff := effNop n) hg rfl
  case br => exact asStep_ok (eff := effBr f) hg rfl
  case call => exact asStep_ok (eff := effCallS f) hg rfl
  case loop => exact asStep_ok (eff := effLoopS f) hg rfl
  case bri => exact asStep_ok (eff := effBri f) hg (State.branchInd_aligned hv)
  case callInd => exact asStep_ok (eff := effCallInd f) hg (effCallInd_aligned hv)
  case briTrap => exact asStep_trap (eff := effBri f) hg (State.branchInd_unaligned hv)
  case callIndTrap => exact asStep_trap (eff := effCallInd f) hg (effCallInd_unaligned hv)
  case ret => exact asStep_ok (eff := effRet f) hg (State.branchInd_aligned hv)
  case retTrap => exact asStep_trap (eff := effRet f) hg (State.branchInd_unaligned hv)
  case idleLatch => exact asStep_ok (eff := effIdle n) hg (effIdle_latch hk hl)
  case idleZero => exact asStep_ok (eff := effIdle n) hg (effIdle_zero hk)
  case idleWaits => exact asStep_ok (eff := effIdle n) hg (effIdle_waits hk hl)
  case brkOff => exact asStep_ok (eff := effBrk n) hg (effBrk_off hd)
  case brkOn => exact asStep_ok (eff := effBrk n) hg (effBrk_on hd)

/-! ### NOP (R40, R106) -/

/-- A body of F-RRR is 0 where its six bytes are. -/
theorem eq_zero_of_fld {b : BitVec 48} (hb : ∀ p ∈ [0, 8, 16, 24, 32, 40], fld b p = 0) : b = 0 := by
  simp only [List.forall_mem_cons, fld, BitVec.extractLsb'_toNat, Nat.shiftRight_eq_div_pow] at hb
  obtain ⟨h0, h1, h2, h3, h4, h5, -⟩ := hb
  have hlt : b.toNat < 2 ^ 48 := b.isLt
  refine BitVec.eq_of_toNat_eq (y := 0#48) ?_
  rw [BitVec.toNat_zero]
  omega

section
variable (h : Hdr) (b : BitVec 48)

/-- What the table says of NOP: F-RRR, with every field reserved (R106). -/
theorem specOf_nop : specOf (mkWord 5 0 h b) = some { fmt := .rrr } := by
  rw [specOf, wK_mkWord, wOp_mkWord]
  rfl

theorem fieldsOf_nop : fieldsOf ⟨mkWord 5 0 h b, none⟩ = [(.rsv, fld b 40), (.rsv, fld b 32), (.rsv, fld b 24), (.rsv, fld b 16)] := by
  rw [fieldsOf, specOf_nop, wBody_mkWord]

theorem sysNum_nop : sysNum ⟨mkWord 5 0 h b, none⟩ = none :=
  if_neg fun ⟨_, hop⟩ => by rw [wOp_mkWord] at hop; omega

theorem badReserved_nop : badReserved ⟨mkWord 5 0 h b, none⟩ = false ↔ b = 0 := by
  rw [badReserved, fieldsOf_nop, specOf_nop, wBody_mkWord]
  constructor
  · intro hb
    simp only [badM, List.any_cons, List.any_nil, Bool.or_eq_false_iff, Bool.and_eq_false_imp, decide_eq_false_iff_not, ne_eq,
      Decidable.not_not, beq_self_eq_true, forall_const, Bool.not_false, and_true] at hb
    obtain ⟨⟨-, hd, ha, hb', hc⟩, ⟨⟨⟨⟨hm, hrnd⟩, hsat⟩, hck⟩, -⟩, ht⟩ := hb
    have hlow : fld b 8 % 2 ^ 8 = 0 := (Nat.and_two_pow_sub_one_eq_mod _ 8).symm.trans ht
    have hlt : fld b 8 < 2 ^ 8 := BitVec.isLt _
    refine eq_zero_of_fld ?_
    simp only [List.forall_mem_cons, List.not_mem_nil, false_imp_iff, implies_true, and_true]
    omega
  · rintro rfl
    rfl

theorem badSpec_nop : badSpec true ⟨mkWord 5 0 h b, none⟩ = false := by
  rw [badSpec, fieldsOf_nop, sysNum_nop]
  rfl

theorem badHref_nop : badHref true ⟨mkWord 5 0 h b, none⟩ = false := by
  rw [badHref, fieldsOf_nop, sysNum_nop]
  rfl

theorem portsOf_nop : portsOf ⟨mkWord 5 0 h b, none⟩ = ⟨0, 0, 0, 0⟩ := by
  rw [portsOf, fieldsOf_nop]
  rfl

theorem badFmt_nop : badFmt ⟨mkWord 5 0 h b, none⟩ = false := by
  rw [badFmt, specOf_nop]
  rfl

theorem badRnd_nop : badRnd ⟨mkWord 5 0 h b, none⟩ = false := by
  rw [badRnd, specOf_nop]
  rfl

/-- A word whose guard is not p0 negated passes check 8 of R40. -/
theorem badGuard_mkWord (k op : Nat) (hg : h.pred ≠ 0 ∨ h.neg = false) : (decide (wG (mkWord k op h b) = 0) && wGN (mkWord k op h b)) = false := by
  rw [wG, pred_mkWord, wGN_mkWord, Bool.and_eq_false_iff, decide_eq_false_iff_not]
  exact hg.imp_left fun hp h0 => hp (BitVec.eq_of_toNat_eq h0)

/-- A NOP whose guard is not refused can fail no check of R40 but that of reserved fields. -/
theorem sylFault_nop (hg : h.pred ≠ 0 ∨ h.neg = false) :
    sylFault ⟨mkWord 5 0 h b, none⟩ = if badReserved ⟨mkWord 5 0 h b, none⟩ then some .rsvfield else none := by
  simp only [sylFault, wK_mkWord, badGuard_mkWord h b 5 0 hg, specOf_nop, badSpec_nop, badHref_nop, portsOf_nop, badFmt_nop, badRnd_nop]
  rfl

end

/-- Settles O49: a NOP that is guarded off does nothing either; its body decides between its one instruction and RSVFIELD. -/
theorem nopDoesNothing : Obligations.NopDoesNothing := by
  refine ⟨fun h f s => ?exec, fun h body hg => ⟨fun hb => ?zero, fun hb => ?set⟩⟩
  case exec =>
    cases hg : s.guard h with
    | true => exact asStep_ok (eff := effNop f) hg rfl
    | false => exact asStep_off (eff := effNop f) hg
  case zero =>
    subst hb
    have hof : ofSyl ⟨mkWord 5 0 h 0, none⟩ = some (.nop h ⟨0, 0, 0, 0, 0, 0⟩) := Laws.Encodes.nop h ⟨0, 0, 0, 0, 0, 0⟩ rfl
    rw [decodeSyl, sylFault_nop h 0 hg, (badReserved_nop h 0).mpr rfl, hof]
    rfl
  case set =>
    have hr : badReserved ⟨mkWord 5 0 h body, none⟩ = true := by
      rw [← Bool.not_eq_false, badReserved_nop]
      exact hb
    rw [decodeSyl, sylFault_nop h body hg, hr]
    rfl

end Sys2Proof.Machine
end

section
/-! PROOFS. Computed targets and the trap of a bundle outside its code region (O50). -/

namespace Sys2Proof.Machine

variable {s t u : State}

/-! ### What the slew guard counts (R292, R293) -/

/-- A slot with all that the slew guard counts for it set aside. -/
def Slot.slewApart (x : Slot) : Slot :=
  { x with slewWait := false, slewGrant := false, slewAway := none, sys := { x.sys with slewhold := 0 } }

/-- From `s` to `t` no slot has changed but in what the slew guard counts for it, and the bundle at issue is the same. -/
def State.SlewOnly (s t : State) : Prop := t.iss = s.iss ∧ ∀ site slot, (t.slotAt site slot).slewApart = (s.slotAt site slot).slewApart

theorem State.SlewOnly.refl (s : State) : s.SlewOnly s := ⟨rfl, fun _ _ => rfl⟩

theorem State.SlewOnly.trans (h : s.SlewOnly t) (k : t.SlewOnly u) : s.SlewOnly u :=
  ⟨k.1.trans h.1, fun site slot => (k.2 site slot).trans (h.2 site slot)⟩

theorem State.SlewOnly.cur (h : s.SlewOnly t) : t.cur.slewApart = s.cur.slewApart := by
  rw [State.cur, h.1]
  exact h.2 _ _

theorem State.slewOnly_setSlotAt {site slot : Nat} {x : Slot} (hx : x.slewApart = (s.slotAt site slot).slewApart) :
    s.SlewOnly (s.setSlotAt site slot x) := by
  refine ⟨rfl, fun a b => ?_⟩
  by_cases hk : slotKey a b = slotKey site slot
  · rw [State.slotAt, State.slotAt, hk]
    exact (congrArg Slot.slewApart (State.slotAt_setSlotAt_same ..)).trans hx
  · rw [State.slotAt_setSlotAt_other _ _ _ _ _ _ hk]

theorem State.slewOnly_countHeld (s : State) (site slot n : Nat) : s.SlewOnly (s.countHeld site slot n) :=
  State.slewOnly_setSlotAt (s := s) (site := site) (slot := slot) rfl

theorem State.slewOnly_countAway (s : State) (site slot : Nat) (still : Bool) : s.SlewOnly (s.countAway site slot still) := by
  rw [State.countAway]
  split
  · exact (s.slewOnly_countHeld ..).trans (State.slewOnly_setSlotAt rfl)
  · exact .refl s

theorem State.slewOnly_giveQuantum (s : State) (dom : Nat) : s.SlewOnly (s.giveQuantum dom) := by
  rw [State.giveQuantum]
  split
  · exact (s.slewOnly_countAway ..).trans (State.slewOnly_setSlotAt rfl)
  · split <;> exact .refl s

theorem State.slewOnly_leaveSlew (s : State) (site slot : Nat) : s.SlewOnly (s.leaveSlew site slot) := by
  rw [State.leaveSlew]
  have haway := s.slewOnly_countAway site slot false
  have hset : s.SlewOnly ((s.countAway site slot false).setSlotAt site slot
      { (s.countAway site slot false).slotAt site slot with slewWait := false, slewGrant := false }) :=
    haway.trans (State.slewOnly_setSlotAt rfl)
  dsimp only
  split
  · exact haway
  · split
    · exact hset.trans (State.slewOnly_giveQuantum ..)
    · exact hset

theorem State.slewOnly_clearEcc (s : State) (site slot : Nat) : s.SlewOnly (s.clearEcc site slot) := by
  rw [State.clearEcc]
  split <;> exact .refl s

/-! ### Results that land (R51, R52) -/

/-- Results that land change no system register but FPSTATUS (R79). -/
theorem landGo_sys (due : InFlight → Bool) (es kept : List InFlight) (x : Slot) :
    (landGo due es kept x).sys = { x.sys with fpstatus := (landGo due es kept x).sys.fpstatus } := by
  induction es generalizing kept x with
  | nil => rfl
  | cons e es ih =>
    rw [landGo]
    split
    · exact ih _ (x.land e)
    · exact ih _ x

theorem Slot.drain_sys (x : Slot) : x.drain.sys = { x.sys with fpstatus := x.drain.sys.fpstatus } := landGo_sys ..

/-! ### Entering the handler (R342) -/

theorem State.reportError_iss (s : State) (site : Nat) : (s.reportError site).iss = s.iss := by
  rw [State.reportError]
  split <;> rfl

theorem State.detect_iss (s : State) (site : Nat) (k : FKind) : (s.detect site k).iss = s.iss := by
  have h : (if k = .ecclocal ∨ k = .eccl1 then s.reportError site else s).iss = s.iss := by
    split
    · exact s.reportError_iss site
    · rfl
  rw [State.detect]
  generalize (if k = .ecclocal ∨ k = .eccl1 then s.reportError site else s) = t at h ⊢
  split <;> exact h

theorem State.detect_cur (s : State) (site : Nat) (k : FKind) : (s.detect site k).cur = s.cur := by
  rw [State.cur, State.detect_iss]
  exact State.slotAt_congr (State.detect_slots ..) ..

/-- The slot at issue is the one that the entry of a handler has written. -/
theorem State.cur_trapped (s : State) (x : Slot) (site : Nat) (k : FKind) :
    (((s.setCur x).detect site k).setIss { ((s.setCur x).detect site k).iss with done := true }).cur = x :=
  (State.setIss_cur _ _ rfl rfl).trans ((State.detect_cur ..).trans (State.cur_setCur ..))

/-- A trap that a handler takes leaves the fault's address and value in EPC and EVAL. -/
theorem enterTrap_epc_eval {k : TrapInfo} {epc bundle : Word} (hm : s.cur.mmag = none) (hi : s.cur.sys.intrap = false)
    (hb : s.cur.sys.trapbase.getLsbD 63 = true) :
    (enterTrap k epc s bundle).cur.sys.epc = epcOf epc ∧ (enterTrap k epc s bundle).cur.sys.eval = k.eval := by
  have hslew : s.SlewOnly ((s.clearEcc s.iss.site s.iss.slot).leaveSlew s.iss.site s.iss.slot) :=
    (s.slewOnly_clearEcc ..).trans (State.slewOnly_leaveSlew ..)
  rw [enterTrap, hm]
  simp only [Option.isSome_none, Bool.false_eq_true, if_false]
  generalize (s.clearEcc s.iss.site s.iss.slot).leaveSlew s.iss.site s.iss.slot = t at hslew ⊢
  have hi' : t.cur.drain.sys.intrap = false := by
    rw [Slot.drain_sys]
    exact (congrArg (·.sys.intrap) hslew.cur).trans hi
  have hb' : t.cur.drain.sys.trapbase.getLsbD 63 = true := by
    rw [Slot.drain_sys]
    exact (congrArg (·.sys.trapbase.getLsbD 63) hslew.cur).trans hb
  rw [hi', hb']
  exact ⟨congrArg (fun x : Slot => x.sys.epc) (t.cur_trapped ..), congrArg (fun x : Slot => x.sys.eval) (t.cur_trapped ..)⟩

/-! ### A bundle outside its code region (R40, R136) -/

theorem State.fetch_outside {site slot : Nat} (hc : (s.slotAt site slot).codeSize < (s.slotAt site slot).pc.toNat + 8) :
    s.fetch site slot = ⟨[], false, some (s.slotAt site slot).pc.toNat⟩ :=
  if_pos hc

theorem State.tryBundle_outside {site slot : Nat} (hw : (s.begin_ site slot).cur.wait ≠ .ways) (ha : (s.begin_ site slot).cur.after = none)
    (hc : (s.begin_ site slot).cur.codeSize < (s.begin_ site slot).cur.pc.toNat + 8) :
    s.tryBundle site slot = takeTrap ⟨.fetchrange, 0, (s.begin_ site slot).cur.pc⟩ (s.begin_ site slot) := by
  have hf : (s.begin_ site slot).fetch site slot = ⟨[], false, some (s.begin_ site slot).cur.pc.toNat⟩ := State.fetch_outside hc
  simp only [State.tryBundle, if_neg hw, ha, hf, BitVec.ofNat_toNat, BitVec.setWidth_eq]

/-! ### The statement -/

/-- An address is a multiple of 8 where its low three bits are 0. -/
theorem lowBits_eq_zero_iff (v : Word) : v.extractLsb' 0 3 = 0 ↔ v.toNat % 8 = 0 := by
  rw [← BitVec.toNat_inj, BitVec.extractLsb'_toNat]
  simp

/-- Settles O50: a target's low bits decide the branch; the fetch of a bundle outside its code region takes the trap, which its handler enters. -/
theorem computedTargets : Obligations.ComputedTargets := by
  intro s
  refine ⟨fun h f hg => ?branches, fun site slot hw ha hc => ⟨State.tryBundle_outside hw ha hc, fun hp hm hi hb => ?trap⟩⟩
  case branches =>
    intro a t stops
    refine ⟨fun ht => ⟨?bri, ?callInd⟩, fun ht => ?ret, fun ht => ?taken, fun ht => ?retTaken, fun ha => ?loop⟩
    case bri => exact asStep_trap (eff := effBri f) hg (State.branchInd_unaligned (mt (lowBits_eq_zero_iff t).mp ht))
    case callInd => exact asStep_trap (eff := effCallInd f) hg (effCallInd_unaligned (mt (lowBits_eq_zero_iff t).mp ht))
    case ret => exact asStep_trap (eff := effRet f) hg (State.branchInd_unaligned (mt (lowBits_eq_zero_iff a).mp ht))
    case taken =>
      have hv : t.extractLsb' 0 3 = 0 := (lowBits_eq_zero_iff t).mpr ht
      exact ⟨_, _, asStep_ok (eff := effBri f) hg (State.branchInd_aligned hv), asStep_ok (eff := effCallInd f) hg (effCallInd_aligned hv), rfl, rfl⟩
    case retTaken =>
      exact ⟨_, asStep_ok (eff := effRet f) hg (State.branchInd_aligned ((lowBits_eq_zero_iff a).mpr ht)), rfl⟩
    case loop => exact asStep_ok (eff := effLoopS f) hg (effLoopS_zero ha)
  case trap =>
    rw [State.tryBundle_outside hw ha hc, takeTrap, if_pos hp]
    exact enterTrap_epc_eval hm hi hb

end Sys2Proof.Machine
end

section
/-! PROOFS. The vector syllables that round (O8), that work on whole registers (O11), reductions and scans (O12), conversion (O13). -/

namespace Sys2Proof.Machine

variable {s : State} {h : Hdr} {f : RRR} {i : Instr} {eff : State → Act}

/-! ### The rounding mode in force (R57, R119) -/

/-- A mode that the syllable admits is the one it goes on with, whether it stands in the syllable or in FPSTATUS. -/
theorem vMode_rounding {srOk : Bool} {k : Nat → Act} (hm : vModeOf s f ≤ 5) (hsr : vModeOf s f = 5 → srOk = true) :
    vMode s f true srOk k = k (vModeOf s f) := by
  by_cases hdyn : mRnd f.m = 6
  · have hval : vModeOf s f = s.cur.sys.fpstatus.toNat % 8 := if_pos hdyn
    rw [hval] at hm hsr ⊢
    have hadmitted : ¬(6 ≤ s.cur.sys.fpstatus.toNat % 8 ∨ (s.cur.sys.fpstatus.toNat % 8 = 5 ∧ (!srOk) = true)) := by
      rintro (hreserved | ⟨h5, hno⟩)
      · omega
      · simp [hsr h5] at hno
    simp only [vMode, Bool.not_true, Bool.false_eq_true, if_false, hdyn, ne_eq, not_true_eq_false, if_neg hadmitted]
  · have hval : vModeOf s f = mRnd f.m := if_neg hdyn
    simp only [vMode, Bool.not_true, Bool.false_eq_true, if_false, ne_eq, hdyn, not_false_eq_true, if_true, hval]

/-- The additions of VREDADD and VSCAN round for f32 only, and never under SR (R127). -/
theorem vMode_additions {k : Nat → Act} (hm : (if rrrT f = 10 then vModeOf s f else 0) < 5) :
    vMode s f (decide (rrrT f = 10)) false k = k (if rrrT f = 10 then vModeOf s f else 0) := by
  by_cases hT : rrrT f = 10
  · rw [if_pos hT] at hm ⊢
    rw [decide_eq_true hT]
    exact vMode_rounding (Nat.le_of_lt hm) fun h5 => absurd h5 (Nat.ne_of_lt hm)
  · rw [if_neg hT, decide_eq_false hT]
    rfl

/-! ### Syllables that round, lane by lane (R75, R119) -/

section
variable {lat : Nat} {op : Rnd → Nat → LaneRes}

/-- Lanes that trap nothing are written; under SR the generator is 32 draws further. -/
theorem vRound_of_quiet (hm : vModeOf s f ≤ 5) (hseed : vModeOf s f = 5 → s.cur.sys.rngseed ≠ 0)
    (hq : vQuiet s (fun n => op (vRndOf s f n) n)) : vRound s f lat true op = .ok (vDoneR s f lat (fun n => op (vRndOf s f n) n)) := by
  rw [vRound, vMode_rounding hm fun _ => rfl]
  by_cases h5 : vModeOf s f = 5
  · have hrnd : vRndOf s f = fun n => ⟨5, (draws 32 s.cur.sys.rngseed).1.getD n 0⟩ := funext fun _ => if_pos h5
    simp only [hrnd] at hq
    simp only [if_pos h5, if_neg (hseed h5), vFinish, vFault_lanes_of_quiet hq, foldl_flags_lanes, ofLanes_getD_map_range, vDoneR, vDone, hrnd]
  · have hrnd : vRndOf s f = fun _ => ⟨vModeOf s f, 0⟩ := funext fun _ => if_neg h5
    simp only [hrnd] at hq
    simp only [if_neg h5, vFinish, vFault_lanes_of_quiet hq, foldl_flags_lanes, ofLanes_getD_map_range, vDoneR, vDone, hrnd]

theorem exec_of_vRound (hg : s.guard h = true) (hm : vModeOf s f ≤ 5) (hseed : vModeOf s f = 5 → s.cur.sys.rngseed ≠ 0)
    (hi : exec i s = asStep h eff s) (he : eff s = vRound s f lat true op) (hq : vQuiet s (fun n => op (vRndOf s f n) n)) :
    exec i s = .next (vDoneR s f lat (fun n => op (vRndOf s f n) n)) :=
  hi.trans (asStep_ok hg (he.trans (vRound_of_quiet hm hseed hq)))

end

theorem vArith_float {lat : Nat} {fop : Rnd → Fp → Fp → FRes} {iop : Int → Int → Int} (hT : rrrT f = 10) :
    vArith s f lat fop iop = vRound s f lat true (fun r n => fLane (fop r (laneF (s.readV 32 f.a) n) (laneF (s.readV 24 f.b) n))) :=
  if_pos hT

/-- Settles O8: each effect is `vRound` of the lane's operation; VADD, VSUB and VMUL are it where their type is f32. -/
theorem vectorRounding : Obligations.VectorRounding := by
  intro h f s hg hm hseed a b c rnd sat does
  refine ⟨fun hT => ⟨?add, ?sub, ?mul⟩, ?fma, ?fms, ?div, ?sqrt, ?scale, ?rint⟩
  case add => exact exec_of_vRound (eff := effVadd f) hg hm hseed rfl (vArith_float hT)
  case sub => exact exec_of_vRound (eff := effVsub f) hg hm hseed rfl (vArith_float hT)
  case mul => exact exec_of_vRound (eff := effVmul f) hg hm hseed rfl (vArith_float hT)
  case fma => exact exec_of_vRound (eff := effVfma f) (op := fun r n => fLane (fpFma fmtF32 r sat (a n) (b n) (c n))) hg hm hseed rfl rfl
  case fms => exact exec_of_vRound (eff := effVfms f) (op := fun r n => fLane (fpFma fmtF32 r sat (a n).negate (b n) (c n))) hg hm hseed rfl rfl
  case div => exact exec_of_vRound (eff := effVdiv f) (op := fun r n => fLane (fpDiv fmtF32 r sat (a n) (b n))) hg hm hseed rfl rfl
  case sqrt => exact exec_of_vRound (eff := effVsqrt f) (op := fun r n => fLane (fpSqrt fmtF32 r (a n))) hg hm hseed rfl rfl
  case scale =>
    exact exec_of_vRound (eff := effVscale f) (op := fun r n => fLane (fpScale fmtF32 r sat (a n) (laneI 2 (s.readV 24 f.b) n)))
      hg hm hseed rfl rfl
  case rint => exact exec_of_vRound (eff := effVrint f) (op := fun r n => fLane (fpRint fmtF32 r (a n))) hg hm hseed rfl rfl

/-! ### Whole registers (R126, R132) -/

theorem effVext_ok (hn : (s.readS 24 f.b).toNat < 32) :
    effVext f s = .ok (s.cResult f.d (tyExtend (rrrT f) (lane (s.readV 32 f.a) (s.readS 24 f.b).toNat).toNat) 2) :=
  if_neg (Nat.not_le.mpr hn)

theorem effVext_trap (hn : 32 ≤ (s.readS 24 f.b).toNat) : effVext f s = .trap ⟨.laneidx, 1, s.readS 24 f.b⟩ :=
  if_pos hn

theorem effVins_ok (hn : (s.readS 16 f.c).toNat < 32) :
    effVins f s = .ok (s.vResult f.d
      (ofLanes (fun n => if n = (s.readS 16 f.c).toNat then (s.readS 24 f.b).truncate 32 else lane (s.readV 32 f.a) n)) 2) :=
  if_neg (Nat.not_le.mpr hn)

theorem effVins_trap (hn : 32 ≤ (s.readS 16 f.c).toNat) : effVins f s = .trap ⟨.laneidx, 1, s.readS 16 f.c⟩ :=
  if_pos hn

/-- The 64 draws fill the register, and the bundle carries the generator after them. -/
theorem effVrand_ok (hr : s.cur.sys.rngseed ≠ 0) :
    ∃ t, effVrand f s = .ok t ∧ t.iss.rng = some (draws 64 s.cur.sys.rngseed).2 ∧
      t.cur = (s.vResult f.d (ofElems 16 64 (fun j => (draws 64 s.cur.sys.rngseed).1.getD j 0)) 2).cur :=
  ⟨_, if_neg hr, rfl, State.setIss_cur _ _ rfl rfl⟩

theorem effVrand_trap (hr : s.cur.sys.rngseed = 0) : effVrand f s = .trap ⟨.rngstate, 1, 0⟩ :=
  if_pos hr

/-- Settles O11: only VEXT, VINS and VRAND check anything, each a single bound. -/
theorem vectorWhole : Obligations.VectorWhole := by
  intro h f s hg va vb vc w E hi i k
  refine ⟨?sel, ?mcnt, ?and, ?or, ?xor, ?mov, ?splat, ?perm, ?rot, ?pack, ?unpk, ?classes, ?join, fun hn => ?ext, fun hn => ?extTrap,
    fun hn => ?ins, fun hn => ?insTrap, fun hr => ?rand, fun hr => ?randTrap⟩
  case sel => exact asStep_ok (eff := effVsel f) hg rfl
  case mcnt => exact asStep_ok (eff := effVmcnt f) hg rfl
  case and => exact asStep_ok (eff := effVand f) hg rfl
  case or => exact asStep_ok (eff := effVor f) hg rfl
  case xor => exact asStep_ok (eff := effVxor f) hg rfl
  case mov => exact asStep_ok (eff := effVmov f) hg rfl
  case splat => exact asStep_ok (eff := effVsplat f) hg rfl
  case perm => exact asStep_ok (eff := effVperm f) hg rfl
  case rot => exact asStep_ok (eff := effVrot f) hg rfl
  case pack => exact asStep_ok (eff := effVpack f) hg rfl
  case unpk => exact asStep_ok (eff := effVunpk f) hg rfl
  case classes => exact asStep_ok (eff := effVclass f) hg rfl
  case join => exact asStep_ok (eff := effVjoin f) hg rfl
  case ext => exact asStep_ok (eff := effVext f) hg (effVext_ok hn)
  case extTrap => exact asStep_trap (eff := effVext f) hg (effVext_trap hn)
  case ins => exact asStep_ok (eff := effVins f) hg (effVins_ok hn)
  case insTrap => exact asStep_trap (eff := effVins f) hg (effVins_trap hn)
  case rand =>
    obtain ⟨t, he, hrng, hcur⟩ := effVrand_ok (f := f) hr
    exact ⟨t, asStep_ok (eff := effVrand f) hg he, hrng, hcur⟩
  case randTrap => exact asStep_trap (eff := effVrand f) hg (effVrand_trap hr)

/-! ### Reductions and scans (R87, R88, R127) -/

/-- The pairwise tree over the lanes of A: its root, and what each node raised. -/
def vTree (s : State) (f : RRR) (op : BitVec 32 → BitVec 32 → LaneRes) : BitVec 32 × List (Nat × LaneRes) :=
  treeGo op 5 ((List.range 32).zip ((List.range 32).map (lane (s.readV 32 f.a)))) []

/-- The scan's five stages over the lanes of A: their lanes, and what each addition raised. -/
def vStages (s : State) (f : RRR) (op : BitVec 32 → BitVec 32 → LaneRes) : List (BitVec 32) × List (Nat × LaneRes) :=
  scanGo op [1, 2, 4, 8, 16] ((List.range 32).map (lane (s.readV 32 f.a))) []

section
variable {op : BitVec 32 → BitVec 32 → LaneRes}

theorem vFinish_ok {lat : Nat} {es : List (Nat × LaneRes)} {v : VReg} (hq : vFault s.cur.sys.fptrapen es = none) :
    vFinish s f lat none es v = .ok (s.vResult f.d v lat (es.foldl (fun n e => n ||| e.2.flags) 0)) := by
  rw [vFinish, hq]

theorem vReduce_eq_vFinish_vTree : vReduce s f op = vFinish s f 8 none (vTree s f op).2 (ofLanes (fun _ => (vTree s f op).1)) := by
  rw [vTree, ← List.map_prod_left_eq_zip]
  rfl

theorem exec_of_vReduce (hg : s.guard h = true) (hi : exec i s = asStep h eff s) (he : eff s = vReduce s f op)
    (hq : vFault s.cur.sys.fptrapen (vTree s f op).2 = none) :
    exec i s = .next (s.vResult f.d (ofLanes (fun _ => (vTree s f op).1)) 8 ((vTree s f op).2.foldl (fun n e => n ||| e.2.flags) 0)) :=
  hi.trans (asStep_ok hg (he.trans (vReduce_eq_vFinish_vTree.trans (vFinish_ok hq))))

end

theorem effVredadd_eq_vReduce (hm : (if rrrT f = 10 then vModeOf s f else 0) < 5) :
    effVredadd f s = vReduce s f (addNode (rrrT f) f.m ⟨if rrrT f = 10 then vModeOf s f else 0, 0⟩) :=
  vMode_additions hm

theorem effVscan_eq_vFinish_vStages (hm : (if rrrT f = 10 then vModeOf s f else 0) < 5) :
    let stages := vStages s f (addNode (rrrT f) f.m ⟨if rrrT f = 10 then vModeOf s f else 0, 0⟩)
    effVscan f s = vFinish s f 8 none stages.2 (ofLanes (fun n => stages.1.getD n 0)) :=
  vMode_additions hm

/-- Settles O12: VREDADD, VREDMAX and VREDMIN are `vReduce` over the tree, and VSCAN ends with the lanes of its last stage. -/
theorem vectorReductions : Obligations.VectorReductions := by
  intro h f s hg ls tree reduces mode node scan
  refine ⟨?max, ?min, fun hm => ?add, fun hm hq => ?scan⟩
  case max => exact exec_of_vReduce (eff := effVredmax f) hg rfl rfl
  case min => exact exec_of_vReduce (eff := effVredmin f) hg rfl rfl
  case add => exact exec_of_vReduce (eff := effVredadd f) hg rfl (effVredadd_eq_vReduce hm)
  case scan => exact asStep_ok (eff := effVscan f) hg ((effVscan_eq_vFinish_vStages hm).trans (vFinish_ok hq))

/-! ### Conversion (R128, R176) -/

/-- VCVT of one lane: k4 names an entry of the codebook, which is f16 (code 9); every other source is converted as it stands. -/
def cvtLane (s : State) (f : RRR) (r : Rnd) (n : Nat) : LaneRes :=
  let x := (lane (s.readV 32 f.a) n).toNat
  let kb := s.cur.f.kb.toList.getD (cvtKb f) 0
  let y := if cvtSrc f = 13 then convert 9 (rrrT f) r (mSat f.m) (mCk f.m) ((kb.toNat >>> (16 * (x % 16))) % 2 ^ 16)
    else convert (cvtSrc f) (rrrT f) r (mSat f.m) (mCk f.m) x
  ⟨y.bits % 2 ^ 32, y.flags, y.bad⟩

theorem effVcvt_eq_vRound : effVcvt f s = vRound s f 4 true (cvtLane s f) := by
  rw [effVcvt]
  congr 1
  funext r n
  by_cases hsrc : cvtSrc f = 13
  · simp only [cvtLane, if_pos hsrc]
  · simp only [cvtLane, if_neg hsrc]

theorem asStepW_hold {wait : State → Option Hold} {w : Hold} (hg : s.guard h = true) (hw : wait s = some w) :
    asStepW h wait eff s = .next (holdBundle w.count w.act s) := by
  rw [asStepW, if_pos hg, hw]

/-- Settles O13: once its codebook is not pending, VCVT is `vRound` of `cvtLane`. -/
theorem vectorConvert : Obligations.VectorConvert := by
  intro h f s hg op pending
  refine ⟨fun hfree hm hseed hq => ?converts, fun hpending => ?waits⟩
  case converts =>
    exact asStepW_ok (wait := waitVcvt f) (eff := effVcvt f) hg (if_neg hfree) (effVcvt_eq_vRound.trans (vRound_of_quiet hm hseed hq))
  case waits => exact asStepW_hold (wait := waitVcvt f) (eff := effVcvt f) hg (if_pos hpending)

end Sys2Proof.Machine
end

section
/-! PROOFS. The matrix unit: the elements of an accumulator, multiplies that leave the unit (O17, O16), issue (O14) and its checks (O15). -/

namespace Sys2Proof.Machine

variable {s t u : State} {h : Hdr} {f : RRR} {o : MOp} {site slot : Nat}

/-! ### Elements of an accumulator (R162, R174) -/

/-- Elements packed from the lowest one up are the digits of a number in base 2^32. -/
theorem foldr_div_pow_mod (g : Nat → BitVec 32) (l : List Nat) {j : Nat} (hj : j < l.length) :
    l.foldr (fun k n => n * 2 ^ 32 + (g k).toNat) 0 / 2 ^ (32 * j) % 2 ^ 32 = (g l[j]).toNat := by
  induction l generalizing j with
  | nil => cases hj
  | cons k l ih =>
    have hk : (g k).toNat < 2 ^ 32 := (g k).isLt
    rw [List.foldr_cons]
    generalize hn : l.foldr (fun k n => n * 2 ^ 32 + (g k).toNat) 0 = n at ih ⊢
    cases j with
    | zero => rw [Nat.mul_zero, Nat.pow_zero, Nat.div_one, Nat.mul_add_mod_self_right, Nat.mod_eq_of_lt hk, List.getElem_cons_zero]
    | succ j =>
      have hhigh : (n * 2 ^ 32 + (g k).toNat) / 2 ^ 32 = n := by omega
      have hpow : 2 ^ (32 * (j + 1)) = 2 ^ 32 * 2 ^ (32 * j) := by rw [← Nat.pow_add, Nat.mul_add, Nat.mul_one, Nat.add_comm]
      rw [hpow, ← Nat.div_div_eq_div_mul, hhigh, List.getElem_cons_succ]
      exact ih (Nat.lt_of_succ_lt_succ hj)

theorem extractLsb'_ofNat {v p w : Nat} (n : Nat) (hp : p + w ≤ v) : (BitVec.ofNat v n).extractLsb' p w = BitVec.ofNat w (n / 2 ^ p) := by
  apply BitVec.eq_of_getLsbD_eq
  intro i hi
  rw [BitVec.getLsbD_extractLsb', BitVec.getLsbD_ofNat, BitVec.getLsbD_ofNat, Nat.testBit_div_two_pow, Nat.add_comm p i,
    decide_eq_true hi, decide_eq_true (show i + p < v by omega), Bool.true_and]

theorem getD_accOf (g : Nat → Nat → BitVec 32) {i : Nat} (hi : i < 32) :
    (accOf g).toList.getD i 0 = BitVec.ofNat 2048 ((List.range 64).foldr (fun j n => n * 2 ^ 32 + (g i j).toNat) 0) := by
  rw [accOf, List.getD_eq_getElem?_getD, Vector.getElem?_toList, Vector.getElem?_eq_getElem hi, Vector.getElem_ofFn]
  rfl

/-- An accumulator made from its elements has them (R162). -/
theorem accGet_accOf (g : Nat → Nat → BitVec 32) {i j : Nat} (hi : i < 32) (hj : j < 64) : accGet (accOf g) i j = g i j := by
  have hlen : j < (List.range 64).length := by rwa [List.length_range]
  apply BitVec.eq_of_toNat_eq
  rw [accGet, getD_accOf g hi, extractLsb'_ofNat _ (by omega), BitVec.toNat_ofNat, foldr_div_pow_mod _ _ hlen, List.getElem_range]

theorem accGet_kStep (o : MOp) (a b : Nat → Fp) (c : Vector (BitVec 2048) 32) {i j : Nat} (hi : i < 32) (hj : j < 64) :
    accGet (kStep o a b c) i j = if i < Shp.m o.shape ∧ j < Shp.n o.shape then
      BitVec.ofNat 32 (fpFma fmtF32 ⟨0, 0⟩ false (a i) (b j) (decF32 (accGet c i j))).bits else accGet c i j :=
  accGet_accOf _ hi hj

/-- The products of `n` k-steps from `k` on, folded into one element in ascending k (R84, R174). -/
theorem accGet_kSteps (s : State) (site : Nat) (o : MOp) {i j : Nat} (hi : i < 32) (hj : j < 64) (n k : Nat) (c : Vector (BitVec 2048) 32) :
    accGet (s.kSteps site o n k c) i j = if i < Shp.m o.shape ∧ j < Shp.n o.shape then
      (List.range n).foldl (fun e m => BitVec.ofNat 32 (fpFma fmtF32 ⟨0, 0⟩ false (s.aElem site o i (k + m))
        (bElem o (fun p => s.unitByte site o ((bRow o (k + m)).1 + p)) j) (decF32 e)).bits) (accGet c i j)
      else accGet c i j := by
  induction n generalizing k c with
  | zero => exact (ite_self _).symm
  | succ n ih =>
    rw [State.kSteps, ih, accGet_kStep _ _ _ _ hi hj, List.range_succ_eq_map, List.foldl_cons, List.foldl_map]
    split
    · simp only [Nat.add_zero, Nat.succ_eq_add_one, Nat.add_assoc, Nat.add_comm 1]
    · rfl

/-! ### What the unit leaves alone as it reports errors (R169, R391) -/

/-- From `s` to `t` at most errors were reported: every slot, the bundle at issue and what each matrix unit holds are the same. -/
structure State.ReportsOnly (s t : State) : Prop where
  iss : t.iss = s.iss
  slots : t.slots = s.slots
  unit : ∀ site, (t.tileAt site).unit = (s.tileAt site).unit

theorem State.ReportsOnly.refl (s : State) : s.ReportsOnly s := ⟨rfl, rfl, fun _ => rfl⟩

theorem State.ReportsOnly.trans (h : s.ReportsOnly t) (k : t.ReportsOnly u) : s.ReportsOnly u :=
  ⟨k.iss.trans h.iss, k.slots.trans h.slots, fun site => (k.unit site).trans (h.unit site)⟩

theorem State.ReportsOnly.slotAt (h : s.ReportsOnly t) (site slot : Nat) : t.slotAt site slot = s.slotAt site slot := State.slotAt_congr h.slots ..

theorem State.ReportsOnly.cur (h : s.ReportsOnly t) : t.cur = s.cur := by
  rw [State.cur, h.iss]
  exact h.slotAt ..

theorem State.ReportsOnly.curTile_unit (h : s.ReportsOnly t) : t.curTile.unit = s.curTile.unit := by
  rw [State.curTile, h.iss]
  exact h.unit _

theorem State.ReportsOnly.setSlotAt (h : s.ReportsOnly t) (site slot : Nat) (x : Slot) :
    (s.setSlotAt site slot x).ReportsOnly (t.setSlotAt site slot x) :=
  ⟨h.iss, congrArg (fun m => KMap.set m (slotKey site slot) x) h.slots, h.unit⟩

theorem State.ReportsOnly.setTileAt (h : s.ReportsOnly t) (site : Nat) (x : Tile) : (s.setTileAt site x).ReportsOnly (t.setTileAt site x) := by
  refine ⟨h.iss, h.slots, fun a => ?_⟩
  by_cases ha : a = site
  · rw [ha, State.tileAt_setTileAt_same, State.tileAt_setTileAt_same]
  · rw [State.tileAt_setTileAt_other _ _ _ _ ha, State.tileAt_setTileAt_other _ _ _ _ ha, h.unit]

theorem State.reportsOnly_setTileAt {site : Nat} {x : Tile} (hx : x.unit = (s.tileAt site).unit) : s.ReportsOnly (s.setTileAt site x) := by
  refine ⟨rfl, rfl, fun a => ?_⟩
  by_cases ha : a = site
  · rw [ha, State.tileAt_setTileAt_same, hx]
  · rw [State.tileAt_setTileAt_other _ _ _ _ ha]

theorem State.reportsOnly_record (s : State) (w : RecWho) (b : RecBody) : s.ReportsOnly (s.record w b) := by
  rw [State.record]
  split <;> exact ⟨rfl, rfl, fun _ => rfl⟩

theorem State.reportsOnly_reportError (s : State) (site : Nat) : s.ReportsOnly (s.reportError site) := by
  rw [State.reportError]
  split <;> exact ⟨rfl, rfl, fun _ => rfl⟩

theorem State.reportsOnly_detect (s : State) (site : Nat) (k : FKind) : s.ReportsOnly (s.detect site k) := by
  have h : s.ReportsOnly (if k = .ecclocal ∨ k = .eccl1 then s.reportError site else s) := by
    split
    · exact s.reportsOnly_reportError site
    · exact .refl s
  rw [State.detect]
  generalize (if k = .ecclocal ∨ k = .eccl1 then s.reportError site else s) = t at h ⊢
  split
  · exact h.trans (State.reportsOnly_setTileAt rfl)
  · exact h

theorem State.reportsOnly_eccRecord (s : State) (site slot a : Nat) : s.ReportsOnly (s.eccRecord site slot a) :=
  (s.reportsOnly_detect ..).trans (State.reportsOnly_record ..)

theorem State.reportsOnly_mendAcc (s : State) (site slot n : Nat) : s.ReportsOnly (s.mendAcc site slot n) := by
  rw [State.mendAcc]
  split
  · refine .trans ?_ (State.reportsOnly_reportError ..)
    exact ⟨rfl, rfl, fun _ => rfl⟩
  · exact .refl s

/-! ### Accumulators and progress registers (R162, R170) -/

theorem Slot.accOf_setAcc_same (x : Slot) {n : Nat} (c : Vector (BitVec 2048) 32) (hn : n < 4) : (x.setAcc n c).accOf n = c := by
  simp [Slot.accOf, Slot.setAcc, hn]

theorem Slot.accOf_setAcc_other (x : Slot) {m n : Nat} (c : Vector (BitVec 2048) 32) (hmn : m ≠ n) : (x.setAcc m c).accOf n = x.accOf n := by
  simp [Slot.accOf, Slot.setAcc, hmn]

@[simp] theorem Slot.accOf_setApr (x : Slot) (m n : Nat) (v : Word) : (x.setApr m v).accOf n = x.accOf n := rfl
@[simp] theorem Slot.accOf_setAccPoison (x : Slot) (m n : Nat) (p : Bool) : (x.setAccPoison m p).accOf n = x.accOf n := rfl

theorem Slot.apr_setApr_same (x : Slot) {n : Nat} (v : Word) (hn : n < 4) : (x.setApr n v).sys.apr.toList.getD n 0 = v := by
  simp [Slot.setApr, hn]

/-! ### A syllable that leaves the unit (R169, R174) -/

/-- The slot of a multiply whose k-steps have given `c`: its accumulator holds `c`, and its progress register 0 (R170, R174). -/
def Slot.multiplied (x : Slot) (o : MOp) (c : Vector (BitVec 2048) 32) (poison : Bool) : Slot :=
  ((x.setAcc o.acc c).setApr o.acc 0).setAccPoison o.acc poison

/-- The result `x` of a syllable lands in its slot: an error in the accumulator's storage, and one among the bytes read, are reported (R169, R391). -/
def State.resultLanded (s : State) (site slot n : Nat) (x : Slot) (ue : Option Nat) : State :=
  match ue with
  | some a => ((s.mendAcc site slot n).setSlotAt site slot x).eccRecord site slot a
  | none => (s.mendAcc site slot n).setSlotAt site slot x

theorem State.reportsOnly_resultLanded (s : State) (site slot n : Nat) (x : Slot) (ue : Option Nat) :
    (s.setSlotAt site slot x).ReportsOnly (s.resultLanded site slot n x ue) := by
  have h : (s.setSlotAt site slot x).ReportsOnly ((s.mendAcc site slot n).setSlotAt site slot x) := (s.reportsOnly_mendAcc ..).setSlotAt ..
  cases ue with
  | some a => exact h.trans (State.reportsOnly_eccRecord ..)
  | none => exact h

theorem State.reportsOnly_mPerform_multiply (s : State) (site : Nat) (ho : o.kind = 0 ∨ o.kind = 1) : ∃ poison,
    (s.setSlotAt site o.slot ((s.slotAt site o.slot).multiplied o
      (s.kSteps site o (Shp.k o.shape - o.k) o.k ((s.slotAt site o.slot).accOf o.acc)) poison)).ReportsOnly (s.mPerform site o) := by
  obtain ho | ho := ho
  all_goals
    simp only [State.mPerform, ho]
    exact ⟨_, s.reportsOnly_resultLanded site o.slot o.acc _ _⟩

/-- An MMAG has performed its k-steps before it leaves the unit (R175). -/
theorem State.reportsOnly_mPerform_gather (s : State) (site : Nat) (ho : o.kind = 2) : ∃ poison,
    (s.setSlotAt site o.slot (((s.slotAt site o.slot).setApr o.acc 0).setAccPoison o.acc poison)).ReportsOnly (s.mPerform site o) := by
  simp only [State.mPerform, ho]
  exact ⟨_, s.reportsOnly_resultLanded site o.slot o.acc _ _⟩

theorem exec_matrixComplete {r : List MOp} (hu : (s.tileAt site).unit = o :: r) (hs : o.started = true) (hk : o.kind ≠ 2) :
    exec (.matrixComplete site) s = .next ((s.setTileAt site { s.tileAt site with unit := r }).mPerform site o) := by
  show execMatrixComplete site s = _
  simp only [execMatrixComplete, hu]
  exact if_pos ⟨hs, hk⟩

/-- Settles O17: the slot that leaves the unit holds `kSteps` of its accumulator, element by element a fold. -/
theorem matrixMultiply : Obligations.MatrixMultiply := by
  intro site s o r hu hs hk hacc s0
  obtain ⟨poison, hrep⟩ := s0.reportsOnly_mPerform_multiply site hk
  have hslot := (hrep.slotAt site o.slot).trans (State.slotAt_setSlotAt_same ..)
  refine ⟨_, exec_matrixComplete hu hs (by omega), ?unit, fun i hi j hj => ⟨?element, fun n _ hn => ?others⟩⟩
  case unit => exact (hrep.unit site).trans (congrArg Tile.unit (State.tileAt_setTileAt_same ..))
  case element =>
    rw [hslot, Slot.multiplied, Slot.accOf_setAccPoison, Slot.accOf_setApr, Slot.accOf_setAcc_same _ _ hacc, accGet_kSteps s0 site o hi hj]
    rfl
  case others =>
    rw [hslot, Slot.multiplied, Slot.accOf_setAccPoison, Slot.accOf_setApr, Slot.accOf_setAcc_other _ _ (Ne.symm hn)]
    rfl

/-! ### An MMAG that ends (R175) -/

theorem State.mmagOp_eq_some (h : s.mmagOp site slot = some o) : o.kind = 2 ∧ o.slot = slot := by
  rw [State.mmagOp] at h
  split at h
  · split at h
    · rename_i ho
      obtain ⟨hkind, hslot, -⟩ := ho
      cases h
      exact ⟨hkind, hslot⟩
    · cases h
  · cases h

/-- Byte p of the row of B that the next k-step of an MMAG uses, from the parts that have arrived. -/
def MmagRun.rowByte (r : MmagRun) (o : MOp) (p : Nat) : Byte :=
  ((r.rows.filter (fun e => decide (e.1 = o.k))).findSome? (fun e =>
    if e.2.1 ≤ (bRow o o.k).1 + p ∧ (bRow o o.k).1 + p < e.2.1 + e.2.2.length then e.2.2[(bRow o o.k).1 + p - e.2.1]? else none)).getD 0

/-- The accumulator after an MMAG's k-step on the row that has arrived. -/
def State.rowFolded (s : State) (site slot : Nat) (o : MOp) (r : MmagRun) : Vector (BitVec 2048) 32 :=
  kStep o (fun i => s.aElem site o i o.k) (bElem o (r.rowByte o)) ((s.slotAt site slot).accOf o.acc)

/-- The unit's entry of an MMAG after a k-step. -/
def MOp.stepped (o : MOp) (ue : Option Nat) : MOp := { o with k := o.k + 1, ue := ue }

/-- One k-step of the MMAG at issue writes its entry of the unit and one accumulator of its slot. -/
theorem State.mmagStep_frame (s : State) (o : MOp) (r : MmagRun) :
    (s.mmagStep s.iss.site s.iss.slot o r).iss = s.iss ∧
    (∃ ue, (s.mmagStep s.iss.site s.iss.slot o r).curTile.unit = o.stepped ue :: s.curTile.unit.tail) ∧
    ∀ n, (s.mmagStep s.iss.site s.iss.slot o r).cur.accOf n = (s.cur.setAcc o.acc (s.rowFolded s.iss.site s.iss.slot o r)).accOf n := by
  have hrep : ∃ ue x, (∀ n, x.accOf n = (s.cur.setAcc o.acc (s.rowFolded s.iss.site s.iss.slot o r)).accOf n) ∧
      ((s.setCurTile { s.curTile with unit := o.stepped ue :: s.curTile.unit.tail }).setCur x).ReportsOnly (s.mmagStep s.iss.site s.iss.slot o r) :=
    ⟨_, _, by intro n; rfl, ((s.reportsOnly_mendAcc s.iss.site s.iss.slot o.acc).setTileAt ..).setSlotAt ..⟩
  obtain ⟨ue, x, hx, hrep⟩ := hrep
  refine ⟨hrep.iss, ⟨ue, hrep.curTile_unit.trans (congrArg Tile.unit (State.tileAt_setTileAt_same ..))⟩, fun n => ?_⟩
  rw [hrep.cur, State.cur_setCur, hx]

/-- An MMAG that leaves the unit clears its progress register and changes no accumulator (R170, R175). -/
theorem State.mPerform_gather_frame (s : State) (hkind : o.kind = 2) (hsite : site = s.iss.site) (hslot : o.slot = s.iss.slot) (hacc : o.acc < 4) :
    (s.mPerform site o).curTile.unit = s.curTile.unit ∧ (s.mPerform site o).cur.sys.apr.toList.getD o.acc 0 = 0 ∧
    ∀ n, (s.mPerform site o).cur.accOf n = s.cur.accOf n := by
  obtain ⟨poison, hrep⟩ := s.reportsOnly_mPerform_gather site hkind
  rw [hslot, hsite] at hrep
  rw [hsite]
  have hcur : (s.mPerform s.iss.site o).cur = (s.cur.setApr o.acc 0).setAccPoison o.acc poison := hrep.cur.trans (State.cur_setCur ..)
  refine ⟨hrep.curTile_unit, ?apr, fun n => ?acc⟩
  case apr =>
    rw [hcur]
    exact Slot.apr_setApr_same s.cur 0 hacc
  case acc => rw [hcur, Slot.accOf_setAccPoison, Slot.accOf_setApr]

/-- The state in which a held MMAG has performed its last k-step and has left the unit; its run is not yet forgotten. -/
def State.mmagLeft (s : State) (o : MOp) (r : MmagRun) : State :=
  let s0 := s.mmagStep s.iss.site s.iss.slot o r
  (s0.setCurTile { s0.curTile with unit := s0.curTile.unit.tail }).mPerform s.iss.site (s0.curTile.unit.headD o)

section
variable {r : MmagRun} (hm : s.cur.mmag = some r) (hstop : r.stopped = none) (hop : s.mmagOp s.iss.site s.iss.slot = some o)
  (hk : Shp.k o.shape ≤ o.k + 1)

include hm hstop hop hk

theorem effMmag_last : effMmag f s = .ok ((s.mmagLeft o r).setCur { (s.mmagLeft o r).cur with mmag := none }) := by
  simp only [effMmag, hm, hstop, hop]
  exact if_pos hk

theorem waitMmag_last (hin : rowIn o r = true) (hbad : rowBad r o.k = none) : waitMmag f s = none := by
  simp [waitMmag, waitMmagRun, hm, hstop, hop, hk, hin, hbad]

end

theorem State.mmagLeft_frame (hop : s.mmagOp s.iss.site s.iss.slot = some o) (hacc : o.acc < 4) (r : MmagRun) :
    (s.mmagLeft o r).curTile.unit = s.curTile.unit.tail ∧ (s.mmagLeft o r).cur.sys.apr.toList.getD o.acc 0 = 0 ∧
    ∀ n, (s.mmagLeft o r).cur.accOf n = (s.cur.setAcc o.acc (s.rowFolded s.iss.site s.iss.slot o r)).accOf n := by
  obtain ⟨hkind, hslot⟩ := State.mmagOp_eq_some hop
  obtain ⟨hiss, ⟨ue, hunit⟩, haccs⟩ := s.mmagStep_frame o r
  rw [State.mmagLeft]
  generalize s.mmagStep s.iss.site s.iss.slot o r = s0 at hiss hunit haccs ⊢
  dsimp only
  rw [hunit, List.tail_cons, List.headD_cons]
  have hsite : s.iss.site = (s0.setCurTile { s0.curTile with unit := s.curTile.unit.tail }).iss.site := congrArg Iss.site hiss.symm
  obtain ⟨hunit1, hapr, haccs1⟩ := State.mPerform_gather_frame (s0.setCurTile { s0.curTile with unit := s.curTile.unit.tail })
    (o := o.stepped ue) hkind hsite (hslot.trans (congrArg Iss.slot hiss.symm)) hacc
  exact ⟨hunit1.trans (congrArg Tile.unit (State.tileAt_setTileAt_same ..)), hapr, fun n => (haccs1 n).trans (haccs n)⟩

/-- Settles O16: a held MMAG that waits no longer ends in `mmagLeft`, with the last `kStep` of its accumulator. -/
theorem matrixGatherEnds : Obligations.MatrixGatherEnds := by
  intro h f s r o hg hm hstop hop hk hin hbad hacc at_ byte
  obtain ⟨hunit, hapr, haccs⟩ := State.mmagLeft_frame hop hacc r
  have hexec : exec (.mmag h f) s = .next ((s.mmagLeft o r).setCur { (s.mmagLeft o r).cur with mmag := none }) :=
    asStepW_ok (wait := waitMmag f) (eff := effMmag f) hg (waitMmag_last hm hstop hop hk hin hbad) (effMmag_last hm hstop hop hk)
  generalize s.mmagLeft o r = t at hunit hapr haccs hexec
  refine ⟨_, hexec, ?_⟩
  rw [State.cur_setCur]
  refine ⟨rfl, hunit, hapr, fun i hi j hj => ?element, fun n _ hn => ?others⟩
  case element =>
    exact (congrArg (accGet · i j) ((haccs o.acc).trans (Slot.accOf_setAcc_same _ _ hacc))).trans (accGet_kStep _ _ _ _ hi hj)
  case others => exact (haccs n).trans (Slot.accOf_setAcc_other _ _ (Ne.symm hn))

/-! ### Syllables that enter the unit, and checks that fail (R165, R166, R292) -/

theorem State.takeQuantum_iss (s : State) : s.takeQuantum.iss = s.iss := by
  rw [State.takeQuantum]
  dsimp only
  split
  · exact (s.slewOnly_leaveSlew ..).1
  · split <;> rfl

theorem firstHold_eq_none {a b : Option Hold} (ha : a = none) (hb : b = none) : firstHold [a, b] = none := by
  rw [ha, hb]
  rfl

section
variable {kind acc ty : Nat} {k : TrapInfo}

theorem mulAct_enters (hc : s.mCheck (s.mOp kind f.d.toNat f 0) f.c.toNat (f.t.toNat % 4) (f.t.toNat / 4 % 4) = none) :
    mulAct kind f s = mIssue (s.mOp kind f.d.toNat f 0) s.takeQuantum := by
  rw [mulAct, hc]

theorem mulAct_trap (hc : s.mCheck (s.mOp kind f.d.toNat f 0) f.c.toNat (f.t.toNat % 4) (f.t.toNat / 4 % 4) = some k) :
    mulAct kind f s = .trap k := by
  rw [mulAct, hc]

theorem scratchAct_enters (hc : s.mCheck (s.mOp kind acc f ty) 0 0 0 = none) :
    scratchAct kind acc ty f s = mIssue (s.mOp kind acc f ty) s := by
  rw [scratchAct, hc]

/-- A multiply whose checks fail does not wait for room in the unit. -/
theorem waitMultiplyUnit_trap (hc : s.mCheck (s.mOp kind f.d.toNat f 0) f.c.toNat (f.t.toNat % 4) (f.t.toNat / 4 % 4) = some k) :
    waitMultiplyUnit kind f s = none := by
  rw [waitMultiplyUnit, hc]
  rfl

theorem exec_enters {i : Instr} {wait : State → Option Hold} {eff : State → Act} (hg : s.guard h = true) (hi : exec i s = asStepW h wait eff s)
    (hw : wait s = none) (quantum : Bool) (he : eff s = mIssue o (if quantum then s.takeQuantum else s)) :
    ∃ t, exec i s = .next t ∧ t.iss.mops = s.iss.mops ++ [o] ∧ t = (if quantum then s.takeQuantum else s).setIss t.iss := by
  have hiss : (if quantum then s.takeQuantum else s).iss = s.iss := by
    cases quantum with
    | true => exact s.takeQuantum_iss
    | false => rfl
  refine ⟨_, hi.trans (asStepW_ok hg hw he), ?_, rfl⟩
  exact congrArg (fun x : Iss => x.mops ++ [o]) hiss

end

/-- Settles O14: each syllable's effect is to hand its operation to the unit with this bundle. -/
theorem matrixIssue : Obligations.MatrixIssue := by
  intro h f s hg mul enters passes
  refine ⟨fun hw hc => ?mma, fun hw hc => ?mmat, fun hw => ?mzero, fun hw hc => ?mcb, fun hw hc => ?macld, fun hw hc => ?macst,
    fun hw hc => ?macadd, fun hfree => ?mwait⟩
  case mma => exact exec_enters (eff := effMma f) hg rfl hw true (mulAct_enters hc)
  case mmat => exact exec_enters (eff := effMmat f) hg rfl hw true (mulAct_enters hc)
  case mzero => exact exec_enters (eff := effMzero f) hg rfl hw false rfl
  case mcb => exact exec_enters (eff := effMcb f) hg rfl hw false (scratchAct_enters hc)
  case macld => exact exec_enters (eff := effMacld f) hg rfl hw false (scratchAct_enters hc)
  case macst => exact exec_enters (eff := effMacst f) hg rfl hw false (scratchAct_enters hc)
  case macadd => exact exec_enters (eff := effMacadd f) hg rfl hw false (scratchAct_enters hc)
  case mwait =>
    exact asStepW_ok (wait := waitMwait f) (eff := effMwait f) hg (if_neg (by rw [hfree]; decide)) rfl

/-! ### Checks (R163, R165, R173) -/

theorem effMshape_ok (hv : (s.readS 32 f.a).getLsbD 63 = false ∧ Shp.typeOk (Shp.atype (s.readS 32 f.a)) = true ∧
    Shp.typeOk (Shp.btype (s.readS 32 f.a)) = true) : effMshape f s = .ok (s.setCur { s.cur with f := { s.cur.f with
      h := s.cur.f.h.setIfInBounds f.d.toNat (s.readS 32 f.a), hValid := s.cur.f.hValid.setIfInBounds f.d.toNat true } }) :=
  if_neg (by
    obtain ⟨h63, ha, hb⟩ := hv
    rw [h63, ha, hb]
    decide)

theorem effMshape_trap (hv : ¬ ((s.readS 32 f.a).getLsbD 63 = false ∧ Shp.typeOk (Shp.atype (s.readS 32 f.a)) = true ∧
    Shp.typeOk (Shp.btype (s.readS 32 f.a)) = true)) : effMshape f s = .trap ⟨.badshape, 1, s.readS 32 f.a⟩ :=
  if_pos (by simpa [Decidable.imp_iff_not_or, or_assoc] using hv)

section
variable {k : TrapInfo} (hm : s.cur.mmag = none)
  (hc : s.mCheck (s.mOp 2 f.d.toNat f 0) f.c.toNat (f.t.toNat % 4) (f.t.toNat / 4 % 4) = some k)

include hm hc

theorem effMmag_trap : effMmag f s = .trap k := by
  simp only [effMmag, hm, hc]

theorem waitMmag_trap (hw : waitMultiply f s = none) : waitMmag f s = none := by
  have hrun : waitMmagRun f s = none := by
    simp only [waitMmagRun, hm, hc]
    rfl
  rw [waitMmag, hm]
  exact firstHold_eq_none hw hrun

end

/-- Settles O15: a check that fails ends the wait for the unit, and its trap is the syllable's effect. -/
theorem matrixChecks : Obligations.MatrixChecks := by
  intro h f s hg v ok fails
  refine ⟨fun hv => ?shape, fun hv => ?badShape, fun k hk => ?mma, fun k hk => ?mmat, fun k hm hk => ?mmag⟩
  case shape => exact asStep_ok (eff := effMshape f) hg (effMshape_ok hv)
  case badShape => exact asStep_trap (eff := effMshape f) hg (effMshape_trap hv)
  case mma =>
    exact asStepW_trap (wait := waitMma f) (eff := effMma f) hg (firstHold_eq_none hk.1 (waitMultiplyUnit_trap hk.2)) (mulAct_trap hk.2)
  case mmat =>
    exact asStepW_trap (wait := waitMmat f) (eff := effMmat f) hg (firstHold_eq_none hk.1 (waitMultiplyUnit_trap hk.2)) (mulAct_trap hk.2)
  case mmag => exact asStepW_trap (wait := waitMmag f) (eff := effMmag f) hg (waitMmag_trap hm hk.2 hk.1) (effMmag_trap hm hk.2)

end Sys2Proof.Machine
end

section
/-! PROOFS. Syllables of names: subscriptions (O26), publications, pins and LSENDs (O27). -/

namespace Sys2Proof.Machine

variable {s t u : State} {h : Hdr} {f : NamF}

/-! ### A subscription that ends (R187) -/

/-- `t` has the memories of `s`, every message that is under way in `s`, and the same bundle at issue. -/
structure State.Stays (s t : State) : Prop extends s.Keeps t where
  iss : t.iss = s.iss

theorem State.Stays.of_eq (hm : t.mem = s.mem) (hs : t.scratch = s.scratch) (ha : t.agenda = s.agenda) (hi : t.iss = s.iss) : s.Stays t :=
  ⟨.of_eq hm hs ha, hi⟩

theorem State.Stays.refl (s : State) : s.Stays s := .of_eq rfl rfl rfl rfl

theorem State.Stays.trans (h : s.Stays t) (k : t.Stays u) : s.Stays u := ⟨h.toKeeps.trans k.toKeeps, k.iss.trans h.iss⟩

theorem State.Stays.foldl {α : Type} {f : State → α → State} (hf : ∀ (s : State) a, s.Stays (f s a)) (l : List α) (s : State) :
    s.Stays (l.foldl f s) :=
  List.foldlRecOn l f (.refl s) (fun t h a _ => h.trans (hf t a))

theorem State.stays_setSlotAt (s : State) (site slot : Nat) (x : Slot) : s.Stays (s.setSlotAt site slot x) := .of_eq rfl rfl rfl rfl
theorem State.stays_setTileAt (s : State) (site : Nat) (x : Tile) : s.Stays (s.setTileAt site x) := .of_eq rfl rfl rfl rfl
theorem State.stays_sendPort (s : State) (site ctx chan : Nat) (ev : Instr) : s.Stays (s.sendPort site ctx chan ev) := ⟨s.keeps_append _, rfl⟩

theorem State.stays_withdraw (s : State) (site slot n : Nat) (moving : Bool) : s.Stays (s.withdraw site slot n moving) := by
  rw [State.withdraw]
  split
  · exact State.stays_sendPort ..
  · exact State.stays_setTileAt ..

theorem State.stays_scratchForget (s : State) (site slot p n : Nat) : s.Stays (s.scratchForget site slot p n) := by
  refine .foldl (fun t e => ?_) _ s
  split
  · exact .of_eq rfl rfl rfl rfl
  · exact .refl t

theorem State.stays_freeAreas (s : State) (site slot : Nat) : s.Stays (s.freeAreas site slot) := by
  refine .foldl (fun t n => ?_) _ s
  dsimp only
  split
  · exact (t.stays_setSlotAt ..).trans (State.stays_sendPort ..)
  · exact .refl t

theorem State.stays_markBusy (s : State) (site : Nat) : s.Stays (s.markBusy site) := by
  rw [State.markBusy]
  split
  · exact .refl s
  · exact .of_eq rfl rfl rfl rfl

theorem State.stays_rejoinFrom (s : State) (site slot : Nat) (x : Slot) : s.Stays (s.rejoinFrom site slot x) := by
  rw [State.rejoinFrom]
  split
  · exact ((s.stays_setTileAt ..).trans (State.stays_setSlotAt ..)).trans (State.stays_markBusy ..)
  · exact .refl s

theorem State.stays_endSub (s : State) (site slot n : Nat) (withdraw : Bool) : s.Stays (s.endSub site slot n withdraw) := by
  have hw : s.Stays (if withdraw then s.withdraw site slot n false else s) := by
    split
    · exact s.stays_withdraw ..
    · exact .refl s
  rw [State.endSub]
  refine .trans ?_ (((State.stays_setSlotAt ..).trans (State.stays_freeAreas ..)).trans (State.stays_rejoinFrom ..))
  split
  · exact hw.trans (State.stays_scratchForget ..)
  · exact hw

theorem State.endSub_subAt (s : State) (site slot : Nat) {n : Nat} (hn : n < 16) (withdraw : Bool) :
    ((s.endSub site slot n withdraw).slotAt site slot).subAt n = SubSlot.idle := by
  have hset (t : State) : ((t.setSub site slot n SubSlot.idle).slotAt site slot).subAt n = SubSlot.idle := by
    rw [State.slotAt_setSub, Slot.subAt_setSub_same _ _ hn]
  rw [State.endSub, Slot.subAt_congr (State.rejoinFrom_sub ..), State.freeAreas_subAt (by rw [hset]; decide), hset]

/-- A slot of the bundle at issue whose subscription ends is IDLE. -/
theorem State.endSub_cur_subAt (s : State) {n : Nat} (hn : n < 16) (withdraw : Bool) :
    (s.endSub s.iss.site s.iss.slot n withdraw).cur.subAt n = SubSlot.idle := by
  rw [State.cur, (s.stays_endSub ..).iss, State.endSub_subAt _ _ _ hn]

/-! ### SUB, UNSUB and NPOLL (R208, R212) -/

theorem waitSubscribe_eq_none (h : subCheck f s ≠ none ∨ s.curTile.withheld.length < 64) : waitSubscribe f s = none := by
  refine if_neg fun ⟨hc, hl⟩ => ?_
  rcases h with h | h
  · exact h (Option.isNone_iff_eq_none.mp hc)
  · exact absurd h (Nat.not_lt.mpr hl)

theorem effSubscribe_trap {k : TrapInfo} (hc : subCheck f s = some k) : effSubscribe f s = .trap k := by
  rw [effSubscribe, hc]

/-- A SUB whose checks hold arms its slot and sends the subscription by the tile's port. -/
theorem effSubscribe_ok (hc : subCheck f s = none) : ∃ t m, effSubscribe f s = .ok t ∧
    t.cur.subAt f.s.toNat = { SubSlot.idle with st := .armed, name := s.nameOf f, land := (s.readS 32 f.a).toNat, bytes := (s.readS 24 f.b).toNat,
                                                persist := f.f.getLsbD 0 } ∧
    t.agenda = s.agenda ++ [⟨s.time, linkChan 0 s.iss.site .tile s.cur.sys.ctxid (s.nameOf f), .subAtRouter s.iss.site .tile m, none,
      [⟨s.iss.site, s.cur.sys.ctxid, 64, 1⟩], [], []⟩] ∧
    m.name = s.nameOf f ∧ m.site = s.iss.site ∧ m.slot = s.iss.slot ∧ m.sub = f.s.toNat := by
  have harmed (w : SubSlot) : (s.setCur (s.cur.setSub f.s.toNat w)).cur.subAt f.s.toNat = w := by
    rw [State.cur_setCur, Slot.subAt_setSub_same _ _ f.s.isLt]
  rw [effSubscribe, hc]
  refine ⟨_, _, rfl, harmed _, rfl, ?_, rfl, rfl, rfl⟩
  exact congrArg SubSlot.name (harmed _)

theorem effUnsub_idle (hst : (s.cur.subAt f.s.toNat).st = .idle) : effUnsub f s = .ok s := by
  simp only [effUnsub, hst]

theorem effUnsub_ends (hst : (s.cur.subAt f.s.toNat).st ≠ .idle) :
    ∃ withdraw, effUnsub f s = .ok (s.endSub s.iss.site s.iss.slot f.s.toNat withdraw) := by
  rw [effUnsub]
  split
  · exact absurd ‹_› hst
  · exact ⟨_, rfl⟩
  · exact ⟨_, rfl⟩

/-- What NPOLL of a slot answers. -/
def State.polled (s : State) (f : NamF) : State := s.selfReply (dstS f.a) (BitVec.ofNat 1024 (s.cur.subAt f.s.toNat).poll) .plain

theorem effNpollAck_reports (hl : (s.cur.subAt f.s.toNat).st ≠ .landed) (hf : (s.cur.subAt f.s.toNat).st ≠ .failed) :
    effNpollAck f s = .ok (s.polled f) := by
  rw [effNpollAck]
  dsimp only
  split
  · exact absurd ‹_› hl
  · exact absurd ‹_› hf
  · rfl

/-- Areas that become free leave a slot as it has just been set, unless that waits for space. -/
theorem State.cur_subAt_freeAreas_setSub (s : State) {n : Nat} (hn : n < 16) {w : SubSlot} (hw : w.st ≠ .waitspace) (ctx chan : Nat) (ev : Instr) :
    (((s.setSub s.iss.site s.iss.slot n w).sendPort s.iss.site ctx chan ev).freeAreas s.iss.site s.iss.slot).cur.subAt n = w := by
  have hset : (((s.setSub s.iss.site s.iss.slot n w).sendPort s.iss.site ctx chan ev).slotAt s.iss.site s.iss.slot).subAt n = w := by
    rw [State.slotAt_sendPort, State.slotAt_setSub, Slot.subAt_setSub_same _ _ hn]
  rw [State.cur, (State.stays_freeAreas ..).iss]
  exact (State.freeAreas_subAt (by rw [hset]; exact hw)).trans hset

/-- The acknowledgement of a persistent slot that has LANDED arms it again (R187). -/
theorem effNpollAck_rearms (hl : (s.cur.subAt f.s.toNat).st = .landed) (hp : (s.cur.subAt f.s.toNat).persist = true) :
    ∃ t, effNpollAck f s = .ok t ∧ (t.cur.subAt f.s.toNat).st = .armed ∧ (t.cur.subAt f.s.toNat).name = (s.cur.subAt f.s.toNat).name := by
  have hcur := (s.polled f).cur_subAt_freeAreas_setSub f.s.isLt
    (w := { s.cur.subAt f.s.toNat with st := .armed, size := 0, recv := none }) (by simp)
  simp only [effNpollAck, hl]
  exact ⟨_, if_pos hp, (congrArg SubSlot.st (hcur ..)).trans rfl, (congrArg SubSlot.name (hcur ..)).trans rfl⟩

theorem effNpollAck_ends
    (h : ((s.cur.subAt f.s.toNat).st = .landed ∧ (s.cur.subAt f.s.toNat).persist = false) ∨ (s.cur.subAt f.s.toNat).st = .failed) :
    ∃ withdraw, effNpollAck f s = .ok ((s.polled f).endSub s.iss.site s.iss.slot f.s.toNat withdraw) := by
  rcases h with ⟨hl, hp⟩ | hf
  · simp only [effNpollAck, hl]
    exact ⟨false, if_neg (by rw [hp]; decide)⟩
  · simp only [effNpollAck, hf]
    exact ⟨true, rfl⟩

/-- Settles O26: each syllable's effect, by the state of its slot. -/
theorem subscriptions : Obligations.Subscriptions := by
  intro h f s hg n u polled
  refine ⟨fun hc hl => ?sub, fun k hc => ?subTrap, fun hi => ?unsubIdle, fun hi => ?unsub, asStep_ok (eff := effNpoll f) hg rfl,
    asStep_ok (eff := effNpollInj f) hg rfl, fun hl hf => ?ack, fun hl hp => ?ackPersistent, fun he => ?ackEnds⟩
  case sub =>
    obtain ⟨t, m, he, hrest⟩ := effSubscribe_ok hc
    exact ⟨t, m, asStepW_ok (wait := waitSubscribe f) hg (waitSubscribe_eq_none (.inr hl)) he, hrest⟩
  case subTrap =>
    exact asStepW_trap (wait := waitSubscribe f) hg (waitSubscribe_eq_none (.inl (by rw [hc]; nofun))) (effSubscribe_trap hc)
  case unsubIdle => exact asStep_ok (eff := effUnsub f) hg (effUnsub_idle hi)
  case unsub =>
    obtain ⟨w, he⟩ := effUnsub_ends hi
    have hstays := s.stays_endSub s.iss.site s.iss.slot n w
    exact ⟨_, asStep_ok (eff := effUnsub f) hg he, s.endSub_cur_subAt f.s.isLt w, hstays.mem, hstays.scratch⟩
  case ack => exact asStep_ok (eff := effNpollAck f) hg (effNpollAck_reports hl hf)
  case ackPersistent =>
    obtain ⟨t, he, hrest⟩ := effNpollAck_rearms hl hp
    exact ⟨t, asStep_ok (eff := effNpollAck f) hg he, hrest⟩
  case ackEnds =>
    obtain ⟨w, he⟩ := effNpollAck_ends he
    exact ⟨_, asStep_ok (eff := effNpollAck f) hg he, (s.polled f).endSub_cur_subAt f.s.isLt w⟩

/-! ### Publications (R209, R210, R387) -/

/-- A slot with its counts of writes on their way set aside (R358). -/
def Slot.acksApart (x : Slot) : Slot := { x with ackC := 0, ackCR := 0 }

/-- From `s` to `t` no slot has changed but in its counts of writes on their way, and the bundle at issue is the same. -/
def State.AcksOnly (s t : State) : Prop := t.iss = s.iss ∧ ∀ site slot, (t.slotAt site slot).acksApart = (s.slotAt site slot).acksApart

theorem State.AcksOnly.refl (s : State) : s.AcksOnly s := ⟨rfl, fun _ _ => rfl⟩

theorem State.AcksOnly.trans (h : s.AcksOnly t) (k : t.AcksOnly u) : s.AcksOnly u :=
  ⟨k.1.trans h.1, fun site slot => (k.2 site slot).trans (h.2 site slot)⟩

theorem State.acksOnly_setTileAt (s : State) (site : Nat) (x : Tile) : s.AcksOnly (s.setTileAt site x) := .refl s
theorem State.acksOnly_sendMemAt (s : State) (site chan : Nat) (r : MemReq) : s.AcksOnly (s.sendMemAt site chan r) := .refl s

theorem State.acksOnly_countC (s : State) (site slot : Nat) (far : Bool) : s.AcksOnly (s.countC site slot far) := by
  refine ⟨rfl, fun a b => ?_⟩
  by_cases hk : slotKey a b = slotKey site slot
  · rw [State.slotAt, State.slotAt, hk]
    refine (congrArg Slot.acksApart (State.slotAt_setSlotAt_same ..)).trans ?_
    cases far <;> rfl
  · exact congrArg Slot.acksApart (State.slotAt_setSlotAt_other _ _ _ _ _ _ hk)

theorem State.acksOnly_writeBack (s : State) (site : Nat) (l : Line) : s.AcksOnly (s.writeBack site l) := by
  rw [State.writeBack]
  dsimp only
  split
  · exact ((State.acksOnly_setTileAt ..).trans (State.acksOnly_countC ..)).trans (State.acksOnly_sendMemAt ..)
  · exact (State.acksOnly_setTileAt ..).trans (State.acksOnly_sendMemAt ..)

theorem State.acksOnly_beginRelease (s : State) (x : Scope) : s.AcksOnly (s.beginRelease x) := by
  refine List.foldlRecOn (motive := s.AcksOnly) _ _ (.refl s) (fun t h l _ => h.trans ?_)
  split
  · exact t.acksOnly_writeBack ..
  · exact .refl t

/-- What the slot at issue is once a publication has entered its queue, its counts of writes on their way apart. -/
theorem State.enqueue_cur (s : State) (q : Queued) (remote : Bool) : (s.enqueue q remote).cur.acksApart =
    { s.cur.acksApart with
      injq := s.cur.injq ++ [{ q with serial := s.cur.serial }], serial := (s.cur.serial + 1) % 65536
      awaitOrder := if q.lsend.isSome then s.cur.awaitOrder else s.cur.awaitOrder ++ [s.cur.serial]
      awaitSend := if q.lsend.isSome then s.cur.awaitSend + 1 else s.cur.awaitSend } := by
  rw [State.enqueue]
  split
  · obtain ⟨hi, hs⟩ := State.acksOnly_beginRelease (s.setCur _) _
    rw [State.cur, hi, hs]
    exact congrArg Slot.acksApart (State.cur_setCur ..)
  · exact congrArg Slot.acksApart (State.cur_setCur ..)

theorem waitQueue_eq_none {check : Option TrapInfo} (h : check ≠ none ∨ s.cur.injq.length < 8) : waitQueue check s = none := by
  refine if_neg fun ⟨hc, hl⟩ => ?_
  rcases h with h | h
  · exact h (Option.isNone_iff_eq_none.mp hc)
  · exact absurd h (Nat.not_lt.mpr hl)

theorem waitQueue_full {check : Option TrapInfo} (hc : check = none) (hl : 8 ≤ s.cur.injq.length) :
    waitQueue check s = some ⟨!(s.curTile.stalled.contains s.cur.sys.ctxid), id⟩ :=
  if_pos ⟨Option.isNone_iff_eq_none.mpr hc, hl⟩

/-- A publication that enters the queue takes the next serial and awaits an order notice; an LSEND awaits its end in its place (R209, R387). -/
theorem exec_enqueues {i : Instr} {wait : State → Option Hold} {eff : State → Act} (hg : s.guard h = true) (hi : exec i s = asStepW h wait eff s)
    (hw : wait s = none) {q : Queued} {remote : Bool} (he : eff s = .ok (s.enqueue q remote)) : ∃ t, exec i s = .next t ∧
    t.cur.injq = s.cur.injq ++ [{ q with serial := s.cur.serial }] ∧ t.cur.serial = (s.cur.serial + 1) % 65536 ∧
    t.cur.awaitOrder = (if q.lsend.isSome then s.cur.awaitOrder else s.cur.awaitOrder ++ [s.cur.serial]) ∧
    t.cur.awaitSend = (if q.lsend.isSome then s.cur.awaitSend + 1 else s.cur.awaitSend) ∧ t.scratch = s.scratch := by
  have hcur := s.enqueue_cur q remote
  exact ⟨_, hi.trans (asStepW_ok hg hw he), congrArg Slot.injq hcur, congrArg Slot.serial hcur, congrArg Slot.awaitOrder hcur,
    congrArg Slot.awaitSend hcur, (s.keeps_enqueue ..).scratch⟩

theorem pinAct_asks {ev : Nat → Nat → Word → Asker → Instr} (hn : spaceOf (s.nameOf f) < 0xF0) :
    pinAct f s ev = .ok ((s.setCur (s.cur.await (dstS f.a))).sendPort s.iss.site s.cur.sys.ctxid
      (homeChan 0 s.iss.site s.cur.sys.ctxid (s.nameOf f)) (ev s.cur.sys.ctxid s.cur.sys.incarn (s.nameOf f) ⟨s.iss.site, s.iss.slot, dstS f.a⟩)) :=
  if_neg (Nat.not_le.mpr hn)

theorem pinAct_trap {ev : Nat → Nat → Word → Asker → Instr} (hn : 0xF0 ≤ spaceOf (s.nameOf f)) :
    pinAct f s ev = .trap ⟨.nameSpace, 3, s.nameOf f⟩ := if_pos hn

theorem lsendCheck_nameSpace (hn : 0xF0 ≤ spaceOf (s.nameOf f)) : lsendCheck f s = some ⟨.nameSpace, 3, s.nameOf f⟩ := if_pos hn

/-- A check that fails ends the wait for the queue, and its trap is the syllable's effect. -/
theorem exec_queue_trap {i : Instr} {wait : State → Option Hold} {eff : State → Act} {check : Option TrapInfo} {k : TrapInfo}
    (hg : s.guard h = true) (hi : exec i s = asStepW h wait eff s) (hw : wait s = waitQueue check s) (hc : check = some k) (he : eff s = .trap k) :
    exec i s = .next (takeTrap k s) :=
  hi.trans (asStepW_trap hg (hw.trans (waitQueue_eq_none (.inl (by rw [hc]; nofun)))) he)

theorem exec_lsend_trap {k : TrapInfo} (hg : s.guard h = true) (hc : lsendCheck f s = some k) : exec (.lsend h f) s = .next (takeTrap k s) :=
  exec_queue_trap (i := .lsend h f) (wait := waitLsend f) (eff := effLsend f) hg rfl rfl hc (by rw [effLsend, hc])

/-- Settles O27: a syllable whose checks hold enters the queue where that has room; NHOLD and NRELS are one request in two forms. -/
theorem publications : Obligations.Publications := by
  intro h f s hg x b name a field queued asks
  refine ⟨fun hc hl => ?pub, fun k hc => ?pubTrap, fun hc hl => ?pubr, fun k hc => ?pubrTrap, fun hn => ⟨?nhold, ?nrels⟩,
    fun hn => ⟨?nholdTrap, ?nrelsTrap⟩, fun k hc => exec_lsend_trap hg hc, fun hn => exec_lsend_trap hg (lsendCheck_nameSpace hn),
    fun hc hl => ?held, fun hc hl => ?lsend⟩
  case pub =>
    obtain ⟨t, he, hq, hserial, horder, -, hscratch⟩ :=
      exec_enqueues (i := .pub h f) (wait := waitPub f) (eff := effPub f) hg rfl (waitQueue_eq_none (.inr hl)) (by rw [effPub, hc])
    exact ⟨t, he, hq, hserial, horder, hscratch⟩
  case pubr =>
    obtain ⟨t, he, hq, hserial, horder, -, hscratch⟩ :=
      exec_enqueues (i := .pubr h f) (wait := waitPubr f) (eff := effPubr f) hg rfl (waitQueue_eq_none (.inr hl)) (by rw [effPubr, hc])
    exact ⟨t, he, hq, hserial, horder, hscratch⟩
  case pubTrap => exact exec_queue_trap (i := .pub h f) (wait := waitPub f) (eff := effPub f) hg rfl rfl hc (by rw [effPub, hc])
  case pubrTrap => exact exec_queue_trap (i := .pubr h f) (wait := waitPubr f) (eff := effPubr f) hg rfl rfl hc (by rw [effPubr, hc])
  case nhold => exact asStep_ok (eff := effNhold f) hg (pinAct_asks hn)
  case nrels => exact asStep_ok (eff := effNrels f) hg (pinAct_asks hn)
  case nholdTrap => exact asStep_trap (eff := effNhold f) hg (pinAct_trap hn)
  case nrelsTrap => exact asStep_trap (eff := effNrels f) hg (pinAct_trap hn)
  case held =>
    exact ⟨_, asStepW_hold (wait := waitLsend f) (eff := effLsend f) hg (waitQueue_full hc hl)⟩
  case lsend =>
    obtain ⟨t, he, hq, -, horder, hsend, hscratch⟩ :=
      exec_enqueues (i := .lsend h f) (wait := waitLsend f) (eff := effLsend f) hg rfl (waitQueue_eq_none (.inr hl)) (by rw [effLsend, hc])
    have hfield (lo n : Nat) : (b.extractLsb' lo n).toNat = field lo n := by
      rw [BitVec.extractLsb'_toNat, Nat.shiftRight_eq_div_pow]
    rw [hfield, hfield, hfield] at hq
    exact ⟨t, he, hq, hsend, horder, hscratch⟩

end Sys2Proof.Machine
end

section
/-! PROOFS. Homes of names (O36): what they send, and what they keep while the overflow area is read and written. -/

namespace Sys2Proof.Machine

variable {s t u : State}

/-! ### What a home sends leaves every message under way (R188, R190, R195) -/

/-- What is under way stays under way. -/
theorem State.Keeps.mem_agenda {ev : Instr} (hs : ∃ p ∈ s.agenda, p.ev = ev) (h : s.Keeps t) : ∃ p ∈ t.agenda, p.ev = ev := by
  obtain ⟨p, hp, hev⟩ := hs
  exact ⟨p, h.agenda hp, hev⟩

theorem State.keeps_send (s : State) (chan : Nat) (ev : Instr) : s.Keeps (s.send chan ev) := s.keeps_append _
theorem State.keeps_setHome (s : State) (h : HomeName) : s.Keeps (s.setHome h) := .of_eq rfl rfl rfl
theorem State.keeps_setCtx (s : State) (c : Nat) (x : Ctx) : s.Keeps (s.setCtx c x) := .of_eq rfl rfl rfl

theorem State.keeps_unicast (s : State) (h : HomeName) (r : SubRec) (seq : Option Nat) (segs : List Seg) (pulled : Bool) :
    s.Keeps (s.unicast h r seq segs pulled) :=
  .ite (State.keeps_send ..) (.ite (State.keeps_send ..) (.foldl (fun t _ => t.keeps_send ..) segs s))

theorem State.keeps_serve (s : State) (ctx inc : Nat) (name : Word) (r : SubRec) (c : Copy) (pulled : Bool) :
    s.Keeps (s.serve ctx inc name r c pulled) :=
  .ite (State.keeps_setHome ..) (.ite ((State.keeps_setHome ..).trans (State.keeps_unicast ..)) ((State.keeps_setHome ..).trans (State.keeps_send ..)))

theorem State.keeps_serveHeld (s : State) (h : HomeName) (r : SubRec) (e : HeldEnt) (pulled : Bool) : s.Keeps (s.serveHeld h r e pulled) :=
  .ite (State.keeps_unicast ..) ((State.keeps_setHome ..).trans (State.keeps_send ..))

theorem State.keeps_serveNext (s : State) (ctx inc : Nat) (name : Word) (r : SubRec) : s.Keeps (s.serveNext ctx inc name r) := by
  have hcopy (h : HomeName) (c : Copy) : s.Keeps (if c.complete ∧ r.ready ∧ (s.homeName ctx inc name).mayShow r c.seq then
      (s.setHome h).serve ctx inc name r c else s) :=
    .ite ((State.keeps_setHome ..).trans (State.keeps_serve ..)) (.refl s)
  rw [State.serveNext]
  split
  · refine .ite ?_ (.ite ((State.keeps_setHome ..).trans (State.keeps_serveHeld ..)) (.refl s))
    split
    · exact hcopy _ _
    · exact .refl s
  · exact hcopy _ _
  · exact .refl s

theorem State.keeps_fallThrough (s : State) (ctx inc : Nat) (name : Word) : s.Keeps (s.fallThrough ctx inc name) := by
  rw [State.fallThrough]
  refine .ite (.refl s) (.ite (.ite (.refl s) (State.keeps_setCtx ..)) ?_)
  split
  · exact .refl s
  · exact (State.keeps_setHome ..).trans (State.keeps_append ..)

/-! ### A reinstall that finds nothing (R227) -/

theorem State.keeps_setInst (s : State) (uid : Nat) (i : Inst) : s.Keeps (s.setInst uid i) := .of_eq rfl rfl rfl

theorem State.keeps_countAway (s : State) (site slot : Nat) (still : Bool) : s.Keeps (s.countAway site slot still) := by
  rw [State.countAway]
  split
  · exact .of_eq rfl rfl rfl
  · exact .refl s

theorem State.keeps_giveQuantum (s : State) (dom : Nat) : s.Keeps (s.giveQuantum dom) := by
  rw [State.giveQuantum]
  split
  · exact (State.keeps_countAway ..).trans (State.keeps_setSlotAt ..)
  · exact .ite (.refl s) (.of_eq rfl rfl rfl)

theorem State.keeps_leaveSlew (s : State) (site slot : Nat) : s.Keeps (s.leaveSlew site slot) :=
  .ite (State.keeps_countAway ..) ((State.keeps_countAway ..).trans
    (.ite ((State.keeps_setSlotAt ..).trans (State.keeps_giveQuantum ..)) (State.keeps_setSlotAt ..)))

theorem State.keeps_clearEcc (s : State) (site slot : Nat) : s.Keeps (s.clearEcc site slot) := .ite (.refl s) (.of_eq rfl rfl rfl)

theorem State.keeps_stopIssue (s : State) (site slot : Nat) : s.Keeps (s.stopIssue site slot) := .ite (State.keeps_setTileAt ..) (.refl s)

theorem State.keeps_freeSlot (s : State) (site slot : Nat) : s.Keeps (s.freeSlot site slot) := by
  rw [State.freeSlot]
  refine .trans ?_ ((State.keeps_setSlotAt ..).trans ((State.keeps_stopIssue ..).trans (State.keeps_clearEcc ..)))
  refine .trans (.foldl (fun t n => ?_) _ s) (State.keeps_leaveSlew ..)
  exact .ite (.refl t) (t.stays_endSub ..).toKeeps

theorem State.keeps_reportError (s : State) (site : Nat) : s.Keeps (s.reportError site) := .ite (.refl s) (.of_eq rfl rfl rfl)

theorem State.keeps_detect (s : State) (site : Nat) (k : FKind) : s.Keeps (s.detect site k) := by
  have h : s.Keeps (if k = .ecclocal ∨ k = .eccl1 then s.reportError site else s) := .ite (s.keeps_reportError site) (.refl s)
  exact .ite (h.trans (State.keeps_setTileAt ..)) h

theorem State.keeps_faultSlot (s : State) (site slot : Nat) (k : FKind) (origin : Nat) (eval : Word) (addr : Nat) :
    s.Keeps (s.faultSlot site slot k origin eval addr) :=
  (s.keeps_setSlotAt ..).trans ((State.keeps_detect ..).trans (State.keeps_record ..))

theorem State.keeps_moveFailed (s : State) (m : SubMsg) : s.Keeps (s.moveFailed m) := by
  rw [State.moveFailed]
  split
  · refine .ite (.refl s) (.ite ?_ (State.keeps_faultSlot ..))
    exact (State.keeps_freeSlot ..).trans (State.keeps_setInst ..)
  · exact .refl s

/-! ### Memory as a home's walker reaches it (R200, R330, R338) -/

/-- `t` holds of every name what `s` holds, and has every message that is under way in `s`. -/
structure State.KeepsHomes (s t : State) : Prop where
  homes : t.homes = s.homes
  agenda : s.agenda ⊆ t.agenda

theorem State.KeepsHomes.of_eq (hh : t.homes = s.homes) (ha : t.agenda = s.agenda) : s.KeepsHomes t :=
  ⟨hh, by rw [ha]; exact List.Subset.refl _⟩

theorem State.KeepsHomes.refl (s : State) : s.KeepsHomes s := .of_eq rfl rfl

theorem State.KeepsHomes.trans (h : s.KeepsHomes t) (k : t.KeepsHomes u) : s.KeepsHomes u :=
  ⟨k.homes.trans h.homes, List.Subset.trans h.agenda k.agenda⟩

theorem State.KeepsHomes.foldl {α : Type} {f : State → α → State} (hf : ∀ (s : State) a, s.KeepsHomes (f s a)) (l : List α) (s : State) :
    s.KeepsHomes (l.foldl f s) :=
  List.foldlRecOn l f (.refl s) (fun t h a _ => h.trans (hf t a))

theorem State.KeepsHomes.ite {p : Prop} [Decidable p] (ht : s.KeepsHomes t) (hu : s.KeepsHomes u) : s.KeepsHomes (if p then t else u) := by
  split
  · exact ht
  · exact hu

theorem State.keepsHomes_send (s : State) (chan : Nat) (ev : Instr) : s.KeepsHomes (s.send chan ev) := ⟨rfl, List.subset_append_left ..⟩
theorem State.keepsHomes_drop (s : State) (c : Nat) : s.KeepsHomes (s.drop c) := .of_eq rfl rfl

theorem State.keepsHomes_record (s : State) (w : RecWho) (b : RecBody) : s.KeepsHomes (s.record w b) := .ite (.of_eq rfl rfl) (.of_eq rfl rfl)

theorem State.keepsHomes_hedgeCost (s : State) (c pa n : Nat) : s.KeepsHomes (s.hedgeCost c pa n) := by
  rw [State.hedgeCost]
  split
  · exact .of_eq rfl rfl
  · exact .refl s

theorem State.keepsHomes_granRecord (s : State) (ctx inc g : Nat) (k : FKind) : s.KeepsHomes (s.granRecord ctx inc g k) :=
  .ite (.refl s) (State.keepsHomes_record ..)

theorem State.keepsHomes_setGran (s : State) (m : KMap Granule) : s.KeepsHomes { s with gran := m } := .of_eq rfl rfl

theorem State.keepsHomes_foundUe (s : State) (ctx inc g h : Nat) : s.KeepsHomes (s.foundUe g (fun s => s.granRecord ctx inc h .hbmue)) :=
  .ite ((State.keepsHomes_granRecord ..).trans (State.keepsHomes_setGran ..)) (.refl s)

theorem State.keepsHomes_walked (s : State) (walker ctx inc : Nat) (r : WalkRes) : s.KeepsHomes (s.walked walker ctx inc r) := by
  have hcost : s.KeepsHomes (r.reads.foldl (fun s pa => s.hedgeCost ctx pa 8) s) := .foldl (fun t pa => t.keepsHomes_hedgeCost ..) _ s
  rw [State.walked]
  generalize r.reads.foldl (fun s pa => s.hedgeCost ctx pa 8) s = s0 at hcost ⊢
  refine hcost.trans ?_
  split
  · refine .trans ?_ (State.keepsHomes_foundUe ..)
    split
    · exact .ite (.refl s0) (.of_eq rfl rfl)
    · exact .refl s0
  · split
    · exact .ite (.refl s0) (.of_eq rfl rfl)
    · exact .refl s0

theorem State.keepsHomes_transFor (s : State) (agent ctx inc va kind : Nat) : s.KeepsHomes (s.transFor agent ctx inc va kind).1 := by
  rw [State.transFor]
  split
  · split
    · exact .refl s
    · exact State.keepsHomes_walked ..
  · dsimp only
    split
    · exact .of_eq rfl rfl
    · split
      · exact .refl s
      · exact (State.keepsHomes_walked ..).trans (.of_eq rfl rfl)

theorem State.keepsHomes_answer (s : State) (ctx inc : Nat) (who : Requester) (r : MemReply) : s.KeepsHomes (s.answer ctx inc who r) := by
  cases who with
  | ft hedge b => exact .ite (State.keepsHomes_send ..) (State.keepsHomes_send ..)
  | peer => exact .refl s
  | none => exact .refl s
  | _ => exact State.keepsHomes_send ..

theorem State.keepsHomes_remoteRecord (s : State) (r : MemReq) (k : FKind) : s.KeepsHomes (s.remoteRecord r k) := by
  refine .ite (.refl s) ?_
  split
  · exact .refl s
  · exact .refl s
  · exact .ite (State.keepsHomes_record ..) (State.keepsHomes_record ..)
  · exact .ite (State.keepsHomes_record ..) (State.keepsHomes_record ..)
  · exact .ite (State.keepsHomes_record ..) (.refl s)

theorem State.keepsHomes_remoteFail (s : State) (r : MemReq) (k : FKind) : s.KeepsHomes (s.remoteFail r k) := by
  rw [State.remoteFail]
  split
  · exact State.keepsHomes_answer ..
  · exact (State.keepsHomes_remoteRecord ..).trans (State.keepsHomes_answer ..)

theorem State.keepsHomes_egress {k d : Nat} {f : Flit} {own : Bool} (h : s.egress k d f own = some t) : s.KeepsHomes t := by
  rw [State.egress, Option.map_eq_some_iff] at h
  obtain ⟨j, -, rfl⟩ := h
  refine .ite (.of_eq rfl rfl) ?_
  cases own with
  | true => exact .of_eq rfl rfl
  | false => exact .of_eq rfl rfl

theorem State.keepsHomes_sendRemote (s : State) (r : MemReq) : s.KeepsHomes (s.sendRemote r) := by
  rw [State.sendRemote]
  split
  · exact State.keepsHomes_remoteFail ..
  · rename_i h
    exact (State.keepsHomes_egress h).trans (.of_eq rfl rfl)

theorem State.keepsHomes_granGood (s : State) (g : Nat) : s.KeepsHomes (s.granGood g) := .of_eq rfl rfl

theorem State.keepsHomes_mergeGran (s : State) (ctx inc la n : Nat) (poison : Bool) (g : Nat) : s.KeepsHomes (s.mergeGran ctx inc la n poison g) := by
  have hwhole : s.KeepsHomes (if poison then { s with gran := KMap.set s.gran g .poison } else s.granGood g) :=
    .ite (State.keepsHomes_setGran ..) (State.keepsHomes_granGood ..)
  refine .ite hwhole ?_
  split
  · exact hwhole
  · exact (State.keepsHomes_granRecord ..).trans (State.keepsHomes_setGran ..)

theorem State.keepsHomes_homeWrite (s : State) (ctx inc la : Nat) (bs : List Byte) (poison : Bool) :
    s.KeepsHomes (s.homeWrite ctx inc la bs poison) := by
  have hmerged : s.KeepsHomes ((granules la bs.length).foldl (fun s g => s.mergeGran ctx inc la bs.length poison g) s) :=
    .foldl (fun t g => t.keepsHomes_mergeGran ..) _ s
  exact hmerged.trans (.of_eq rfl rfl)

theorem State.keepsHomes_sysWriteGo (toll : Bool) (agent ctx inc : Nat) (bad : Nat → Bool) (l : List (Nat × Nat)) (bs : List Byte) (s : State) :
    s.KeepsHomes (s.sysWriteGo toll agent ctx inc bad l bs).1 := by
  induction l generalizing s bs with
  | nil => exact .refl s
  | cons e l ih =>
    have htrans := s.keepsHomes_transFor agent ctx inc e.1 1
    rw [State.sysWriteGo]
    generalize s.transFor agent ctx inc e.1 1 = p at htrans ⊢
    obtain ⟨s1, o⟩ := p
    refine htrans.trans ?_
    cases o with
    | waiting => exact .refl s1
    | fault => exact .refl s1
    | done t =>
      dsimp only
      split
      · split
        · exact .refl s1
        · split
          · exact State.keepsHomes_sendRemote ..
          · exact (State.keepsHomes_sendRemote ..).trans (ih ..)
      · split
        · exact State.keepsHomes_drop ..
        · refine .trans (.trans (.ite (s1.keepsHomes_hedgeCost ..) (.refl s1)) (State.keepsHomes_homeWrite ..)) (ih ..)

theorem State.keepsHomes_sysWrite (s : State) (agent ctx inc va : Nat) (bs : List Byte) (bad : Nat → Bool) (toll : Bool) :
    s.KeepsHomes (s.sysWrite agent ctx inc va bs bad toll).1 := by
  rw [State.sysWrite]
  split
  · exact .refl s
  · split
    · exact .refl s
    · exact State.keepsHomes_sysWriteGo ..

/-! ### Overflow slots that are freed (R193, R200) -/

theorem State.keepsHomes_freeSlots (ctx inc walker : Nat) (l : List Nat) (s : State) : s.KeepsHomes (s.freeSlots ctx inc walker l).1 := by
  induction l generalizing s with
  | nil => exact .refl s
  | cons i l ih => exact (State.keepsHomes_sysWrite ..).trans (ih _)

theorem State.keepsHomes_unstallCtx (s : State) (ctx rick : Nat) : s.KeepsHomes (s.unstallCtx ctx rick) := by
  rw [State.unstallCtx]
  split
  · exact .refl s
  · refine .ite (.refl s) (.ite (.of_eq rfl rfl) ?_)
    refine .trans (t := { s with ovflStall := KMap.del s.ovflStall ctx }) (.of_eq rfl rfl) ?_
    exact .foldl (fun t i => t.keepsHomes_send ..) _ _

/-- Where a page of the overflow area migrates, its slots are noted with the name to be freed later, and nothing else of it changes (R193, R335). -/
theorem State.freeOvfl_cases (s : State) (ctx inc : Nat) (name : Word) (slots : List Nat) : ∃ t, s.KeepsHomes t ∧
    (s.freeOvfl ctx inc name slots = t ∨ ∃ left, s.freeOvfl ctx inc name slots =
      (t.setHome { t.homeName ctx inc name with freeing := (t.homeName ctx inc name).freeing ++ left }).sendAt (t.time + 2000) 0
        (.spillReadBack ctx name freeKey)) := by
  rw [State.freeOvfl]
  split
  · exact ⟨s, .refl s, .inl rfl⟩
  · have hfree := State.keepsHomes_freeSlots ctx inc (s.homeWalker ctx name) slots s
    generalize s.freeSlots ctx inc (s.homeWalker ctx name) slots = p at hfree ⊢
    obtain ⟨s1, left⟩ := p
    refine ⟨if left.length < slots.length then s1.unstallCtx ctx (s.homeOf ctx name) else s1,
      hfree.trans (.ite (State.keepsHomes_unstallCtx ..) (.refl s1)), ?_⟩
    by_cases hl : left.isEmpty
    · exact .inl (if_pos hl)
    · exact .inr ⟨left, if_neg hl⟩

end Sys2Proof.Machine
end

section
/-! PROOFS. Events of a name's home (O36). -/

namespace Sys2Proof.Machine

variable {s t u : State}

/-! ### What a home holds of a name (R190, R193) -/

/-- What a home is found to hold of a name is kept under that name, and of that incarnation. -/
theorem State.homeName_key (s : State) (ctx inc : Nat) (name : Word) :
    (s.homeName ctx inc name).ctx = ctx ∧ (s.homeName ctx inc name).inc = inc ∧ (s.homeName ctx inc name).name = name := by
  rw [State.homeName]
  split
  · split
    · exact ⟨rfl, ‹_›, rfl⟩
    · exact ⟨rfl, rfl, rfl⟩
  · exact ⟨rfl, rfl, rfl⟩

theorem State.homeName_eq {k : HomeName} (hk : KMap.get? s.homes (homeKey k.ctx k.name) = some k) : s.homeName k.ctx k.inc k.name = k := by
  rw [State.homeName, hk]
  exact if_pos rfl

theorem State.freeOvfl_agenda (s : State) (ctx inc : Nat) (name : Word) (slots : List Nat) : s.agenda ⊆ (s.freeOvfl ctx inc name slots).agenda := by
  obtain ⟨t, ht, h | ⟨left, h⟩⟩ := s.freeOvfl_cases ctx inc name slots
  · rw [h]
    exact ht.agenda
  · rw [h]
    exact List.Subset.trans ht.agenda (List.subset_append_left ..)

/-- Held entries that end leave what their name has been set to: of it, only overflow slots that are still to be freed are noted. -/
theorem State.endHeld_home {h : HomeName} {ctx inc : Nat} {name : Word} {P : HeldEnt → Prop} {n : Int} (hctx : h.ctx = ctx) (hinc : h.inc = inc)
    (hname : h.name = name) (hheld : ∀ e ∈ h.held, P e) (hpins : h.sysPins = n) (gone : List HeldEnt) :
    ∃ k, KMap.get? ((s.setHome h).endHeld ctx inc name gone).homes (homeKey ctx name) = some k ∧ (∀ e ∈ k.held, P e) ∧ k.sysPins = n := by
  subst hctx hinc hname
  rw [State.endHeld]
  obtain ⟨t, ht, he | ⟨left, he⟩⟩ := (s.setHome h).freeOvfl_cases h.ctx h.inc h.name (gone.flatMap (fun e => e.spilled.map (·.slot)))
  all_goals
    have hget : KMap.get? t.homes (homeKey h.ctx h.name) = some h := by
      rw [ht.homes]
      exact KMap.get?_set_same ..
  · exact ⟨h, by rw [he, hget], hheld, hpins⟩
  · rw [he, State.homeName_eq hget]
    exact ⟨_, KMap.get?_set_same .., hheld, hpins⟩

/-! ### Subscriptions and reinstalls (R185, R188, R227) -/

/-- SUB_AT_HOME where the rick has room: the install notice is sent, whatever the home then answers with. -/
theorem exec_subAtHome {m : SubMsg} (hs : s.staleHome m.ctx m.inc m.name = false) (hf : s.failedRicks.contains (s.homeOf m.ctx m.name) = false)
    (hm : m.site < 6144) (hroom : (s.roomFor (s.homeOf m.ctx m.name) 0 1).2.ok = true) :
    ∃ u, exec (.subAtHome m) s = .next u ∧ ∃ p ∈ u.agenda, p.ev = .installNotice m false := by
  show ∃ u, execSubAtHome m s = .next u ∧ _
  rw [execSubAtHome, if_neg (by rw [hs]; decide), if_neg (by rw [hf]; decide)]
  generalize s.roomFor (s.homeOf m.ctx m.name) 0 1 = p at hroom ⊢
  obtain ⟨sr, room⟩ := p
  dsimp only at hroom ⊢
  rw [if_neg (by rw [hroom]; decide), if_pos hm]
  split
  · exact ⟨_, rfl, State.mem_agenda_send ..⟩
  · generalize hsend : State.send _ 0 (.installNotice m false) = s1
    have hsent : ∃ p ∈ s1.agenda, p.ev = .installNotice m false := hsend ▸ State.mem_agenda_send ..
    split
    · refine ⟨_, rfl, State.Keeps.mem_agenda hsent (.ite ?_ (.ite ?_ ?_))⟩
      · exact (State.keeps_setHome ..).trans (State.keeps_serveNext ..)
      · exact (State.keeps_setHome ..).trans (State.keeps_serve ..)
      · exact (State.keeps_setHome ..).trans (State.keeps_setHome ..)
    · exact ⟨_, rfl, State.Keeps.mem_agenda hsent (State.keeps_fallThrough ..)⟩

/-- REINSTALL_AT_HOME of a slot that the home knows, or for which it has room: the install notice is sent. -/
theorem exec_reinstallAtHome {m : SubMsg} (hs : s.staleHome m.ctx m.inc m.name = false) (hf : s.failedRicks.contains (s.homeOf m.ctx m.name) = false)
    (hroom : ((s.homeName m.ctx m.inc m.name).subs.find? (fun r => decide (r.uid = m.uid ∧ r.sub = m.sub ∧ 0 < m.uid))).isSome = true ∨
      (s.roomFor (s.homeOf m.ctx m.name) 0 1).2.ok = true) :
    ∃ u, exec (.reinstallAtHome m) s = .next u ∧ ∃ p ∈ u.agenda, p.ev = .installNotice m false := by
  show ∃ u, execReinstallAtHome m s = .next u ∧ _
  rw [execReinstallAtHome, if_neg (by rw [hs]; decide), if_neg (by rw [hf]; decide)]
  generalize (s.homeName m.ctx m.inc m.name).subs.find? (fun r => decide (r.uid = m.uid ∧ r.sub = m.sub ∧ 0 < m.uid)) = old at hroom ⊢
  have hok : (if old.isSome then (s, Room.rick) else s.roomFor (s.homeOf m.ctx m.name) 0 1).2.ok = true := by
    split
    · rfl
    · exact hroom.resolve_left ‹_›
  dsimp only
  generalize (if old.isSome then (s, Room.rick) else s.roomFor (s.homeOf m.ctx m.name) 0 1) = p at hok ⊢
  obtain ⟨sr, room⟩ := p
  dsimp only at hok ⊢
  rw [if_neg (by rw [hok]; decide)]
  generalize hsend : State.send _ 0 (.installNotice m false) = s1
  have hsent : ∃ p ∈ s1.agenda, p.ev = .installNotice m false := hsend ▸ State.mem_agenda_send ..
  split
  · exact ⟨_, rfl, State.Keeps.mem_agenda hsent (State.keeps_serveNext ..)⟩
  · split
    · refine ⟨_, rfl, State.Keeps.mem_agenda hsent (.trans ?_ (State.keeps_serveHeld ..))⟩
      exact .ite (.refl _) (State.keeps_setHome ..)
    · refine ⟨_, rfl, State.Keeps.mem_agenda hsent (.ite ?_ ?_)⟩
      · exact (State.keeps_setHome ..).trans (State.keeps_serve ..)
      · exact (State.keeps_setHome ..).trans (State.keeps_setHome ..)
    · refine ⟨_, rfl, State.Keeps.mem_agenda hsent (.ite (.refl _) (.ite ?_ ?_))⟩
      · exact State.keeps_fallThrough ..
      · exact State.keeps_moveFailed ..

/-! ### Publications and contributions (R190, R196, R198) -/

/-- SEGMENT_AT_HOME of a publication's first segment, no reduction being open or to be published, where the rick has room. -/
theorem exec_segmentAtHome {g : Seg} {port : Option Port} {s0 : State} {room : Room} (hs : s.staleHome g.ctx g.inc g.name = false)
    (hf : s.failedRicks.contains (s.homeOf g.ctx g.name) = false) (hi : g.idx = 0) (hr : (s.homeName g.ctx g.inc g.name).red = none)
    (hc : (s.homeName g.ctx g.inc g.name).closing = []) (hroom : s.roomFor (s.homeOf g.ctx g.name) g.bytes.length 1 = (s0, room))
    (hok : room.ok = true) : exec (.segmentAtHome port g) s = .next (s0.homeTake port g (room == .reserve)) := by
  show execSegmentAtHome port g s = _
  rw [execSegmentAtHome, if_neg (by rw [hs]; decide), if_neg (by rw [hf]; decide), if_neg (by simp [hr]), if_neg (by simp [hi]),
    if_neg (by simp [hc]), if_pos hi, hroom]
  exact if_neg (by rw [hok]; decide)

/-- CONTRIBUTION_AT_HOME of a first segment: it is refused with a record, or counted in the reduction that it finds open or opens. -/
theorem exec_contributionAtHome {g : Seg} {q : RedHdr} {r : RedOpen} (hs : s.staleHome g.ctx g.inc g.name = false)
    (hf : s.failedRicks.contains (s.homeOf g.ctx g.name) = false) (hq : g.red = some q) (hi : g.idx = 0)
    (hr : (s.homeName g.ctx g.inc g.name).red.getD (RedOpen.opened q g s.tick) = r) :
    (∀ e, r.refuses q g = some e → exec (.contributionAtHome g) s = .next ((s.nameRecord g.ctx g.inc e g.name).notifyOrder g)) ∧
    (∀ s1 room, r.refuses q g = none →
      s.roomFor (s.homeOf g.ctx g.name) ((r.take q g false 0).stored false - r.stored false)
        (if (s.homeName g.ctx g.inc g.name).red.isSome then 0 else 1) = (s1, room) → room.ok = true →
      let h1 := s1.homeName g.ctx g.inc g.name
      let r1 := (h1.red.getD r).take q g (room == .reserve) s.tick
      let u := (s1.setHome { h1 with red := some r1 }).notifyOrder g
      exec (.contributionAtHome g) s = .next (if r1.complete then u.closeReduction g.ctx g.inc g.name else u)) := by
  subst hr
  show (∀ e, _ → execContributionAtHome g s = _) ∧ ∀ s1 room, _ → _ → _ → execContributionAtHome g s = _
  rw [execContributionAtHome, if_neg (by rw [hs]; decide), if_neg (by rw [hf]; decide), hq]
  dsimp only
  rw [if_neg (by simp [hi]), if_pos hi]
  refine ⟨fun e he => ?_, fun s1 room he hroom hok => ?_⟩
  · rw [he]
  · rw [he]
    dsimp only
    rw [hroom]
    dsimp only
    rw [if_neg (by rw [hok]; decide), if_pos hi]

/-! ### Landings, pulls and requests of slots (R187, R188, R191, R199) -/

/-- LANDING_ACK_AT_HOME: what is held for the slot ends, but for what is later than a persistent slot's acknowledgement; a waiter's pin goes. -/
theorem exec_landingAckAtHome {m : SlotMsg} {h : HomeName} (hs : s.staleHome m.ctx m.inc m.name = false)
    (hf : s.failedRicks.contains (s.homeOf m.ctx m.name) = false) (hh : s.homeName m.ctx m.inc m.name = h) :
    ∃ u k, exec (.landingAckAtHome m) s = .next u ∧ KMap.get? u.homes (homeKey h.ctx h.name) = some k ∧
      (∀ e ∈ k.held, e.of m.site m.slot m.sub = true → ∃ a b, e.seq = some a ∧ m.seq = some b ∧ seqAfter a b = true) ∧
      k.sysPins = (if m.waiter then h.sysPins - 1 else h.sysPins) := by
  obtain ⟨hctx, hinc, hname⟩ := s.homeName_key m.ctx m.inc m.name
  rw [hh] at hctx hinc hname
  show ∃ u k, execLandingAckAtHome m s = .next u ∧ _
  rw [execLandingAckAtHome, if_neg (by rw [hs]; decide), if_neg (by rw [hf]; decide), hh]
  dsimp only
  generalize h.subs.any (fun r => r.is m.site m.slot m.sub && r.persist) = persist
  generalize hack : (if persist then h.ack m.site m.slot m.sub m.seq else h.ack m.site m.slot m.sub none) = h1
  have hkept : h1.ctx = h.ctx ∧ h1.inc = h.inc ∧ h1.name = h.name ∧ h1.sysPins = h.sysPins := by
    subst hack
    split <;> exact ⟨rfl, rfl, rfl, rfl⟩
  obtain ⟨hctx1, hinc1, hname1, hpins⟩ := hkept
  rw [hctx, hname]
  refine ⟨_, (State.endHeld_home ?ctx ?inc ?name ?held ?pins _).imp fun k hk => ⟨rfl, hk⟩⟩
  case ctx => exact hctx1.trans hctx
  case inc => exact hinc1.trans hinc
  case name => exact hname1.trans hname
  case pins => rw [hpins]
  case held =>
    intro e he hof
    obtain ⟨-, hstays⟩ := List.mem_filter.mp he
    rw [hof, Bool.not_true, Bool.false_or, Bool.and_eq_true] at hstays
    obtain ⟨-, hafter⟩ := hstays
    split at hafter
    · exact ⟨_, _, ‹_›, ‹_›, hafter⟩
    · exact absurd hafter Bool.false_ne_true

/-- DIVERTED_COPY_AT_HOME of a copy that the home still has: the slot's held entry refers to it. -/
theorem exec_divertedCopyAtHome {m : SlotMsg} {g : Seg} {c : Copy} (hs : s.staleHome m.ctx m.inc m.name = false)
    (hf : s.failedRicks.contains (s.homeOf m.ctx m.name) = false)
    (hrec : (s.homeName m.ctx m.inc m.name).held.any (fun e => e.of m.site m.slot m.sub && e.isRecord && e.seq == m.seq) = false)
    (hc : (s.homeName m.ctx m.inc m.name).copies.find? (fun c => (m.seq == some c.seq) || decide (c.tags.head? = g.tags.head?)) = some c) :
    let mine (e : HeldEnt) : Bool := e.of m.site m.slot m.sub && !e.isRecord
    let s1 := if (s.homeName m.ctx m.inc m.name).held.any mine then s else (s.roomFor (s.homeOf m.ctx m.name) 0 1).1
    let h1 := s1.homeName m.ctx m.inc m.name
    exec (.divertedCopyAtHome m g) s =
      .next (s1.setHome { h1 with held := h1.held.filter (fun e => !(mine e)) ++ [HeldEnt.ref m.site m.slot m.sub c s.tick] }) := by
  show execDivertedCopyAtHome m g s = _
  rw [execDivertedCopyAtHome, if_neg (by rw [hs]; decide), if_neg (by rw [hf]; decide)]
  dsimp only
  rw [if_neg (by rw [hrec]; decide), hc]

/-- PULL_AT_HOME of an entry that keeps bytes of its own: it is sent, and ends unless it is a record or has been spilled. -/
theorem exec_pullAtHome {m : SlotMsg} {h : HomeName} {e : HeldEnt} (hs : s.staleHome m.ctx m.inc m.name = false)
    (hf : s.failedRicks.contains (s.homeOf m.ctx m.name) = false) (hh : s.homeName m.ctx m.inc m.name = h)
    (he : h.held.find? (fun e => e.mine m) = some e) (hq : e.seq = none) :
    exec (.pullAtHome m) s = .next ((s.setHome { h with
      held := h.held.filter (fun e => !(e.mine m) || e.isRecord || !e.spilled.isEmpty) }).serveHeld h (h.recOf m) e true) := by
  show execPullAtHome m s = _
  rw [execPullAtHome, if_neg (by rw [hs]; decide), if_neg (by rw [hf]; decide), hh]
  dsimp only
  rw [he]
  dsimp only
  rw [hq]
  rfl

/-- NEXT_REQUEST_AT_HOME of a slot that the home knows: it is ready for its next copy. -/
theorem exec_nextRequestAtHome {m : SlotMsg} {h : HomeName} (hs : s.staleHome m.ctx m.inc m.name = false)
    (hf : s.failedRicks.contains (s.homeOf m.ctx m.name) = false) (hh : s.homeName m.ctx m.inc m.name = h) :
    let s1 := s.setHome { h with subs := h.subs.map (fun r => if r.is m.site m.slot m.sub ∨ s.recMoved m r then { r with ready := true } else r) }
    ∀ r, (s1.homeName m.ctx m.inc m.name).subs.find? (fun r => r.is m.site m.slot m.sub) = some r →
      exec (.nextRequestAtHome m) s = .next (s1.serveNext m.ctx m.inc m.name r) := by
  intro s1 r hr
  show execNextRequestAtHome m s = _
  rw [execNextRequestAtHome, if_neg (by rw [hs]; decide), if_neg (by rw [hf]; decide), hh]
  dsimp only
  rw [hr]

/-! ### Pins (R192, R211) -/

section
variable {ctx inc : Nat} {name : Word} {who : Asker} {h : HomeName} (hs : s.staleHome ctx inc name = false)
  (hf : s.failedRicks.contains (s.homeOf ctx name) = false) (hh : s.homeName ctx inc name = h)

include hs hf hh

/-- NHOLD_AT_HOME of a current copy within the quota: the name has a pin more, of which the first takes a descriptor. -/
theorem exec_nholdAtHome_current {c : Copy} (hc : h.current = some c) (hp : h.pins < 65535) (hq0 : s.quota ctx ≠ 0)
    (hq : s.quotaUsed (s.homeOf ctx name) ctx + (if h.quotaCounts s.time c then 0 else c.size) ≤ s.quota ctx) :
    (0 < h.pins ∨ 0 < h.sysPins →
      exec (.nholdAtHome ctx inc name who) s = .next ((s.setHome { h with pins := h.pins + 1 }).nameReply who ctx inc (h.pins + 1))) ∧
    (∀ s1 room, h.pins = 0 → h.sysPins = 0 → s.roomFor (s.homeOf ctx name) 0 1 = (s1, room) → exec (.nholdAtHome ctx inc name who) s = .next
      (if room.ok then (s1.setHome { s1.homeName ctx inc name with pins := 1 }).nameReply who ctx inc 1
       else s1.retry (homeChan 0 who.site ctx name) (.nholdAtHome ctx inc name who))) := by
  show (_ → execNholdAtHome ctx inc name who s = _) ∧ ∀ s1 room, _ → _ → _ → execNholdAtHome ctx inc name who s = _
  rw [execNholdAtHome, if_neg (by rw [hs]; decide), if_neg (by rw [hf]; decide), hh]
  dsimp only
  rw [hc]
  dsimp only
  rw [if_neg (Nat.ne_of_lt hp), if_neg (not_or.mpr ⟨Nat.not_lt.mpr hq, hq0⟩)]
  refine ⟨fun hpins => ?_, fun s1 room hp0 hsys0 hroom => ?_⟩
  · rw [if_pos hpins, hh]
    rfl
  · rw [if_neg (show ¬ (0 < h.pins ∨ 0 < h.sysPins) by omega), hroom, hp0]
    dsimp only
    cases room.ok <;> rfl

theorem exec_nholdAtHome_none (hc : h.current = none) :
    exec (.nholdAtHome ctx inc name who) s = .next (s.nameReply who ctx inc (h.pins + 2 ^ 62)) := by
  show execNholdAtHome ctx inc name who s = _
  rw [execNholdAtHome, if_neg (by rw [hs]; decide), if_neg (by rw [hf]; decide), hh]
  dsimp only
  rw [hc]

theorem exec_nrelsAtHome (hp : 0 < h.pins) :
    exec (.nrelsAtHome ctx inc name who) s = .next ((s.setHome { h with pins := h.pins - 1 }).nameReply who ctx inc (h.pins - 1)) := by
  show execNrelsAtHome ctx inc name who s = _
  rw [execNrelsAtHome, if_neg (by rw [hs]; decide), if_neg (by rw [hf]; decide), hh]
  exact if_neg (Nat.ne_of_gt hp)

end

theorem exec_pinReleaseMessage {ctx inc : Nat} {name : Word} (hs : s.staleHome ctx inc name = false) :
    exec (.pinReleaseMessage ctx inc name) s =
      .next (s.setHome { s.homeName ctx inc name with sysPins := (s.homeName ctx inc name).sysPins - 1 }) :=
  if_neg (by rw [hs]; decide)

/-! ### Copies that expire or are read back (R191, R193) -/

section
variable {ctx seq : Nat} {name : Word} {k : HomeName} {c : Copy} (hk : KMap.get? s.homes (homeKey ctx name) = some k)
  (hc : k.copies.find? (fun c => decide (c.seq = seq)) = some c)

include hk hc

theorem exec_lingerExpire (hsp : c.spilled = []) (he : k.expired s.time c = true) :
    exec (.lingerExpire ctx name seq) s = .next (s.setHome { k with copies := k.copies.filter (fun d => decide (d.seq ≠ seq)) }) := by
  show execLingerExpire ctx name seq s = _
  rw [execLingerExpire, hk]
  dsimp only
  rw [hc]
  dsimp only
  rw [if_pos he, hsp]
  rfl

theorem exec_spillReadBack_copy (hseq : seq < 2 ^ 32) : exec (.spillReadBack ctx name seq) s = .next (s.copyBack ctx name k c) := by
  have hred : seq ≠ redKey := Nat.ne_of_lt (Nat.lt_trans hseq (by decide))
  have hfree : seq ≠ freeKey := Nat.ne_of_lt (Nat.lt_trans hseq (by decide))
  have hheld : seq ≠ heldKey := Nat.ne_of_lt hseq
  show execSpillReadBack ctx name seq s = _
  rw [execSpillReadBack, hk]
  dsimp only
  rw [if_neg hred, if_neg hfree, if_neg hheld, hc]

end

/-- Where every step of a fold keeps what is under way, what one of them sends is under way at the end. -/
theorem State.mem_agenda_foldl {α : Type} {f : State → α → State} {ev : Instr} (hf : ∀ (s : State) a, s.Keeps (f s a)) {a : α}
    {l : List α} (ha : a ∈ l) (hev : ∀ s : State, ∃ p ∈ (f s a).agenda, p.ev = ev) (s : State) : ∃ p ∈ (l.foldl f s).agenda, p.ev = ev := by
  obtain ⟨l1, l2, rfl⟩ := List.append_of_mem ha
  rw [List.foldl_append, List.foldl_cons]
  exact State.Keeps.mem_agenda (hev _) (.foldl hf ..)

/-- A copy goes to a slot of a tile segment by segment (R190). -/
theorem State.mem_agenda_unicast {r : SubRec} {g : Seg} {segs : List Seg} (hr : r.site < 6144) (hg : g ∈ segs) (h : HomeName) (seq : Option Nat)
    (pulled : Bool) (s : State) :
    ∃ p ∈ (s.unicast h r seq segs pulled).agenda, p.ev = .copyAtTilePort r.site (some (r.slot, r.sub)) { g with seq := seq } := by
  rw [State.unicast, if_neg (by omega), if_neg (by omega)]
  refine State.mem_agenda_foldl (fun t _ => t.keeps_send ..) hg (fun t => ?_) s
  exact t.mem_agenda_send ..

/-- A copy that has been read back goes to each transfer that wants it, with every segment (R193). -/
theorem State.mem_agenda_copyBack {ctx : Nat} {name : Word} {k : HomeName} {c : Copy} {s1 : State} {segs : List Seg}
    (hr : s.readAll ctx k.inc (s.homeWalker ctx name) c.spilled c.segs = (s1, some segs)) {w : SlotMsg × Bool} (hw : w ∈ k.wants)
    (hwc : w.1.seq = some c.seq) (hsite : (k.recOf w.1).site < 6144) {g : Seg} (hg : g ∈ segs) :
    ∃ p ∈ (s.copyBack ctx name k c).agenda,
      p.ev = .copyAtTilePort (k.recOf w.1).site (some ((k.recOf w.1).slot, (k.recOf w.1).sub)) { g with seq := some c.seq } := by
  have hmine : w ∈ k.wants.filter (fun w => w.1.seq == some c.seq) := List.mem_filter.mpr ⟨hw, by rw [hwc]; exact beq_self_eq_true _⟩
  have hsorted : g ∈ inOrder segs := (List.mergeSort_perm ..).mem_iff.mpr hg
  obtain ⟨p, hp, hev⟩ := State.mem_agenda_foldl
    (f := fun s (w : SlotMsg × Bool) => s.unicast k (k.recOf w.1) (some c.seq) (inOrder segs) w.2)
    (fun t _ => t.keeps_unicast ..) hmine (State.mem_agenda_unicast hsite hsorted k (some c.seq) w.2) s1
  refine ⟨p, ?_, hev⟩
  rw [State.copyBack, hr]
  dsimp only
  split
  · exact State.freeOvfl_agenda _ _ _ _ _ hp
  · exact hp

/-! ### Fall-throughs (R194, R195, R379) -/

section
variable {hedge ctx inc size key base : Nat} {b : Backed} (hs : s.stale (agHedge hedge) ctx inc = false)
  (hsize : 64 * 2 ^ (b.d0.extractLsb' 59 4).toNat = size) (hkey : (b.name.extractLsb' 0 56).toNat = key)
  (hbase : (b.d0.extractLsb' 0 56).toNat = base)

include hs hsize hkey hbase

/-- FALLTHROUGH_REQUEST by an entry that gives the name no granule: invalid, of too few granules, or with a BASE that is no multiple of their size. -/
theorem exec_fallthroughRequest_bad (hb : ¬ (backValid b.d0 = true ∧ key < (b.d1.extractLsb' 0 48).toNat ∧ base % size = 0)) :
    exec (.fallthroughRequest hedge ctx inc b) s =
      .next (s.send 0 (.fallthroughData ctx inc b.name 0 { data := [], poison := false, err := some .backmiss })) := by
  show execFallthroughRequest hedge ctx inc b s = _
  rw [execFallthroughRequest, if_neg (by rw [hs]; decide), hsize, hkey, hbase]
  refine if_pos ?_
  by_cases hv : backValid b.d0 = true
  · by_cases hk : key < (b.d1.extractLsb' 0 48).toNat
    · exact .inr (.inr fun hmod => hb ⟨hv, hk, hmod⟩)
    · exact .inr (.inl (Nat.not_lt.mp hk))
  · exact .inl (by rw [Bool.eq_false_iff.mpr hv]; rfl)

/-- FALLTHROUGH_REQUEST by an entry that gives the name a granule, by what the hedge agent has of it. -/
theorem exec_fallthroughRequest_good {run : State × FtRes} (hb : backValid b.d0 = true ∧ key < (b.d1.extractLsb' 0 48).toNat ∧ base % size = 0)
    (hend : base + key * size + size ≤ 2 ^ 56)
    (hrun : s.ftGo hedge ctx inc b (partsOf (size / 64 + 2) (base + key * size + b.got.length) (size - b.got.length)) b.got = run) :
    (∀ s1 bs, run = (s1, .ok bs) → exec (.fallthroughRequest hedge ctx inc b) s =
      .next (s1.send 0 (.fallthroughData ctx inc b.name (b.d1.extractLsb' 48 8).toNat { data := bs, poison := false, err := none }))) ∧
    (∀ s1 k, run = (s1, .fault k) → exec (.fallthroughRequest hedge ctx inc b) s =
      .next (s1.send 0 (.fallthroughData ctx inc b.name 0 { data := [], poison := false, err := some k }))) ∧
    (∀ s1, run = (s1, .asked) → exec (.fallthroughRequest hedge ctx inc b) s = .next s1) := by
  have hgood : ¬ ((!backValid b.d0) = true ∨ (b.d1.extractLsb' 0 48).toNat ≤ key ∨ base % size ≠ 0) := by
    obtain ⟨hv, hk, hmod⟩ := hb
    rw [hv, hmod]
    simpa using hk
  show (∀ s1 bs, _ → execFallthroughRequest hedge ctx inc b s = _) ∧ (∀ s1 k, _ → execFallthroughRequest hedge ctx inc b s = _) ∧
    ∀ s1, _ → execFallthroughRequest hedge ctx inc b s = _
  rw [execFallthroughRequest, if_neg (by rw [hs]; decide), hsize, hkey, hbase]
  dsimp only
  rw [if_neg hgood, if_neg (Nat.not_lt.mpr hend), hrun]
  exact ⟨fun s1 bs h => by rw [h], fun s1 k h => by rw [h], fun s1 h => by rw [h]⟩

end

section
variable {hedge ctx inc : Nat} {name : Word}

/-- A part of the granule that lies in another module is asked for by a remote read (R379). -/
theorem State.ftGo_far {b : Backed} {va n : Nat} {got : List Byte} {s1 : State} {tr : Trans}
    (ht : s.transFor (64 + hedge) ctx inc va 0 = (s1, .done tr)) (hfar : s1.far (tr.pa va) = true) :
    s.ftGo hedge ctx inc b [(va, n)] got = (s1.sendRemote ⟨ctx, inc, va, tr.pa va, .read n, .ft hedge { b with got := got }⟩, .asked) := by
  rw [State.ftGo, ht]
  exact if_pos hfar

variable {linger : Nat} {r : MemReply} (hs : s.stale (agHedge (2 * (nearestRim (s.homeOf ctx name) - 64))) ctx inc = false)

include hs

theorem exec_fallthroughData_good (he : r.err = none) (hp : r.poison = false) :
    exec (.fallthroughData ctx inc name linger r) s = .next (s.hedgePublish ctx inc name linger r.data 1) := by
  show execFallthroughData ctx inc name linger r s = _
  rw [execFallthroughData, if_neg (by rw [hs]; decide)]
  exact if_neg (by simp [he, hp])

theorem exec_fallthroughData_bad {k : FKind} (he : r.err = some k) : exec (.fallthroughData ctx inc name linger r) s =
    .next ((s.setHome { s.homeName ctx inc name with ft := false }).nameRecord ctx inc .backmiss name) := by
  show execFallthroughData ctx inc name linger r s = _
  rw [execFallthroughData, if_neg (by rw [hs]; decide)]
  exact if_pos (by simp [he])

end

/-! ### The statement -/

theorem exec_standInReply_sub {m : SubMsg} (hm : m.site < 6144) : exec (.standInReply (.sub m)) s =
    .next ((s.send 0 (.installNotice { m with u := true } true)).nohomeRecord m.ctx m.inc 3) := by
  show execStandInReply (.sub m) s = _
  rw [execStandInReply, if_pos hm]

/-- Settles O36: each event is executed on the case that the statement names; what is sent stays under way, and freeing overflow slots leaves what
homes hold. -/
theorem homeEvents : Obligations.HomeEvents := by
  intro s ctx inc name h rick fresh here mine
  refine ⟨?sub, ?reinstall, ?segment, ?contribution, ?landing, ?diverted, ?pull, ?next, ?nhold, ?nholdNone, ?nrels, ?linger, ?readBack,
    ?request, ?data, ?dataBad, fun _ => rfl, fun m hm => exec_standInReply_sub hm, fun hs => exec_pinReleaseMessage hs⟩
  case sub =>
    rintro m rfl rfl rfl hm ⟨hs, hf⟩ hroom
    exact exec_subAtHome hs hf hm hroom
  case reinstall =>
    rintro m rfl rfl rfl ⟨hs, hf⟩ hroom
    exact exec_reinstallAtHome hs hf hroom
  case segment =>
    rintro g port s0 room rfl rfl rfl ⟨hs, hf⟩ hi hr hc hroom hok
    exact exec_segmentAtHome hs hf hi hr hc hroom hok
  case contribution =>
    rintro g q rfl rfl rfl ⟨hs, hf⟩ hq hi
    exact exec_contributionAtHome hs hf hq hi rfl
  case landing =>
    rintro m rfl rfl rfl ⟨hs, hf⟩
    exact exec_landingAckAtHome hs hf rfl
  case diverted =>
    rintro m g c rfl rfl rfl ⟨hs, hf⟩ hrec hc
    exact exec_divertedCopyAtHome hs hf hrec hc
  case pull =>
    rintro m e rfl rfl rfl ⟨hs, hf⟩ he hq
    exact exec_pullAtHome hs hf rfl he hq
  case next =>
    rintro m rfl rfl rfl ⟨hs, hf⟩
    exact exec_nextRequestAtHome hs hf rfl
  case nhold =>
    rintro who c ⟨hs, hf⟩ hc hp hq0 hq
    exact exec_nholdAtHome_current hs hf rfl hc hp hq0 hq
  case nholdNone => exact fun who ⟨hs, hf⟩ hc => exec_nholdAtHome_none hs hf rfl hc
  case nrels => exact fun who ⟨hs, hf⟩ hp => exec_nrelsAtHome hs hf rfl hp
  case linger => exact fun seq k c hk hc hsp he => exec_lingerExpire hk hc hsp he
  case readBack =>
    intro seq k c s1 segs hseq hk hc hr
    exact ⟨_, exec_spillReadBack_copy hk hc hseq, fun w hw hwc hsite g hg => State.mem_agenda_copyBack hr hw hwc hsite hg⟩
  case request =>
    intro hedge b hs size key base run request gives good
    exact ⟨fun hb => exec_fallthroughRequest_bad hs rfl rfl rfl hb, fun hb hend => exec_fallthroughRequest_good hs rfl rfl rfl hb hend rfl,
      fun va n got s1 tr ht hfar => State.ftGo_far ht hfar⟩
  case data => exact fun linger r hs he hp => exec_fallthroughData_good hs he hp
  case dataBad => exact fun linger r k hs he => exec_fallthroughData_bad hs he

end Sys2Proof.Machine
end

section
/-! PROOFS. Syllables of kernels: EXIT and YIELD (O28). -/

namespace Sys2Proof.Machine

variable {s t u : State} {h : Hdr} {f : RRR}

/-! ### YIELD (R231, R232) -/

section
variable {c : ParkCond} {chk : Option TrapInfo}

/-- A YIELD without YLD, or in a handler. -/
theorem yieldAct_resident (hmay : ¬ (s.cur.yld = true ∧ s.cur.sys.intrap = false)) : yieldAct c chk s = .trap ⟨.resident, 0, 0⟩ := by
  refine if_pos ?_
  show (!s.cur.yld || s.cur.sys.intrap) = true
  rw [Bool.or_eq_true, Bool.not_eq_true']
  by_cases hy : s.cur.yld = true
  · exact .inr (eq_true_of_ne_false fun hi => hmay ⟨hy, hi⟩)
  · exact .inl (Bool.eq_false_iff.mpr hy)

variable (hmay : s.cur.yld = true ∧ s.cur.sys.intrap = false)

include hmay

/-- A YIELD that may park, by its check and by its condition. -/
theorem yieldAct_may : yieldAct c chk s = match chk with
    | some k => .trap k
    | none =>
      if s.atIssue.parkHolds s.time c then .ok (match c with | .any => s.setCur { s.cur with latch := 0 } | _ => s)
      else .ok (s.setCur { s.cur with park := some c }) := by
  obtain ⟨hy, hi⟩ := hmay
  refine if_neg ?_
  show ¬ (!s.cur.yld || s.cur.sys.intrap) = true
  rw [hy, hi]
  decide

theorem yieldAct_parks (hc : s.atIssue.parkHolds s.time c = false) : yieldAct c none s = .ok (s.setCur { s.cur with park := some c }) := by
  rw [yieldAct_may hmay]
  exact if_neg (by rw [hc]; decide)

theorem yieldAct_goes_on (hc : s.atIssue.parkHolds s.time c = true) (hany : c ≠ .any) : yieldAct c none s = .ok s := by
  rw [yieldAct_may hmay]
  refine (if_pos hc).trans ?_
  cases c with
  | any => exact absurd rfl hany
  | _ => rfl

end

/-- A condition on a channel holds where it has reached the value, or does not run. -/
theorem Slot.parkHolds_wp {x : Slot} {n v time : Nat} : x.parkHolds time (.wp n v) = true ↔ v ≤ (x.chan n).wp ∨ (x.chan n).st ≠ .running := by
  simp [Slot.parkHolds]

theorem effYieldWp_passes (hmay : s.cur.yld = true ∧ s.cur.sys.intrap = false)
    (hc : (s.readS 32 f.a).toNat ≤ (s.atIssue.chan (f.b.toNat % 16)).wp ∨ (s.atIssue.chan (f.b.toNat % 16)).st = .frozen) : effYieldWp f s = .ok s := by
  have hholds : s.atIssue.parkHolds s.time (.wp (f.b.toNat % 16) (s.readS 32 f.a).toNat) = true :=
    Slot.parkHolds_wp.mpr (hc.imp_right fun hst => by rw [hst]; decide)
  rw [effYieldWp, if_neg, yieldAct_goes_on hmay hholds (by simp)]
  rcases hc with hle | hst
  · simp [Nat.not_lt.mpr hle]
  · simp [hst]

/-- YIELD.wp on a channel that cannot reach the value (R231, R232). -/
theorem effYieldWp_idle (hmay : s.cur.yld = true ∧ s.cur.sys.intrap = false)
    (hlt : (s.atIssue.chan (f.b.toNat % 16)).wp < (s.readS 32 f.a).toNat)
    (hst : (s.atIssue.chan (f.b.toNat % 16)).st = .idle ∨ (s.atIssue.chan (f.b.toNat % 16)).st = .ready) :
    effYieldWp f s = .trap ⟨.chidle, 3, BitVec.ofNat 64 (s.atIssue.chan (f.b.toNat % 16)).wp⟩ := by
  rw [effYieldWp, if_pos (by simp [hst, hlt]), yieldAct_may hmay]

theorem effYieldWp_parks (hmay : s.cur.yld = true ∧ s.cur.sys.intrap = false)
    (hlt : (s.atIssue.chan (f.b.toNat % 16)).wp < (s.readS 32 f.a).toNat) (hst : (s.atIssue.chan (f.b.toNat % 16)).st = .running) :
    effYieldWp f s = .ok (s.setCur { s.cur with park := some (.wp (f.b.toNat % 16) (s.readS 32 f.a).toNat) }) := by
  have hholds : s.atIssue.parkHolds s.time (.wp (f.b.toNat % 16) (s.readS 32 f.a).toNat) = false :=
    Bool.eq_false_iff.mpr fun h => (Slot.parkHolds_wp.mp h).elim (Nat.not_le.mpr hlt) (fun hne => hne hst)
  rw [effYieldWp, if_neg (by simp [hst]), yieldAct_parks hmay hholds]

theorem effYieldAny_goes_on (hmay : s.cur.yld = true ∧ s.cur.sys.intrap = false) (hl : s.cur.latch.toNat % 8 ≠ 0) :
    effYieldAny f s = .ok (s.setCur { s.cur with latch := 0 }) := by
  rw [effYieldAny, yieldAct_may hmay]
  exact if_pos (decide_eq_true hl)

/-! ### EXIT (R233, R234) -/

theorem effExitS_plain (hc : f.c.getLsbD 0 = false) : effExitS f s = .ok (s.setCur { s.cur with wait := .exiting }) := if_neg (by rw [hc]; decide)

/-- EXIT.pub whose templates all pass their checks: with none it is an EXIT, else it waits for the injection queue to take them. -/
theorem effExitS_pub (hc : f.c.getLsbD 0 = true) (hk : ∀ t ∈ s.pubTempls, s.exitCheck t = none) :
    effExitS f s = .ok (s.setCur { s.cur with wait := if s.pubTempls.isEmpty then .exiting else .exitPub (s.pubTempls.map (·.i)) }) := by
  have hnone : s.pubTempls.findSome? (fun t => s.exitCheck t) = none := List.findSome?_eq_none_iff.mpr hk
  rw [effExitS, if_pos hc]
  dsimp only
  rw [hnone]

/-- Settles O28: EXIT's effect by its PUB bit, and that of each YIELD by what its condition says at the bundle's issue. -/
theorem exitAndYield : Obligations.ExitAndYield := by
  intro h f s hg x y v n parks ys may
  refine ⟨fun hc => asStep_ok hg (effExitS_plain hc), fun hc hts => ?noTempl, fun hc hk => ?pub, fun hmay => ?resident, fun hmay => ⟨?goesOn, ?parks,
    fun hle => asStep_ok hg (effYieldWp_passes hmay (.inl hle)), fun hlt hst => asStep_trap hg (effYieldWp_idle hmay hlt hst),
    fun _ hst => asStep_ok hg (effYieldWp_passes hmay (.inr hst)), fun hlt hst => asStep_ok hg (effYieldWp_parks hmay hlt hst),
    fun hl => asStep_ok hg (effYieldAny_goes_on hmay hl), fun hl => ?anyParks, fun hle => ?timeGoesOn, fun hlt => ?timeParks⟩⟩
  case noTempl =>
    have hk : ∀ t ∈ s.pubTempls, s.exitCheck t = none := by simp [hts]
    refine (asStep_ok hg (effExitS_pub hc hk)).trans ?_
    rw [hts]
    rfl
  case pub =>
    refine ⟨_, asStep_ok hg (effExitS_pub hc hk), ?_⟩
    rw [State.cur_setCur]
    cases s.pubTempls with
    | nil => exact .inl rfl
    | cons t ts => exact .inr ⟨_, rfl⟩
  case resident =>
    intro i hi
    simp only [ys, List.mem_cons, List.not_mem_nil, or_false] at hi
    rcases hi with rfl | rfl | rfl | rfl <;> exact asStep_trap hg (yieldAct_resident hmay)
  case goesOn => exact fun hc => asStep_ok hg (yieldAct_goes_on hmay hc (by simp))
  case parks => exact fun hc => asStep_ok hg (yieldAct_parks hmay hc)
  case anyParks => exact asStep_ok hg (yieldAct_parks hmay (decide_eq_false (Classical.not_not.mpr hl)))
  case timeGoesOn => exact asStep_ok hg (yieldAct_goes_on hmay (decide_eq_true hle) (by simp))
  case timeParks => exact asStep_ok hg (yieldAct_parks hmay (decide_eq_false (Nat.not_le.mpr hlt)))

end Sys2Proof.Machine
end

section
/-! PROOFS. Syllables of queues: LAUNCH, QPOST and QCTL (O29). -/

namespace Sys2Proof.Machine

variable {s t u : State} {h : Hdr} {f : RRR}

/-! ### LAUNCH and QPOST (R230, R239, R249) -/

@[simp] theorem Slot.await_sys (x : Slot) (r : Reg) : (x.await r).sys = x.sys := by
  rw [Slot.await]
  split <;> rfl

theorem Slot.mem_await_pend (x : Slot) {r : Reg} (hr : r ≠ .a 0) : r ∈ (x.await r).pend := by
  rw [Slot.await, if_neg hr]
  exact List.mem_append_right _ (List.mem_singleton_self r)

theorem State.writeBack_time (s : State) (site : Nat) (l : Line) : (s.writeBack site l).time = s.time := by
  rw [State.writeBack]
  dsimp only
  split <;> rfl

theorem State.beginRelease_time (s : State) (x : Scope) : (s.beginRelease x).time = s.time := by
  refine List.foldlRecOn (motive := fun t : State => t.time = s.time) _ _ rfl (fun t ht l _ => ?_)
  split
  · exact (t.writeBack_time ..).trans ht
  · exact ht

theorem State.relWait_isSome (s : State) (rel remote : Bool) : (s.relWait rel remote).isSome = rel := by cases rel <;> rfl

/-- A record goes last into the agenda, after what its release part has written back. -/
theorem State.sendRecord_getLast (s : State) (q : Nat) (rel : Bool) (r : List Word) (src : RecSrc) :
    (s.sendRecord q rel r src).agenda.getLast? = some ⟨s.time, queueChan s.iss.site s.iss.slot s.cur.sys.ctxid q,
      .recordAppend s.cur.sys.ctxid s.cur.sys.incarn q (withCheck s.cur.sys.ctxid q r) src, s.relWait rel true, [], [], []⟩ := by
  have htime : (if rel then s.beginRelease .system else s).time = s.time := by
    split
    · exact s.beginRelease_time _
    · rfl
  rw [← htime]
  exact List.getLast?_concat

theorem State.AcksOnly.cur (h : s.AcksOnly t) : t.cur.acksApart = s.cur.acksApart := by
  rw [State.cur, h.1]
  exact h.2 _ _

/-- What a record's release part writes back leaves the slot at issue as it is, but for its counts of writes on their way. -/
theorem State.sendRecord_cur (s : State) (q : Nat) (rel : Bool) (r : List Word) (src : RecSrc) :
    (s.sendRecord q rel r src).cur.acksApart = s.cur.acksApart := by
  have hacks : s.AcksOnly (if rel then s.beginRelease .system else s) := by
    split
    · exact s.acksOnly_beginRelease _
    · exact .refl s
  exact hacks.cur

/-- A syllable that sends a record leaves its register pending, and the record with its check goes to the queue's scheduler. -/
theorem exec_sendRecord {i : Instr} {eff : State → Act} {d : Reg} {q : Nat} {rel : Bool} {r : List Word} {src : RecSrc} (hg : s.guard h = true)
    (hi : exec i s = asStep h eff s) (he : eff s = .ok ((s.setCur (s.cur.await d)).sendRecord q rel r src)) :
    ∃ t w, exec i s = .next t ∧ t.agenda.getLast? = some ⟨s.time, queueChan s.iss.site s.iss.slot s.cur.sys.ctxid q,
      .recordAppend s.cur.sys.ctxid s.cur.sys.incarn q (withCheck s.cur.sys.ctxid q r) src, w, [], [], []⟩ ∧
      w.isSome = rel ∧ (d ≠ .a 0 → d ∈ t.cur.pend) := by
  refine ⟨_, _, hi.trans (asStep_ok hg he), ?sent, (s.setCur (s.cur.await d)).relWait_isSome rel true, fun hd => ?pending⟩
  case sent =>
    have hsent := (s.setCur (s.cur.await d)).sendRecord_getLast q rel r src
    rw [State.cur_setCur, Slot.await_sys] at hsent
    exact hsent
  case pending =>
    have hcur := congrArg Slot.pend ((s.setCur (s.cur.await d)).sendRecord_cur q rel r src)
    rw [State.cur_setCur] at hcur
    exact hcur ▸ s.cur.mem_await_pend hd

/-- QPOST of a record that it can read and whose checks hold. -/
theorem effQpost_ok {r : List Word} (hr : (dwords (s.curBytes (s.readS 32 f.a).toNat 64)).map (BitVec.ofNat 64) = r)
    (hs : s.scratchFault s.iss.site s.iss.slot (s.readS 32 f.a).toNat 64 64 0 true = none) (hrsv : (r.getD 1 0).extractLsb' 54 10 = 0)
    (hlvl : (r.getD 1 0).getLsbD 52 = true → ((r.getD 1 0).extractLsb' 48 4).toNat ≤ 11) (hgates : ∀ g ∈ gatesOf r, spaceOf g < 0xF6) :
    effQpost f s = .ok ((s.setCur (s.cur.await (dstS f.d))).sendRecord (f.t.toNat % 64) (f.t.getLsbD 6) r
      (.qpost s.iss.site s.iss.slot (dstS f.d))) := by
  have hfind : (gatesOf r).find? (fun g => decide (0xF6 ≤ spaceOf g)) = none :=
    List.find?_eq_none.mpr fun g hg => by simpa using hgates g hg
  rw [effQpost, hs, hr]
  dsimp only
  rw [if_neg, hfind]
  rintro (hbad | ⟨hfixed, hbad⟩)
  · exact hbad hrsv
  · exact absurd (hlvl hfixed) (Nat.not_le.mpr hbad)

/-! ### QCTL (R250) -/

theorem privLevel_ok {lvl : Nat} {k : Act} (hl : lvl < 10 ∨ (lvl < 12 ∧ s.cur.sys.privc = true)) : privLevel lvl s k = k := by
  refine if_neg fun ⟨hten, hpriv⟩ => ?_
  rcases hl with hlow | ⟨-, hp⟩
  · omega
  · rw [hp] at hpriv
    exact absurd hpriv (by decide)

/-- A QCTL leaves its register pending, and its operation goes to the queue's scheduler. -/
theorem exec_qctlAct {i : Instr} {eff : State → Act} {op : QOp} (hg : s.guard h = true) (hi : exec i s = asStep h eff s)
    (he : eff s = qctlAct f op s) : exec i s = .next ((s.setCur (s.cur.await (dstS f.d))).send
      (queueChan s.iss.site s.iss.slot s.cur.sys.ctxid (f.t.toNat % 64))
      (.queueOperationAtScheduler s.cur.sys.ctxid s.cur.sys.incarn (f.t.toNat % 64) op ⟨s.iss.site, s.iss.slot, dstS f.d⟩)) :=
  hi.trans (asStep_ok hg he)

theorem effQctlCreate_ok {a b : Word} (ha : s.readS 32 f.a = a) (hb : s.readS 24 f.b = b) (hpage : a.toNat % 4096 = 0) (hcanon : a.toNat < 2 ^ 56)
    (hlo : 4 ≤ b.toNat % 32) (hhi : b.toNat % 32 ≤ 16) (hrsv : b &&& 0xFFFFFFFFFFFFE0E0 = 0)
    (hl : (b.extractLsb' 8 4).toNat < 10 ∨ ((b.extractLsb' 8 4).toNat < 12 ∧ s.cur.sys.privc = true)) :
    effQctlCreate f s = qctlAct f (.create a.toNat (b.toNat % 32) (b.extractLsb' 8 4).toNat (b.getLsbD 12)) s := by
  have hring : ¬ (a.toNat % 4096 ≠ 0 ∨ 2 ^ 56 ≤ a.toNat) := by omega
  have hlvl : (b.extractLsb' 8 4).toNat ≤ 11 := by omega
  have hform : ¬ (b.toNat % 32 < 4 ∨ 16 < b.toNat % 32 ∨ 11 < (b.extractLsb' 8 4).toNat ∨ b &&& 0xFFFFFFFFFFFFE0E0 ≠ 0) := by
    rintro (hbad | hbad | hbad | hbad)
    · omega
    · omega
    · omega
    · exact hbad hrsv
  rw [effQctlCreate, ha, hb, if_neg hring, if_neg hform, privLevel_ok hl]

theorem effQctlLevel_ok {a : Word} (ha : s.readS 32 f.a = a) (hrsv : a.toNat < 32)
    (hl : a.toNat % 16 < 10 ∨ (a.toNat % 16 < 12 ∧ s.cur.sys.privc = true)) :
    effQctlLevel f s = qctlAct f (.level (a.toNat % 16) (a.getLsbD 4)) s := by
  rw [effQctlLevel, ha, if_neg (by omega), privLevel_ok hl]

/-- Settles O29: LAUNCH and QPOST are `sendRecord` of their record, the five QCTLs `qctlAct` of their operation. -/
theorem launchesAndQueues : Obligations.LaunchesAndQueues := by
  intro h f s hg d c inc q a b lvl rec_ posts ctl levelOk
  refine ⟨exec_sendRecord (eff := effLaunch f) hg rfl rfl,
    fun hs hrsv hlvl hgates => exec_sendRecord (eff := effQpost f) hg rfl (effQpost_ok rfl hs hrsv hlvl hgates),
    fun hpage hcanon hlo hhi hrsv hl => exec_qctlAct (eff := effQctlCreate f) hg rfl (effQctlCreate_ok rfl rfl hpage hcanon hlo hhi hrsv hl),
    exec_qctlAct (eff := effQctlDrain f) hg rfl rfl, exec_qctlAct (eff := effQctlClose f) hg rfl rfl,
    exec_qctlAct (eff := effQctlQuery f) hg rfl rfl,
    fun hrsv hl => exec_qctlAct (eff := effQctlLevel f) hg rfl (effQctlLevel_ok rfl hrsv hl)⟩

end Sys2Proof.Machine
end

section
/-! PROOFS. Events of instances: placement, loading, parking, cancel and retirement (O38). -/

namespace Sys2Proof.Machine

variable {s t u : State} {uid site slot : Nat} {i : Inst}

/-! ### Placement and loading (R221 to R223, R225) -/

@[simp] theorem State.inst_setInst_same (s : State) (uid : Nat) (i : Inst) : (s.setInst uid i).inst uid = some i := KMap.get?_set_same ..

theorem State.inst_congr (h : t.insts = s.insts) (uid : Nat) : t.inst uid = s.inst uid := congrArg (fun m => KMap.get? m uid) h

theorem State.evictNew_insts (s : State) (uid ctx inc site : Nat) : (s.evictNew uid ctx inc site).insts = s.insts := by
  rw [State.evictNew]
  split <;> rfl

theorem exec_instancePlace (hi : s.inst uid = some i) (hn : s.nextPlace i.ctx = some (uid, site, slot)) :
    ∃ u, exec (.instancePlace uid site slot) s = .next u ∧ u.inst uid = some { i with st := .placed, place := some (site, slot) } := by
  show ∃ u, execInstancePlace uid site slot s = .next u ∧ _
  rw [execInstancePlace, hi]
  dsimp only
  rw [if_pos hn]
  exact ⟨_, rfl, (State.inst_congr (State.evictNew_insts ..) uid).trans (State.inst_setInst_same ..)⟩

theorem exec_placementMessage {ctx inc : Nat} {mesh : Bool} (hi : s.inst uid = some i) (hp : i.place = some (site, slot))
    (hs : s.stale (agSite site 0) ctx inc = false) : ∃ u, exec (.placementMessage ⟨uid, mesh⟩ ctx inc) s = .next u ∧
      u.slotAt site slot = (s.slotAt site slot).forInst uid i (s.tileAt site).dbgOn := by
  show ∃ u, execPlacementMessage ⟨uid, mesh⟩ ctx inc s = .next u ∧ _
  rw [execPlacementMessage, hi]
  dsimp only
  rw [hp]
  dsimp only
  rw [if_neg (by rw [hs]; decide)]
  refine ⟨_, rfl, .trans (State.slotAt_congr ?_ ..) (s.slotAt_setSlotAt_same site slot _)⟩
  cases i.kept.isSome <;> cases mesh <;> rfl

/-! ### A slot that becomes READY (R225, R247) -/

theorem State.slotAt_rejoin (s : State) (site slot : Nat) :
    (s.rejoin site slot).slotAt site slot = { s.slotAt site slot with since := s.time, aged := 0 } := by
  rw [State.rejoin, State.slotAt_congr (State.markBusy_slots ..), State.slotAt_setSlotAt_same]

theorem State.slotAt_becomeReady (s : State) (site slot : Nat) : (s.becomeReady site slot).slotAt site slot =
    { s.slotAt site slot with st := .ready, readyAt := s.time, since := s.time, aged := 0 } := by
  rw [State.becomeReady, State.slotAt_rejoin, State.slotAt_setSlotAt_same]
  rfl

/-- What has landed makes a WAITING slot READY, or changes nothing. -/
theorem State.templatesDone_cases (s : State) (site slot : Nat) : s.templatesDone site slot = s ∨ s.templatesDone site slot = s.becomeReady site slot := by
  rw [State.templatesDone]
  split
  · exact .inr rfl
  · exact .inl rfl

/-- LOAD_DONE in a slot whose code region holds the image, once the argument block has been read. -/
theorem exec_loadDone {s1 : State} {args : List Byte} (hi : s.inst uid = some i) (hp : i.place = some (site, slot))
    (hx : (s.slotAt site slot).inst = some uid) (hst : (s.slotAt site slot).st = .placed) (hf : (s.tileAt site).frozen = false)
    (hcode : (s.slotAt site slot).codeOf = some (i.ctx, i.inc, i.image, i.kern.image))
    (hr : s.sysRead (fieldOf site) i.ctx i.inc i.args.toNat i.kern.args = (s1, .ok args)) :
    ∃ u, exec (.loadDone uid) s = .next u ∧ ((u.slotAt site slot).st = .waiting ∨ (u.slotAt site slot).st = .ready) := by
  have hgo : ¬ ((s.slotAt site slot).inst ≠ some uid ∨ (s.slotAt site slot).st ≠ .placed ∨ (s.tileAt site).frozen = true) := by simp [hx, hst, hf]
  show ∃ u, execLoadDone uid s = .next u ∧ _
  rw [execLoadDone, hi]
  dsimp only
  rw [hp]
  dsimp only
  rw [if_neg hgo, hcode, beq_self_eq_true, if_pos rfl]
  dsimp only
  rw [hr]
  dsimp only
  refine ⟨_, rfl, ?_⟩
  generalize hw : State.setSlotAt _ site slot _ = w
  have hwait : (w.slotAt site slot).st = .waiting := by
    subst hw
    exact congrArg Slot.st (State.slotAt_setSlotAt_same ..)
  rcases w.templatesDone_cases site slot with h | h
  · left
    rw [h, hwait]
  · right
    rw [h, State.slotAt_becomeReady]

/-! ### Parking (R231, R232) -/

/-- A slot with its dirty map set aside (R305). -/
def Slot.dirtApart (x : Slot) : Slot := { x with dirty := [] }

theorem State.scratchPut_dirtApart (s : State) (site slot p : Nat) (b : Byte) :
    ((s.scratchPut site slot p b).slotAt site slot).dirtApart = (s.slotAt site slot).dirtApart := by
  rw [State.scratchPut]
  split
  · dsimp only
    split
    · rfl
    · refine (congrArg Slot.dirtApart (s.slotAt_setSlotAt_same site slot _)).trans ?_
      rw [Slot.touch]
      split <;> rfl
  · rfl

theorem State.scratchPutAll_dirtApart (s : State) (site slot p : Nat) (bs : List Byte) :
    ((s.scratchPutAll site slot p bs).slotAt site slot).dirtApart = (s.slotAt site slot).dirtApart := by
  induction bs generalizing s p with
  | nil => rfl
  | cons b bs ih => exact (ih _ _).trans (s.scratchPut_dirtApart ..)

theorem State.noteWrites_slots (s : State) (site slot p n : Nat) (unit : Option Nat) : (s.noteWrites site slot p n unit).slots = s.slots := by
  rw [State.noteWrites]
  split <;> rfl

theorem State.clearUE_slots (s : State) (site slot p n : Nat) : (s.clearUE site slot p n).slots = s.slots := by
  rw [State.clearUE]
  split <;> rfl

/-- A write to scratch changes nothing of its slot but the dirty map. -/
theorem State.scratchWrite_dirtApart (s : State) (site slot p : Nat) (bs : List Byte) (unit : Option Nat) :
    ((s.scratchWrite site slot p bs unit).slotAt site slot).dirtApart = (s.slotAt site slot).dirtApart := by
  rw [State.scratchWrite, State.slotAt_congr (State.clearUE_slots ..), State.scratchPutAll_dirtApart, State.slotAt_congr (State.noteWrites_slots ..)]

theorem State.stopIssue_slots (s : State) (site slot : Nat) : (s.stopIssue site slot).slots = s.slots := by
  rw [State.stopIssue]
  split <;> rfl

theorem exec_parkComplete (hr : s.parkReady site slot = true) : ∃ u, exec (.parkComplete site slot) s = .next u ∧
    (u.slotAt site slot).st = .parked ∧ (u.slotAt site slot).parkDone = true := by
  show ∃ u, execParkComplete site slot s = .next u ∧ _
  rw [execParkComplete, if_pos hr]
  refine ⟨_, rfl, ?_⟩
  rw [State.slotAt_congr (State.stopIssue_slots ..)]
  have hapart := State.scratchWrite_dirtApart (s.setSlotAt site slot { (s.slotAt site slot).drain with st := .parked, parkDone := true }) site slot
    (s.slotAt site slot).drain.parkAt (s.slotAt site slot).drain.parkRecord none
  rw [State.slotAt_setSlotAt_same] at hapart
  generalize State.slotAt _ site slot = y at hapart ⊢
  exact ⟨congrArg Slot.st hapart, congrArg Slot.parkDone hapart⟩

theorem exec_parkWake {c : ParkCond} (hp : (s.slotAt site slot).park = some c) (hst : (s.slotAt site slot).st = .parked)
    (hc : (s.slotAt site slot).parkHolds s.time c = true) : ∃ u, exec (.parkWake site slot) s = .next u ∧
      (u.slotAt site slot).st = .ready ∧ (u.slotAt site slot).park = none := by
  show ∃ u, execParkWake site slot s = .next u ∧ _
  rw [execParkWake, hp]
  dsimp only
  rw [if_pos ⟨hst, hc⟩]
  refine ⟨_, rfl, ?_⟩
  rw [State.slotAt_becomeReady, State.slotAt_setSlotAt_same]
  exact ⟨rfl, rfl⟩

/-! ### Retirement (R225, R234, R235) -/

/-- The slot is free: what it held has ended. -/
def State.Retired (s : State) (site slot : Nat) : Prop := (s.slotAt site slot).inst = none ∧ (s.slotAt site slot).st = .retired

theorem State.Retired.congr (h : s.Retired site slot) (ht : t.slots = s.slots) : t.Retired site slot := by
  rw [State.Retired, State.slotAt_congr ht]
  exact h

theorem State.clearEcc_slots (s : State) (site slot : Nat) : (s.clearEcc site slot).slots = s.slots := by
  rw [State.clearEcc]
  split <;> rfl

theorem State.retired_freeSlot (s : State) (site slot : Nat) : (s.freeSlot site slot).Retired site slot := by
  refine State.Retired.congr ?_ ((State.clearEcc_slots ..).trans (State.stopIssue_slots ..))
  rw [State.Retired, State.slotAt_setSlotAt_same]
  exact ⟨rfl, rfl⟩

/-- A slot that loses its binding is free too (R301). -/
theorem State.Retired.unbind (h : s.Retired site slot) (a b : Nat) : (s.unbind a b).Retired site slot := by
  have hslots : ∃ n, (s.unbind a b).slots = (s.setSlotAt a b { Slot.empty with serial := n }).slots := ⟨_, rfl⟩
  obtain ⟨n, hslots⟩ := hslots
  refine State.Retired.congr (s := s.setSlotAt a b { Slot.empty with serial := n }) ?_ hslots
  by_cases hk : slotKey site slot = slotKey a b
  · rw [State.Retired, State.slotAt, hk]
    exact ⟨congrArg Slot.inst (s.slotAt_setSlotAt_same a b _), congrArg Slot.st (s.slotAt_setSlotAt_same a b _)⟩
  · rw [State.Retired, State.slotAt_setSlotAt_other _ _ _ _ _ _ hk]
    exact h

/-- EVICTs that end unbind slots, and fill none. -/
theorem State.Retired.finishEvicts (h : s.Retired site slot) : s.finishEvicts.Retired site slot := by
  refine List.foldlRecOn (motive := fun t : State => t.Retired site slot) _ _ h (fun t ht e _ => ?_)
  have herase : ({ t with evicts := t.evicts.erase e } : State).Retired site slot := ht.congr rfl
  dsimp only
  split
  · exact State.Retired.congr (List.foldlRecOn (motive := fun t : State => t.Retired site slot) _ _ herase (fun t ht p _ => ht.unbind p.1 p.2)) rfl
  · exact herase.congr rfl

theorem exec_retire {how : Nat} (h : s.endReady site slot = some how) :
    ∃ t : State, exec (.retire site slot) s = .next (t.freeSlot site slot).finishEvicts := by
  show ∃ t : State, execRetire site slot s = _
  rw [execRetire, h]
  exact ⟨_, rfl⟩

/-! ### Cancel (R28, R29, R343) -/

theorem exec_cancelAtTile {g : Nat} (hi : s.inst uid = some i) (hp : i.place = some (site, slot))
    (hs : s.stale (agSite site 0) i.ctx i.inc = false) (hx : (s.slotAt site slot).inst = some uid) (hst : (s.slotAt site slot).st ≠ .faulted)
    (hw : (s.slotAt site slot).wait = .none) (hc : (s.slotAt site slot).cancelReq = none) : exec (.cancelAtTile uid g) s =
      .next ((s.abandonLoad uid).setSlotAt site slot { s.slotAt site slot with cancelReq := some g }) := by
  show execCancelAtTile uid g s = _
  rw [execCancelAtTile, hi]
  dsimp only
  rw [hp]
  dsimp only
  rw [if_neg (by rw [hs]; decide), if_neg (Classical.not_not.mpr hx), if_neg]
  simp [hst, hc, Slot.exits, hw]

/-- Settles O38: each event is executed on the case that the statement names. -/
theorem instanceEvents : Obligations.InstanceEvents := by
  intro s uid site slot x
  refine ⟨fun i hi hn => exec_instancePlace hi hn, fun i ctx inc mesh hi hp hs => exec_placementMessage hi hp hs, fun _ => rfl,
    fun i s1 args hi hp hx hst hf hcode hr => exec_loadDone hi hp hx hst hf hcode hr, exec_parkComplete,
    fun c hp hst hc => exec_parkWake hp hst hc, fun hd hst hi => if_pos ⟨hd, hst, hi⟩, fun how h => ?retire,
    fun i g hi hp hs hx hst hw hc => exec_cancelAtTile hi hp hs hx hst hw hc⟩
  case retire =>
    obtain ⟨t, ht⟩ := exec_retire h
    exact ⟨_, ht, (t.retired_freeSlot site slot).finishEvicts⟩

end Sys2Proof.Machine
end

section
/-! PROOFS. Saves: how instances are saved, restored, moved and written in the background, and how a tile freezes (O44). -/

namespace Sys2Proof.Machine

variable {s t u : State} {uid site slot : Nat} {i : Inst}

/-! ### Orders to save (R306, R343) -/

/-- SAVE_ORDER_AT_TILE in a slot that runs on: it keeps what it holds, and stops for the stronger of the two orders. -/
theorem exec_saveOrderAtTile {why : SaveWhy} (hi : s.inst uid = some i) (hp : i.place = some (site, slot))
    (hs : s.stale (agSite site 0) i.ctx i.inc = false) (hx : (s.slotAt site slot).inst = some uid) (hpl : (s.slotAt site slot).st ≠ .placed)
    (hst : (s.slotAt site slot).st ≠ .faulted) (hc : (s.slotAt site slot).cancelReq = none) (he : (s.slotAt site slot).exits = false) :
    ∃ u, exec (.saveOrderAtTile uid why) s = .next u ∧
      (u.slotAt site slot).stopReq = some (strongerSave (s.slotAt site slot).stopReq why) ∧ (u.slotAt site slot).inst = some uid := by
  have hgo : ¬ ((s.slotAt site slot).st = .faulted ∨ (s.slotAt site slot).cancelReq.isSome = true ∨ (s.slotAt site slot).exits = true) := by
    simp [hst, hc, he]
  show ∃ u, execSaveOrderAtTile uid why s = .next u ∧ _
  rw [execSaveOrderAtTile, hi]
  dsimp only
  rw [hp]
  dsimp only
  rw [if_neg (by rw [hs]; decide), if_neg (Classical.not_not.mpr hx), if_neg hpl, if_neg hgo]
  refine ⟨_, rfl, ?_⟩
  have hacks := (State.acksOnly_beginRelease (s.atSlot site slot) .domain).2 site slot
  rw [State.slotAt_setIss, State.slotAt_congr (State.stopIssue_slots ..), State.slotAt_setSlotAt_same]
  generalize State.slotAt (State.beginRelease _ _) site slot = y at hacks ⊢
  have hstop := congrArg Slot.stopReq hacks
  have hinst := congrArg Slot.inst hacks
  exact ⟨congrArg (fun o => some (strongerSave o why)) hstop, hinst.trans hx⟩

theorem exec_migrate {a b : Nat} (hi : s.inst uid = some i) (hp : i.place = some (site, slot)) (hx : (s.slotAt site slot).inst = some uid)
    (hst : (s.slotAt site slot).stopReq = none) :
    exec (.migrate uid a b) s = .next (s.send (tileChan site) (.saveOrderAtTile uid (.move a b))) := by
  show execMigrate uid a b s = _
  rw [execMigrate, hi]
  dsimp only
  rw [hp]
  dsimp only
  rw [if_pos ⟨hx, Option.isNone_iff_eq_none.mpr hst⟩]

/-! ### An eviction (R225, R306, R307) -/

/-- EVICTION_COMPLETE of a slot that may be saved, by what taking its record gives. -/
theorem exec_evictionComplete {why : SaveWhy} {s0 : State} {v : RecTake} (hi : s.inst uid = some i) (hp : i.place = some (site, slot))
    (hw : (s.slotAt site slot).stopReq = some why) (hx : (s.slotAt site slot).inst = some uid) (hs : s.stoppable site slot = true)
    (hr : s.takeRec (fieldOf site) i = (s0, v)) :
    (v = .full → exec (.evictionComplete uid) s = .next (s0.saveFailed site slot uid why)) ∧
    (∀ k va, v = .fault k va → exec (.evictionComplete uid) s = .next ((s0.saveFault site slot k va).saveFailed site slot uid why)) ∧
    (∀ h s3 l, v = .got h →
      let s2 := s0.stopForSave site slot
      s2.writeParts (fieldOf site) i.ctx i.inc (s2.recAddr (s2.slotAt site slot) i.ctx h) (s2.recordParts site slot i.kern.acc) = (s3, .ok l) →
      let y := (s3.moveSubs site slot).slotAt site slot
      exec (.evictionComplete uid) s = .next ((s3.moveSubs site slot).saved site slot uid i
        { y with dirty := (List.range 10).filter (fun w => (s2.tileAt site).lentTo slot w) } why h (16 + (s2.dirtyBlocks site slot).length))) := by
  have hgo : ¬ ((s.slotAt site slot).inst ≠ some uid ∨ (!s.stoppable site slot) = true) := by simp [hx, hs]
  show (_ → execEvictionComplete uid s = _) ∧ (∀ k va, _ → execEvictionComplete uid s = _) ∧ ∀ h s3 l, _ → _ → execEvictionComplete uid s = _
  -- The write is made opaque here, for the kernel would compute it to compare the two forms of the match on its result.
  obtain ⟨write, hwrite⟩ := exists_eq (a' := State.writeParts)
  rw [execEvictionComplete, ← hwrite, hi]
  dsimp only
  rw [hp]
  dsimp only
  rw [hw]
  dsimp only
  rw [if_neg hgo, hr]
  refine ⟨fun hv => ?_, fun k va hv => ?_, fun h s3 l hv hparts => ?_⟩
  · rw [hv]
  · rw [hv]
  · rw [hv]
    dsimp only
    rw [hparts]

/-! ### A restore (R171, R227, R306, R309) -/

theorem State.markBusy_insts (s : State) (site : Nat) : (s.markBusy site).insts = s.insts := by
  rw [State.markBusy]
  split <;> rfl

theorem State.rejoin_insts (s : State) (site slot : Nat) : (s.rejoin site slot).insts = s.insts := State.markBusy_insts ..

theorem State.sends_reinstall (s : State) (site slot : Nat) : s.Sends (s.reinstall site slot) := by
  refine .foldl (fun t n => ?_) _ s
  dsimp only
  split
  · exact .refl t
  · exact State.sends_sendAt ..

theorem State.Sends.slots (h : s.Sends t) : t.slots = s.slots := by
  obtain ⟨l, rfl⟩ := h
  rfl

theorem State.Sends.insts (h : s.Sends t) : t.insts = s.insts := by
  obtain ⟨l, rfl⟩ := h
  rfl

/-- From `s` to `t` the instances are the same, and the slot's register files. -/
def State.KeepsFiles (s t : State) (site slot : Nat) : Prop := t.insts = s.insts ∧ (t.slotAt site slot).f = (s.slotAt site slot).f

theorem State.KeepsFiles.refl (s : State) (site slot : Nat) : s.KeepsFiles s site slot := ⟨rfl, rfl⟩

theorem State.KeepsFiles.trans (h : s.KeepsFiles t site slot) (k : t.KeepsFiles u site slot) : s.KeepsFiles u site slot :=
  ⟨k.1.trans h.1, k.2.trans h.2⟩

theorem State.KeepsFiles.ite {p : Prop} [Decidable p] (ht : s.KeepsFiles t site slot) (hu : s.KeepsFiles u site slot) :
    s.KeepsFiles (if p then t else u) site slot := by
  split
  · exact ht
  · exact hu

theorem State.keepsFiles_rejoin (s : State) (site slot : Nat) : s.KeepsFiles (s.rejoin site slot) site slot :=
  ⟨s.rejoin_insts site slot, by rw [State.slotAt_rejoin]⟩

theorem State.keepsFiles_templatesDone (s : State) (site slot : Nat) : s.KeepsFiles (s.templatesDone site slot) site slot := by
  rcases s.templatesDone_cases site slot with h | h
  · rw [h]
    exact .refl ..
  · rw [h]
    exact ⟨State.rejoin_insts .., by rw [State.slotAt_becomeReady]⟩

theorem State.keepsFiles_reinstall (s : State) (site slot : Nat) : s.KeepsFiles (s.reinstall site slot) site slot :=
  ⟨(s.sends_reinstall site slot).insts, by rw [State.slotAt_congr (s.sends_reinstall site slot).slots]⟩

theorem State.keepsFiles_startAcquire (s : State) (site slot ctx inc : Nat) : s.KeepsFiles (s.startAcquire site slot ctx inc) site slot :=
  ⟨rfl, by rw [State.startAcquire, State.startWalk, State.slotAt_setTileAt, State.slotAt_setSlotAt_same]⟩

/-- What goes on in its slot has the register files that it is given there, and the instances stay as they are. -/
theorem State.resumeIn_files (s : State) (site slot : Nat) (i : Inst) (y : Slot) :
    (s.resumeIn site slot i y).insts = s.insts ∧ ((s.resumeIn site slot i y).slotAt site slot).f = y.f := by
  rw [State.resumeIn]
  dsimp only
  generalize hs1 : State.setTileAt (s.setSlotAt site slot _) site _ = s1
  have hgiven : s1.insts = s.insts ∧ (s1.slotAt site slot).f = y.f := by
    subst hs1
    rw [State.slotAt_setTileAt, State.slotAt_setSlotAt_same]
    exact ⟨rfl, rfl⟩
  have hacquire := (s1.keepsFiles_reinstall site slot).trans (State.keepsFiles_startAcquire _ site slot i.ctx i.inc)
  generalize (s1.reinstall site slot).startAcquire site slot i.ctx i.inc = s2 at hacquire ⊢
  obtain ⟨hinsts, hfiles⟩ := hgiven
  obtain ⟨hkept, hsame⟩ := hacquire.trans (.ite (p := y.st = .waiting) (s2.keepsFiles_templatesDone site slot)
    (.ite (p := restoredState y = .ready) (s2.keepsFiles_rejoin site slot) (.refl s2 site slot)))
  exact ⟨hkept.trans hinsts, hsame.trans hfiles⟩

/-- The part of a record that has been read at an offset. -/
def recordPart (parts : List (Nat × List Byte)) (o : Nat) : List Byte := ((parts.find? (fun p => decide (p.1 = o))).map (·.2)).getD []

/-- RESTORE into a slot that is ready for it, by what reading the record gives. -/
theorem exec_restore {k : Slot} {h : Nat} {v : Bool} {s1 : State} {r : SysRes} {parts : List (Nat × List Byte)} (hi : s.inst uid = some i)
    (hk : i.kept = some k) (hrec : i.rec_ = some (h, v)) (hx : (s.slotAt site slot).inst = some uid) (hs : s.restoreReady site slot = true)
    (hr : s.readRecord (fieldOf site) i.ctx i.inc (s.recAddr (s.slotAt site slot) i.ctx h)
      (restoreParts (s.slotAt site slot) i.lent.length i.kern.acc) [] = (s1, r, parts)) :
    (∀ f va, r = .fault f va → exec (.restore uid site slot) s = .next (s1.restoreFail site slot uid i (restoreKind f) va)) ∧
    (∀ l, r = .ok l →
      let t := (s1.lendWays site slot i.lent).fillWindows site slot (s.slotAt site slot) i.lent (recordPart parts)
      exec (.restore uid site slot) s = .next ((t.setInst uid { i with rec_ := none, kept := none }).resumeIn site slot i
        (t.fromRecord (t.slotAt site slot) k i.kern.acc (recordPart parts)))) := by
  have hgo : ¬ ((s.slotAt site slot).inst ≠ some uid ∨ (!s.restoreReady site slot) = true) := by simp [hx, hs]
  show (∀ f va, _ → execRestore uid site slot s = _) ∧ ∀ l, _ → execRestore uid site slot s = _
  -- The read is opaque here as the write is in `exec_evictionComplete`.
  obtain ⟨read, hread⟩ := exists_eq (a' := State.readRecord)
  rw [← hread] at hr
  rw [execRestore, ← hread, hi]
  dsimp only
  rw [hk, hrec]
  dsimp only
  rw [if_neg hgo, hr]
  refine ⟨fun f va hv => ?_, fun l hv => ?_⟩
  · rw [hv]
  · rw [hv]
    rfl

theorem State.getA_fromRecord (s : State) (x k : Slot) (acc : Nat) (part : Nat → List Byte) {r : Nat} (h0 : 0 < r) (hr : r < 64) :
    (s.fromRecord x k acc part).f.getA r = BitVec.ofNat 64 (bytesWord (((part 0x100).drop (8 * r)).take 8)) := by
  have hne : r ≠ 0 := Nat.ne_of_gt h0
  rw [Files.getA, if_neg hne, State.fromRecord]
  simp [hr, hne]

/-! ### Blocks written between events (R305, R307, R324, R335) -/

/-- A CHKP.now that may go on, by what taking its record gives; with no block left it ends with its count. -/
theorem State.chkpGo_cases {d : Reg} {bs : List Nat} {n : Nat} {r : List (Reg × List Nat × Nat)} {s0 : State} {v : RecTake}
    (hr : s.chkpReady site slot = true) (hx : (s.slotAt site slot).chkp = (d, bs, n) :: r) (hi : s.instOf site slot = some (uid, i))
    (ht : s.takeRec (fieldOf site) i = (s0, v)) :
    (v = .full → s.chkpGo site slot = s0.chkpEnd site slot d 0xFFFFFFFF) ∧
    (∀ k va, v = .fault k va → s.chkpGo site slot = (s0.saveFault site slot k va).chkpEnd site slot d 0xFFFFFFFE) ∧
    (bs = [] → ∀ h, v = .got h → ∃ u : State, s.chkpGo site slot = u.chkpEnd site slot d n) := by
  -- The write is opaque here as in `exec_evictionComplete`.
  obtain ⟨write, hwrite⟩ := exists_eq (a' := State.writeBlock)
  rw [State.chkpGo, ← hwrite, hr, hx, hi]
  dsimp only
  rw [ht]
  refine ⟨fun hv => ?_, fun k va hv => ?_, fun hbs h hv => ?_⟩
  · rw [hv]
  · rw [hv]
  · rw [hv, hbs]
    exact ⟨_, rfl⟩

/-- BACKGROUND_WRITE of the lowest dirty block, whose write goes through. -/
theorem exec_backgroundWrite {b h : Nat} {r : List Nat} {s0 s2 : State} {l : List Byte} (hb : s.bgReady site slot = true)
    (hi : s.instOf site slot = some (uid, i)) (hd : s.dirtyBlocks site slot = b :: r) (ht : s.takeRec (fieldOf site) i = (s0, .got h))
    (hw : (s0.setInst uid { i with rec_ := some (h, match i.rec_ with | some (_, v) => v | none => false) }).writeBlock site slot h b = (s2, .ok l)) :
    exec (.backgroundWrite site slot) s = .next s2 := by
  show execBackgroundWrite site slot s = _
  -- The write is opaque here as in `exec_evictionComplete`.
  obtain ⟨write, hwrite⟩ := exists_eq (a' := State.writeBlock)
  rw [← hwrite] at hw
  rw [execBackgroundWrite, if_neg (by rw [hb]; decide), ← hwrite, hi, hd]
  dsimp only
  rw [ht]
  dsimp only
  generalize hq : write _ site slot h b = q
  rw [show q = (s2, .ok l) from hq.symm.trans hw]

/-- Settles O44: each event is executed on the case that the statement names. -/
theorem saveEvents : Obligations.SaveEvents := by
  intro s uid site slot i hi x
  refine ⟨fun why hp hs hx hpl hst hc he => exec_saveOrderAtTile hi hp hs hx hpl hst hc he, fun why hp hw hx hs => ?evict, ?restore,
    fun k h v f va s1 parts hk hrec hx hs hr => (exec_restore hi hk hrec hx hs hr).1 f va rfl, fun a b hp hx hst => exec_migrate hi hp hx hst,
    ?chkp, fun b r s0 h s2 l hb hi hd ht hw => exec_backgroundWrite hb hi hd ht hw, fun hreq hfroz => ?freeze⟩
  case evict =>
    exact ⟨fun s0 hr => (exec_evictionComplete hi hp hw hx hs hr).1 rfl, fun s0 k va hr => (exec_evictionComplete hi hp hw hx hs hr).2.1 k va rfl,
      fun s0 h s3 l hr => (exec_evictionComplete hi hp hw hx hs hr).2.2 h s3 l rfl⟩
  case restore =>
    intro k h v s1 l parts hk hrec hx hs hr part
    have hgoes := (exec_restore hi hk hrec hx hs hr).2 l rfl
    obtain ⟨hinsts, hfiles⟩ := State.resumeIn_files (State.setInst _ uid { i with rec_ := none, kept := none }) site slot i
      (State.fromRecord _ _ k i.kern.acc part)
    refine ⟨_, hgoes, (State.inst_congr hinsts uid).trans (State.inst_setInst_same ..), fun r h0 hr => ?_⟩
    refine (congrArg (fun f => Files.getA f r) hfiles).trans ?_
    exact State.getA_fromRecord _ _ _ _ _ h0 hr
  case chkp =>
    intro d bs n r s0 v hready hx hi ht
    obtain ⟨hfull, hfault, hgot⟩ := State.chkpGo_cases hready hx hi ht
    refine ⟨fun hv => congrArg _ (hfull hv), fun k va hv => congrArg _ (hfault k va hv), fun hbs h hv => ?_⟩
    obtain ⟨u, hu⟩ := hgot hbs h hv
    exact ⟨u, congrArg _ hu⟩
  case freeze => exact congrArg _ (if_pos ⟨hreq, by rw [hfroz]; decide⟩)

end Sys2Proof.Machine
end

section
/-! PROOFS. Queues at their schedulers: operations, records, gates, memberships and expansion (O37). -/

namespace Sys2Proof.Machine

variable {s t : State} {ctx inc q : Nat}

/-! ### Operations of a queue (R237, R250) -/

@[simp] theorem State.queue_setQueue_same (s : State) (ctx q : Nat) (x : Queue) : (s.setQueue ctx q x).queue ctx q = x := KMap.getD_set_same ..

theorem State.Sends.queue (h : s.Sends t) (ctx q : Nat) : t.queue ctx q = s.queue ctx q := by
  obtain ⟨l, rfl⟩ := h
  rfl

/-- An event that a queue publishes leaves every queue as it is (R245). -/
@[simp] theorem State.queue_queueEvent (s : State) (ctx inc q kind seq n cause c r : Nat) :
    (s.queueEvent ctx inc q kind seq n cause).queue c r = s.queue c r :=
  State.Sends.queue (State.sends_sendAt ..) c r

theorem State.closeQueue_st (s : State) (ctx inc q : Nat) : ((s.closeQueue ctx inc q).queue ctx q).st = .closed := by
  simp [State.closeQueue]

theorem State.queueOp_create_st (ring lg lvl : Nat) (fixed : Bool) : ((s.queueOp ctx inc q (.create ring lg lvl fixed)).1.queue ctx q).st =
    if (s.queue ctx q).st = .none ∨ (s.queue ctx q).st = .closed then .open_ else (s.queue ctx q).st := by
  rw [State.queueOp]
  split <;> simp [*]

theorem State.queueOp_drain_st : ((s.queueOp ctx inc q .drain).1.queue ctx q).st =
    if (s.queue ctx q).st = .open_ then if (s.queue ctx q).recs.isEmpty then .closed else .draining else (s.queue ctx q).st := by
  rw [State.queueOp]
  cases hst : (s.queue ctx q).st with
  | open_ =>
    dsimp only
    split <;> simp [*]
  | _ => simp [hst]

theorem State.queueOp_close_st : ((s.queueOp ctx inc q .close).1.queue ctx q).st =
    if (s.queue ctx q).st = .open_ ∨ (s.queue ctx q).st = .draining then .closed else (s.queue ctx q).st := by
  rw [State.queueOp]
  cases hst : (s.queue ctx q).st <;> simp [hst, State.closeQueue_st]

theorem State.queueOp_level_st (lvl : Nat) (fixed : Bool) :
    ((s.queueOp ctx inc q (.level lvl fixed)).1.queue ctx q).st = (s.queue ctx q).st := by
  rw [State.queueOp]
  cases hst : (s.queue ctx q).st <;> simp [hst]

/-- An operation answers its asker once it has acted on the queue. -/
theorem exec_queueOperationAtScheduler (op : QOp) (who : Asker) (hs : s.stale (agSched (schedOf ctx q)) ctx inc = false) :
    ∃ u, exec (.queueOperationAtScheduler ctx inc q op who) s = .next u ∧ u.queue ctx q = (s.queueOp ctx inc q op).1.queue ctx q :=
  ⟨_, if_neg (Bool.eq_false_iff.mp hs), State.Sends.queue (State.sends_sendAt ..) ctx q⟩

/-! ### Records (R241, R242) -/

section
variable {r : List Word} {src : RecSrc} (hs : s.stale (agSched (schedOf ctx q)) ctx inc = false)

include hs

theorem exec_recordAppend_closed (hst : (s.queue ctx q).st ≠ .open_) :
    exec (.recordAppend ctx inc q r src) s = .next (s.recordReply ctx inc src (some .qclosed) 0) :=
  (if_neg (Bool.eq_false_iff.mp hs)).trans (if_pos hst)

theorem exec_recordAppend_full (hst : (s.queue ctx q).st = .open_) (hfull : 2 ^ (s.queue ctx q).lg ≤ (s.queue ctx q).recs.length) :
    exec (.recordAppend ctx inc q r src) s = .next (s.recordReply ctx inc src (some .qfull) 0) :=
  (if_neg (Bool.eq_false_iff.mp hs)).trans ((if_neg (not_not_intro hst)).trans (if_pos hfull))

/-- A record that passes its checks and is written into the ring is the last of its queue. -/
theorem exec_recordAppend_ok {s1 : State} {l : List Byte} (hst : (s.queue ctx q).st = .open_)
    (hroom : (s.queue ctx q).recs.length < 2 ^ (s.queue ctx q).lg) (hgood : recordBad ctx q r = none)
    (hw : s.sysWrite (schedOf ctx q) ctx inc ((s.queue ctx q).base + 64 * ((s.queue ctx q).next % 2 ^ (s.queue ctx q).lg))
      (r.flatMap (fun w => wordBytes 8 w.toNat)) = (s1, .ok l)) :
    exec (.recordAppend ctx inc q r src) s = .next (((s1.setQueue ctx q
      { s.queue ctx q with next := ((s.queue ctx q).next + 1) % 2 ^ 32, recs := (s.queue ctx q).recs ++ [((s.queue ctx q).next, r)] }).recordReply
        ctx inc src none (s.queue ctx q).next).headUp ctx inc q) := by
  show execRecordAppend ctx inc q r src s = _
  -- The write is made opaque here, for the kernel would compute it to compare the two forms of the match on its result.
  obtain ⟨write, hwrite⟩ := exists_eq (a' := @State.sysWrite)
  rw [← hwrite] at hw
  unfold execRecordAppend
  rw [← hwrite]
  dsimp only
  rw [if_neg (Bool.eq_false_iff.mp hs), if_neg (not_not_intro hst), if_neg (Nat.not_le.mpr hroom), hgood]
  dsimp only
  rw [hw]

end

/-! ### The head of a queue: its gates, its memberships and its expansion (R240, R243, R253) -/

section
variable {seq : Nat} (hhead : (s.queue ctx q).recs.head?.map (·.1) = some seq)

include hhead

theorem exec_gateSatisfied {name : Word} {gs : List Word} (hs : s.stale (agSched (schedOf ctx q)) ctx inc = false)
    (hgates : (s.queue ctx q).gates = some gs) : exec (.gateSatisfied ctx inc ⟨q, (s.queue ctx q).cseq, seq⟩ name) s =
      .next ((s.setQueue ctx q { s.queue ctx q with gates := some (gs.filter (fun g => g != name)) }).dropGates ctx inc q [name]) := by
  show execGateSatisfied ctx inc ⟨q, (s.queue ctx q).cseq, seq⟩ name s = _
  rw [execGateSatisfied, if_neg (Bool.eq_false_iff.mp hs)]
  dsimp only
  rw [if_neg (by simp [hhead]), hgates]

/-- A reservation that the head of its queue has asked for: the group's limit decides it. -/
theorem exec_membershipReserve {g n : Nat} (hs : s.stale (agSched (schedOf ctx g)) ctx inc = false)
    (hasked : (s.queue ctx q).asked.contains g = true) : exec (.membershipReserve ⟨ctx, inc⟩ ⟨q, (s.queue ctx q).cseq, seq⟩ g n) s =
      if (s.group ctx g).live + (s.group ctx g).reservedSum + n ≤ 16777215 then
        .next ((s.setGroup ctx g { s.group ctx g with reserved := KMap.set (s.group ctx g).reserved q n }).setQueue ctx q
          { s.queue ctx q with asked := (s.queue ctx q).asked.erase g, granted := (s.queue ctx q).granted ++ [g] })
      else .next (s.setQueue ctx q { s.queue ctx q with asked := (s.queue ctx q).asked.erase g, refused := some g }) := by
  have hcurrent : ¬ ((!(s.queue ctx q).asked.contains g) = true ∨ (s.queue ctx q).cseq ≠ (s.queue ctx q).cseq ∨
      (s.queue ctx q).recs.head?.map (·.1) ≠ some seq) := by
    rw [hasked, hhead]
    simp
  exact (if_neg (Bool.eq_false_iff.mp hs)).trans (if_neg hcurrent)

end

/-- The expansion of a head whose image has been checked: the answers to its reservations decide it. -/
theorem exec_recordExpand_checked {seq : Nat} {r : List Word} {rest : List (Nat × List Word)} {k : Kern} (hready : s.expandReady ctx q = true)
    (hrecs : (s.queue ctx q).recs = (seq, r) :: rest) (hkern : (s.queue ctx q).kern = some k) :
    ((s.queue ctx q).refused = none → exec (.recordExpand ctx q) s = .next (s.createInsts ctx (s.ctx ctx).inc q seq k r)) ∧
    (∀ g, (s.queue ctx q).refused = some g → exec (.recordExpand ctx q) s =
      .next (s.discardHead ctx (s.ctx ctx).inc q seq .groupmax 0 (BitVec.ofNat 64 (g + seq * 2 ^ 32)))) := by
  show (_ → execRecordExpand ctx q s = _) ∧ ∀ g, _ → execRecordExpand ctx q s = _
  rw [execRecordExpand, hready, hrecs, hkern]
  refine ⟨fun hyes => ?_, fun g hno => ?_⟩
  · rw [hyes]
    rfl
  · rw [hno]
    rfl

/-! ### The append window (R242) -/

section
variable {port off : Nat} {bytes : List Byte} (hok : s.hostOk port = true)

include hok

theorem exec_hostAppendWrite_record (hlen : bytes.length = 64) (hoff : off % 64 = 0) : exec (.hostAppendWrite ⟨port, off⟩ bytes) s =
    .next (s.send (chanKey 20 port) (.recordAppend (off / 4096 % 256) (s.ctx (off / 4096 % 256)).inc (off / 64 % 64)
      ((dwords bytes).map (BitVec.ofNat 64)) (.host port off))) :=
  (if_neg (by rw [hok]; decide)).trans (if_pos ⟨hlen, hoff⟩)

theorem exec_hostAppendWrite_other (hbad : bytes.length ≠ 64 ∨ off % 64 ≠ 0) : exec (.hostAppendWrite ⟨port, off⟩ bytes) s =
    .next (s.record ⟨off / 4096 % 256, (s.ctx (off / 4096 % 256)).inc, none⟩ { kind := .rsvfield, origin := 0, eval := BitVec.ofNat 64 off }) :=
  (if_neg (by rw [hok]; decide)).trans (if_neg (not_and_or.mpr hbad))

end

/-- Settles O37: an operation by the queue's state, a record by its room and its check, and what comes to the head by what the head waits for. -/
theorem queueEvents : Obligations.QueueEvents := by
  intro s ctx inc q hs x chk
  refine ⟨fun op who => ?operation, fun r src hst => exec_recordAppend_closed hs hst, fun r src hst hfull => exec_recordAppend_full hs hst hfull,
    fun r src s1 l hst hroom hgood hw => exec_recordAppend_ok hs hst hroom hgood hw,
    fun name gs seq hgates hhead => exec_gateSatisfied hhead hs hgates,
    fun g n seq hsg hasked hhead hfits => (exec_membershipReserve hhead hsg hasked).trans (if_pos hfits),
    fun g n seq hsg hasked hhead hover => (exec_membershipReserve hhead hsg hasked).trans (if_neg (Nat.not_le.mpr hover)),
    fun seq r rest k hready hrecs hkern => (exec_recordExpand_checked hready hrecs hkern).1,
    fun seq r rest k g hready hrecs hkern => (exec_recordExpand_checked hready hrecs hkern).2 g,
    fun port off bytes hok hlen hoff => exec_hostAppendWrite_record hok hlen hoff,
    fun port off bytes hok hbad => exec_hostAppendWrite_other hok hbad⟩
  case operation =>
    obtain ⟨u, hu, hqueue⟩ := exec_queueOperationAtScheduler op who hs
    refine ⟨u, hu, ?_⟩
    rw [hqueue]
    cases op with
    | create =>
      rw [State.queueOp_create_st]
      cases x.st <;> rfl
    | drain =>
      rw [State.queueOp_drain_st]
      cases x.st <;> rfl
    | close =>
      rw [State.queueOp_close_st]
      cases x.st <;> rfl
    | level => exact State.queueOp_level_st ..
    | query => rfl

end Sys2Proof.Machine
end

section
/-! PROOFS. The host on its PCIe links: writes and reads of local memory, of the append window and of registers, and subscriptions (O47). -/

namespace Sys2Proof.Machine

variable {s : State} {port : Nat}

/-! ### Ports that work (R382, R392) -/

theorem State.hostOk_iff (s : State) (port : Nat) : s.hostOk port = true ↔ (s.mgmt.ready = true ∨ s.mgmt.recovery = true) ∧
    (port < 2 ∧ (s.link port).usable = true ∨ port = 2 ∧ s.mgmt.bifurcated.contains 0 = true ∧ (s.link 74).usable = true ∨
      port = 3 ∧ s.mgmt.bifurcated.contains 1 = true ∧ (s.link 75).usable = true) := by
  simp only [State.hostOk, Bool.and_eq_true, Bool.or_eq_true, decide_eq_true_eq]
  rw [and_comm]
  refine and_congr_right fun _ => ?_
  by_cases hlow : port < 2
  · have hlink : hostLink port = port := if_pos hlow
    have h2 : port ≠ 2 := by omega
    have h3 : port ≠ 3 := by omega
    simp [hlink, hlow, h2, h3]
  · by_cases h2 : port = 2
    · subst h2
      simp [hostLink]
    · by_cases h3 : port = 3
      · subst h3
        simp [hostLink]
      · have h4 : ¬ port < 4 := by omega
        simp [hlow, h2, h3, h4]

/-! ### What the port answers (R382, R384) -/

/-- From `s` to `t` the port has answered that it does not support an access, shows so in its error status, and local memory is as it was. -/
def State.Refuses (s t : State) (port : Nat) : Prop :=
  t.outbox = s.outbox ++ [.unsupported port] ∧ (KMap.getD t.mgmt.aer port 0).testBit 20 = true ∧ t.mem = s.mem

theorem State.refuses_unsupported (s : State) (port : Nat) : s.Refuses (s.unsupported port) port := by
  refine ⟨rfl, ?_, rfl⟩
  rw [State.unsupported, KMap.getD_set_same, Nat.testBit_or, Nat.testBit_two_pow_self, Bool.or_true]

/-! ### Writes (R338, R383, R384) -/

/-- A part of a host write, with what it does to the metadata of its granules (R338). -/
def State.hostPut (s : State) (port pa : Nat) (bs : List Byte) : State := (s.hostMerge port pa bs.length).memPut pa bs

/-- How many of the n bytes of a host write at pa lie before its last granule. -/
def hostTailAt (pa n : Nat) : Nat := n - ((pa + n - 1) % 64 + 1)

/-- The last granule of a write over the end of a granule begins within the write. -/
theorem hostTailAt_spec {pa n : Nat} (hover : 64 - pa % 64 < n) :
    0 < hostTailAt pa n ∧ hostTailAt pa n < n ∧ (pa + hostTailAt pa n) % 64 = 0 ∧ n ≤ hostTailAt pa n + 64 := by
  rw [hostTailAt]
  omega

theorem exec_hostWrite_ignored {pa : Nat} {bytes : List Byte} (hok : s.hostOk port = false) : exec (.hostWrite port ⟨pa, false⟩ bytes) s = .next s :=
  if_pos (by rw [hok]; rfl)

section
variable (hok : s.hostOk port = true) {pa : Nat} {rest : Bool} {bytes : List Byte}

include hok

theorem exec_hostWrite_outside (hout : localSize < pa + bytes.length) :
    exec (.hostWrite port ⟨pa, rest⟩ bytes) s = .next (s.unsupported port) :=
  (if_neg (by rw [hok]; simp)).trans (if_pos hout)

/-- A write within local memory is performed whole where it fits its first granule, else its first granule or its last one is (log 14). -/
theorem exec_hostWrite_inside (hin : pa + bytes.length ≤ localSize) : exec (.hostWrite port ⟨pa, rest⟩ bytes) s =
    if bytes.length ≤ 64 - pa % 64 then .next (s.hostPut port pa bytes)
    else if Config.pick s.tick 660 % 2 = 0 then
      .next ((s.hostPut port pa (bytes.take (64 - pa % 64))).hostRest port
        (.hostWrite port ⟨pa + (64 - pa % 64), true⟩ (bytes.drop (64 - pa % 64))))
    else
      .next ((s.hostPut port (pa + hostTailAt pa bytes.length) (bytes.drop (hostTailAt pa bytes.length))).hostRest port
        (.hostWrite port ⟨pa, true⟩ (bytes.take (hostTailAt pa bytes.length)))) :=
  (if_neg (by rw [hok]; simp)).trans (if_neg (Nat.not_lt.mpr hin))

theorem exec_hostWrite_whole (hin : pa + bytes.length ≤ localSize) (hfits : bytes.length ≤ 64 - pa % 64) :
    exec (.hostWrite port ⟨pa, rest⟩ bytes) s = .next (s.hostPut port pa bytes) :=
  (exec_hostWrite_inside hok hin).trans (if_pos hfits)

/-- A write over the end of a granule is cut at the end of its first granule or at the beginning of its last one. -/
theorem exec_hostWrite_cut (hin : pa + bytes.length ≤ localSize) (hover : 64 - pa % 64 < bytes.length) :
    ∃ k, 0 < k ∧ k < bytes.length ∧ (pa + k) % 64 = 0 ∧
      (exec (.hostWrite port ⟨pa, rest⟩ bytes) s =
          .next ((s.hostPut port pa (bytes.take k)).hostRest port (.hostWrite port ⟨pa + k, true⟩ (bytes.drop k))) ∧ k ≤ 64 ∨
        exec (.hostWrite port ⟨pa, rest⟩ bytes) s =
          .next ((s.hostPut port (pa + k) (bytes.drop k)).hostRest port (.hostWrite port ⟨pa, true⟩ (bytes.take k))) ∧ bytes.length ≤ k + 64) := by
  have hexec := (exec_hostWrite_inside (rest := rest) hok hin).trans (if_neg (Nat.not_le.mpr hover))
  by_cases hpick : Config.pick s.tick 660 % 2 = 0
  · exact ⟨64 - pa % 64, by omega, hover, by omega, .inl ⟨hexec.trans (if_pos hpick), Nat.sub_le ..⟩⟩
  · obtain ⟨hpos, hlt, hgran, hlast⟩ := hostTailAt_spec hover
    exact ⟨hostTailAt pa bytes.length, hpos, hlt, hgran, .inr ⟨hexec.trans (if_neg hpick), hlast⟩⟩

end

/-! ### Reads (R242, R383, R384, R396) -/

/-- What lies within one granule is one part of a read. -/
theorem hostParts_within {pa n : Nat} (hn : 0 < n) (hin : pa % 64 + n ≤ 64) : hostParts pa n = [(pa, n)] := by
  have hone : (pa + n - 1) / 64 - pa / 64 + 1 = 1 := by omega
  have hlow : max pa (64 * (pa / 64)) = pa := by omega
  have hhigh : min (pa + n) (64 * (pa / 64) + 64) - pa = n := by omega
  rw [hostParts, granules, if_neg (Nat.ne_of_gt hn), hone]
  simp [hlow, hhigh]

theorem State.hostMemRead_outbox {pa n : Nat} (hn : 0 < n) (hin : pa % 64 + n ≤ 64) (hpoison : (s.homeRead 256 0 pa n).2.poison = false)
    (herr : (s.homeRead 256 0 pa n).2.err = none) : (s.hostMemRead port pa n).outbox =
      (s.homeRead 256 0 pa n).1.outbox ++ [.completion port (s.homeRead 256 0 pa n).2.data false] := by
  rw [State.hostMemRead, hostParts_within hn hin]
  dsimp only
  rw [hpoison, herr]
  exact List.append_nil _

theorem State.windowRead_status {c q : Nat} (hc : c < 256) (hq : q < 64) :
    s.windowRead (4096 * c + 64 * q) 8 = wordBytes 8 ((s.queue c q).status false) := by
  have hctx : (4096 * c + 64 * q) / 4096 % 256 = c := by omega
  have hqueue : (4096 * c + 64 * q) / 64 % 64 = q := by omega
  rw [State.windowRead, if_pos ⟨rfl, by omega⟩, hctx, hqueue]

theorem State.windowRead_other {off n : Nat} (h : n ≠ 8 ∨ off % 64 ≠ 0) : s.windowRead off n = List.replicate n 0 :=
  if_neg (not_and_or.mpr h)

/-- A read of the doubleword MODCAP gives the bytes of the value that it takes next, and changes nothing. -/
theorem State.mgmtRead_modcap (s : State) : s.mgmtRead 0x08 8 = (s, wordBytes 8 s.mgmt.modcapNext) := rfl

section
variable (hok : s.hostOk port = true)

include hok

theorem exec_hostRead_window (off n : Nat) : exec (.hostRead port ⟨2, off⟩ n) s =
    .next { s with outbox := s.outbox ++ [.completion port (s.windowRead off n) false] } := if_neg (by rw [hok]; decide)

theorem exec_hostRead_register (off n : Nat) : exec (.hostRead port ⟨0, off⟩ n) s =
    .next { (s.mgmtRead off n).1 with outbox := (s.mgmtRead off n).1.outbox ++ [.completion port (s.mgmtRead off n).2 false] } :=
  if_neg (by rw [hok]; decide)

theorem exec_hostRead_memory (pa n : Nat) : exec (.hostRead port ⟨4, pa⟩ n) s =
    .next (if localSize < pa + n then s.unsupported port else s.hostMemRead port pa n) := if_neg (by rw [hok]; decide)

end

/-! ### Subscriptions of the host (R385) -/

theorem exec_hostSubscriptionRegister {ctx ring vector : Nat} {name : Word} (hok : s.hostOk port = true) (hlo : 0xF0 ≤ spaceOf name)
    (hhi : spaceOf name ≤ 0xF5) (hv : 0 < vector) (hv' : vector ≤ 255) (hc : ctx < 256) :
    ∃ u, exec (.hostSubscriptionRegister port ctx name ring vector) s = .next u ∧
      u.mgmt.hostSubs = s.mgmt.hostSubs ++ [(port, ctx, (s.ctx ctx).inc, name, ring, vector)] ∧ u.agenda.length = s.agenda.length + 1 := by
  have hgood : ¬ (spaceOf name < 0xF0 ∨ 0xF5 < spaceOf name ∨ vector = 0 ∨ 255 < vector ∨ 256 ≤ ctx ∨ (!s.hostOk port) = true) := by
    rw [hok]
    simp only [Bool.not_true, Bool.false_eq_true, or_false]
    omega
  exact ⟨_, if_neg hgood, rfl, List.length_append ..⟩

/-- The landing of a copy for a subscription of the host whose incarnation is current: it waits for the port's link. -/
theorem exec_hostEventLanding {sub ctx inc ring vector : Nat} {name : Word} {payload : List Byte}
    (hsub : s.mgmt.hostSubs[sub]? = some (port, ctx, inc, name, ring, vector)) (hinc : (s.ctx ctx).inc = inc) :
    ((s.link (hostLink port)).usable = true →
      ∃ u, exec (.hostEventLanding sub payload) s = .next u ∧ u.outbox = s.outbox ++ [.ring port ring payload, .msix port vector]) ∧
    ((s.link (hostLink port)).usable = false →
      exec (.hostEventLanding sub payload) s = .next (s.sendAt (s.time + 1000) 0 (.hostEventLanding sub payload))) := by
  show (_ → ∃ u, execHostEventLanding sub payload s = .next u ∧ _) ∧ (_ → execHostEventLanding sub payload s = _)
  rw [execHostEventLanding, hsub]
  dsimp only
  rw [if_neg (not_not_intro hinc)]
  exact ⟨fun hup => ⟨_, if_neg (by rw [hup]; decide), rfl⟩, fun hdown => if_pos (by rw [hdown]; rfl)⟩

/-- Settles O47: an access by whether its port works and by what its address names, a subscription and its landing by the port's link. -/
theorem hostEvents : Obligations.HostEvents := by
  intro s port put refused
  refine ⟨s.hostOk_iff port, fun hok => ⟨fun pa bytes => exec_hostWrite_ignored hok, fun bar off n => if_pos (by rw [hok]; rfl)⟩,
    fun hok => ⟨?writes, fun pa bytes n => ⟨fun hout => ⟨_, exec_hostWrite_outside hok hout, s.refuses_unsupported port⟩, fun hout => ?outside⟩,
      ?memory, fun c q hc hq => ?status, fun off n hn => ?zeros, ?modcap⟩,
    fun ctx name ring vector hok hlo hhi hv hv' hc => exec_hostSubscriptionRegister hok hlo hhi hv hv' hc,
    fun sub payload ctx inc name ring vector hsub hinc =>
      ⟨(exec_hostEventLanding hsub hinc).1, fun hdown => ⟨_, (exec_hostEventLanding hsub hinc).2 hdown⟩⟩⟩
  case writes =>
    rintro pa bytes hin i (rfl | rfl)
    · exact ⟨exec_hostWrite_whole hok hin, exec_hostWrite_cut hok hin⟩
    · exact ⟨exec_hostWrite_whole hok hin, exec_hostWrite_cut hok hin⟩
  case outside =>
    refine ⟨_, exec_hostRead_memory hok pa n, ?_⟩
    rw [if_pos hout]
    exact s.refuses_unsupported port
  case memory =>
    intro pa n hgran hn hin hpoison herr
    refine ⟨_, exec_hostRead_memory hok pa n, ?_⟩
    rw [if_neg (Nat.not_lt.mpr hin)]
    exact State.hostMemRead_outbox hn hgran hpoison herr
  case status => rw [exec_hostRead_window hok, State.windowRead_status hc hq]
  case zeros => rw [exec_hostRead_window hok, State.windowRead_other hn]
  case modcap => rw [exec_hostRead_register hok, State.mgmtRead_modcap]

end Sys2Proof.Machine
end

section
/-! PROOFS. Syllables of groups: GJOIN, GLEAVE, GCTL and GWAIT (O30). -/

namespace Sys2Proof.Machine

variable {s t : State} {h : Hdr} {f : RRR}

/-! ### A slot that is written twice, and what it reads -/

theorem KMap.set_set {α : Type} (m : KMap α) (k : Nat) (x y : α) : KMap.set (KMap.set m k x) k y = KMap.set m k y := by
  induction m with
  | nil => simp [KMap.set]
  | cons e m ih =>
    obtain ⟨j, z⟩ := e
    rcases Nat.lt_trichotomy k j with hlt | rfl | hgt
    · simp [KMap.set, hlt]
    · simp [KMap.set]
    · simp [KMap.set, ih, Nat.not_lt_of_gt hgt, Nat.ne_of_gt hgt]

@[simp] theorem State.setCur_setCur (s : State) (x y : Slot) : (s.setCur x).setCur y = s.setCur y :=
  congrArg (fun m => { s with slots := m }) (KMap.set_set ..)

/-- A scalar operand is read from the registers of the slot at issue, as the bundle finds them. -/
theorem State.readS_setCur {y : Slot} (hf : y.f = s.cur.f) (field : Nat) (spec : BitVec 8) : (s.setCur y).readS field spec = s.readS field spec := by
  rw [State.readS, State.readS, State.cur_setCur, hf]
  rfl

/-! ### Requests to a group's scheduler (R264) -/

/-- A request leaves its register pending in the slot as the syllable has changed it, and goes to the scheduler of the group that read(A) gives. -/
theorem State.askGroup_setCur {y : Slot} (hf : y.f = s.cur.f) (hsys : y.sys = s.cur.sys) (op : GOp) (midx : Nat) :
    (s.setCur y).askGroup f op midx = (s.setCur (y.await (dstS f.d))).send (groupChan s.iss.site s.iss.slot s.cur.sys.ctxid (gIdx f s))
      (.groupRequestAtScheduler s.cur.sys.ctxid s.cur.sys.incarn (gIdx f s) op ⟨s.iss.site, s.iss.slot, dstS f.d⟩ midx) := by
  rw [State.askGroup, gIdx, State.readS_setCur hf, State.cur_setCur, State.setCur_setCur, hsys]
  rfl

theorem gCheck_bad {k : Act} (ha : 256 ≤ (s.readS 32 f.a).toNat) : gCheck f s k = .trap ⟨.rsvfield, 0, s.readS 32 f.a⟩ := if_pos ha

theorem gCheck_good {k : Act} (ha : (s.readS 32 f.a).toNat < 256) : gCheck f s k = k := if_neg (Nat.not_le.mpr ha)

theorem cutOperands_ok (op : Nat → Nat → GOp) (ha : s.readS 32 f.a &&& 0xFFFF000000FFFF00 = 0)
    (hsize : ((s.readS 32 f.a).extractLsb' 24 24).toNat ≠ 0) (hpage : (s.readS 24 f.b).toNat % 4096 = 0) (hcanon : (s.readS 24 f.b).toNat < 2 ^ 56) :
    cutOperands f s op = .ok (s.askGroup f (op (s.readS 24 f.b).toNat ((s.readS 32 f.a).extractLsb' 24 24).toNat) 0) := by
  have harea : ¬ (s.readS 32 f.a &&& 0xFFFF000000FFFF00 ≠ 0 ∨ ((s.readS 32 f.a).extractLsb' 24 24).toNat = 0) :=
    not_or.mpr ⟨not_not_intro ha, hsize⟩
  have hbase : ¬ ((s.readS 24 f.b).toNat % 4096 ≠ 0 ∨ 2 ^ 56 ≤ (s.readS 24 f.b).toNat) := by omega
  exact (if_neg harea).trans (if_neg hbase)

section
variable (ha : (s.readS 32 f.a).toNat < 256)

include ha

/-! ### GJOIN and GLEAVE (R265) -/

theorem effGjoin_held {i : Nat} (hh : s.cur.holds (gIdx f s) = some i) : effGjoin f s =
    .ok (s.selfReply (dstS f.d) (BitVec.ofNat 1024 ((s.group s.cur.sys.ctxid (gIdx f s)).status false true i)) .plain) := by
  rw [effGjoin, gCheck_good ha]
  dsimp only
  rw [hh]

theorem effGjoin_asks {i : Nat} (hh : s.cur.holds (gIdx f s) = none) (hi : s.cur.freeMember = some i) : effGjoin f s =
    .ok ((s.setCur { s.cur with joining := s.cur.joining ++ [i * 256 + gIdx f s] }).askGroup f .join i) := by
  rw [effGjoin, gCheck_good ha]
  dsimp only
  rw [hh, hi]

theorem effGjoin_full (hh : s.cur.holds (gIdx f s) = none) (hi : s.cur.freeMember = none) :
    effGjoin f s = .trap ⟨.groupmax, 0, BitVec.ofNat 64 (gIdx f s)⟩ := by
  rw [effGjoin, gCheck_good ha]
  dsimp only
  rw [hh, hi]
  rfl

theorem effGleave_asks {i : Nat} (hh : s.cur.holds (gIdx f s) = some i) (hl : s.cur.leaving.contains (i * 256 + gIdx f s) = false) : effGleave f s =
    .ok ((s.setCur { s.cur with leaving := s.cur.leaving ++ [i * 256 + gIdx f s] }).askGroup f .leave i) := by
  rw [effGleave, gCheck_good ha]
  dsimp only
  rw [hh]
  exact if_neg (Bool.eq_false_iff.mp hl)

theorem effGleave_free (hh : s.cur.holds (gIdx f s) = none) : effGleave f s = .trap ⟨.groupfree, 0, BitVec.ofNat 64 (gIdx f s)⟩ := by
  rw [effGleave, gCheck_good ha]
  dsimp only
  rw [hh]
  rfl

/-! ### GCTL and GWAIT (R266, R267) -/

theorem effGctlPrio_ok (hb : (s.readS 24 f.b).toNat < 10 ∨ ((s.readS 24 f.b).toNat < 12 ∧ s.cur.sys.privc = true)) :
    effGctlPrio f s = .ok (s.askGroup f (.prio (s.readS 24 f.b).toNat) 0) := by
  rw [effGctlPrio, gCheck_good ha, if_neg (by omega), privLevel_ok hb]

theorem effGctlCap_ok (hb : (s.readS 24 f.b).toNat < 2 ^ 24) : effGctlCap f s = .ok (s.askGroup f (.cap (s.readS 24 f.b).toNat) 0) := by
  rw [effGctlCap, gCheck_good ha, if_neg (Nat.not_le.mpr hb)]

theorem effGwait_ok (hl : s.landCheck (f.c.toNat % 16) (s.readS 24 f.b).toNat = none) : effGwait f s =
    .ok ((s.setCur (s.cur.setSub (f.c.toNat % 16) { s.cur.subAt (f.c.toNat % 16) with reserved := true })).askGroup f
      (.wait (f.c.toNat % 16) (s.readS 24 f.b)) 0) := by
  rw [effGwait, gCheck_good ha]
  dsimp only
  rw [hl]

theorem effGwait_trap {k : TrapInfo} (hl : s.landCheck (f.c.toNat % 16) (s.readS 24 f.b).toNat = some k) : effGwait f s = .trap k := by
  rw [effGwait, gCheck_good ha]
  dsimp only
  rw [hl]

end

/-- A syllable that has written its slot asks its group's scheduler. -/
theorem exec_askGroup_setCur {i : Instr} {eff : State → Act} {y : Slot} {op : GOp} {midx : Nat} (hg : s.guard h = true) (hi : exec i s = asStep h eff s)
    (he : eff s = .ok ((s.setCur y).askGroup f op midx)) (hf : y.f = s.cur.f) (hsys : y.sys = s.cur.sys) :
    exec i s = .next ((s.setCur (y.await (dstS f.d))).send (groupChan s.iss.site s.iss.slot s.cur.sys.ctxid (gIdx f s))
      (.groupRequestAtScheduler s.cur.sys.ctxid s.cur.sys.incarn (gIdx f s) op ⟨s.iss.site, s.iss.slot, dstS f.d⟩ midx)) := by
  rw [hi, asStep_ok hg he, State.askGroup_setCur hf hsys]

/-- Settles O30: a request is `askGroup` of the slot as its syllable leaves it, and each check that fails is the syllable's trap. -/
theorem groupSyllables : Obligations.GroupSyllables := by
  intro h f s hg x a b g n size asks traps
  refine ⟨fun ha i hi => ?reserved, fun ha => ⟨fun i hh => asStep_ok hg (effGjoin_held ha hh),
    fun i hh hi => exec_askGroup_setCur (eff := effGjoin f) hg rfl (effGjoin_asks ha hh hi) rfl rfl,
    fun hh hi => asStep_trap hg (effGjoin_full ha hh hi),
    fun i hh hl => exec_askGroup_setCur (eff := effGleave f) hg rfl (effGleave_asks ha hh hl) rfl rfl,
    fun hh => asStep_trap hg (effGleave_free ha hh),
    asStep_ok (eff := effGctlCancel f) hg (gCheck_good ha), asStep_ok (eff := effGctlQuery f) hg (gCheck_good ha),
    fun hb => asStep_ok hg (effGctlPrio_ok ha hb), fun hb => asStep_ok hg (effGctlCap_ok ha hb),
    fun hl => exec_askGroup_setCur (eff := effGwait f) hg rfl (effGwait_ok ha hl) rfl rfl,
    fun k hl => asStep_trap hg (effGwait_trap ha hl)⟩,
    fun ha hsize hpage hcanon => ⟨asStep_ok (eff := effGctlCut f) hg (cutOperands_ok .cut ha hsize hpage hcanon),
      asStep_ok (eff := effGctlRestore f) hg (cutOperands_ok .restore ha hsize hpage hcanon)⟩⟩
  case reserved =>
    simp only [List.mem_cons, List.not_mem_nil, or_false] at hi
    rcases hi with rfl | rfl | rfl | rfl | rfl | rfl | rfl <;> exact asStep_trap hg (gCheck_bad ha)

end Sys2Proof.Machine
end

section
/-! PROOFS. Groups at their schedulers: terminal updates, requests and cuts (O39). -/

namespace Sys2Proof.Machine

variable {s t : State} {ctx inc g : Nat}

/-! ### A group and what leaves it as it is -/

theorem State.group_congr (h : t.groups = s.groups) (ctx g : Nat) : t.group ctx g = s.group ctx g :=
  congrArg (fun m => KMap.getD m (256 * ctx + g) Group.reset) h

@[simp] theorem State.group_setGroup_same (s : State) (ctx g : Nat) (e : Group) : (s.setGroup ctx g e).group ctx g = e := KMap.getD_set_same ..

theorem State.setMember_groups (s : State) (who : Asker) (idx : Nat) (m : Option Nat) : (s.setMember who idx m).groups = s.groups := by
  rw [State.setMember]
  split <;> rfl

theorem State.Sends.groups (h : s.Sends t) : t.groups = s.groups := by
  obtain ⟨l, rfl⟩ := h
  rfl

/-- A message for each of some items leaves every group as it is. -/
theorem State.group_foldl_sends {α : Type} {f : State → α → State} (hf : ∀ (s : State) a, s.Sends (f s a)) (l : List α) (s : State) (ctx g : Nat) :
    (l.foldl f s).group ctx g = s.group ctx g := State.group_congr (State.Sends.groups (.foldl hf l s)) ctx g

/-! ### LIVE reaches 0, or does not (R254) -/

theorem State.checkLive_eq_self (hl : (s.group ctx g).live ≠ 0) : s.checkLive ctx inc g = s := if_neg fun h => hl h.1

theorem State.checkLive_active (hl : (s.group ctx g).live = 0) (hst : (s.group ctx g).st = .active) :
    s.checkLive ctx inc g = s.finishGroup ctx inc g := by
  have hcut : ¬ (s.group ctx g).st = .cutting := by rw [hst]; decide
  exact (if_pos ⟨hl, by rw [hst]; decide⟩).trans (if_neg hcut)

/-- A group that has completed is IDLE in its next use, and the governor is told (R254, R282). -/
theorem State.finishGroup_spec (s : State) (ctx inc g : Nat) : ((s.finishGroup ctx inc g).group ctx g).st = .idle ∧
    ((s.finishGroup ctx inc g).group ctx g).use = ((s.group ctx g).use + 1) % 65536 ∧ ((s.finishGroup ctx inc g).group ctx g).cancelling = false ∧
    ∃ p ∈ (s.finishGroup ctx inc g).agenda, p.ev = .completionNotice ctx inc g s.time := by
  rw [State.finishGroup, State.group_setGroup_same]
  exact ⟨rfl, rfl, rfl, State.mem_agenda_send ..⟩

/-- What the end of a member counts, by how it has ended: 0 RETIRED, 1 FAULTED, 2 CANCELLED (R253). -/
def Group.countEnd (e : Group) (how cause : Nat) : Group :=
  match how with
  | 0 => { e with ret := (e.ret + 1) % 2 ^ 32 }
  | 1 => { e with fau := (e.fau + 1) % 2 ^ 32, first := if e.fau = 0 then cause else e.first }
  | _ => { e with can := (e.can + 1) % 2 ^ 32 }

theorem Group.countEnd_st_use (e : Group) (cause : Nat) : (how : Nat) → (e.countEnd how cause).st = e.st ∧ (e.countEnd how cause).use = e.use
  | 0 => ⟨rfl, rfl⟩
  | 1 => ⟨rfl, rfl⟩
  | _ + 2 => ⟨rfl, rfl⟩

/-- A member's end is counted, and the group has a member less. -/
def State.memberEnds (s : State) (ctx g how cause : Nat) : State :=
  s.setGroup ctx g { (s.group ctx g).countEnd how cause with live := (s.group ctx g).live - 1 }

theorem State.group_memberEnds (s : State) (ctx g how cause : Nat) : (s.memberEnds ctx g how cause).group ctx g =
    { (s.group ctx g).countEnd how cause with live := (s.group ctx g).live - 1 } := State.group_setGroup_same ..

section
variable (how cause : Nat) (hs : s.stale (agSched (schedOf ctx g)) ctx inc = false)

include hs

theorem exec_memberTerminalUpdate : exec (.memberTerminalUpdate ctx inc g how cause) s =
    .next ((s.memberEnds ctx g how cause).checkLive ctx inc g) := if_neg (Bool.eq_false_iff.mp hs)

/-- The end of a member that is not the last of its group. -/
theorem exec_memberTerminalUpdate_more (hl : 1 < (s.group ctx g).live) : exec (.memberTerminalUpdate ctx inc g how cause) s =
    .next (s.memberEnds ctx g how cause) := by
  rw [exec_memberTerminalUpdate how cause hs, State.checkLive_eq_self]
  rw [State.group_memberEnds]
  exact Nat.sub_ne_zero_of_lt hl

/-- The end of the last member of an ACTIVE group completes it. -/
theorem exec_memberTerminalUpdate_last (hl : (s.group ctx g).live = 1) (hst : (s.group ctx g).st = .active) :
    ∃ u, exec (.memberTerminalUpdate ctx inc g how cause) s = .next u ∧ (u.group ctx g).st = .idle ∧
      (u.group ctx g).use = ((s.group ctx g).use + 1) % 65536 ∧ (u.group ctx g).cancelling = false ∧
      ∃ p ∈ u.agenda, p.ev = .completionNotice ctx inc g s.time := by
  obtain ⟨hcountSt, hcountUse⟩ := (s.group ctx g).countEnd_st_use cause how
  have hgroup := s.group_memberEnds ctx g how cause
  have hlive : ((s.memberEnds ctx g how cause).group ctx g).live = 0 := by rw [hgroup, hl]
  have hactive : ((s.memberEnds ctx g how cause).group ctx g).st = .active := by rw [hgroup]; exact hcountSt.trans hst
  have huse : ((s.memberEnds ctx g how cause).group ctx g).use = (s.group ctx g).use := by rw [hgroup]; exact hcountUse
  refine ⟨_, exec_memberTerminalUpdate how cause hs, ?_⟩
  rw [State.checkLive_active hlive hactive, ← huse]
  exact State.finishGroup_spec ..

end

/-! ### Requests (R253, R257, R265, R266) -/

section
variable {who : Asker} {midx : Nat} (hs : s.stale (agSched (schedOf ctx g)) ctx inc = false)

include hs

theorem exec_groupRequest_join_refused (h : (s.group ctx g).cancelling = true ∨ (s.group ctx g).st = .cutting ∨ (s.group ctx g).st = .cut) :
    exec (.groupRequestAtScheduler ctx inc g .join who midx) s = .next (s.groupReply ctx inc g who true midx (.joined midx g)) :=
  (if_neg (Bool.eq_false_iff.mp hs)).trans (if_pos (.inr h))

theorem exec_groupRequest_join (hroom : (s.group ctx g).live + (s.group ctx g).reservedSum + 1 ≤ 16777215)
    (hc : (s.group ctx g).cancelling = false) (hst : (s.group ctx g).st = .idle ∨ (s.group ctx g).st = .active) :
    exec (.groupRequestAtScheduler ctx inc g .join who midx) s = .next
      (((s.setGroup ctx g ((s.group ctx g).join 1)).setMember who midx (some g)).groupReply ctx inc g who false midx (.joined midx g)) := by
  refine (if_neg (Bool.eq_false_iff.mp hs)).trans (if_neg ?_)
  rintro (hfull | hcanc | hcutting | hcut)
  · exact Nat.not_lt.mpr hroom hfull
  · exact Bool.eq_false_iff.mp hc hcanc
  · rw [hcutting] at hst
    simp at hst
  · rw [hcut] at hst
    simp at hst

/-- A member that leaves and is not the last: nothing more awaits that it saves (R265). -/
theorem exec_groupRequest_leave {u : Nat} {i : Inst} (hi : s.instOf who.site who.slot = some (u, i)) (hm : i.groups.getD midx none = some g)
    (hl : 1 < (s.group ctx g).live) : exec (.groupRequestAtScheduler ctx inc g .leave who midx) s = .next
      (((s.setGroup ctx g { s.group ctx g with live := (s.group ctx g).live - 1, saving := (s.group ctx g).saving.erase u }).setMember who midx
        none).groupReply ctx inc g who false midx (.left g)) := by
  show execGroupRequestAtScheduler ctx inc g .leave who midx s = _
  rw [execGroupRequestAtScheduler, if_neg (Bool.eq_false_iff.mp hs)]
  dsimp only
  rw [hi]
  dsimp only
  rw [if_pos (beq_iff_eq.mpr hm), State.checkLive_eq_self]
  rw [State.group_congr (State.setMember_groups ..), State.group_setGroup_same]
  exact Nat.sub_ne_zero_of_lt hl

theorem exec_groupRequest_cap (c : Nat) : exec (.groupRequestAtScheduler ctx inc g (.cap c) who midx) s =
    .next ((s.setGroup ctx g { s.group ctx g with cap := c }).groupReply ctx inc g who false 0 .plain) := if_neg (Bool.eq_false_iff.mp hs)

theorem exec_groupRequest_query : exec (.groupRequestAtScheduler ctx inc g .query who midx) s =
    .next (s.groupReply ctx inc g who false 0 .plain) := if_neg (Bool.eq_false_iff.mp hs)

end

/-! ### Marks and records of a cut at their homes (R260 to R262) -/

section
variable {name : Word} {uid sub : Nat} (hs : s.staleHome ctx inc name = false)

include hs

/-- A home sets a mark that is not the last one awaited. -/
theorem exec_cutMarkAtHome (hst : (s.group ctx g).st = .cutting) (hm : 1 < (s.group ctx g).marks)
    (hr : s.failedRicks.contains (s.homeOf ctx name) = false) : exec (.cutMarkAtHome ⟨ctx, inc⟩ ⟨g, (s.group ctx g).use⟩ name uid sub) s =
      .next ((s.setHome { s.homeName ctx inc name with
        marks := (s.homeName ctx inc name).marks ++ [⟨uid + 1, sub, (s.homeName ctx inc name).next, g⟩] }).setGroup ctx g
          { s.group ctx g with marks := (s.group ctx g).marks - 1 }) := by
  have hawaited : ¬ ((s.group ctx g).st ≠ .cutting ∨ (s.group ctx g).use ≠ (s.group ctx g).use ∨ (s.group ctx g).marks = 0) := by
    simp [hst, Nat.ne_of_gt (Nat.zero_lt_of_lt hm)]
  show execCutMarkAtHome ⟨ctx, inc⟩ ⟨g, (s.group ctx g).use⟩ name uid sub s = _
  rw [execCutMarkAtHome, if_neg (Bool.eq_false_iff.mp hs)]
  dsimp only
  rw [if_neg hawaited, if_neg (Bool.eq_false_iff.mp hr), if_neg (Nat.ne_of_gt hm)]

/-- A mark of another use of its group changes nothing. -/
theorem exec_cutMarkAtHome_other {use : Nat} (hu : use ≠ (s.group ctx g).use) : exec (.cutMarkAtHome ⟨ctx, inc⟩ ⟨g, use⟩ name uid sub) s = .next s :=
  (if_neg (Bool.eq_false_iff.mp hs)).trans (if_pos (.inr (.inl hu.symm)))

/-- A slot that has no mark has nothing to write. -/
theorem exec_cutRecordWrite_unmarked (hst : (s.group ctx g).st = .cutting) (hw : (s.group ctx g).writes ≠ 0)
    (hm : (s.homeName ctx inc name).marks = []) : exec (.cutRecordWrite ⟨ctx, inc⟩ ⟨g, (s.group ctx g).use⟩ name uid sub) s =
      .next (s.setGroup ctx g { s.group ctx g with writes := (s.group ctx g).writes - 1 }) := by
  have hawaited : ¬ ((s.group ctx g).st ≠ .cutting ∨ (s.group ctx g).use ≠ (s.group ctx g).use ∨ (s.group ctx g).writes = 0) := by simp [hst, hw]
  show execCutRecordWrite ⟨ctx, inc⟩ ⟨g, (s.group ctx g).use⟩ name uid sub s = _
  rw [execCutRecordWrite, if_neg (Bool.eq_false_iff.mp hs)]
  dsimp only
  rw [if_neg hawaited, hm, List.find?_nil]
  rfl

end

/-! ### The scheduler's part of a cut (R260, R262) -/

/-- Once every home has confirmed its mark the members are ordered to save, which changes nothing else of the group. -/
theorem exec_cutMarksConfirmed (hs : s.stale (agSched (schedOf ctx g)) ctx inc = false) (hst : (s.group ctx g).st = .cutting)
    (ho : (s.group ctx g).ordered = false) (hm : (s.group ctx g).marks = 0) :
    ∃ u, exec (.cutMarksConfirmed ⟨ctx, inc⟩ ⟨g, (s.group ctx g).use⟩) s = .next u ∧ u.group ctx g = { s.group ctx g with ordered := true } := by
  have hall : ¬ ((s.group ctx g).st ≠ .cutting ∨ (s.group ctx g).use ≠ (s.group ctx g).use ∨ (s.group ctx g).ordered = true ∨
      (s.group ctx g).marks ≠ 0) := by simp [hst, ho, hm]
  refine ⟨_, (if_neg (Bool.eq_false_iff.mp hs)).trans (if_neg hall), ?_⟩
  refine (State.group_foldl_sends (fun t u => ?_) _ _ ctx g).trans (State.group_setGroup_same ..)
  split
  · exact t.sends_sendAt ..
  · exact .refl t

theorem State.cutReady_cutting (h : s.cutReady ctx g = true) : (s.group ctx g).st = .cutting := by
  simp only [State.cutReady, Bool.and_eq_true, beq_iff_eq] at h
  exact h.1.1

section
variable (hr : s.cutReady ctx g = true) (hl : (s.group ctx g).live ≠ 0)

include hr hl

/-- The members have saved: the homes are told to write their records, after the members' entries. -/
theorem exec_cutComplete_sends (hsent : (s.group ctx g).sent = false) : ∃ u, exec (.cutComplete ctx g) s = .next u ∧
    u.group ctx g = { s.group ctx g with
      sent := true, writes := (s.cutSlots ctx g).length, used := cutNeed (s.cutMembers ctx g).length
      cutList := (s.cutMembers ctx g).map (fun m => (m.1, memberEntry m.2)) } := by
  have hready : ¬ (!s.cutReady ctx g) = true := by rw [hr]; decide
  exact ⟨_, (if_neg hready).trans ((if_neg hl).trans (if_pos (by rw [hsent]; rfl))),
    (State.group_foldl_sends (fun t _ => t.sends_sendAt ..) _ _ ctx g).trans (State.group_setGroup_same ..)⟩

/-- The records are written: the scheduler writes the header and the member entries, and the cut is there. -/
theorem exec_cutComplete_cut {s1 : State} {l : List Byte} (hsent : (s.group ctx g).sent = true) (hc : (s.group ctx g).cancelLater = false)
    (hw : s.sysWrite (schedOf ctx g) ctx (s.incAt (agSched (schedOf ctx g)) ctx) (s.group ctx g).base ((s.group ctx g).cutBytes g) = (s1, .ok l)) :
    exec (.cutComplete ctx g) s = .next ((s1.setGroup ctx g
      { s.group ctx g with st := .cut, written := (s.group ctx g).written ++ [(0, (s.group ctx g).cutBytes g)] }).cutEvent ctx
        (s.incAt (agSched (schedOf ctx g)) ctx) g (s.group ctx g).cutList.length) := by
  show execCutComplete ctx g s = _
  -- The write is made opaque here, for the kernel would compute it to compare the two forms of the match on its result.
  obtain ⟨write, hwrite⟩ := exists_eq (a' := @State.sysWrite)
  rw [← hwrite] at hw
  unfold execCutComplete
  rw [← hwrite]
  dsimp only
  rw [hr, hsent, if_neg (by decide), if_neg hl, if_neg (by decide), hw]
  dsimp only
  rw [hc, if_neg (by decide)]

end

/-- Settles O39: an update by whether the last member has gone, a request by the group's state, a cut by what it still awaits. -/
theorem groupEvents : Obligations.GroupEvents := by
  intro s ctx inc g hs e c32
  refine ⟨fun cause hl => ⟨exec_memberTerminalUpdate_more 0 cause hs hl, exec_memberTerminalUpdate_more 1 cause hs hl,
      exec_memberTerminalUpdate_more 2 cause hs hl⟩,
    fun how cause hl hst => exec_memberTerminalUpdate_last how cause hs hl hst,
    fun who midx hroom hc hst => exec_groupRequest_join hs hroom hc hst,
    fun who midx h => exec_groupRequest_join_refused hs h,
    fun who midx c => exec_groupRequest_cap hs c,
    fun who midx => exec_groupRequest_query hs,
    fun name uid sub hsh hst hm hr => exec_cutMarkAtHome hsh hst hm hr,
    fun use name uid sub hsh hu => exec_cutMarkAtHome_other hsh hu,
    fun hst ho hm => exec_cutMarksConfirmed hs hst ho hm,
    fun name uid sub hsh hst hw hm => exec_cutRecordWrite_unmarked hsh hst hw hm,
    fun u i who midx hi hm hl => exec_groupRequest_leave hs hi hm hl,
    fun hr hl hsent => ?sends,
    fun s1 l hr hl hsent hc hw => exec_cutComplete_cut hr hl hsent hc hw⟩
  case sends =>
    obtain ⟨u, hu, hgroup⟩ := exec_cutComplete_sends hr hl hsent
    exact ⟨u, hu, congrArg Group.sent hgroup, (congrArg Group.st hgroup).trans (s.cutReady_cutting hr)⟩

end Sys2Proof.Machine
end

section
/-! PROOFS. What leaves both memories as they are: all but a few operations of the model. -/

namespace Sys2Proof.Machine

variable {s t : State}

/-- `t` has the global memory and the scratchpads of `s`. -/
@[simp, reducible] def State.Spares (s t : State) : Prop := t.mem = s.mem ∧ t.scratch = s.scratch

/-- The syllable traps, or leaves both memories as they are. -/
def Act.Spares (s : State) : Act → Prop
  | .ok t => s.Spares t
  | .trap _ => True

/-- What a wait at issue sets going leaves both memories as they are. -/
def holdSpares : Option Hold → Prop
  | some w => ∀ s : State, s.Spares (w.act s)
  | none => True

/-- The event leaves both memories as they are. -/
def State.SparedBy (s : State) : Host.Outcome State Fault Refusal → Prop
  | .next t => s.Spares t
  | _ => True

theorem State.Spares.trans {u : State} (h : s.Spares t) (k : t.Spares u) : s.Spares u := ⟨k.1.trans h.1, k.2.trans h.2⟩
theorem State.Spares.fst {α : Type} {p : State × α} {a : α} (h : s.Spares p.1) (e : p = (t, a)) : s.Spares t := by rwa [e] at h

theorem State.Spares.ite {u : State} {p : Prop} [Decidable p] (ht : s.Spares t) (hu : s.Spares u) : s.Spares (if p then t else u) := by
  split <;> assumption
theorem State.SparedBy.ite {a b : Host.Outcome State Fault Refusal} {p : Prop} [Decidable p] (ha : s.SparedBy a) (hb : s.SparedBy b) :
    s.SparedBy (if p then a else b) := by
  split <;> assumption

@[simp] theorem Act.spares_ok : (Act.ok t).Spares s ↔ s.Spares t := .rfl
@[simp] theorem Act.spares_trap {k : TrapInfo} : (Act.trap k).Spares s := trivial
@[simp] theorem holdSpares_none : holdSpares none := trivial
@[simp] theorem holdSpares_some {b : Bool} {f : State → State} : holdSpares (some ⟨b, f⟩) ↔ ∀ s : State, s.Spares (f s) := .rfl
@[simp] theorem State.sparedBy_next : s.SparedBy (.next t) ↔ s.Spares t := .rfl

@[simp] theorem State.mem_ite {p : Prop} [Decidable p] : (if p then s else t).mem = if p then s.mem else t.mem := apply_ite ..
@[simp] theorem State.scratch_ite {p : Prop} [Decidable p] : (if p then s else t).scratch = if p then s.scratch else t.scratch := apply_ite ..
@[simp] theorem fst_ite {α β : Type} {p : Prop} [Decidable p] (a b : α × β) : (if p then a else b).1 = if p then a.1 else b.1 := apply_ite ..
@[simp] theorem Act.spares_ite {p : Prop} [Decidable p] {a b : Act} : (if p then a else b).Spares s ↔ if p then a.Spares s else b.Spares s := by
  split <;> rfl
@[simp] theorem holdSpares_ite {p : Prop} [Decidable p] {a b : Option Hold} :
    holdSpares (if p then a else b) ↔ if p then holdSpares a else holdSpares b := by
  split <;> rfl
@[simp] theorem State.sparedBy_ite {p : Prop} [Decidable p] {a b : Host.Outcome State Fault Refusal} :
    s.SparedBy (if p then a else b) ↔ if p then s.SparedBy a else s.SparedBy b := by
  split <;> rfl

@[simp] theorem State.foldl_spares {α : Type} {f : State → α → State} (hf : ∀ (t : State) a, t.Spares (f t a)) (l : List α) (s : State) : s.Spares (l.foldl f s) := by
  induction l generalizing s with
  | nil => exact ⟨rfl, rfl⟩
  | cons a l ih => exact (hf s a).trans (ih _)

end Sys2Proof.Machine
end

section
/-! PROOFS. Both memories are spared by the operations and syllables of scalars, memory, the matrix unit and channels, but for those that write. -/

namespace Sys2Proof.Machine

variable {s t : State}

/-! ### Machine/Ops -/

@[simp] theorem State.setSlotAt_spares (site slot : Nat) (x : Slot) : s.Spares (s.setSlotAt site slot x) := ⟨rfl, rfl⟩

@[simp] theorem State.setTileAt_spares (site : Nat) (t : Tile) : s.Spares (s.setTileAt site t) := ⟨rfl, rfl⟩

@[simp] theorem State.setCtx_spares (c : Nat) (x : Ctx) : s.Spares (s.setCtx c x) := ⟨rfl, rfl⟩

@[simp] theorem State.setSub_spares (site slot n : Nat) (u : SubSlot) : s.Spares (s.setSub site slot n u) := ⟨rfl, rfl⟩

@[simp] theorem State.setChan_spares (site slot n : Nat) (c : Chan) : s.Spares (s.setChan site slot n c) := ⟨rfl, rfl⟩

@[simp] theorem State.setCur_spares (x : Slot) : s.Spares (s.setCur x) := ⟨rfl, rfl⟩

@[simp] theorem State.setCurTile_spares (t : Tile) : s.Spares (s.setCurTile t) := ⟨rfl, rfl⟩

@[simp] theorem State.setIss_spares (i : Iss) : s.Spares (s.setIss i) := ⟨rfl, rfl⟩

@[simp] theorem State.sendAt_spares (due chan : Nat) (ev : Instr) : s.Spares (s.sendAt due chan ev) := ⟨rfl, rfl⟩

@[simp] theorem State.send_spares (chan : Nat) (ev : Instr) : s.Spares (s.send chan ev) := ⟨rfl, rfl⟩

@[simp] theorem State.sendRel_spares (chan : Nat) (ev : Instr) (r : Option RelWait) : s.Spares (s.sendRel chan ev r) := ⟨rfl, rfl⟩

@[simp] theorem State.sendAfter_spares (after chan : Nat) (ev : Instr) : s.Spares (s.sendAfter after chan ev) := ⟨rfl, rfl⟩

@[simp] theorem State.sendHeld_spares (holds : List PortHold) (chan : Nat) (ev : Instr) (r : Option RelWait) :
    s.Spares (s.sendHeld holds chan ev r) :=
    ⟨rfl, rfl⟩

@[simp] theorem State.sendPort_spares (site ctx chan : Nat) (ev : Instr) : s.Spares (s.sendPort site ctx chan ev) := ⟨rfl, rfl⟩

@[simp] theorem State.sendFront_spares (chan : Nat) (ev : Instr) : s.Spares (s.sendFront chan ev) := ⟨rfl, rfl⟩

@[simp] theorem State.retry_spares (chan : Nat) (ev : Instr) : s.Spares (s.retry chan ev) := ⟨rfl, rfl⟩

@[simp] theorem State.reportError_spares (site : Nat) : s.Spares (s.reportError site) := by simp [State.reportError]

@[simp] theorem State.detect_spares (site : Nat) (k : FKind) : s.Spares (s.detect site k) := by simp [State.detect]

@[simp] theorem State.countDropped_spares : s.Spares (s.countDropped) := ⟨rfl, rfl⟩

@[simp] theorem State.record_spares (w : RecWho) (b : RecBody) : s.Spares (s.record w b) := by simp [State.record]

@[simp] theorem holdBundle_spares (count : Bool) {f : State → State} (hf : ∀ t : State, t.Spares (f t)) : s.Spares (holdBundle count f s) := by
  simp [holdBundle, hf]

@[simp] theorem State.eccRecord_spares (site slot a2 : Nat) : s.Spares (s.eccRecord site slot a2) := by simp [State.eccRecord]

@[simp] theorem State.stopMmag_spares (site slot : Nat) : s.Spares (s.stopMmag site slot) := by dsimp only [State.stopMmag]; (repeat' split) <;> simp

@[simp] theorem State.clearEcc_spares (site slot : Nat) : s.Spares (s.clearEcc site slot) := by simp [State.clearEcc]

@[simp] theorem State.countHeld_spares (site slot n : Nat) : s.Spares (s.countHeld site slot n) := ⟨rfl, rfl⟩

@[simp] theorem State.countAway_spares (site slot : Nat) (still : Bool) : s.Spares (s.countAway site slot still) := by
  dsimp only [State.countAway]
  split <;> simp

@[simp] theorem State.giveQuantum_spares (dom : Nat) : s.Spares (s.giveQuantum dom) := by dsimp only [State.giveQuantum]; split <;> simp

@[simp] theorem State.leaveSlew_spares (site slot : Nat) : s.Spares (s.leaveSlew site slot) := by simp [State.leaveSlew]

@[simp] theorem enterTrap_spares (t : TrapInfo) (epc bundle : Word) : s.Spares (enterTrap t epc s bundle) := by simp [enterTrap]

@[simp] theorem takeTrap_spares (t : TrapInfo) : s.Spares (takeTrap t s) := by simp [takeTrap]

@[simp] theorem State.selfReply_spares (dst : Reg) (val : VReg) (then_ : Reply) : s.Spares (s.selfReply dst val then_) := ⟨rfl, rfl⟩

@[simp] theorem State.markBusy_spares (site : Nat) : s.Spares (s.markBusy site) := by simp [State.markBusy]

@[simp] theorem State.rejoin_spares (site slot : Nat) : s.Spares (s.rejoin site slot) := by simp [State.rejoin]

@[simp] theorem State.rejoinFrom_spares (site slot : Nat) (x : Slot) : s.Spares (s.rejoinFrom site slot x) := by simp [State.rejoinFrom]

@[simp] theorem State.becomeReady_spares (site slot : Nat) : s.Spares (s.becomeReady site slot) := by simp [State.becomeReady]

@[simp] theorem State.setInst_spares (uid : Nat) (i : Inst) : s.Spares (s.setInst uid i) := ⟨rfl, rfl⟩

@[simp] theorem State.setGroup_spares (c g : Nat) (x : Group) : s.Spares (s.setGroup c g x) := ⟨rfl, rfl⟩

/-! ### Machine/Operands -/

@[simp] theorem State.sResult_spares (d : BitVec 8) (val : Word) (lat : Nat) : s.Spares (s.sResult d val lat) := by simp [State.sResult]

@[simp] theorem State.cResult_spares (d : BitVec 8) (val : Word) (lat : Nat) : s.Spares (s.cResult d val lat) := ⟨rfl, rfl⟩

@[simp] theorem State.pResult_spares (i : Nat) (b : Bool) : s.Spares (s.pResult i b) := ⟨rfl, rfl⟩

@[simp] theorem State.vResult_spares (d : BitVec 8) (val : VReg) (lat flags : Nat) : s.Spares (s.vResult d val lat flags) := ⟨rfl, rfl⟩

/-! ### Machine/Scalar -/

@[simp] theorem sArithAct_spares (f : RRR) (x : ℤ) (lat : Nat) : (sArithAct s f x lat).Spares s := by dsimp only [sArithAct]; split <;> simp

@[simp] theorem effAdd_spares (f : RRR) : (effAdd f s).Spares s := by simp [effAdd]

@[simp] theorem effSub_spares (f : RRR) : (effSub f s).Spares s := by simp [effSub]

@[simp] theorem effMul_spares (f : RRR) : (effMul f s).Spares s := by simp [effMul]

@[simp] theorem effMulh_spares (f : RRR) : (effMulh f s).Spares s := ⟨rfl, rfl⟩

@[simp] theorem effMulhn_spares (f : RRR) : (effMulhn f s).Spares s := ⟨rfl, rfl⟩

@[simp] theorem divAct_spares (f : RRR) (quot : Bool) : (divAct s f quot).Spares s := by simp [divAct]

@[simp] theorem effDiv_spares (f : RRR) : (effDiv f s).Spares s := by simp [effDiv]

@[simp] theorem effDivn_spares (f : RRR) : (effDivn f s).Spares s := by simp [effDivn]

@[simp] theorem effRemS_spares (f : RRR) : (effRemS f s).Spares s := by simp [effRemS]

@[simp] theorem effRemn_spares (f : RRR) : (effRemn f s).Spares s := by simp [effRemn]

@[simp] theorem effAndS_spares (f : RRR) : (effAndS f s).Spares s := ⟨rfl, rfl⟩

@[simp] theorem effOrS_spares (f : RRR) : (effOrS f s).Spares s := ⟨rfl, rfl⟩

@[simp] theorem effXorS_spares (f : RRR) : (effXorS f s).Spares s := ⟨rfl, rfl⟩

@[simp] theorem effAndn_spares (f : RRR) : (effAndn f s).Spares s := ⟨rfl, rfl⟩

@[simp] theorem shiftAct_spares (f : RRR) (r : Nat → ℤ) : (shiftAct s f r).Spares s := by simp [shiftAct]

@[simp] theorem effShl_spares (f : RRR) : (effShl f s).Spares s := by simp [effShl]

@[simp] theorem effShr_spares (f : RRR) : (effShr f s).Spares s := by simp [effShr]

@[simp] theorem effSar_spares (f : RRR) : (effSar f s).Spares s := by simp [effSar]

@[simp] theorem effRotr_spares (f : RRR) : (effRotr f s).Spares s := by simp [effRotr]

@[simp] theorem effMin_spares (f : RRR) : (effMin f s).Spares s := ⟨rfl, rfl⟩

@[simp] theorem effMax_spares (f : RRR) : (effMax f s).Spares s := ⟨rfl, rfl⟩

@[simp] theorem effMinn_spares (f : RRR) : (effMinn f s).Spares s := ⟨rfl, rfl⟩

@[simp] theorem effMaxn_spares (f : RRR) : (effMaxn f s).Spares s := ⟨rfl, rfl⟩

@[simp] theorem effClz_spares (f : RRR) : (effClz f s).Spares s := ⟨rfl, rfl⟩

@[simp] theorem effPopc_spares (f : RRR) : (effPopc f s).Spares s := ⟨rfl, rfl⟩

@[simp] theorem fieldAct_spares (f : RRR) (r : Nat → Nat → Word) : (fieldAct s f r).Spares s := by simp [fieldAct]

@[simp] theorem effBfx_spares (f : RRR) : (effBfx f s).Spares s := by simp [effBfx]

@[simp] theorem effBfxs_spares (f : RRR) : (effBfxs f s).Spares s := by simp [effBfxs]

@[simp] theorem effBfi_spares (f : RRR) : (effBfi f s).Spares s := by simp [effBfi]

@[simp] theorem effSel_spares (f : RRR) : (effSel f s).Spares s := ⟨rfl, rfl⟩

@[simp] theorem effMov_spares (f : RRR) : (effMov f s).Spares s := ⟨rfl, rfl⟩

@[simp] theorem effLi_spares (f : RRI) : (effLi f s).Spares s := ⟨rfl, rfl⟩

@[simp] theorem effLea_spares (f : RRR) : (effLea f s).Spares s := ⟨rfl, rfl⟩

@[simp] theorem effSxt_spares (f : RRR) : (effSxt f s).Spares s := ⟨rfl, rfl⟩

@[simp] theorem effZxt_spares (f : RRR) : (effZxt f s).Spares s := ⟨rfl, rfl⟩

@[simp] theorem effBswap_spares (f : RRR) : (effBswap f s).Spares s := ⟨rfl, rfl⟩

@[simp] theorem effCrcs_spares (f : RRR) : (effCrcs f s).Spares s := ⟨rfl, rfl⟩

@[simp] theorem effNmake_spares (f : RRR) : (effNmake f s).Spares s := ⟨rfl, rfl⟩

@[simp] theorem effCmp_spares (f : RRR) : (effCmp f s).Spares s := ⟨rfl, rfl⟩

@[simp] theorem effPand_spares (f : RRR) : (effPand f s).Spares s := ⟨rfl, rfl⟩

@[simp] theorem effPor_spares (f : RRR) : (effPor f s).Spares s := ⟨rfl, rfl⟩

@[simp] theorem effPxor_spares (f : RRR) : (effPxor f s).Spares s := ⟨rfl, rfl⟩

@[simp] theorem effPnot_spares (f : RRR) : (effPnot f s).Spares s := ⟨rfl, rfl⟩

@[simp] theorem psetGo_spares (mask a : BitVec 64) (is : List Nat) (s : State) : s.Spares (psetGo mask a is s) := by
  induction is generalizing s with
  | nil => exact ⟨rfl, rfl⟩
  | cons i is ih => exact State.Spares.trans (by simp) (ih _)

@[simp] theorem effPset_spares (f : RRR) : (effPset f s).Spares s := by simp [effPset]

@[simp] theorem effPget_spares (f : RRR) : (effPget f s).Spares s := ⟨rfl, rfl⟩

/-! ### Machine/Flags -/

@[simp] theorem vFinish_spares (f : RRR) (lat : Nat) (rng : Option Word) (es : List (Nat × LaneRes)) (v : VReg) :
    (vFinish s f lat rng es v).Spares s := by
  dsimp only [vFinish]
  (repeat' split) <;> simp

@[simp] theorem vMode_spares (f : RRR) (rounds srOk : Bool) {k : Nat → Act} (hk : ∀ m, (k m).Spares s) : (vMode s f rounds srOk k).Spares s := by
  simp [vMode, hk]

@[simp] theorem vPlain_spares (f : RRR) (lat : Nat) (op : Nat → LaneRes) : (vPlain s f lat op).Spares s := by simp [vPlain]

@[simp] theorem vRound_spares (f : RRR) (lat : Nat) (srOk : Bool) (op : Rnd → Nat → LaneRes) : (vRound s f lat srOk op).Spares s :=
  vMode_spares f true srOk (fun _ => by simp)

/-! ### Machine/Control -/

@[simp] theorem State.branchTo_spares (t : Word) (gap : Nat) : s.Spares (s.branchTo t gap) := ⟨rfl, rfl⟩

@[simp] theorem State.branchInd_spares (t : Word) : (s.branchInd t).Spares s := by simp [State.branchInd]

@[simp] theorem effNop_spares (x : RRR) : (effNop x s).Spares s := ⟨rfl, rfl⟩

@[simp] theorem effBr_spares (f : BrF) : (effBr f s).Spares s := ⟨rfl, rfl⟩

@[simp] theorem effBri_spares (f : BrF) : (effBri f s).Spares s := by simp [effBri]

@[simp] theorem effCallS_spares (f : BrF) : (effCallS f s).Spares s := ⟨rfl, rfl⟩

@[simp] theorem effCallInd_spares (f : BrF) : (effCallInd f s).Spares s := by
  have h := State.branchInd_spares (s := s) (s.readS 40 f.a + f.off.signExtend 64)
  unfold effCallInd
  cases hb : s.branchInd (s.readS 40 f.a + f.off.signExtend 64) with
  | trap k => trivial
  | ok t => exact (hb ▸ h : (Act.ok t).Spares s)

@[simp] theorem effRet_spares (f : BrF) : (effRet f s).Spares s := by simp [effRet]

@[simp] theorem effLoopS_spares (f : BrF) : (effLoopS f s).Spares s := by simp [effLoopS]

@[simp] theorem effIdle_spares (f : RRR) : (effIdle f s).Spares s := by simp [effIdle]

@[simp] theorem execIdleWake_spares (site slot : Nat) : s.SparedBy (execIdleWake site slot s) := by dsimp only [execIdleWake]; split <;> simp

@[simp] theorem effBrk_spares (f : RRR) : (effBrk f s).Spares s := by simp [effBrk]

@[simp] theorem execBrkResume_spares (site slot : Nat) (pc : Option Word) : s.SparedBy (execBrkResume site slot pc s) := by simp [execBrkResume]

@[simp] theorem effSysr_spares (f : RRI) : (effSysr f s).Spares s := by simp [effSysr]

@[simp] theorem waitSysw_spares (f : RRI) : holdSpares (waitSysw f s) := by simp [waitSysw]

@[simp] theorem effSysw_spares (f : RRI) : (effSysw f s).Spares s := by dsimp only [effSysw]; (repeat' split) <;> simp

@[simp] theorem effTrapS_spares (f : RRI) : (effTrapS f s).Spares s := ⟨rfl, rfl⟩

@[simp] theorem waitRft_spares (x : RRR) : holdSpares (waitRft x s) := by simp [waitRft]

@[simp] theorem effRft_spares (x : RRR) : (effRft x s).Spares s := by simp [effRft]

/-! ### Machine/Home -/

@[simp] theorem State.drop_spares (c : Nat) : s.Spares (s.drop c) := ⟨rfl, rfl⟩

@[simp] theorem State.granGood_spares (g : Nat) : s.Spares (s.granGood g) := ⟨rfl, rfl⟩

@[simp] theorem State.foundUe_spares (g : Nat) {r : State → State} (hr : ∀ t : State, t.Spares (r t)) : s.Spares (s.foundUe g r) := by
  simp [State.foundUe, hr]

@[simp] theorem State.granRecord_spares (ctx inc g : Nat) (k : FKind) : s.Spares (s.granRecord ctx inc g k) := by simp [State.granRecord]

@[simp] theorem State.homeRead_spares (ctx inc la n : Nat) : s.Spares (s.homeRead ctx inc la n).1 := by simp [State.homeRead]

@[simp] theorem State.mergeGran_spares (ctx inc la n : Nat) (poison : Bool) (g : Nat) : s.Spares (s.mergeGran ctx inc la n poison g) := by
  dsimp only [State.mergeGran]
  (repeat' split) <;> simp

@[simp] theorem State.answer_spares (ctx inc : Nat) (who : Requester) (r : MemReply) : s.Spares (s.answer ctx inc who r) := by
  dsimp only [State.answer]
  split <;> simp

@[simp] theorem State.setLink_spares (l : Nat) (x : Link) : s.Spares (s.setLink l x) := ⟨rfl, rfl⟩

theorem State.egress_spares {k d : Nat} {f : Flit} {own : Bool} (h : s.egress k d f own = some t) : s.Spares t := by
  obtain ⟨j, -, rfl⟩ := Option.map_eq_some_iff.mp h
  simp

@[simp] theorem State.remoteRecord_spares (r : MemReq) (k : FKind) : s.Spares (s.remoteRecord r k) := by
  dsimp only [State.remoteRecord]
  (repeat' split) <;> simp

@[simp] theorem State.remoteFail_spares (r : MemReq) (k : FKind) : s.Spares (s.remoteFail r k) := by dsimp only [State.remoteFail]; split <;> simp

@[simp] theorem State.sendRemote_spares (r : MemReq) : s.Spares (s.sendRemote r) := by
  dsimp only [State.sendRemote]
  split
  · simp
  case h_2 t h => exact State.Spares.trans (State.egress_spares h) ⟨rfl, rfl⟩

@[simp] theorem State.sendMem_spares (chan : Nat) (r : MemReq) : s.Spares (s.sendMem chan r) := by simp [State.sendMem]

@[simp] theorem State.sendMemAt_spares (site chan : Nat) (r : MemReq) : s.Spares (s.sendMemAt site chan r) := ⟨rfl, rfl⟩

@[simp] theorem State.sendAtomic_spares (site slot n : Nat) (r : MemReq) : s.Spares (s.sendAtomic site slot n r) := ⟨rfl, rfl⟩

/-! ### Machine/Scratch -/

@[simp] theorem State.tileForget_spares (site b n : Nat) : s.Spares (s.tileForget site b n) := ⟨rfl, rfl⟩

@[simp] theorem State.scratchForget_spares (site slot p n : Nat) : s.Spares (s.scratchForget site slot p n) :=
  State.foldl_spares (fun t e => by split <;> simp) ..

/-! ### Machine/L1 -/

@[simp] theorem State.putLine_spares (site : Nat) (l : Line) : s.Spares (s.putLine site l) := ⟨rfl, rfl⟩

@[simp] theorem State.dropLine_spares (site : Nat) (l : Line) : s.Spares (s.dropLine site l) := ⟨rfl, rfl⟩

@[simp] theorem State.touchLine_spares (site : Nat) (l : Line) : s.Spares (s.touchLine site l) := ⟨rfl, rfl⟩

@[simp] theorem State.countC_spares (site slot : Nat) (far : Bool) : s.Spares (s.countC site slot far) := ⟨rfl, rfl⟩

@[simp] theorem State.mendWay_spares (site set way : Nat) : s.Spares (s.mendWay site set way) := ⟨rfl, rfl⟩

@[simp] theorem State.writeBack_spares (site : Nat) (l : Line) : s.Spares (s.writeBack site l) := by dsimp only [State.writeBack]; split <;> simp

@[simp] theorem State.loseLock_spares (site : Nat) (l : Line) : s.Spares (s.loseLock site l) := by dsimp only [State.loseLock]; split <;> simp

@[simp] theorem State.startFill_spares (site ctx inc vl pa : Nat) (lock : Option Nat) : s.Spares (s.startFill site ctx inc vl pa lock) := ⟨rfl, rfl⟩

@[simp] theorem State.needLine_spares (site ctx inc vl pa : Nat) : s.Spares (s.needLine site ctx inc vl pa) := by simp [State.needLine]

@[simp] theorem State.loadReply_spares (site : Nat) (l : Line) (w : LineWaiter) (bs : List Byte) (mark : Option FKind) :
    s.Spares (s.loadReply site l w bs mark) :=
    ⟨rfl, rfl⟩

@[simp] theorem State.maintLine_spares (site kind : Nat) (l : Line) : s.Spares (s.maintLine site kind l) := by
  dsimp only [State.maintLine]
  split <;> simp

@[simp] theorem execL1Fill_spares (site ctx inc vl : Nat) (r : MemReply) : s.SparedBy (execL1Fill site ctx inc vl r s) := by
  dsimp only [execL1Fill]
  (repeat' split) <;> simp

@[simp] theorem execL1Writeback_spares (site ctx vl : Nat) : s.SparedBy (execL1Writeback site ctx vl s) := by
  dsimp only [execL1Writeback]
  split <;> simp

@[simp] theorem State.loadC_spares (site slot ctx inc va pa n : Nat) (dst : Reg) (ty : Ty) (vec : Bool) (ea : Word) (acq : Option Scope) :
    s.Spares (s.loadC site slot ctx inc va pa n dst ty vec ea acq) := by
  dsimp only [State.loadC]
  split <;> simp

@[simp] theorem State.storeC_spares (site ctx inc va pa : Nat) (bs : List Byte) (through : Bool) :
    s.Spares (s.storeC site ctx inc va pa bs through) := by
  dsimp only [State.storeC]
  split <;> simp

@[simp] theorem applyGlobal_spares (site ctx inc : Nat) (l : List (Nat × Nat × List Byte × Bool)) (s : State) :
    s.Spares (applyGlobal site ctx inc l s) :=
    by
  induction l generalizing s with
  | nil => exact ⟨rfl, rfl⟩
  | cons e l ih => exact State.Spares.trans (by simp) (ih _)

@[simp] theorem State.startWalk_spares (site kind ctx inc : Nat) (slot : Option Nat) (lo hi : Nat) (sel : Nat → Bool) :
    s.Spares (s.startWalk site kind ctx inc slot lo hi sel) :=
    ⟨rfl, rfl⟩

@[simp] theorem State.startAcquire_spares (site slot ctx inc : Nat) : s.Spares (s.startAcquire site slot ctx inc) := ⟨rfl, rfl⟩

@[simp] theorem State.endWalk_spares (site : Nat) (w : MaintWalk) : s.Spares (s.endWalk site w) := by dsimp only [State.endWalk]; split <;> simp

@[simp] theorem State.walkStep_spares (site : Nat) (done rest : List MaintWalk) : s.Spares (s.walkStep site done rest) := by
  induction rest generalizing done with
  | nil => exact ⟨rfl, rfl⟩
  | cons w rest ih =>
    dsimp only [State.walkStep]
    split
    · simp
    · split
      · split <;> simp
      · exact ih _

@[simp] theorem execMaintWalk_spares (site : Nat) : s.SparedBy (execMaintWalk site s) := by simp [execMaintWalk]

@[simp] theorem State.emptyWays_spares (site : Nat) (leave : Nat → Bool) : s.Spares (s.emptyWays site leave) := by simp [State.emptyWays]

@[simp] theorem State.returnWays_spares (site slot : Nat) : s.Spares (s.returnWays site slot) := ⟨rfl, rfl⟩

@[simp] theorem execWayChangeComplete_spares (site slot : Nat) : s.SparedBy (execWayChangeComplete site slot s) := by
  dsimp only [execWayChangeComplete]
  split <;> simp

@[simp] theorem execWayPowerUp_spares (site way : Nat) : s.SparedBy (execWayPowerUp site way s) := by simp [execWayPowerUp]

/-! ### Machine/Page -/

@[simp] theorem State.hedgeCost_spares (c pa n : Nat) : s.Spares (s.hedgeCost c pa n) := by dsimp only [State.hedgeCost]; split <;> simp

@[simp] theorem State.walked_spares (walker ctx inc : Nat) (r : WalkRes) : s.Spares (s.walked walker ctx inc r) := by
  dsimp only [State.walked]
  (repeat' split) <;> simp

@[simp] theorem State.useTrans_spares (site : Nat) (t : Trans) : s.Spares (s.useTrans site t) := ⟨rfl, rfl⟩

@[simp] theorem State.toWalker_spares (w : WalkReq) : s.Spares (s.toWalker w) := by simp [State.toWalker]

@[simp] theorem State.askWalk_spares (site slot va kind : Nat) : s.Spares (s.askWalk site slot va kind) := by simp [State.askWalk]

@[simp] theorem State.waitTrans_spares (va kind : Nat) : holdSpares (s.waitTrans va kind) := by dsimp only [State.waitTrans]; split <;> simp

@[simp] theorem firstHold_spares {l : List (Option Hold)} (hl : ∀ o ∈ l, holdSpares o) : holdSpares (firstHold l) := by
  cases h : firstHold l with
  | none => trivial
  | some w =>
    obtain ⟨o, ho, hw⟩ := List.exists_of_findSome?_eq_some h
    exact (hw ▸ hl o ho : holdSpares (some w))

@[simp] theorem State.walkOutcome_spares (w : WalkReq) (o : WalkOutcome) : s.Spares (s.walkOutcome w o) := by
  dsimp only [State.walkOutcome]
  (repeat' split) <;> simp

@[simp] theorem State.runWalk_spares (w : WalkReq) : s.Spares (s.runWalk w) := by dsimp only [State.runWalk]; (repeat' split) <;> simp

@[simp] theorem execPageWalk_spares (w : WalkReq) : s.SparedBy (execPageWalk w s) := by simp [execPageWalk]

@[simp] theorem execMigRewalk_spares (w : WalkReq) : s.SparedBy (execMigRewalk w s) := by simp [execMigRewalk]

@[simp] theorem State.transFor_spares (agent ctx inc va kind : Nat) : s.Spares (s.transFor agent ctx inc va kind).1 := by
  dsimp only [State.transFor]
  (repeat' split) <;> simp

@[simp] theorem State.sysReadGo_spares (toll : Bool) (agent ctx inc : Nat) (l : List (Nat × Nat)) (acc : List Byte) (s : State) :
    s.Spares (s.sysReadGo toll agent ctx inc l acc).1 := by
  induction l generalizing s acc with
  | nil => exact ⟨rfl, rfl⟩
  | cons e l ih =>
    dsimp only [State.sysReadGo]
    split
    · simp
    · simp
    · split
      · simp [ih]
      · split
        · simp
        · split <;> simp [ih]

@[simp] theorem State.sysRead_spares (agent ctx inc va n : Nat) (toll : Bool) : s.Spares (s.sysRead agent ctx inc va n toll).1 := by
  simp [State.sysRead]

@[simp] theorem State.invalDrop_spares (agent c : Nat) : s.Spares (s.invalDrop agent c) := by simp [State.invalDrop]

@[simp] theorem execInvalidationAtAgent_spares (agent c : Nat) : s.SparedBy (execInvalidationAtAgent agent c s) := by
  dsimp only [execInvalidationAtAgent]
  split <;> simp

@[simp] theorem execInvpClear_spares (c : Nat) : s.SparedBy (execInvpClear c s) := by simp [execInvpClear]

@[simp] theorem effSyswPgroot_spares (f : RRI) : (effSyswPgroot f s).Spares s := by simp [effSyswPgroot]

@[simp] theorem effSyswBackbase_spares (f : RRI) : (effSyswBackbase f s).Spares s := by simp [effSyswBackbase]

/-! ### Machine/Memory -/

@[simp] theorem effLd_spares (f : MemF) : (effLd f s).Spares s := by dsimp only [effLd]; split <;> simp

@[simp] theorem State.holdStore_spares (p : Nat) (bs : List Byte) (atomic : Bool) : s.Spares (s.holdStore p bs atomic) := ⟨rfl, rfl⟩

@[simp] theorem effSt_spares (f : MemF) : (effSt f s).Spares s := by dsimp only [effSt]; split <;> simp

@[simp] theorem effVld_spares (f : MemF) : (effVld f s).Spares s := by dsimp only [effVld]; split <;> simp

@[simp] theorem effVst_spares (f : MemF) : (effVst f s).Spares s := by dsimp only [effVst]; split <;> simp

@[simp] theorem effVgath_spares (f : MemF) : (effVgath f s).Spares s := by dsimp only [effVgath]; split <;> simp

@[simp] theorem effVscat_spares (f : MemF) : (effVscat f s).Spares s := by dsimp only [effVscat]; split <;> simp

@[simp] theorem effAtoms_spares (f : MemF) : (effAtoms f s).Spares s := by dsimp only [effAtoms]; (repeat' split) <;> simp

@[simp] theorem effChkv_spares (f : RRR) : (effChkv f s).Spares s := by dsimp only [effChkv]; split <;> simp

@[simp] theorem waitAcquire_spares : holdSpares (waitAcquire s) := by simp [waitAcquire]

@[simp] theorem waitWalk_spares (vl : Nat) : holdSpares (waitWalk vl s) := by simp [waitWalk]

@[simp] theorem waitFilled_spares (vl : Nat) : holdSpares (waitFilled vl s) := by simp [waitFilled]

@[simp] theorem State.keepFence_spares (f : FenceSnap) : s.Spares (s.keepFence f) := ⟨rfl, rfl⟩

@[simp] theorem State.waitRelease_spares (p : Nat) (x : Scope) (chans : Nat) (syl hold : Bool) : holdSpares (s.waitRelease p x chans syl hold) := by
  simp [State.waitRelease]

@[simp] theorem State.beginRelease_spares (x : Scope) : s.Spares (s.beginRelease x) := by simp [State.beginRelease]

@[simp] theorem waitRel_spares (o : Option Scope) : holdSpares (waitRel o s) := by dsimp only [waitRel]; split <;> simp

@[simp] theorem State.waitEcc_spares (vl : Nat) : holdSpares (s.waitEcc vl) := by dsimp only [State.waitEcc]; split <;> simp

@[simp] theorem State.waitGlobal_spares (ea : Word) (align kind : Nat) (rel acq : Option Scope) : holdSpares (s.waitGlobal ea align kind rel acq) :=
    by
  cases acq <;> simp [State.waitGlobal]

@[simp] theorem State.globalAt_spares (ea : Word) (align kind : Nat) (ak : FKind) {go : Trans → State → Act}
    (hg : ∀ tr, (go tr (s.useTrans s.iss.site tr)).Spares s) : (s.globalAt ea align kind ak go).Spares s := by
  dsimp only [State.globalAt]
  split
  · trivial
  · split <;> simp [hg]

@[simp] theorem State.beginAcquire_spares (acq : Option Scope) (vl : Nat) : s.Spares (s.beginAcquire acq vl) := by
  dsimp only [State.beginAcquire]
  (repeat' split) <;> simp

@[simp] theorem loadAct_spares (f : MemF) (n : Nat) (dst : Reg) (vec : Bool) : (loadAct f n dst vec s).Spares s := by simp [loadAct]

@[simp] theorem waitLdg_spares (f : MemF) : holdSpares (waitLdg f s) := by simp [waitLdg]

@[simp] theorem effLdg_spares (f : MemF) : (effLdg f s).Spares s := by simp [effLdg]

@[simp] theorem waitVldg_spares (f : MemF) : holdSpares (waitVldg f s) := by simp [waitVldg]

@[simp] theorem effVldg_spares (f : MemF) : (effVldg f s).Spares s := by simp [effVldg]

@[simp] theorem storeAct_spares (f : MemF) (n : Nat) (bs : List Byte) : (storeAct f n bs s).Spares s := by simp [storeAct]

@[simp] theorem waitStg_spares (f : MemF) : holdSpares (waitStg f s) := by simp [waitStg]

@[simp] theorem effStg_spares (f : MemF) : (effStg f s).Spares s := by simp [effStg]

@[simp] theorem waitVstg_spares (f : MemF) : holdSpares (waitVstg f s) := by simp [waitVstg]

@[simp] theorem effVstg_spares (f : MemF) : (effVstg f s).Spares s := by simp [effVstg]

@[simp] theorem waitAtomg_spares (f : MemF) : holdSpares (waitAtomg f s) := by simp [waitAtomg]

@[simp] theorem effAtomg_spares (f : MemF) : (effAtomg f s).Spares s := by
  unfold effAtomg
  refine State.globalAt_spares _ _ _ _ (fun tr => ?_)
  dsimp only
  rw [Act.spares_ok]
  split
  · split <;> simp
  · simp

@[simp] theorem waitPref_spares (f : MemF) : holdSpares (waitPref f s) := by simp [waitPref]

@[simp] theorem effPref_spares (f : MemF) : (effPref f s).Spares s := by dsimp only [effPref]; (repeat' split) <;> simp

@[simp] theorem maintAct_spares (kind : Nat) (f : RRR) : (maintAct kind f s).Spares s := by dsimp only [maintAct]; split <;> simp

@[simp] theorem waitClean_spares (x : RRR) : holdSpares (waitClean x s) := by simp [waitClean]

@[simp] theorem effClean_spares (f : RRR) : (effClean f s).Spares s := by simp [effClean]

@[simp] theorem waitInval_spares (x : RRR) : holdSpares (waitInval x s) := by simp [waitInval]

@[simp] theorem effInval_spares (f : RRR) : (effInval f s).Spares s := by simp [effInval]

theorem foldl_spares_of_none {α : Type} {f : Option Hold → α → Option Hold} (hf : ∀ o a, holdSpares o → holdSpares (f o a)) (l : List α) {o : Option Hold}
    (ho : holdSpares o) : holdSpares (l.foldl f o) := by
  induction l generalizing o with
  | nil => exact ho
  | cons a l ih => exact ih (hf o a ho)

@[simp] theorem waitDiscard_spares (f : RRR) : holdSpares (waitDiscard f s) := by
  dsimp only [waitDiscard]
  split
  · trivial
  · refine firstHold_spares ?_
    simp only [List.forall_mem_cons, waitAcquire_spares, true_and]
    refine ⟨foldl_spares_of_none (fun o a ho => ?_) _ trivial, by simp⟩
    split
    · exact ho
    · simp

@[simp] theorem State.discardPart_spares (ctx va n : Nat) (t : Trans) : s.Spares (s.discardPart ctx va n t) := by simp [State.discardPart]

@[simp] theorem effDiscard_spares (f : RRR) : (effDiscard f s).Spares s := by
  dsimp only [effDiscard]
  split
  · trivial
  · split
    · trivial
    · rw [Act.spares_ok]
      split
      · simp
      · refine State.Spares.trans (State.foldl_spares (fun t a => ?_) (pagesOf ..) s) (State.Spares.trans (State.setCurTile_spares ..) (State.startWalk_spares ..))
        split <;> simp

@[simp] theorem waitLlock_spares (f : RRR) : holdSpares (waitLlock f s) := by
  dsimp only [waitLlock]
  split
  · trivial
  · refine firstHold_spares (fun o ho => ?_)
    simp only [List.cons_append, List.mem_cons, List.mem_append, List.mem_map] at ho
    obtain rfl | ⟨a, -, rfl⟩ | ⟨a, -, rfl⟩ := ho <;> simp

@[simp] theorem effLlock_spares (f : RRR) : (effLlock f s).Spares s := by
  dsimp only [effLlock]
  split
  · trivial
  · split
    · trivial
    · refine State.Spares.trans (State.foldl_spares (fun t a => ?_) _ _) (State.foldl_spares (fun t a => ?_) _ _)
      · split <;> simp
      · split
        · simp
        · split <;> simp

@[simp] theorem waitLunlk_spares (x : RRR) : holdSpares (waitLunlk x s) := by simp [waitLunlk]

@[simp] theorem effLunlk_spares (f : RRR) : (effLunlk f s).Spares s := ⟨rfl, rfl⟩

@[simp] theorem wayAct_spares (gate : Bool) (f : RRR) : (wayAct gate f s).Spares s := by simp [wayAct]

@[simp] theorem effWaymask_spares (f : RRR) : (effWaymask f s).Spares s := by simp [effWaymask]

@[simp] theorem effWaygate_spares (f : RRR) : (effWaygate f s).Spares s := by simp [effWaygate]

@[simp] theorem State.waitFencePaths_spares (kind p1 p2 : Nat) (x : Scope) : holdSpares (s.waitFencePaths kind p1 p2 x) := by
  simp [State.waitFencePaths]

@[simp] theorem State.fenceAcquire_spares (kind p2 : Nat) (x : Scope) : (s.fenceAcquire kind p2 x).Spares s := by simp [State.fenceAcquire]

@[simp] theorem waitFence_spares (f : RRR) : holdSpares (waitFence f s) := by simp [waitFence]

@[simp] theorem effFence_spares (f : RRR) : (effFence f s).Spares s := by simp [effFence]

@[simp] theorem waitXfence_spares (f : RRR) : holdSpares (waitXfence f s) := by simp [waitXfence]

@[simp] theorem effXfence_spares (f : RRR) : (effXfence f s).Spares s := by simp [effXfence]

/-! ### Machine/Matrix -/

@[simp] theorem waitUnit_spares : holdSpares (waitUnit s) := by simp [waitUnit]

@[simp] theorem waitAcc_spares (n : Nat) : holdSpares (waitAcc n s) := by simp [waitAcc]

@[simp] theorem waitKb_spares (n : Nat) : holdSpares (waitKb n s) := by simp [waitKb]

@[simp] theorem waitSlew_spares : holdSpares (waitSlew s) := by simp [waitSlew]

@[simp] theorem State.takeQuantum_spares : s.Spares (s.takeQuantum) := by simp [State.takeQuantum]

@[simp] theorem waitMultiply_spares (f : RRR) : holdSpares (waitMultiply f s) := by simp [waitMultiply]

@[simp] theorem waitMultiplyUnit_spares (kind : Nat) (f : RRR) : holdSpares (waitMultiplyUnit kind f s) := by simp [waitMultiplyUnit]

@[simp] theorem mIssue_spares (o : MOp) : (mIssue o s).Spares s := ⟨rfl, rfl⟩

@[simp] theorem effMshape_spares (f : RRR) : (effMshape f s).Spares s := by simp [effMshape]

@[simp] theorem waitMzero_spares (f : RRR) : holdSpares (waitMzero f s) := by simp [waitMzero]

@[simp] theorem effMzero_spares (f : RRR) : (effMzero f s).Spares s := ⟨rfl, rfl⟩

@[simp] theorem mulAct_spares (kind : Nat) (f : RRR) : (mulAct kind f s).Spares s := by
  dsimp only [mulAct]
  split
  · trivial
  · simp [mIssue]

@[simp] theorem waitMma_spares (f : RRR) : holdSpares (waitMma f s) := by simp [waitMma]

@[simp] theorem effMma_spares (f : RRR) : (effMma f s).Spares s := by simp [effMma]

@[simp] theorem waitMmat_spares (f : RRR) : holdSpares (waitMmat f s) := by simp [waitMmat]

@[simp] theorem effMmat_spares (f : RRR) : (effMmat f s).Spares s := by simp [effMmat]

@[simp] theorem scratchAct_spares (kind acc ty : Nat) (f : RRR) : (scratchAct kind acc ty f s).Spares s := by dsimp only [scratchAct]; split <;> simp

@[simp] theorem waitScratch_spares (kind acc ty : Nat) (f : RRR) : holdSpares (waitScratch kind acc ty f s) := by simp [waitScratch]

@[simp] theorem waitMcb_spares (f : RRR) : holdSpares (waitMcb f s) := by simp [waitMcb]

@[simp] theorem effMcb_spares (f : RRR) : (effMcb f s).Spares s := by simp [effMcb]

@[simp] theorem waitMacld_spares (f : RRR) : holdSpares (waitMacld f s) := by simp [waitMacld]

@[simp] theorem effMacld_spares (f : RRR) : (effMacld f s).Spares s := by simp [effMacld]

@[simp] theorem waitMacst_spares (f : RRR) : holdSpares (waitMacst f s) := by simp [waitMacst]

@[simp] theorem effMacst_spares (f : RRR) : (effMacst f s).Spares s := by simp [effMacst]

@[simp] theorem waitMacadd_spares (f : RRR) : holdSpares (waitMacadd f s) := by simp [waitMacadd]

@[simp] theorem effMacadd_spares (f : RRR) : (effMacadd f s).Spares s := by simp [effMacadd]

@[simp] theorem waitMwait_spares (x : RRR) : holdSpares (waitMwait x s) := by simp [waitMwait]

@[simp] theorem effMwait_spares (x : RRR) : (effMwait x s).Spares s := ⟨rfl, rfl⟩

@[simp] theorem State.mendAcc_spares (site slot n : Nat) : s.Spares (s.mendAcc site slot n) := by simp [State.mendAcc]

@[simp] theorem execMatrixStart_spares (site : Nat) : s.SparedBy (execMatrixStart site s) := by dsimp only [execMatrixStart]; split <;> simp

@[simp] theorem State.mmagStep_spares (site slot : Nat) (o : MOp) (r : MmagRun) : s.Spares (s.mmagStep site slot o r) := by simp [State.mmagStep]

@[simp] theorem State.mmagSteps_spares (site slot n : Nat) (s : State) : s.Spares (s.mmagSteps site slot n) := by
  induction n generalizing s with
  | zero => exact ⟨rfl, rfl⟩
  | succ n ih =>
    dsimp only [State.mmagSteps]
    split
    · split
      · simp
      · split <;> simp [ih]
    · simp

@[simp] theorem State.askParts_spares (site slot k : Nat) (l : List (Nat × Nat)) (s : State) : s.Spares (s.askParts site slot k l).1 := by
  induction l generalizing s with
  | nil => exact ⟨rfl, rfl⟩
  | cons e l ih =>
    dsimp only [State.askParts]
    split
    · exact ih s
    · split <;> simp [ih]

@[simp] theorem State.askRows_spares (site slot : Nat) (o : MOp) (n : Nat) (s : State) : s.Spares (s.askRows site slot o n) := by
  induction n generalizing s with
  | zero => exact ⟨rfl, rfl⟩
  | succ n ih =>
    dsimp only [State.askRows]
    split
    · split
      · simp
      · split
        · split <;> simp [ih]
        · simp
    · simp

@[simp] theorem waitMmagRun_spares (f : RRR) : holdSpares (waitMmagRun f s) := by
  dsimp only [waitMmagRun]
  split
  · split
    · trivial
    · split
      case h_1 h hf => exact (hf ▸ firstHold_spares (by simp) : holdSpares (some h))
      case h_2 => simp
  · split
    · trivial
    · split
      · split <;> simp
      · simp

@[simp] theorem waitMmagEarly_spares (f : RRR) : holdSpares (waitMmagEarly f s) := by simp [waitMmagEarly]

@[simp] theorem waitMmag_spares (f : RRR) : holdSpares (waitMmag f s) := by simp [waitMmag]

@[simp] theorem execMmagRowArrive_spares (site slot ctx inc : Nat) (k : RowRef) (off : Nat) (rep : MemReply) :
    s.SparedBy (execMmagRowArrive site slot ctx inc k off rep s) := by
  dsimp only [execMmagRowArrive]
  (repeat' split) <;> simp

@[simp] theorem execSlewRefill_spares (dom : Nat) : s.SparedBy (execSlewRefill dom s) := by simp [execSlewRefill]

/-! ### Machine/Channel -/

@[simp] theorem State.chanRecord_spares (site slot n : Nat) (t : TrapInfo) : s.Spares (s.chanRecord site slot n t) := by simp [State.chanRecord]

@[simp] theorem State.freezeChan_spares (site slot n : Nat) (t : TrapInfo) : s.Spares (s.freezeChan site slot n t) := by simp [State.freezeChan]

@[simp] theorem State.advance_spares (site slot ch n : Nat) (rng : Word) (tr : Option Trans) : s.Spares (s.advance site slot ch n rng tr) := by
  simp [State.advance]

@[simp] theorem State.setTokens_spares (agent ctx n : Nat) : s.Spares (s.setTokens agent ctx n) := by simp [State.setTokens]

@[simp] theorem State.setServed_spares (agent ctx : Nat) : s.Spares (s.setServed agent ctx) := by simp [State.setServed]

@[simp] theorem State.portPay_spares (agent ctx cost : Nat) : s.Spares (s.portPay agent ctx cost) := by simp [State.portPay]

@[simp] theorem State.payFlit_spares (site slot k : Nat) : s.Spares (s.payFlit site slot k) := by simp [State.payFlit]

@[simp] theorem State.chanWalk_spares (site slot ch va kind : Nat) : s.Spares (s.chanWalk site slot ch va kind) := by simp [State.chanWalk]

@[simp] theorem State.serveEngine_spares (site slot ch : Nat) : s.Spares (s.serveEngine site slot ch) := ⟨rfl, rfl⟩

@[simp] theorem State.sendFar_spares (site slot ch k va pa : Nat) : s.Spares (s.sendFar site slot ch k va pa) := by simp [State.sendFar]

@[simp] theorem State.farDone_spares (site slot ch seq : Nat) : s.Spares (s.farDone site slot ch seq) := by dsimp only [State.farDone]; split <;> simp

@[simp] theorem execMemoryWriteAcknowledgement_spares (ctx inc : Nat) (who : Requester) :
    s.SparedBy (execMemoryWriteAcknowledgement ctx inc who s) := by
  dsimp only [execMemoryWriteAcknowledgement]
  split <;> simp

@[simp] theorem chTrap_spares (k : FKind) (n : Nat) : (chTrap k n).Spares s := trivial

@[simp] theorem effScfg_spares (f : NamF) : (effScfg f s).Spares s := by dsimp only [effScfg]; (repeat' split) <;> simp

@[simp] theorem effSgo_spares (f : NamF) : (effSgo f s).Spares s := by dsimp only [effSgo]; split <;> simp

@[simp] theorem effSstop_spares (f : NamF) : (effSstop f s).Spares s := by dsimp only [effSstop]; (repeat' split) <;> simp

@[simp] theorem effSparm_spares (f : NamF) : (effSparm f s).Spares s := by dsimp only [effSparm]; (repeat' split) <;> simp

@[simp] theorem waitSfence_spares (f : NamF) : holdSpares (waitSfence f s) := by
  dsimp only [waitSfence]
  split
  · trivial
  · split
    · simp
    · cases h : s.waitRelease 2 (fenceScope f.t.toNat) (sfMask f) false with
      | none => trivial
      | some w => exact (h ▸ State.waitRelease_spares .. : holdSpares (some w))

@[simp] theorem effSfence_spares (f : NamF) : (effSfence f s).Spares s := by dsimp only [effSfence]; split <;> simp

@[simp] theorem waitWaitwp_spares (f : RRR) : holdSpares (waitWaitwp f s) := by simp [waitWaitwp]

@[simp] theorem effWaitwp_spares (f : RRR) : (effWaitwp f s).Spares s := by dsimp only [effWaitwp]; (repeat' split) <;> simp

end Sys2Proof.Machine
end

section
/-! PROOFS. Both memories are spared by what names, kernels, queues, groups, barriers, steps, contexts and links do, but for the operations that write. -/

namespace Sys2Proof.Machine

variable {s t : State}

/-! ### Machine/Rick -/

@[simp] theorem State.setHome_spares (h : HomeName) : s.Spares (s.setHome h) := ⟨rfl, rfl⟩

@[simp] theorem State.dropName_spares (ctx : Nat) (name : Word) : s.Spares (s.dropName ctx name) := by simp [State.dropName]

@[simp] theorem State.dropFailed_spares (ctx inc : Nat) (name : Word) : s.Spares (s.dropFailed ctx inc name) := by simp [State.dropFailed]

@[simp] theorem State.nameRecord_spares (ctx inc : Nat) (kind : FKind) (name : Word) (unit : Nat) :
    s.Spares (s.nameRecord ctx inc kind name unit) := by
  simp [State.nameRecord]

@[simp] theorem State.nohomeRecord_spares (ctx inc origin : Nat) : s.Spares (s.nohomeRecord ctx inc origin) := by simp [State.nohomeRecord]

@[simp] theorem State.unicast_spares (h : HomeName) (r : SubRec) (seq : Option Nat) (segs : List Seg) (pulled : Bool) :
    s.Spares (s.unicast h r seq segs pulled) := by
  simp [State.unicast]

@[simp] theorem State.ovflFree_spares (ctx inc walker : Nat) (l : List Nat) (s : State) :
    s.Spares (s.ovflFree ctx inc walker l).1 := by
  induction l generalizing s with
  | nil => exact ⟨rfl, rfl⟩
  | cons e l ih =>
    rcases hp : s.sysRead walker ctx inc (s.ovflHdr ctx e) 8 with ⟨t, r⟩
    have ht : s.Spares t := (State.sysRead_spares ..).fst hp
    cases r <;> simp [State.ovflFree, hp, ht, ih]

@[simp] theorem State.ovflPick_spares (ctx inc walker : Nat) (name : Word) (l : List Seg) (acc : List Nat) (s : State) :
    s.Spares (s.ovflPick ctx inc walker name l acc).1 := by
  induction l generalizing s acc with
  | nil => exact ⟨rfl, rfl⟩
  | cons e l ih =>
    rcases hp : s.ovflFree ctx inc walker ((s.ovflSlots ctx name e).filter (fun i => !(acc.contains i))) with ⟨t, r⟩
    have ht : s.Spares t := (State.ovflFree_spares ..).fst hp
    simp only [State.ovflPick, hp]
    cases r <;> simp [ht, ih]

@[simp] theorem State.readBackGo_spares (ctx inc walker va : Nat) (l : List Nat) (bs : List Byte) (bad : List Nat) (s : State) :
    s.Spares (s.readBackGo ctx inc walker va l bs bad).1 := by
  induction l generalizing s bs bad with
  | nil => exact ⟨rfl, rfl⟩
  | cons e l ih =>
    rcases hp : s.sysRead walker ctx inc (va + 64 * e) 64 with ⟨t, r⟩
    have ht : s.Spares t := (State.sysRead_spares ..).fst hp
    cases r <;> simp [State.readBackGo, hp, ht, ih]

@[simp] theorem State.readBack_spares (ctx inc walker : Nat) (p : Spilled) : s.Spares (s.readBack ctx inc walker p).1 := by simp [State.readBack]

@[simp] theorem State.readAll_spares (ctx inc walker : Nat) (l : List Spilled) (segs : List Seg) (s : State) :
    s.Spares (s.readAll ctx inc walker l segs).1 := by
  induction l generalizing s segs with
  | nil => exact ⟨rfl, rfl⟩
  | cons e l ih =>
    rcases hp : s.readBack ctx inc walker e with ⟨t, r⟩
    have ht : s.Spares t := (State.readBack_spares ..).fst hp
    cases r <;> simp [State.readAll, hp, ht, ih]

@[simp] theorem State.stallCtx_spares (ctx rick : Nat) : s.Spares (s.stallCtx ctx rick) := by dsimp only [State.stallCtx]; split <;> simp

@[simp] theorem State.unstallCtx_spares (ctx rick : Nat) : s.Spares (s.unstallCtx ctx rick) := by dsimp only [State.unstallCtx]; split <;> simp

@[simp] theorem State.serve_spares (ctx inc : Nat) (name : Word) (r : SubRec) (c : Copy) (pulled : Bool) :
    s.Spares (s.serve ctx inc name r c pulled) := by
  simp [State.serve]

@[simp] theorem State.serveHeld_spares (h : HomeName) (r : SubRec) (e : HeldEnt) (pulled : Bool) : s.Spares (s.serveHeld h r e pulled) := by
  simp [State.serveHeld]

@[simp] theorem State.serveNext_spares (ctx inc : Nat) (name : Word) (r : SubRec) : s.Spares (s.serveNext ctx inc name r) := by
  dsimp only [State.serveNext]
  (repeat' split) <;> simp

@[simp] theorem State.matchAdd_spares (site ctx inc : Nat) (name : Word) (p : Port) (d : ℤ) : s.Spares (s.matchAdd site ctx inc name p d) :=
    ⟨rfl, rfl⟩

@[simp] theorem State.branch_spares (site : Nat) (arrival : Option Port) (e : Match) (g : Seg) : s.Spares (s.branch site arrival e g) := by
  simp [State.branch]

@[simp] theorem State.reportDelivered_spares (ctx inc : Nat) (name : Word) (n : Nat) : s.Spares (s.reportDelivered ctx inc name n) := by
  simp [State.reportDelivered]

@[simp] theorem State.notifyOrder_spares (g : Seg) : s.Spares (s.notifyOrder g) := by simp [State.notifyOrder]

@[simp] theorem State.learnSeq_spares (g : Seg) (q : Nat) : s.Spares (s.learnSeq g q) := ⟨rfl, rfl⟩

@[simp] theorem State.takeOrder_spares (g : Seg) : s.Spares (s.takeOrder g) := by simp [State.takeOrder]

@[simp] theorem State.readParts_spares (h : HomeName) (size : Nat) (l acc : List RedPart) (s : State) : s.Spares (s.readParts h size l acc).1 := by
  induction l generalizing s acc with
  | nil => exact ⟨rfl, rfl⟩
  | cons e l ih =>
    cases he : e.slot with
    | none => simp [State.readParts, he, ih]
    | some i =>
      rcases hp : s.readBack h.ctx h.inc (s.homeWalker h.ctx h.name) ⟨RedPart.seg h size e, i⟩ with ⟨t, r⟩
      have ht : s.Spares t := (State.readBack_spares ..).fst hp
      cases r <;> simp [State.readParts, he, hp, ht, ih]

@[simp] theorem State.publish_spares (ctx inc : Nat) (name : Word) (linger : Nat) (dws : List Word) (sysPins : Nat) :
    s.Spares (s.publish ctx inc name linger dws sysPins) :=
    ⟨rfl, rfl⟩

@[simp] theorem State.fallThrough_spares (ctx inc : Nat) (name : Word) : s.Spares (s.fallThrough ctx inc name) := by
  dsimp only [State.fallThrough]
  (repeat' split) <;> simp

@[simp] theorem State.rereadOver_spares (ctx inc : Nat) : s.Spares (s.rereadOver ctx inc) := by simp [State.rereadOver]

@[simp] theorem execBackingTableReread_spares (ctx inc : Nat) : s.SparedBy (execBackingTableReread ctx inc s) := by
  dsimp only [execBackingTableReread]
  (repeat' split) <;> simp

@[simp] theorem State.ftGo_spares (hedge ctx inc : Nat) (b : Backed) (l : List (Nat × Nat)) (got : List Byte) (s : State) :
    s.Spares (s.ftGo hedge ctx inc b l got).1 := by
  induction l generalizing s got with
  | nil => exact ⟨rfl, rfl⟩
  | cons e l ih =>
    dsimp only [State.ftGo]
    split
    · simp
    · simp
    · split
      · simp
      · split
        · simp
        · split <;> simp [ih]

@[simp] theorem execFallthroughRequest_spares (hedge ctx inc : Nat) (b : Backed) : s.SparedBy (execFallthroughRequest hedge ctx inc b s) := by
  dsimp only [execFallthroughRequest]
  split
  · simp
  · split
    · simp
    · split
      · simp
      · split
        all_goals exact ((State.ftGo_spares ..).fst ‹_›).trans (by simp)

@[simp] theorem State.hedgePublish_spares (ctx inc : Nat) (name : Word) (linger : Nat) (data : List Byte) (ft : Nat) (at_ : Option Nat) :
    s.Spares (s.hedgePublish ctx inc name linger data ft at_) := by
  simp [State.hedgePublish]

@[simp] theorem execFallthroughData_spares (ctx inc : Nat) (name : Word) (linger : Nat) (r : MemReply) :
    s.SparedBy (execFallthroughData ctx inc name linger r s) := by
  simp [execFallthroughData]

@[simp] theorem execPullAtHome_spares (m : SlotMsg) : s.SparedBy (execPullAtHome m s) := by dsimp only [execPullAtHome]; (repeat' split) <;> simp

@[simp] theorem execNextRequestAtHome_spares (m : SlotMsg) : s.SparedBy (execNextRequestAtHome m s) := by
  dsimp only [execNextRequestAtHome]
  (repeat' split) <;> simp

@[simp] theorem State.nameReply_spares (who : Asker) (ctx inc v : Nat) : s.Spares (s.nameReply who ctx inc v) := ⟨rfl, rfl⟩

@[simp] theorem execNrelsAtHome_spares (ctx inc : Nat) (name : Word) (who : Asker) : s.SparedBy (execNrelsAtHome ctx inc name who s) := by
  simp [execNrelsAtHome]

@[simp] theorem execStandInReply_spares (r : StandIn) : s.SparedBy (execStandInReply r s) := by dsimp only [execStandInReply]; split <;> simp

@[simp] theorem execRickFailedMark_spares (site : Nat) : s.SparedBy (execRickFailedMark site s) := by simp [execRickFailedMark]

/-! ### Machine/Name -/

@[simp] theorem execSubAtRouter_spares (site : Nat) (port : Port) (m : SubMsg) : s.SparedBy (execSubAtRouter site port m s) := by
  simp [execSubAtRouter]

@[simp] theorem execSegmentAtRouter_spares (site : Nat) (port : Port) (toHome : Bool) (g : Seg) :
    s.SparedBy (execSegmentAtRouter site port toHome g s) := by
  dsimp only [execSegmentAtRouter]
  (repeat' split) <;> simp

@[simp] theorem State.withdraw_spares (site slot n : Nat) (moving : Bool) : s.Spares (s.withdraw site slot n moving) := by simp [State.withdraw]

@[simp] theorem State.freeAreas_spares (site slot : Nat) : s.Spares (s.freeAreas site slot) := by simp [State.freeAreas]

@[simp] theorem State.failSub_spares (site slot n : Nat) (k : FKind) (size : Nat) (part : Option (Nat × Nat)) :
    s.Spares (s.failSub site slot n k size part) := by
  simp [State.failSub]

@[simp] theorem State.divert_spares (site slot n : Nat) (g : Seg) : s.Spares (s.divert site slot n g) := ⟨rfl, rfl⟩

@[simp] theorem State.landPoison_spares (site slot p : Nat) (g : Seg) : s.Spares (s.landPoison site slot p g) := ⟨rfl, rfl⟩

@[simp] theorem State.templatesDone_spares (site slot : Nat) : s.Spares (s.templatesDone site slot) := by simp [State.templatesDone]

@[simp] theorem execCopyLanded_spares (site slot n : Nat) : s.SparedBy (execCopyLanded site slot n s) := by
  dsimp only [execCopyLanded]
  split <;> simp

@[simp] theorem execInstallNotice_spares (m : SubMsg) (nh : Bool) : s.SparedBy (execInstallNotice m nh s) := by
  dsimp only [execInstallNotice]
  (repeat' split) <;> simp

@[simp] theorem execOrderNotice_spares (ctx inc : Nat) (t : Tag) : s.SparedBy (execOrderNotice ctx inc t s) := by simp [execOrderNotice]

@[simp] theorem execOverflowStallNotice_spares (site : Nat) (o : CtxInc) : s.SparedBy (execOverflowStallNotice site o s) := by
  simp [execOverflowStallNotice]

@[simp] theorem execOverflowSpaceNotice_spares (site : Nat) (o : CtxInc) : s.SparedBy (execOverflowSpaceNotice site o s) := by
  simp [execOverflowSpaceNotice]

@[simp] theorem execOverflowStallTimeout_spares (ctx : Nat) : s.SparedBy (execOverflowStallTimeout ctx s) := by
  dsimp only [execOverflowStallTimeout]
  split <;> simp

@[simp] theorem execMatchEntryEcc_spares (site ctx : Nat) (name : Word) : s.SparedBy (execMatchEntryEcc site ctx name s) := by
  dsimp only [execMatchEntryEcc]
  split <;> simp

@[simp] theorem execMeshEcc_spares (i : Nat) : s.SparedBy (execMeshEcc i s) := ⟨rfl, rfl⟩

@[simp] theorem execRouterMerge_spares (i j : Nat) : s.SparedBy (execRouterMerge i j s) := by dsimp only [execRouterMerge]; (repeat' split) <;> simp

@[simp] theorem State.injectFlit_spares (site slot : Nat) {out : Queued → Nat → List Byte → State → State} (ho : ∀ q i b (t : State), t.Spares (out q i b t)) :
    s.Spares (s.injectFlit site slot out) := by
  dsimp only [State.injectFlit]
  repeat' split
  all_goals simp [ho]

@[simp] theorem nTrap_spares (k : FKind) (v : Word) : (nTrap k v).Spares s := trivial

@[simp] theorem waitSubscribe_spares (f : NamF) : holdSpares (waitSubscribe f s) := by simp [waitSubscribe]

@[simp] theorem effSubscribe_spares (f : NamF) : (effSubscribe f s).Spares s := by dsimp only [effSubscribe]; split <;> simp

@[simp] theorem State.endSub_spares (site slot n : Nat) (withdraw : Bool) : s.Spares (s.endSub site slot n withdraw) := by
  dsimp only [State.endSub]
  split <;> simp

@[simp] theorem effUnsub_spares (f : NamF) : (effUnsub f s).Spares s := by dsimp only [effUnsub]; split <;> simp

@[simp] theorem waitQueue_spares (check : Option TrapInfo) : holdSpares (waitQueue check s) := by simp [waitQueue]

@[simp] theorem State.enqueue_spares (q : Queued) (remote : Bool) : s.Spares (s.enqueue q remote) := by simp [State.enqueue]

@[simp] theorem waitPub_spares (f : NamF) : holdSpares (waitPub f s) := by simp [waitPub]

@[simp] theorem effPub_spares (f : NamF) : (effPub f s).Spares s := by dsimp only [effPub]; split <;> simp

@[simp] theorem waitPubr_spares (f : NamF) : holdSpares (waitPubr f s) := by simp [waitPubr]

@[simp] theorem effPubr_spares (f : NamF) : (effPubr f s).Spares s := by dsimp only [effPubr]; split <;> simp

@[simp] theorem pinAct_spares (f : NamF) (ev : Nat → Nat → Word → Asker → Instr) : (pinAct f s ev).Spares s := by simp [pinAct]

@[simp] theorem effNhold_spares (f : NamF) : (effNhold f s).Spares s := by simp [effNhold]

@[simp] theorem effNrels_spares (f : NamF) : (effNrels f s).Spares s := by simp [effNrels]

@[simp] theorem effNpoll_spares (f : NamF) : (effNpoll f s).Spares s := ⟨rfl, rfl⟩

@[simp] theorem effNpollAck_spares (f : NamF) : (effNpollAck f s).Spares s := by dsimp only [effNpollAck]; split <;> simp

@[simp] theorem effNpollInj_spares (f : NamF) : (effNpollInj f s).Spares s := ⟨rfl, rfl⟩

/-! ### Machine/Kernel -/

@[simp] theorem State.checkImage_spares (walker ctx inc : Nat) (image : Word) (nx ny nz : Nat) :
    s.Spares (s.checkImage walker ctx inc image nx ny nz).1 := by
  dsimp only [State.checkImage]
  (repeat' split) <;> simp

@[simp] theorem State.evictNew_spares (uid ctx inc site : Nat) : s.Spares (s.evictNew uid ctx inc site) := by
  dsimp only [State.evictNew]
  split <;> simp

@[simp] theorem execInstancePlace_spares (uid site slot : Nat) : s.SparedBy (execInstancePlace uid site slot s) := by
  dsimp only [execInstancePlace]
  split <;> simp

@[simp] theorem execPlacementAcknowledgement_spares (field site : Nat) : s.SparedBy (execPlacementAcknowledgement field site s) := ⟨rfl, rfl⟩

@[simp] theorem execPlacementMessage_spares (p : Placing) (ctx inc : Nat) : s.SparedBy (execPlacementMessage p ctx inc s) := by
  dsimp only [execPlacementMessage]
  (repeat' split) <;> simp

@[simp] theorem State.abandonLoad_spares (uid : Nat) : s.Spares (s.abandonLoad uid) := ⟨rfl, rfl⟩

@[simp] theorem State.faultSlot_spares (site slot : Nat) (k : FKind) (origin : Nat) (eval : Word) (addr : Nat) :
    s.Spares (s.faultSlot site slot k origin eval addr) := by
  simp [State.faultSlot]

@[simp] theorem State.installTemplates_spares (site slot : Nat) (i : Inst) : s.Spares (s.installTemplates site slot i) := by
  simp [State.installTemplates]

@[simp] theorem State.enter_spares (site slot : Nat) : s.Spares (s.enter site slot) := by simp [State.enter]

@[simp] theorem State.stopIssue_spares (site slot : Nat) : s.Spares (s.stopIssue site slot) := by simp [State.stopIssue]

@[simp] theorem yieldAct_spares (c : ParkCond) (chk : Option TrapInfo) : (yieldAct c chk s).Spares s := by
  dsimp only [yieldAct]
  (repeat' split) <;> simp

@[simp] theorem effYieldSlot_spares (f : RRR) : (effYieldSlot f s).Spares s := by simp [effYieldSlot]

@[simp] theorem effYieldWp_spares (f : RRR) : (effYieldWp f s).Spares s := by simp [effYieldWp]

@[simp] theorem effYieldAny_spares (x : RRR) : (effYieldAny x s).Spares s := by simp [effYieldAny]

@[simp] theorem effYieldTime_spares (f : RRR) : (effYieldTime f s).Spares s := by simp [effYieldTime]

@[simp] theorem execParkWake_spares (site slot : Nat) : s.SparedBy (execParkWake site slot s) := by dsimp only [execParkWake]; split <;> simp

@[simp] theorem execParkRestore_spares (site slot : Nat) : s.SparedBy (execParkRestore site slot s) := by simp [execParkRestore]

@[simp] theorem State.unbind_spares (site slot : Nat) : s.Spares (s.unbind site slot) := ⟨rfl, rfl⟩

@[simp] theorem State.finishEvicts_spares : s.Spares (s.finishEvicts) := by simp [State.finishEvicts]

@[simp] theorem State.forgetWaits_spares (uid : Nat) : s.Spares (s.forgetWaits uid) := ⟨rfl, rfl⟩

@[simp] theorem State.freeSlot_spares (site slot : Nat) : s.Spares (s.freeSlot site slot) := by simp [State.freeSlot]

@[simp] theorem State.endMoved_spares (uid : Nat) (i : Inst) : s.Spares (s.endMoved uid i) := by dsimp only [State.endMoved]; split <;> simp

@[simp] theorem State.terminal_spares (site slot ctx inc : Nat) (gs : List (Option Nat)) (how cause : Nat) :
    s.Spares (s.terminal site slot ctx inc gs how cause) := by
  simp [State.terminal]

@[simp] theorem execRetire_spares (site slot : Nat) : s.SparedBy (execRetire site slot s) := by dsimp only [execRetire]; (repeat' split) <;> simp

@[simp] theorem State.cancelUnplaced_spares (uid : Nat) (i : Inst) : s.Spares (s.cancelUnplaced uid i) := by simp [State.cancelUnplaced]

@[simp] theorem execCancelAtTile_spares (uid g : Nat) : s.SparedBy (execCancelAtTile uid g s) := by
  dsimp only [execCancelAtTile]
  (repeat' split) <;> simp

@[simp] theorem State.exitEnter_spares (site slot : Nat) : s.Spares (s.exitEnter site slot) := by
  dsimp only [State.exitEnter]
  (repeat' split) <;> simp

@[simp] theorem State.exitTemplates_spares (site slot : Nat) : s.Spares (s.exitTemplates site slot) := by
  dsimp only [State.exitTemplates]
  split <;> simp

@[simp] theorem effExitS_spares (f : RRR) : (effExitS f s).Spares s := by dsimp only [effExitS]; (repeat' split) <;> simp

@[simp] theorem State.sendRecord_spares (q : Nat) (rel : Bool) (r : List Word) (src : RecSrc) : s.Spares (s.sendRecord q rel r src) := by
  simp [State.sendRecord]

@[simp] theorem effLaunch_spares (f : RRR) : (effLaunch f s).Spares s := by simp [effLaunch]

/-! ### Machine/Queue -/

@[simp] theorem State.setQueue_spares (c q : Nat) (x : Queue) : s.Spares (s.setQueue c q x) := ⟨rfl, rfl⟩

@[simp] theorem State.queueEvent_spares (ctx inc q kind seq n cause : Nat) : s.Spares (s.queueEvent ctx inc q kind seq n cause) := ⟨rfl, rfl⟩

@[simp] theorem State.headUp_spares (ctx inc q : Nat) : s.Spares (s.headUp ctx inc q) := by dsimp only [State.headUp]; split <;> simp

@[simp] theorem State.dropGates_spares (ctx inc q : Nat) (gs : List Word) : s.Spares (s.dropGates ctx inc q gs) := by simp [State.dropGates]

@[simp] theorem execGateSatisfied_spares (ctx inc : Nat) (r : HeadRef) (name : Word) : s.SparedBy (execGateSatisfied ctx inc r name s) := by
  dsimp only [execGateSatisfied]
  (repeat' split) <;> simp

@[simp] theorem State.recordReply_spares (ctx inc : Nat) (src : RecSrc) (refused : Option FKind) (seq : Nat) :
    s.Spares (s.recordReply ctx inc src refused seq) := by
  dsimp only [State.recordReply]
  (repeat' split) <;> simp

@[simp] theorem State.discardRecord_spares (ctx inc q seq : Nat) (k : FKind) (origin : Nat) (eval : Word) :
    s.Spares (s.discardRecord ctx inc q seq k origin eval) := by
  simp [State.discardRecord]

@[simp] theorem execHostAppendWrite_spares (w : WindowAt) (bytes : List Byte) : s.SparedBy (execHostAppendWrite w bytes s) := by
  simp [execHostAppendWrite]

@[simp] theorem execMembershipReserve_spares (o : CtxInc) (r : HeadRef) (g n : Nat) : s.SparedBy (execMembershipReserve o r g n s) := by
  simp [execMembershipReserve]

@[simp] theorem State.releaseReserved_spares (ctx q : Nat) : s.Spares (s.releaseReserved ctx q) := by simp [State.releaseReserved]

@[simp] theorem State.popHead_spares (ctx q : Nat) : s.Spares (s.popHead ctx q) := ⟨rfl, rfl⟩

@[simp] theorem State.afterHead_spares (ctx inc q : Nat) {ev : State → State} (he : ∀ t : State, t.Spares (ev t)) :
    s.Spares (s.afterHead ctx inc q ev) :=
    by
  simp [State.afterHead, he]

@[simp] theorem State.discardHead_spares (ctx inc q seq : Nat) (k : FKind) (origin : Nat) (eval : Word) :
    s.Spares (s.discardHead ctx inc q seq k origin eval) := by
  simp [State.discardHead]

@[simp] theorem State.createInsts_spares (ctx inc q seq : Nat) (k : Kern) (r : List Word) : s.Spares (s.createInsts ctx inc q seq k r) := by
  simp [State.createInsts]

@[simp] theorem execRecordExpand_spares (ctx q : Nat) : s.SparedBy (execRecordExpand ctx q s) := by
  dsimp only [execRecordExpand]
  (repeat' split) <;> simp

@[simp] theorem State.closeQueue_spares (ctx inc q : Nat) : s.Spares (s.closeQueue ctx inc q) := by simp [State.closeQueue]

@[simp] theorem State.queueOp_spares (ctx inc q : Nat) (op : QOp) : s.Spares (s.queueOp ctx inc q op).1 := by
  dsimp only [State.queueOp]
  (repeat' split) <;> simp

@[simp] theorem execQueueOperationAtScheduler_spares (ctx inc q : Nat) (op : QOp) (who : Asker) :
    s.SparedBy (execQueueOperationAtScheduler ctx inc q op who s) := by
  simp [execQueueOperationAtScheduler]

@[simp] theorem cTrap_spares (k : FKind) (v : Word) : (cTrap k v).Spares s := trivial

@[simp] theorem effQpost_spares (f : RRR) : (effQpost f s).Spares s := by dsimp only [effQpost]; (repeat' split) <;> simp

@[simp] theorem qctlAct_spares (f : RRR) (op : QOp) : (qctlAct f op s).Spares s := ⟨rfl, rfl⟩

@[simp] theorem privLevel_spares (lvl : Nat) {k : Act} (hk : k.Spares s) : (privLevel lvl s k).Spares s := by
  simp [privLevel, hk]

@[simp] theorem effQctlCreate_spares (f : RRR) : (effQctlCreate f s).Spares s := by simp [effQctlCreate]

@[simp] theorem effQctlDrain_spares (f : RRR) : (effQctlDrain f s).Spares s := ⟨rfl, rfl⟩

@[simp] theorem effQctlClose_spares (f : RRR) : (effQctlClose f s).Spares s := ⟨rfl, rfl⟩

@[simp] theorem effQctlLevel_spares (f : RRR) : (effQctlLevel f s).Spares s := by simp [effQctlLevel]

@[simp] theorem effQctlQuery_spares (f : RRR) : (effQctlQuery f s).Spares s := ⟨rfl, rfl⟩

/-! ### Machine/Group -/

@[simp] theorem State.cutEvent_spares (ctx inc g n : Nat) : s.Spares (s.cutEvent ctx inc g n) := ⟨rfl, rfl⟩

@[simp] theorem State.showKept_spares (k : CutMark) (h : HomeName) : s.Spares (s.showKept k h) := by
  dsimp only [State.showKept]
  (repeat' split) <;> simp

@[simp] theorem State.clearMarks_spares (ctx g : Nat) : s.Spares (s.clearMarks ctx g) := by simp [State.clearMarks]

@[simp] theorem State.finishGroup_spares (ctx inc g : Nat) : s.Spares (s.finishGroup ctx inc g) := by simp [State.finishGroup]

@[simp] theorem State.cancelMembers_spares (ctx g : Nat) : s.Spares (s.cancelMembers ctx g) :=
  State.foldl_spares (fun t m => by dsimp only; split <;> simp) ..

@[simp] theorem State.cancelGroup_spares (ctx g : Nat) : s.Spares (s.cancelGroup ctx g) := by dsimp only [State.cancelGroup]; split <;> simp

@[simp] theorem State.setLevel_spares (ctx g lvl : Nat) : s.Spares (s.setLevel ctx g lvl) :=
  State.foldl_spares (fun t m => by dsimp only; split <;> simp) ..

@[simp] theorem State.setMember_spares (who : Asker) (idx : Nat) (g : Option Nat) : s.Spares (s.setMember who idx g) := by
  dsimp only [State.setMember]
  split <;> simp

@[simp] theorem State.startCut_spares (ctx inc g base size : Nat) : s.Spares (s.startCut ctx inc g base size) := by simp [State.startCut]

@[simp] theorem execCutMarkAtHome_spares (o : CtxInc) (c : CutRef) (name : Word) (uid sub : Nat) :
    s.SparedBy (execCutMarkAtHome o c name uid sub s) := by
  simp [execCutMarkAtHome]

@[simp] theorem execCutMarksConfirmed_spares (o : CtxInc) (c : CutRef) : s.SparedBy (execCutMarksConfirmed o c s) := by
  dsimp only [execCutMarksConfirmed]
  split
  · simp
  · split
    · simp
    · exact State.Spares.trans (State.setGroup_spares ..) (State.foldl_spares (fun t m => by split <;> simp) ..)

@[simp] theorem State.restoreRecord_spares (ctx inc : Nat) (us : List Nat) (d0 d1 d2 : Nat) (bs : List Byte) (bad : List Nat) :
    s.Spares (s.restoreRecord ctx inc us d0 d1 d2 bs bad) := by
  dsimp only [State.restoreRecord]
  (repeat' split) <;> simp

theorem State.restoreGo_spares {ctx inc walker base : Nat} {us : List Nat} {n off : Nat} (h : s.restoreGo ctx inc walker base us n off = some t) :
    s.Spares t :=
    by
  induction n generalizing s off with
  | zero => cases h; exact ⟨rfl, rfl⟩
  | succ n ih =>
    dsimp only [State.restoreGo] at h
    split at h
    · cases h
    case h_2 hr => cases h; exact (State.sysRead_spares ..).fst hr
    case h_3 hr =>
      split at h
      · cases h
      case h_2 hb =>
        exact (((State.sysRead_spares ..).fst hr).trans ((State.readBackGo_spares ..).fst hb)).trans (State.Spares.trans (by simp) (ih h))

@[simp] theorem State.areaIntact_spares (ctx inc walker base : Nat) (l : List (Nat × List Byte)) (s : State) :
    s.Spares (s.areaIntact ctx inc walker base l).1 := by
  induction l generalizing s with
  | nil => exact ⟨rfl, rfl⟩
  | cons e l ih =>
    rcases hp : s.sysRead walker ctx inc (base + e.1) e.2.length with ⟨t, r⟩
    have ht : s.Spares t := (State.sysRead_spares ..).fst hp
    cases r <;> simp [State.areaIntact, hp, ht, ih]

@[simp] theorem State.cutIntact_spares (ctx inc g base size : Nat) : s.Spares (s.cutIntact ctx inc g base size).1 := by simp [State.cutIntact]

@[simp] theorem State.restoreFree_spares (ctx inc g : Nat) : s.Spares (s.restoreFree ctx inc g) :=
  State.foldl_spares (fun t m => State.foldl_spares (fun u n => by dsimp only; split <;> simp) ..) ..

theorem State.restoreGroup_spares {ctx inc g base size : Nat} (h : s.restoreGroup ctx inc g base size = some t) : s.Spares t := by
  obtain ⟨u, hu, rfl⟩ := Option.map_eq_some_iff.mp h
  have hs : s.Spares u := by
    split at hu
    case h_1 hc => exact ((State.cutIntact_spares ..).fst hc).trans (State.restoreGo_spares hu)
    case h_2 hc => cases hu; exact ((State.cutIntact_spares ..).fst hc).trans (State.restoreFree_spares ..)
    · cases hu
  exact hs.trans (by simp)

@[simp] theorem State.groupReply_spares (ctx inc g : Nat) (who : Asker) (refused : Bool) (midx : Nat) (then_ : Reply) :
    s.Spares (s.groupReply ctx inc g who refused midx then_) :=
    ⟨rfl, rfl⟩

@[simp] theorem State.moveFailed_spares (m : SubMsg) : s.Spares (s.moveFailed m) := by dsimp only [State.moveFailed]; split <;> simp

@[simp] theorem State.askGroup_spares (f : RRR) (op : GOp) (midx : Nat) : s.Spares (s.askGroup f op midx) := ⟨rfl, rfl⟩

@[simp] theorem gCheck_spares (f : RRR) {k : Act} (hk : k.Spares s) : (gCheck f s k).Spares s := by
  simp [gCheck, hk]

@[simp] theorem effGjoin_spares (f : RRR) : (effGjoin f s).Spares s := by dsimp only [effGjoin]; (repeat' split) <;> simp

@[simp] theorem effGleave_spares (f : RRR) : (effGleave f s).Spares s := by dsimp only [effGleave]; split <;> simp

@[simp] theorem effGctlCancel_spares (f : RRR) : (effGctlCancel f s).Spares s := by simp [effGctlCancel]

@[simp] theorem effGctlPrio_spares (f : RRR) : (effGctlPrio f s).Spares s := by simp [effGctlPrio]

@[simp] theorem effGctlCap_spares (f : RRR) : (effGctlCap f s).Spares s := by simp [effGctlCap]

@[simp] theorem cutOperands_spares (f : RRR) (op : Nat → Nat → GOp) : (cutOperands f s op).Spares s := by simp [cutOperands]

@[simp] theorem effGctlCut_spares (f : RRR) : (effGctlCut f s).Spares s := by simp [effGctlCut]

@[simp] theorem effGctlRestore_spares (f : RRR) : (effGctlRestore f s).Spares s := by simp [effGctlRestore]

@[simp] theorem effGctlQuery_spares (f : RRR) : (effGctlQuery f s).Spares s := by simp [effGctlQuery]

@[simp] theorem effGwait_spares (f : RRR) : (effGwait f s).Spares s := by dsimp only [effGwait]; split <;> simp

@[simp] theorem State.subscribeWaiter_spares (site slot n : Nat) (name land : Word) : s.Spares (s.subscribeWaiter site slot n name land) := by
  simp [State.subscribeWaiter]

@[simp] theorem State.gwaitLand_spares (site slot g sub : Nat) (land : Word) (use : Nat) (registered : Bool) (val : VReg) :
    s.Spares (s.gwaitLand site slot g sub land use registered val).1 := by
  simp [State.gwaitLand]

/-! ### Machine/Barrier -/

@[simp] theorem State.setBar_spares (ctx id : Nat) (b : Bar) : s.Spares (s.setBar ctx id b) := ⟨rfl, rfl⟩

@[simp] theorem State.completeBar_spares (ctx inc id n : Nat) (s : State) : s.Spares (s.completeBar ctx inc id n).1 := by
  induction n generalizing s with
  | zero => exact ⟨rfl, rfl⟩
  | succ n ih =>
    dsimp only [State.completeBar]
    split
    · simp
    · split <;> simp [ih]

@[simp] theorem State.barReply_spares (r : BarReq) (v : Nat) (then_ : Reply) : s.Spares (s.barReply r v then_) := ⟨rfl, rfl⟩

@[simp] theorem State.refuseArrival_spares (r : BarReq) (b : Option Bar) (k : FKind) : s.Spares (s.refuseArrival r b k) := by
  simp [State.refuseArrival]

@[simp] theorem execArrivalAtHome_spares (r : BarReq) : s.SparedBy (execArrivalAtHome r s) := by
  unfold execArrivalAtHome
  -- the class is kept opaque: the kernel must not count down the 2 ^ 32 of its definition
  obtain ⟨pc, hpc⟩ := exists_eq (a' := phaseClass)
  rw [← hpc]
  clear hpc
  split
  · exact State.drop_spares ..
  · split
    · exact ⟨rfl, rfl⟩
    · cases s.bar r.ctx r.inc r.id with
      | none => exact State.refuseArrival_spares ..
      | some b =>
        dsimp only
        cases pc r.phase b.phase with
        | current => exact State.completeBar_spares r.ctx r.inc r.id 2 (s.setBar r.ctx r.id { b with arr := b.arr + 1 })
        | next =>
          dsimp only
          split
          · exact State.refuseArrival_spares ..
          · exact ⟨rfl, rfl⟩
        | past => exact State.refuseArrival_spares ..
        | far => exact State.refuseArrival_spares ..

@[simp] theorem execBwaitAtHome_spares (r : BarReq) (sub : Nat) (land : Word) : s.SparedBy (execBwaitAtHome r sub land s) := by
  unfold execBwaitAtHome
  obtain ⟨pc, hpc⟩ := exists_eq (a' := phaseClass)
  rw [← hpc]
  clear hpc
  split
  · exact State.drop_spares ..
  · split
    · exact State.Spares.ite ⟨rfl, rfl⟩ ⟨rfl, rfl⟩
    · cases s.bar r.ctx r.inc r.id with
      | none => exact State.Spares.ite ⟨rfl, rfl⟩ ⟨rfl, rfl⟩
      | some b =>
        dsimp only
        cases pc r.phase b.phase <;> exact State.Spares.ite ⟨rfl, rfl⟩ ⟨rfl, rfl⟩

@[simp] theorem execPinReleaseMessage_spares (ctx inc : Nat) (name : Word) : s.SparedBy (execPinReleaseMessage ctx inc name s) := by
  simp [execPinReleaseMessage]

@[simp] theorem State.sendBar_spares (r : BarReq) (ev : Instr) (rel : Option RelWait) : s.Spares (s.sendBar r ev rel) := ⟨rfl, rfl⟩

@[simp] theorem effBinit_spares (f : RRR) : (effBinit f s).Spares s := by simp [effBinit]

@[simp] theorem effBarv_spares (f : RRR) : (effBarv f s).Spares s := by simp [effBarv]

@[simp] theorem waitBwaitReply_spares (f : RRR) : holdSpares (waitBwaitReply f s) := by dsimp only [waitBwaitReply]; split <;> simp

@[simp] theorem waitBwait_spares (f : RRR) : holdSpares (waitBwait f s) := by simp [waitBwait]

@[simp] theorem effBwait_spares (f : RRR) : (effBwait f s).Spares s := by dsimp only [effBwait]; (repeat' split) <;> simp

/-! ### Machine/StepGov -/

@[simp] theorem State.setStep_spares (ctx id : Nat) (e : StepEnt) : s.Spares (s.setStep ctx id e) := ⟨rfl, rfl⟩

@[simp] theorem State.stepEvent_spares (ctx inc id : Nat) (e : StepEnt) (kind : Nat) : s.Spares (s.stepEvent ctx inc id e kind) := ⟨rfl, rfl⟩

@[simp] theorem State.warnMembers_spares (ctx g why : Nat) : s.Spares (s.warnMembers ctx g why) :=
  State.foldl_spares (fun t m => by dsimp only; split <;> simp) ..

@[simp] theorem execCompletionNotice_spares (ctx inc g stamp : Nat) : s.SparedBy (execCompletionNotice ctx inc g stamp s) := by
  dsimp only [execCompletionNotice]
  split
  · simp
  · exact State.foldl_spares (fun t id => by split <;> simp) ..

@[simp] theorem execCopyDeliveredReport_spares (ctx inc : Nat) (name : Word) : s.SparedBy (execCopyDeliveredReport ctx inc name s) := by
  dsimp only [execCopyDeliveredReport]
  (repeat' split) <;> simp

theorem State.SparedBy.of_spares {o : Host.Outcome State Fault Refusal} (h : t.SparedBy o) (ht : s.Spares t) : s.SparedBy o := by
  cases o with
  | next u => exact State.Spares.trans ht h
  | fault f => trivial
  | refused r => trivial

@[simp] theorem execDeadlineCheck_spares (ctx id b : Nat) : s.SparedBy (execDeadlineCheck ctx id b s) := by
  dsimp only [execDeadlineCheck]
  split
  · simp
  · split
    · simp
    · split
      · exact (execCompletionNotice_spares ..).of_spares ⟨rfl, rfl⟩
      · simp

@[simp] theorem execStepRequestAtGovernor_spares (ctx inc : Nat) (op : StepOp) (who : Asker) :
    s.SparedBy (execStepRequestAtGovernor ctx inc op who s) := by
  dsimp only [execStepRequestAtGovernor]
  (repeat' split) <;> simp

@[simp] theorem State.lowerCaps_spares (p : Frac) (l : List StepLoad) (saved : Int) (s : State) : s.Spares (s.lowerCaps p l saved).1 := by
  induction l generalizing s saved with
  | nil => exact ⟨rfl, rfl⟩
  | cons e l ih =>
    dsimp only [State.lowerCaps]
    split <;> simp [ih]

@[simp] theorem State.capPoints_spares (tab : List StepLoad) (b : Nat) (need : List Nat) : s.Spares (s.capPoints tab b need).1 := by
  simp [State.capPoints]

@[simp] theorem State.releaseCaps_spares (need : List Nat) : s.Spares (s.releaseCaps need) := by simp [State.releaseCaps]

@[simp] theorem State.decideStep_spares (tab : List StepLoad) (b : Nat) (need op late : List Nat) (l : StepLoad) :
    s.Spares (s.decideStep tab b need op late l) := by
  simp [State.decideStep]

@[simp] theorem execGovernorDecision_spares (b : Nat) : s.SparedBy (execGovernorDecision b s) := by simp [execGovernorDecision]

@[simp] theorem execOpChangeComplete_spares (dom : Nat) : s.SparedBy (execOpChangeComplete dom s) := by
  dsimp only [execOpChangeComplete]
  split <;> simp

@[simp] theorem State.askGovernor_spares (d : Reg) (op : StepOp) : s.Spares (s.askGovernor d op) := ⟨rfl, rfl⟩

@[simp] theorem effStepo_spares (f : RRR) : (effStepo f s).Spares s := by simp [effStepo]

@[simp] theorem effStepc_spares (f : RRR) : (effStepc f s).Spares s := ⟨rfl, rfl⟩

@[simp] theorem effSlack_spares (f : RRR) : (effSlack f s).Spares s := ⟨rfl, rfl⟩

/-! ### Machine/Context -/

@[simp] theorem State.ctxReply_spares (w : Asker × Nat × Nat) (c cause drops : Nat) : s.Spares (s.ctxReply w c cause drops) := ⟨rfl, rfl⟩

@[simp] theorem State.ctxEvent_spares (w : Asker × Nat × Nat) (kind c drops : Nat) : s.Spares (s.ctxEvent w kind c drops) := ⟨rfl, rfl⟩

@[simp] theorem State.sweepTile_spares (site c inc : Nat) : s.Spares (s.sweepTile site c inc) := by
  refine State.Spares.trans (State.foldl_spares (fun t k => ?_) _ _) (State.setTileAt_spares ..)
  dsimp only
  repeat' split
  all_goals simp

@[simp] theorem State.sweep_spares (agent c inc : Nat) : s.Spares (s.sweep agent c inc) := by dsimp only [State.sweep]; (repeat' split) <;> simp

@[simp] theorem execIncarnationBroadcast_spares (agent c : Nat) : s.SparedBy (execIncarnationBroadcast agent c s) := by
  unfold execIncarnationBroadcast
  extract_lets x y s1
  have hs : s.Spares s1 := State.sweep_spares agent c x.inc (s := s.setCtx c y)
  have he (w) : s.SparedBy (.next ((s1.ctxReply w c 0 0).ctxEvent w 2 c 0)) :=
    hs.trans ((State.ctxReply_spares w c 0 0).trans (State.ctxEvent_spares w 2 c 0))
  clear_value s1 y
  refine State.SparedBy.ite ⟨rfl, rfl⟩ ?_
  generalize (s.agents.all fun a => y.told.contains a) = told
  refine State.SparedBy.ite ?_ hs
  cases x.killWho with
  | none => exact hs
  | some w => exact he w

@[simp] theorem execSweepDone_spares (agent c drops : Nat) : s.SparedBy (execSweepDone agent c drops s) := by simp [execSweepDone]

@[simp] theorem execLinkFenceExpire_spares (c : Nat) : s.SparedBy (execLinkFenceExpire c s) := by simp [execLinkFenceExpire]

@[simp] theorem State.unstart_spares (p : Pending) : s.Spares (s.unstart p) := by dsimp only [State.unstart]; split <;> simp

@[simp] theorem State.purge_spares (c : Nat) : s.Spares (s.purge c) := by simp [State.purge]

@[simp] theorem execReclaim_spares (c : Nat) : s.SparedBy (execReclaim c s) := by dsimp only [execReclaim]; (repeat' split) <;> simp

@[simp] theorem execDescriptorReadDone_spares (c : Nat) (who : Asker) (issuer issuerInc va : Nat) :
    s.SparedBy (execDescriptorReadDone c who issuer issuerInc va s) := by
  dsimp only [execDescriptorReadDone]
  (repeat' split) <;> simp

@[simp] theorem execBindingInstall_spares (site c : Nat) : s.SparedBy (execBindingInstall site c s) := by simp [execBindingInstall]

@[simp] theorem execBindingsAcknowledged_spares (c : Nat) : s.SparedBy (execBindingsAcknowledged c s) := by
  dsimp only [execBindingsAcknowledged]
  split <;> simp

@[simp] theorem State.takeRec_spares (walker : Nat) (i : Inst) : s.Spares (s.takeRec walker i).1 := by
  dsimp only [State.takeRec]
  (repeat' split) <;> simp

@[simp] theorem State.recLater_spares (site slot : Nat) : s.Spares (s.recLater site slot) := ⟨rfl, rfl⟩

@[simp] theorem State.atSlot_spares (site slot : Nat) : s.Spares (s.atSlot site slot) := ⟨rfl, rfl⟩

@[simp] theorem State.stopMul_spares (site slot : Nat) (o : MOp) : s.Spares (s.stopMul site slot o) := by dsimp only [State.stopMul]; split <;> simp

@[simp] theorem State.moveSubs_spares (site slot : Nat) : s.Spares (s.moveSubs site slot) := by simp [State.moveSubs]

@[simp] theorem State.evicted_spares (uid : Nat) (ok : Bool) (blocks : Nat) : s.Spares (s.evicted uid ok blocks) := ⟨rfl, rfl⟩

@[simp] theorem State.saveFailed_spares (site slot uid : Nat) (why : SaveWhy) : s.Spares (s.saveFailed site slot uid why) := by
  dsimp only [State.saveFailed]
  split <;> simp

@[simp] theorem State.saveFault_spares (site slot : Nat) (k : FKind) (va : Nat) : s.Spares (s.saveFault site slot k va) := by simp [State.saveFault]

@[simp] theorem State.saved_spares (site slot uid : Nat) (i : Inst) (x : Slot) (why : SaveWhy) (h blocks : Nat) :
    s.Spares (s.saved site slot uid i x why h blocks) := by
  dsimp only [State.saved]
  split <;> simp

@[simp] theorem State.abandonPlaced_spares (site slot uid : Nat) (i : Inst) (why : SaveWhy) : s.Spares (s.abandonPlaced site slot uid i why) := by
  dsimp only [State.abandonPlaced]
  split <;> simp

@[simp] theorem execSaveOrderAtTile_spares (uid : Nat) (why : SaveWhy) : s.SparedBy (execSaveOrderAtTile uid why s) := by
  dsimp only [execSaveOrderAtTile]
  (repeat' split) <;> simp

@[simp] theorem State.readRecord_spares (walker c inc base : Nat) (l : List (Nat × Nat)) (acc : List (Nat × List Byte)) (s : State) :
    s.Spares (s.readRecord walker c inc base l acc).1 := by
  induction l generalizing s acc with
  | nil => exact ⟨rfl, rfl⟩
  | cons e l ih =>
    dsimp only [State.readRecord]
    split <;> simp [ih]

@[simp] theorem State.restoreFail_spares (site slot uid : Nat) (i : Inst) (k : FKind) (va : Nat) : s.Spares (s.restoreFail site slot uid i k va) := by
  simp [State.restoreFail]

@[simp] theorem State.lendWays_spares (site slot : Nat) (ws : List Nat) : s.Spares (s.lendWays site slot ws) := by simp [State.lendWays]

@[simp] theorem State.reinstall_spares (site slot : Nat) : s.Spares (s.reinstall site slot) := by simp [State.reinstall]

@[simp] theorem State.resumeIn_spares (site slot : Nat) (i : Inst) (y : Slot) : s.Spares (s.resumeIn site slot i y) := by simp [State.resumeIn]

@[simp] theorem execMigrate_spares (uid site slot : Nat) : s.SparedBy (execMigrate uid site slot s) := by
  dsimp only [execMigrate]
  (repeat' split) <;> simp

@[simp] theorem State.chkpEnd_spares (site slot : Nat) (d : Reg) (v : Nat) : s.Spares (s.chkpEnd site slot d v) := ⟨rfl, rfl⟩

@[simp] theorem State.refill_spares (agent : Nat) : s.Spares (s.refill agent) := by simp [State.refill]

@[simp] theorem execTokenRefill_spares (agent : Nat) : s.SparedBy (execTokenRefill agent s) := by simp [execTokenRefill]

@[simp] theorem ctxOperand_spares (f : RRR) {k : Nat → Reg → State → State} (hk : ∀ c r (t : State), t.Spares (k c r t)) :
    (ctxOperand f s k).Spares s :=
    by
  simp [ctxOperand, hk]

@[simp] theorem State.killCtx_spares (c : Nat) (w : Asker × Nat × Nat) : s.Spares (s.killCtx c w) := by simp [State.killCtx]

@[simp] theorem effCtxk_spares (f : RRR) : (effCtxk f s).Spares s := by simp [effCtxk]

@[simp] theorem effReclm_spares (f : RRR) : (effReclm f s).Spares s := by
  unfold effReclm
  exact ctxOperand_spares f (fun c r t => by dsimp only; split <;> simp)

@[simp] theorem effCtxrStart_spares (f : RRR) : (effCtxrStart f s).Spares s := by simp [effCtxrStart]

@[simp] theorem effCtxrFree_spares (f : RRR) : (effCtxrFree f s).Spares s := by simp [effCtxrFree]

@[simp] theorem evictAct_spares (f : RRR) (unbind : Bool) : (evictAct f unbind s).Spares s := by simp [evictAct]

@[simp] theorem effEvict_spares (f : RRR) : (effEvict f s).Spares s := by simp [effEvict]

@[simp] theorem effEvictUnbind_spares (f : RRR) : (effEvictUnbind f s).Spares s := by simp [effEvictUnbind]

@[simp] theorem effChkpNow_spares (f : RRR) : (effChkpNow f s).Spares s := ⟨rfl, rfl⟩

@[simp] theorem effChkpBgon_spares (f : RRR) : (effChkpBgon f s).Spares s := ⟨rfl, rfl⟩

@[simp] theorem effChkpBgoff_spares (f : RRR) : (effChkpBgoff f s).Spares s := ⟨rfl, rfl⟩

/-! ### Machine/Link -/

@[simp] theorem State.endLsend_spares (id : Nat) (k : Option FKind) : s.Spares (s.endLsend id k) := by
  dsimp only [State.endLsend]
  (repeat' split) <;> simp

@[simp] theorem State.sendFrame_spares (p id : Nat) (e : LSendOut) (seq idx : Nat) (bytes : List Byte) :
    s.Spares (s.sendFrame p id e seq idx bytes) :=
    ⟨rfl, rfl⟩

@[simp] theorem State.noteFrame_spares (id : Nat) (port : Option Nat) (idx : Nat) (bytes : List Byte) : s.Spares (s.noteFrame id port idx bytes) := by
  dsimp only [State.noteFrame]
  split <;> simp

@[simp] theorem State.sendPart_spares (id idx : Nat) (p : Nat × List Byte) : s.Spares (s.sendPart id idx p) := by
  dsimp only [State.sendPart]
  split
  · simp
  · split
    case h_1 h => exact (State.egress_spares h).trans (by simp)
    · simp

@[simp] theorem State.sendSegment_spares (id : Nat) (e : LSendOut) (idx : Nat) (bytes : List Byte) : s.Spares (s.sendSegment id e idx bytes) := by
  dsimp only [State.sendSegment]
  (repeat' split) <;> simp

@[simp] theorem State.lsendOut_spares (site slot : Nat) (q : Queued) (idx : Nat) (buf : List Byte) : s.Spares (s.lsendOut site slot q idx buf) := by
  dsimp only [State.lsendOut]
  (repeat' split) <;> simp

@[simp] theorem execPubInject_spares (site slot : Nat) : s.SparedBy (execPubInject site slot s) := by simp [execPubInject]

@[simp] theorem State.flitLost_spares (f : Flit) : s.Spares (s.flitLost f) := by dsimp only [State.flitLost]; (repeat' split) <;> simp

@[simp] theorem State.resendFrame_spares (id seq : Nat) : s.Spares (s.resendFrame id seq) := by
  dsimp only [State.resendFrame]
  (repeat' split) <;> simp

@[simp] theorem State.relink_spares (l : Nat) (y : Link) : s.Spares (s.relink l y) := by simp [State.relink]

@[simp] theorem State.bringUp_spares : s.Spares (s.bringUp) := by simp [State.bringUp]

@[simp] theorem State.linkTo_spares (l : Nat) (y : Link) : s.Spares (s.linkTo l y) := by simp [State.linkTo]

@[simp] theorem execLinkEnable_spares (l : Nat) : s.SparedBy (execLinkEnable l s) := by simp [execLinkEnable]

@[simp] theorem execLinkQuarantine_spares (l : Nat) : s.SparedBy (execLinkQuarantine l s) := by simp [execLinkQuarantine]

@[simp] theorem execLinkRelease_spares (l : Nat) : s.SparedBy (execLinkRelease l s) := by simp [execLinkRelease]

@[simp] theorem execLinkTrainedFull_spares (l : Nat) : s.SparedBy (execLinkTrainedFull l s) := by simp [execLinkTrainedFull]

@[simp] theorem execLinkTrainedReduced_spares (l : Nat) : s.SparedBy (execLinkTrainedReduced l s) := by simp [execLinkTrainedReduced]

@[simp] theorem execLinkTrainingTimeout_spares (l : Nat) : s.SparedBy (execLinkTrainingTimeout l s) := by simp [execLinkTrainingTimeout]

@[simp] theorem execLinkRetry_spares (l : Nat) : s.SparedBy (execLinkRetry l s) := by simp [execLinkRetry]

@[simp] theorem execErrorBurst_spares (l : Nat) : s.SparedBy (execErrorBurst l s) := by simp [execErrorBurst]

@[simp] theorem execLinkLoss_spares (l : Nat) : s.SparedBy (execLinkLoss l s) := by simp [execLinkLoss]

@[simp] theorem execSwitchLinkReport_spares (k module : Nat) (usable : Bool) : s.SparedBy (execSwitchLinkReport k module usable s) := by
  simp [execSwitchLinkReport]

@[simp] theorem execFlitReceive_spares (l : Nat) (f : Flit) : s.SparedBy (execFlitReceive l f s) := by simp [execFlitReceive]

@[simp] theorem State.takeIn_spares (p : Nat → Flit → Bool) (age : Nat) : s.Spares (s.takeIn p age).1 := by dsimp only [State.takeIn]; split <;> simp

@[simp] theorem execAgeout_spares (f : Flit) : s.SparedBy (execAgeout f s) := by dsimp only [execAgeout]; (repeat' split) <;> simp

@[simp] theorem State.putBack_spares (l t : Nat) (f : Flit) (r : MemReq) (bads : List (Nat × FKind)) : s.Spares (s.putBack l t f r bads) := ⟨rfl, rfl⟩

@[simp] theorem State.remoteBads_spares (q : MemReq) (r : MemReply) : s.Spares (s.remoteBads q r) := by simp [State.remoteBads]

@[simp] theorem execRemoteResponse_spares (tag : Nat) (r : MemReply) : s.SparedBy (execRemoteResponse tag r s) := by
  dsimp only [execRemoteResponse]
  (repeat' split) <;> simp

@[simp] theorem execRemotetmo_spares (tag : Nat) : s.SparedBy (execRemotetmo tag s) := by dsimp only [execRemotetmo]; split <;> simp

@[simp] theorem State.sendVerdict_spares (f : LFrame) (age : Nat) (accept : Bool) : s.Spares (s.sendVerdict f age accept) := by
  dsimp only [State.sendVerdict]
  split
  · cases h : s.egress (nameLink f.name f.srcModule) f.srcModule _ false with
    | none => exact ⟨rfl, rfl⟩
    | some t => exact State.egress_spares h
  · split <;> simp

@[simp] theorem execLsendSegmentReceive_spares (f : LFrame) : s.SparedBy (execLsendSegmentReceive f s) := by simp [execLsendSegmentReceive]

@[simp] theorem execLsendVerdict_spares (id : Nat) (accept : Bool) : s.SparedBy (execLsendVerdict id accept s) := by
  dsimp only [execLsendVerdict]
  split <;> simp

@[simp] theorem execLsendVerdictTimeout_spares (id : Nat) : s.SparedBy (execLsendVerdictTimeout id s) := by
  dsimp only [execLsendVerdictTimeout]
  split <;> simp

@[simp] theorem execFrameResend_spares (port id : Nat) : s.SparedBy (execFrameResend port id s) := by dsimp only [execFrameResend]; split <;> simp

@[simp] theorem execPtpMessage_spares (port : Nat) (msg : List Byte) : s.SparedBy (execPtpMessage port msg s) := by simp [execPtpMessage]

@[simp] theorem State.hostBad_spares (port n : Nat) : s.Spares (s.hostBad port n) := ⟨rfl, rfl⟩

@[simp] theorem State.hostMerge_spares (port pa n : Nat) : s.Spares (s.hostMerge port pa n) := by simp [State.hostMerge]

@[simp] theorem State.hostRest_spares (port : Nat) (ev : Instr) : s.Spares (s.hostRest port ev) := ⟨rfl, rfl⟩

@[simp] theorem State.unsupported_spares (port : Nat) : s.Spares (s.unsupported port) := ⟨rfl, rfl⟩

@[simp] theorem State.mgmtRead_spares (off n : Nat) : s.Spares (s.mgmtRead off n).1 := by simp [State.mgmtRead]

@[simp] theorem State.hostMemRead_spares (port pa n : Nat) : s.Spares (s.hostMemRead port pa n) := by dsimp only [State.hostMemRead]; split <;> simp

@[simp] theorem execHostRead_spares (port : Nat) (r : BarAt) (n : Nat) : s.SparedBy (execHostRead port r n s) := by
  dsimp only [execHostRead]
  (repeat' split) <;> simp

@[simp] theorem execHostSubscriptionRegister_spares (port ctx : Nat) (name : Word) (ring vector : Nat) :
    s.SparedBy (execHostSubscriptionRegister port ctx name ring vector s) := by
  simp [execHostSubscriptionRegister]

@[simp] theorem execHostEventLanding_spares (sub : Nat) (payload : List Byte) : s.SparedBy (execHostEventLanding sub payload s) := by
  dsimp only [execHostEventLanding]
  split <;> simp

@[simp] theorem execAdmissionTableWrite_spares (i srcDomain srcModule srcCtx dstCtx : Nat) (valid : Bool) :
    s.SparedBy (execAdmissionTableWrite i srcDomain srcModule srcCtx dstCtx valid s) := by
  simp [execAdmissionTableWrite]

@[simp] theorem waitLsend_spares (f : NamF) : holdSpares (waitLsend f s) := by simp [waitLsend]

@[simp] theorem effLsend_spares (f : NamF) : (effLsend f s).Spares s := by dsimp only [effLsend]; split <;> simp

end Sys2Proof.Machine
end

section
/-! PROOFS. Both memories are spared by vector syllables, waits at issue and events of the controller. -/

namespace Sys2Proof.Machine

variable {s t : State}

/-! ### Machine/Vector -/

@[simp] theorem vArith_spares (f : RRR) (lat : Nat) (fop : Rnd → Fp → Fp → FRes) (iop : ℤ → ℤ → ℤ) : (vArith s f lat fop iop).Spares s := by
  simp [vArith]

@[simp] theorem effVadd_spares (f : RRR) : (effVadd f s).Spares s := by simp [effVadd]

@[simp] theorem effVsub_spares (f : RRR) : (effVsub f s).Spares s := by simp [effVsub]

@[simp] theorem effVmul_spares (f : RRR) : (effVmul f s).Spares s := by simp [effVmul]

@[simp] theorem effVfma_spares (f : RRR) : (effVfma f s).Spares s := by simp [effVfma]

@[simp] theorem effVfms_spares (f : RRR) : (effVfms f s).Spares s := by simp [effVfms]

@[simp] theorem effVmax_spares (f : RRR) : (effVmax f s).Spares s := by simp [effVmax]

@[simp] theorem effVmin_spares (f : RRR) : (effVmin f s).Spares s := by simp [effVmin]

@[simp] theorem effVabs_spares (f : RRR) : (effVabs f s).Spares s := by
  unfold effVabs
  exact vPlain_spares ..

@[simp] theorem effVneg_spares (f : RRR) : (effVneg f s).Spares s := by simp [effVneg]

@[simp] theorem effVdiv_spares (f : RRR) : (effVdiv f s).Spares s := by simp [effVdiv]

@[simp] theorem effVsqrt_spares (f : RRR) : (effVsqrt f s).Spares s := by simp [effVsqrt]

@[simp] theorem effVscale_spares (f : RRR) : (effVscale f s).Spares s := by simp [effVscale]

@[simp] theorem effVrint_spares (f : RRR) : (effVrint f s).Spares s := by simp [effVrint]

@[simp] theorem effVimul_spares (f : RRR) : (effVimul f s).Spares s := by simp [effVimul]

@[simp] theorem effVimulh_spares (f : RRR) : (effVimulh f s).Spares s := by simp [effVimulh]

@[simp] theorem effVcmp_spares (f : RRR) : (effVcmp f s).Spares s := by simp [effVcmp]

@[simp] theorem effVsel_spares (f : RRR) : (effVsel f s).Spares s := ⟨rfl, rfl⟩

@[simp] theorem effVmcnt_spares (f : RRR) : (effVmcnt f s).Spares s := ⟨rfl, rfl⟩

@[simp] theorem effVand_spares (f : RRR) : (effVand f s).Spares s := ⟨rfl, rfl⟩

@[simp] theorem effVor_spares (f : RRR) : (effVor f s).Spares s := ⟨rfl, rfl⟩

@[simp] theorem effVxor_spares (f : RRR) : (effVxor f s).Spares s := ⟨rfl, rfl⟩

@[simp] theorem effVmov_spares (f : RRR) : (effVmov f s).Spares s := ⟨rfl, rfl⟩

@[simp] theorem vShift_spares (f : RRR) (op : BitVec 32 → Nat → BitVec 32) (big : BitVec 32 → BitVec 32) : (vShift s f op big).Spares s := by
  simp [vShift]

@[simp] theorem effVshl_spares (f : RRR) : (effVshl f s).Spares s := by simp [effVshl]

@[simp] theorem effVshr_spares (f : RRR) : (effVshr f s).Spares s := by simp [effVshr]

@[simp] theorem effVsar_spares (f : RRR) : (effVsar f s).Spares s := by simp [effVsar]

@[simp] theorem effVsplat_spares (f : RRR) : (effVsplat f s).Spares s := ⟨rfl, rfl⟩

@[simp] theorem effVext_spares (f : RRR) : (effVext f s).Spares s := by simp [effVext]

@[simp] theorem effVins_spares (f : RRR) : (effVins f s).Spares s := by simp [effVins]

@[simp] theorem effVperm_spares (f : RRR) : (effVperm f s).Spares s := ⟨rfl, rfl⟩

@[simp] theorem effVrot_spares (f : RRR) : (effVrot f s).Spares s := ⟨rfl, rfl⟩

@[simp] theorem vReduce_spares (f : RRR) (op : BitVec 32 → BitVec 32 → LaneRes) : (vReduce s f op).Spares s := by simp [vReduce]

@[simp] theorem effVredadd_spares (f : RRR) : (effVredadd f s).Spares s :=
  vMode_spares f _ _ (fun _ => vReduce_spares ..)

@[simp] theorem effVredmax_spares (f : RRR) : (effVredmax f s).Spares s := by simp [effVredmax]

@[simp] theorem effVredmin_spares (f : RRR) : (effVredmin f s).Spares s := by simp [effVredmin]

@[simp] theorem effVscan_spares (f : RRR) : (effVscan f s).Spares s :=
  vMode_spares f _ _ (fun _ => vFinish_spares ..)

@[simp] theorem waitVcvt_spares (f : RRR) : holdSpares (waitVcvt f s) := by simp [waitVcvt]

@[simp] theorem effVcvt_spares (f : RRR) : (effVcvt f s).Spares s := by simp [effVcvt]

@[simp] theorem effVpack_spares (f : RRR) : (effVpack f s).Spares s := ⟨rfl, rfl⟩

@[simp] theorem effVunpk_spares (f : RRR) : (effVunpk f s).Spares s := ⟨rfl, rfl⟩

@[simp] theorem effVexp2_spares (f : RRR) : (effVexp2 f s).Spares s := by simp [effVexp2]

@[simp] theorem effVlog2_spares (f : RRR) : (effVlog2 f s).Spares s := by simp [effVlog2]

@[simp] theorem effVrcpa_spares (f : RRR) : (effVrcpa f s).Spares s := by simp [effVrcpa]

@[simp] theorem effVrsqa_spares (f : RRR) : (effVrsqa f s).Spares s := by simp [effVrsqa]

@[simp] theorem effVclass_spares (f : RRR) : (effVclass f s).Spares s := ⟨rfl, rfl⟩

@[simp] theorem effVrand_spares (f : RRR) : (effVrand f s).Spares s := by simp [effVrand]

@[simp] theorem effVjoin_spares (f : RRR) : (effVjoin f s).Spares s := ⟨rfl, rfl⟩

/-! ### Machine/Syllables -/

@[simp] theorem waitOf_spares (i : Instr) : holdSpares (waitOf i s) := by dsimp only [waitOf]; split <;> simp

@[simp] theorem lateWaitOf_spares (i : Instr) : holdSpares (lateWaitOf i s) := by dsimp only [lateWaitOf]; split <;> simp

/-! ### Machine/Bundle -/

@[simp] theorem State.at_spares (it : Item) : s.Spares (s.at_ it) := ⟨rfl, rfl⟩

@[simp] theorem State.begin_spares (site slot : Nat) : s.Spares (s.begin_ site slot) := ⟨rfl, rfl⟩

@[simp] theorem State.landFirst_spares : s.Spares (s.landFirst) := ⟨rfl, rfl⟩

@[simp] theorem execQuantumGrant_spares (site slot : Nat) : s.SparedBy (execQuantumGrant site slot s) := by
  dsimp only [execQuantumGrant]
  (repeat' split) <;> simp

@[simp] theorem execQuantumEnd_spares (site : Nat) : s.SparedBy (execQuantumEnd site s) := by dsimp only [execQuantumEnd]; (repeat' split) <;> simp

@[simp] theorem execResultLand_spares (site slot idx : Nat) : s.SparedBy (execResultLand site slot idx s) := by
  dsimp only [execResultLand]
  split <;> simp

@[simp] theorem State.landReply_spares (site slot ctx inc : Nat) (dst : Reg) (val : VReg) (then_ : Reply) :
    s.Spares (s.landReply site slot ctx inc dst val then_) := by
  dsimp only [State.landReply]
  (repeat' split) <;> simp

@[simp] theorem execInterlockedResultLand_spares (site slot ctx inc : Nat) (dst : Reg) (val : VReg) (then_ : Reply) :
    s.SparedBy (execInterlockedResultLand site slot ctx inc dst val then_ s) := by
  simp [execInterlockedResultLand]

@[simp] theorem execWatchdog_spares (site slot : Nat) : s.SparedBy (execWatchdog site slot s) := by simp [execWatchdog]

@[simp] theorem execFaultWindowClose_spares (i : Nat) : s.SparedBy (execFaultWindowClose i s) := by
  dsimp only [execFaultWindowClose]
  (repeat' split) <;> simp

/-! ### Machine/Mgmt -/

@[simp] theorem execFirmwareWrite_spares (image : List Byte) : s.SparedBy (execFirmwareWrite image s) := ⟨rfl, rfl⟩

@[simp] theorem execRollup_spares : s.SparedBy (execRollup s) := by simp [execRollup]

@[simp] theorem execAttestation_spares (nonce : List Byte) : s.SparedBy (execAttestation nonce s) := by simp [execAttestation]

@[simp] theorem execModcapWrite_spares (v : Word) : s.SparedBy (execModcapWrite v s) := by simp [execModcapWrite]

@[simp] theorem execDefopWrite_spares (v : Word) : s.SparedBy (execDefopWrite v s) := ⟨rfl, rfl⟩

@[simp] theorem execModnumWrite_spares (v : Word) : s.SparedBy (execModnumWrite v s) := by simp [execModnumWrite]

@[simp] theorem execTilemapRead_spares (port : Nat) : s.SparedBy (execTilemapRead port s) := by simp [execTilemapRead]

@[simp] theorem State.flagDefective_spares (site : Nat) : s.Spares (s.flagDefective site) := by simp [State.flagDefective]

@[simp] theorem execTilecmdClear_spares (site : Nat) : s.SparedBy (execTilecmdClear site s) := ⟨rfl, rfl⟩

@[simp] theorem execTilecmdSet_spares (site : Nat) : s.SparedBy (execTilecmdSet site s) := by simp [execTilecmdSet]

@[simp] theorem execDefectiveErrors_spares (site : Nat) : s.SparedBy (execDefectiveErrors site s) := by simp [execDefectiveErrors]

@[simp] theorem execFreezeWrite_spares (off : Nat) (v : Word) : s.SparedBy (execFreezeWrite off v s) := by simp [execFreezeWrite]

@[simp] theorem execDbgWrite_spares (off : Nat) (v : Word) : s.SparedBy (execDbgWrite off v s) := by simp [execDbgWrite]

@[simp] theorem State.takeBits_spares (site : Nat) : s.Spares (s.takeBits site) := by simp [State.takeBits]

@[simp] theorem execTilecmd_spares (v : Word) : s.SparedBy (execTilecmd v s) := by dsimp only [execTilecmd]; split <;> simp

@[simp] theorem execLinkcmd_spares (v : Word) : s.SparedBy (execLinkcmd v s) := by dsimp only [execLinkcmd]; split <;> simp

@[simp] theorem execMailbox_spares (off : Nat) (v : Word) : s.SparedBy (execMailbox off v s) := ⟨rfl, rfl⟩

@[simp] theorem execMgmtRegisterWrite_spares (off : Nat) (v : Word) : s.SparedBy (execMgmtRegisterWrite off v s) := by simp [execMgmtRegisterWrite]

@[simp] theorem execLowInput_spares : s.SparedBy (execLowInput s) := by simp [execLowInput]

@[simp] theorem execInputRestored_spares : s.SparedBy (execInputRestored s) := by dsimp only [execInputRestored]; split <;> simp

@[simp] theorem execSupplyLoss_spares : s.SparedBy (execSupplyLoss s) := ⟨rfl, rfl⟩

@[simp] theorem execOvertempTrip_spares (_site : Nat) : s.SparedBy (execOvertempTrip _site s) := ⟨rfl, rfl⟩

@[simp] theorem execHotTile_spares (site : Nat) : s.SparedBy (execHotTile site s) := by simp [execHotTile]

@[simp] theorem execHotTileClear_spares (site : Nat) : s.SparedBy (execHotTileClear site s) := ⟨rfl, rfl⟩

@[simp] theorem execHotDomainHold_spares (dom : Nat) : s.SparedBy (execHotDomainHold dom s) := ⟨rfl, rfl⟩

@[simp] theorem execHotDomainRelease_spares (dom : Nat) : s.SparedBy (execHotDomainRelease dom s) := ⟨rfl, rfl⟩

@[simp] theorem execFreezeOnFault_spares (site : Nat) : s.SparedBy (execFreezeOnFault site s) := by simp [execFreezeOnFault]

/-! ### Machine/Sched -/

@[simp] theorem State.portServe_spares (i : Nat) : s.Spares (s.portServe i) := by dsimp only [State.portServe]; (repeat' split) <;> simp

@[simp] theorem State.portOffer_spares (site slot k : Nat) : s.Spares (s.portOffer site slot k) := by simp [State.portOffer]

end Sys2Proof.Machine
end

section
/-! PROOFS. Canonical memories: what is said of them, and the operations that write bytes. -/

namespace Sys2Proof.Machine

variable {s t : State}

/-- `State.Canonical`, in a form that `simp` takes apart. -/
@[simp, reducible] def State.Neat (s : State) : Prop := Memory.wf s.mem = true ∧ Memory.wf s.scratch = true

/-- The event ends in a state whose memories are canonical, if in any. -/
def outcomeNeat : Host.Outcome State Fault Refusal → Prop
  | .next t => t.Neat
  | _ => True

/-- The syllable traps, or leaves canonical memories. -/
def Act.Neat : Act → Prop
  | .ok t => t.Neat
  | .trap _ => True

theorem State.canonical_iff_neat : s.Canonical ↔ s.Neat := .rfl

@[simp] theorem outcomeNeat_next : outcomeNeat (.next t) ↔ t.Neat := .rfl
@[simp] theorem Act.neat_ok : (Act.ok t).Neat ↔ t.Neat := .rfl
@[simp] theorem Act.neat_trap {k : TrapInfo} : (Act.trap k).Neat := trivial

theorem State.Spares.neat (k : s.Spares t) (h : s.Neat) : t.Neat := ⟨k.1 ▸ h.1, k.2 ▸ h.2⟩
theorem State.Neat.fst {α : Type} {p : State × α} {a : α} (h : p.1.Neat) (e : p = (t, a)) : t.Neat := by rwa [e] at h
theorem State.SparedBy.neat {o : Host.Outcome State Fault Refusal} (k : s.SparedBy o) (h : s.Neat) : outcomeNeat o := by
  cases o with
  | next t => exact State.Spares.neat k h
  | fault f => trivial
  | refused r => trivial
theorem Act.Spares.neat {a : Act} (k : a.Spares s) (h : s.Neat) : a.Neat := by
  cases a with
  | ok t => exact State.Spares.neat k h
  | trap t => trivial

theorem State.foldl_neat {α : Type} {f : State → α → State} (hf : ∀ (t : State) a, t.Neat → (f t a).Neat) (l : List α) (h : s.Neat) :
    (l.foldl f s).Neat := by
  induction l generalizing s with
  | nil => exact h
  | cons a l ih => exact ih (hf s a h)

theorem State.Neat.ite {p : Prop} [Decidable p] (hs : s.Neat) (ht : t.Neat) : (if p then s else t).Neat := by
  split <;> assumption
theorem State.Neat.fst_ite {α : Type} {a b : State × α} {p : Prop} [Decidable p] (ha : a.1.Neat) (hb : b.1.Neat) : (if p then a else b).1.Neat := by
  split <;> assumption
theorem outcomeNeat_ite {a b : Host.Outcome State Fault Refusal} {p : Prop} [Decidable p] (ha : outcomeNeat a) (hb : outcomeNeat b) :
    outcomeNeat (if p then a else b) := by
  split <;> assumption

@[simp] theorem State.memPut_neat (h : s.Neat) (la : Nat) (bs : List Byte) : (s.memPut la bs).Neat := ⟨s.memPut_wf la bs h.1, h.2⟩

@[simp] theorem State.homeWrite_neat (h : s.Neat) (ctx inc la : Nat) (bs : List Byte) (poison : Bool) :
    (s.homeWrite ctx inc la bs poison).Neat :=
  State.memPut_neat (State.foldl_neat (fun _ _ ht => State.Spares.neat (State.mergeGran_spares ..) ht) _ h) ..

theorem State.putPicked_scratch (la : Nat) (l : List (Bool × Byte)) (s : State) : (s.putPicked la l).scratch = s.scratch := by
  induction l generalizing s la with
  | nil => rfl
  | cons e r ih =>
    obtain ⟨b, v⟩ := e
    cases b with
    | true => exact ih (la + 1) (s.memPut la [v])
    | false => exact ih (la + 1) s

@[simp] theorem State.homeMask_neat (h : s.Neat) (ctx inc la : Nat) (bs : List Byte) (mask : BitVec 128) (poison : Bool) :
    (s.homeMask ctx inc la bs mask poison).Neat := by
  dsimp only [State.homeMask]
  generalize hs : List.foldl _ s _ = s1
  have h1 : s1.Neat := hs ▸ State.foldl_neat (fun t g ht => by split <;> simp_all) _ h
  exact ⟨State.putPicked_wf s1 la _ h1.1, (State.putPicked_scratch la _ s1).symm ▸ h1.2⟩

@[simp] theorem State.performAt_neat (h : s.Neat) (r : MemReq) : (s.performAt r).1.Neat := by
  dsimp only [State.performAt]
  cases r.op <;> simp [h]

@[simp] theorem State.perform_neat (h : s.Neat) (r : MemReq) : (s.perform r).Neat := by simp [State.perform, h]

@[simp] theorem State.performHalf_neat (h : s.Neat) (r : MemReq) (hi : Bool) : (s.performHalf r hi).1.Neat := by
  dsimp only [State.performHalf]
  cases r.op <;> simp [h]

theorem execMemoryRequestAtHome_neat (h : s.Neat) (r : MemReq) : outcomeNeat (execMemoryRequestAtHome r s) := by
  dsimp only [execMemoryRequestAtHome]
  refine outcomeNeat_ite (by simp [h]) ?_
  split <;> simp [h]

@[simp] theorem State.scratchPut_neat (h : s.Neat) (site slot p : Nat) (b : Byte) : (s.scratchPut site slot p b).Neat :=
  ⟨(s.scratchPut_mem site slot p b).symm ▸ h.1, s.scratchPut_wf site slot p b h.2⟩

@[simp] theorem State.scratchWrite_neat (h : s.Neat) (site slot p : Nat) (bs : List Byte) (u : Option Nat) :
    (s.scratchWrite site slot p bs u).Neat :=
  ⟨(s.scratchWrite_mem site slot p bs u).symm ▸ h.1, s.scratchWrite_wf site slot p bs u h.2⟩

theorem applyStores_neat (h : s.Neat) (site slot : Nat) (wr : List (Nat × List Byte × Bool)) : (applyStores site slot wr s).Neat :=
  ⟨(applyStores_mem site slot wr s).symm ▸ h.1, applyStores_wf site slot wr s h.2⟩

@[simp] theorem State.sysWriteGo_neat (toll : Bool) (agent ctx inc : Nat) (bad : Nat → Bool) (l : List (Nat × Nat)) (bs : List Byte) {s : State}
    (h : s.Neat) : (s.sysWriteGo toll agent ctx inc bad l bs).1.Neat := by
  induction l generalizing s bs with
  | nil => exact h
  | cons e l ih =>
    obtain ⟨va, n⟩ := e
    dsimp only [State.sysWriteGo]
    generalize hr : s.transFor agent ctx inc va 1 = p
    obtain ⟨s1, o⟩ := p
    have h1 : s1.Neat := State.Spares.neat ((State.transFor_spares ..).fst hr) h
    cases o with
    | waiting _ => exact h1
    | fault _ => exact h1
    | done t =>
      dsimp only
      split
      · split
        · exact h1
        · have h2 (r : MemReq) : (s1.sendRemote r).Neat := State.Spares.neat (State.sendRemote_spares ..) h1
          split
          · exact h2 _
          · exact ih _ (h2 _)
      · split
        · simp [h1]
        · refine ih _ (State.homeWrite_neat ?_ ..)
          split
          · exact State.Spares.neat (State.hedgeCost_spares ..) h1
          · exact h1

@[simp] theorem State.sysWrite_neat (h : s.Neat) (agent ctx inc va : Nat) (bs : List Byte) (bad : Nat → Bool) (toll : Bool) :
    (s.sysWrite agent ctx inc va bs bad toll).1.Neat := by
  dsimp only [State.sysWrite]
  split
  · exact h
  · split
    · exact h
    · exact State.sysWriteGo_neat _ _ _ _ _ _ _ h

@[simp] theorem State.mPerform_neat (h : s.Neat) (site : Nat) (o : MOp) : (s.mPerform site o).Neat := by
  have he (t : State) (ht : t.Neat) (ue : Option Nat) : (match ue with | some a => t.eccRecord site o.slot a | none => t).Neat := by
    cases ue with
    | none => exact ht
    | some a => exact State.Spares.neat (State.eccRecord_spares ..) ht
  have hp (x : Slot) : ((if o.kind = 4 then s else s.mendAcc site o.slot o.acc).setSlotAt site o.slot x).Neat := by
    split <;> simp [h]
  have hw := State.scratchWrite_neat h site o.slot o.ab.toNat ((s.slotAt site o.slot).macstBytes o) none
  unfold State.mPerform
  extract_lets x ue note n put poisoned f32at v src w bs s1
  have h1 : s1.Neat := hw
  clear_value ue
  have hput (y : Slot) : (put y).Neat := he _ (hp y) ue
  clear_value put poisoned f32at s1
  split
  any_goals exact hput _
  split
  · exact ⟨h1.1, h1.2⟩
  · exact h1

theorem execMatrixComplete_neat (h : s.Neat) (site : Nat) : outcomeNeat (execMatrixComplete site s) := by
  dsimp only [execMatrixComplete]
  split
  · exact outcomeNeat_ite (State.mPerform_neat ((State.setTileAt_spares ..).neat h) ..) h
  · exact h

theorem effMmag_neat (h : s.Neat) (f : RRR) : (effMmag f s).Neat := by
  have hm (o : MOp) (r : MmagRun) (t : Tile) (o1 : MOp) : (((s.mmagStep s.iss.site s.iss.slot o r).setCurTile t).mPerform s.iss.site o1).Neat :=
    State.mPerform_neat ((State.setCurTile_spares ..).neat ((State.mmagStep_spares ..).neat h)) ..
  dsimp only [effMmag]
  split
  · split
    · trivial
    · exact h
  · split
    · trivial
    · split
      · split
        · exact (State.setCur_spares ..).neat (hm ..)
        · exact h
      · exact h

@[simp] theorem State.deliver_neat (h : s.Neat) (site slot ch n : Nat) (bs : List Byte) : (s.deliver site slot ch n bs).Neat := by
  dsimp only [State.deliver]
  split <;> simp [h]

theorem execChannelBeat_neat (h : s.Neat) (site slot ch : Nat) : outcomeNeat (execChannelBeat site slot ch s) := by
  dsimp only [execChannelBeat]
  refine outcomeNeat_ite h ?_
  generalize hs : s.serveEngine site slot ch = s1
  have h1 : s1.Neat := hs ▸ State.Spares.neat (State.serveEngine_spares ..) h
  split
  · split <;> simp [h1]
  · split
    · split <;> simp [h1]
    · split
      · simp [h1]
      · simp [h1]
      · split
        · simp [h1]
        · split <;> simp [h1]
  · split
    · split <;> simp [h1]
    · simp [h1]

theorem execChannelDataArrive_neat (h : s.Neat) (site slot ch ctx inc seq : Nat) (rep : MemReply) :
    outcomeNeat (execChannelDataArrive site slot ch ctx inc seq rep s) := by
  dsimp only [execChannelDataArrive]
  (repeat' split) <;> simp [h]

end Sys2Proof.Machine
end

section
/-! PROOFS. Canonical memories are kept where homes of names make room, spill, reduce and serve. -/

namespace Sys2Proof.Machine

variable {s t : State}

theorem State.ovflPut_neat (ctx inc walker : Nat) (l : List (Seg × Nat)) {s : State} (h : s.Neat) : (s.ovflPut ctx inc walker l).1.Neat := by
  induction l generalizing s with
  | nil => exact h
  | cons e l ih =>
    obtain ⟨g, i⟩ := e
    dsimp only [State.ovflPut]
    split
    · exact ih (by simp [h])
    all_goals exact h

theorem State.spillGo_neat (h : s.Neat) (ctx inc walker : Nat) (name : Word) (gs : List Seg) : (s.spillGo ctx inc walker name gs).1.Neat := by
  dsimp only [State.spillGo]
  have hp : (s.ovflPick ctx inc walker name gs []).1.Neat := State.Spares.neat (State.ovflPick_spares ..) h
  split
  case h_1 e => exact hp.fst e
  case h_2 e => exact hp.fst e
  case h_3 s1 slots e =>
    have h1 : s1.Neat := hp.fst e
    split
    case h_1 e2 => exact (State.ovflPut_neat _ _ _ _ h1).fst e2
    all_goals exact h1

theorem State.makeRoom_neat (rick n d : Nat) (full : List Nat) (l : List Victim) {s : State} (h : s.Neat) :
    (s.makeRoom rick n d full l).1.Neat := by
  induction l generalizing s full with
  | nil => exact h
  | cons v l ih =>
    dsimp only [State.makeRoom]
    split
    · exact h
    · split
      · exact ih _ h
      · have hg := State.spillGo_neat h v.ctx v.inc (64 + hedgeOfSite rick) v.name v.segs
        split
        case h_1 e => exact ih _ ((State.setHome_spares ..).neat (hg.fst e))
        case h_2 e => exact hg.fst e
        case h_3 e => exact ih _ (State.Spares.neat (State.stallCtx_spares ..) (hg.fst e))

@[simp] theorem State.roomFor_neat (h : s.Neat) (rick n d : Nat) : (s.roomFor rick n d).1.Neat := by
  have hm := State.makeRoom_neat rick n d [] (s.victims rick) h
  dsimp only [State.roomFor]
  split
  case h_1 e => exact hm.fst e
  case h_2 => exact hm

theorem State.freeSlots_neat (ctx inc walker : Nat) (l : List Nat) {s : State} (h : s.Neat) : (s.freeSlots ctx inc walker l).1.Neat := by
  induction l generalizing s with
  | nil => exact h
  | cons i l ih => exact ih (State.sysWrite_neat h ..)

@[simp] theorem State.freeOvfl_neat (h : s.Neat) (ctx inc : Nat) (name : Word) (slots : List Nat) : (s.freeOvfl ctx inc name slots).Neat := by
  have hf := State.freeSlots_neat ctx inc (s.homeWalker ctx name) slots h
  dsimp only [State.freeOvfl]
  split
  · exact h
  · generalize s.freeSlots ctx inc (s.homeWalker ctx name) slots = p at hf
    obtain ⟨s1, left⟩ := p
    dsimp only
    generalize hs : (if left.length < slots.length then s1.unstallCtx ctx (s.homeOf ctx name) else s1) = s2
    have h2 : s2.Neat := by
      rw [← hs]
      split
      · exact State.Spares.neat (State.unstallCtx_spares ..) hf
      · exact hf
    split <;> exact h2

@[simp] theorem State.copyComplete_neat (h : s.Neat) (ctx inc : Nat) (name : Word) (seq : Nat) : (s.copyComplete ctx inc name seq).Neat := by
  dsimp only [State.copyComplete]
  split
  · exact h
  · refine State.foldl_neat (fun t r ht => ?_) _ (State.foldl_neat (fun t w ht => ?_) _ h)
    · split
      · exact State.roomFor_neat ht _ 0 1
      · (repeat' split) <;> simp [ht]
    · exact (State.unicast_spares ..).neat ht

@[simp] theorem State.storeSeg_neat (h : s.Neat) (g : Seg) (res : Bool) : (s.storeSeg g res).Neat := by
  dsimp only [State.storeSeg]
  split
  · exact h
  · exact State.Neat.ite (State.copyComplete_neat ((State.setHome_spares ..).neat h) ..) ((State.setHome_spares ..).neat h)

@[simp] theorem State.homeTake_neat (h : s.Neat) (port : Option Port) (g : Seg) (res : Bool) : (s.homeTake port g res).Neat := by
  dsimp only [State.homeTake]
  generalize hs : (if g.idx = 0 then s.takeOrder g else s) = s1
  have h1 : s1.Neat := by
    rw [← hs]
    split
    · exact State.Spares.neat (State.takeOrder_spares ..) h
    · exact h
  split
  · exact h1
  · split
    · exact State.Spares.neat (State.branch_spares ..) (State.storeSeg_neat h1 g res)
    · exact State.storeSeg_neat h1 ..

theorem execSegmentAtHome_neat (h : s.Neat) (port : Option Port) (g : Seg) : outcomeNeat (execSegmentAtHome port g s) := by
  have hr (a b : Nat) := State.roomFor_neat h (s.homeOf g.ctx g.name) a b
  dsimp only [execSegmentAtHome]
  refine outcomeNeat_ite (by simp [h]) (outcomeNeat_ite (by simp [h]) (outcomeNeat_ite (by simp [h]) (outcomeNeat_ite (by simp [h])
    (outcomeNeat_ite (by simp [h]) (outcomeNeat_ite ?_ ?_)))))
  · exact hr _ _
  · exact State.homeTake_neat (hr _ _) ..

@[simp] theorem State.finishReduction_neat (h : s.Neat) (ctx inc : Nat) (name : Word) : (s.finishReduction ctx inc name).Neat := by
  dsimp only [State.finishReduction]
  split
  · exact h
  case h_2 r rest _ =>
    have hr := (State.readParts_spares (s.homeName ctx inc name) r.size r.parts [] s).neat h
    split
    case h_1 e => exact (State.sendAt_spares ..).neat (hr.fst e)
    case h_2 s1 ps e =>
      have h1 : (s1.setHome { s.homeName ctx inc name with closing := rest }).Neat := (State.setHome_spares ..).neat (hr.fst e)
      generalize hp : (State.roomFor _ _ _ _) = p
      have h2 : p.1.Neat := hp ▸ State.roomFor_neat h1 _ _ _
      refine State.Neat.ite ?_ ?_
      · exact (State.sendAt_spares ..).neat ((State.setHome_spares ..).neat h2)
      · have h3 (f : State → Nat → State) (hf : ∀ (t : State) a, t.Neat → (f t a).Neat) (l : List Nat) (slots : List Nat) :
            ((l.foldl f p.1).freeOvfl ctx inc name slots).Neat := State.freeOvfl_neat (State.foldl_neat hf _ h2) ..
        have h4 := h3 _ (fun t i ht => State.homeTake_neat ht none ({ r with parts := ps }.resultSeg ctx inc name p.1.tick i) (p.2 == .reserve))
        exact State.Neat.ite (h4 ..) ((State.send_spares ..).neat (h4 ..))

@[simp] theorem State.closeReduction_neat (h : s.Neat) (ctx inc : Nat) (name : Word) : (s.closeReduction ctx inc name).Neat := by
  dsimp only [State.closeReduction]
  split
  · exact h
  · have h1 (n : HomeName) : (s.setHome n).Neat := (State.setHome_spares ..).neat h
    exact State.Neat.ite (State.finishReduction_neat (h1 _) ..) (h1 _)

theorem execContributionAtHome_neat (h : s.Neat) (g : Seg) : outcomeNeat (execContributionAtHome g s) := by
  have hr (a b c : Nat) := State.roomFor_neat h a b c
  dsimp only [execContributionAtHome]
  refine outcomeNeat_ite (by simp [h]) (outcomeNeat_ite (by simp [h]) ?_)
  split
  · exact h
  · refine outcomeNeat_ite h ?_
    split
    · simp [h]
    · generalize hp : (State.roomFor _ _ _ _) = p
      have h2 : p.1.Neat := hp ▸ hr _ _ _
      refine outcomeNeat_ite ((State.retry_spares ..).neat h2) ?_
      have h3 (n : HomeName) : (if g.idx = 0 then (p.1.setHome n).notifyOrder g else p.1.setHome n).Neat :=
        State.Neat.ite ((State.notifyOrder_spares ..).neat ((State.setHome_spares ..).neat h2)) ((State.setHome_spares ..).neat h2)
      exact State.Neat.ite (State.closeReduction_neat (h3 _) ..) (h3 _)

@[simp] theorem State.copyBack_neat (h : s.Neat) (ctx : Nat) (name : Word) (n : HomeName) (c : Copy) : (s.copyBack ctx name n c).Neat := by
  have hr := (State.readAll_spares ctx n.inc (s.homeWalker ctx name) c.spilled c.segs s).neat h
  dsimp only [State.copyBack]
  split
  case h_1 e => exact (State.sendAt_spares ..).neat (hr.fst e)
  case h_2 s1 segs e =>
    generalize hs : List.foldl _ s1 _ = s2
    have h2 : s2.Neat := hs ▸ State.foldl_neat (fun t w ht => (State.unicast_spares ..).neat ht) _ (hr.fst e)
    exact State.Neat.ite (State.freeOvfl_neat ((State.setHome_spares ..).neat h2) ..) ((State.setHome_spares ..).neat h2)

@[simp] theorem State.heldBack_neat (h : s.Neat) (ctx : Nat) (name : Word) (inc : Nat) (w : SlotMsg × Bool) :
    (s.heldBack ctx name inc w).Neat := by
  dsimp only [State.heldBack]
  split
  · exact State.Neat.ite h ((State.setHome_spares ..).neat h)
  case h_2 e _ =>
    have hr := (State.readAll_spares ctx inc (s.homeWalker ctx name) e.spilled e.segs s).neat h
    split
    case h_1 e => exact (State.sendAt_spares ..).neat (hr.fst e)
    case h_2 s1 segs e2 =>
      have h2 := (State.unicast_spares (s.homeName ctx inc name) ((s.homeName ctx inc name).recOf w.1) e.seq (inOrder segs) w.2 (s :=
    s1)).neat (hr.fst e2)
      exact State.Neat.ite ((State.setHome_spares ..).neat h2) (State.freeOvfl_neat ((State.setHome_spares ..).neat h2) ..)

theorem execSpillReadBack_neat (h : s.Neat) (ctx : Nat) (name : Word) (seq : Nat) : outcomeNeat (execSpillReadBack ctx name seq s) := by
  dsimp only [execSpillReadBack]
  split
  · exact h
  · refine outcomeNeat_ite (State.finishReduction_neat h ..) (outcomeNeat_ite (State.freeOvfl_neat ((State.setHome_spares ..).neat h) ..)
      (outcomeNeat_ite (State.foldl_neat (fun t w ht => State.heldBack_neat ht ..) _ h) ?_))
    split
    · exact h
    · exact State.copyBack_neat h ..

theorem execSubAtHome_neat (h : s.Neat) (m : SubMsg) : outcomeNeat (execSubAtHome m s) := by
  have hr := State.roomFor_neat h (s.homeOf m.ctx m.name) 0 1
  dsimp only [execSubAtHome]
  refine outcomeNeat_ite (by simp [h]) (outcomeNeat_ite (by simp [h]) ?_)
  generalize s.roomFor (s.homeOf m.ctx m.name) 0 1 = p at hr
  refine outcomeNeat_ite ((State.retry_spares ..).neat hr) (outcomeNeat_ite ((State.send_spares ..).neat hr) ?_)
  generalize hs : (if m.site < 6144 then _ else _ : State) = s1
  have h1 : s1.Neat := hs ▸ State.Neat.ite ((State.send_spares ..).neat ((State.setHome_spares ..).neat hr)) ((State.setHome_spares ..).neat hr)
  split
  · have h2 (n : HomeName) : (s1.setHome n).Neat := (State.setHome_spares ..).neat h1
    exact State.Neat.ite ((State.serveNext_spares ..).neat (h2 _))
      (State.Neat.ite ((State.serve_spares ..).neat (h2 _)) ((State.setHome_spares ..).neat (h2 _)))
  · exact (State.fallThrough_spares ..).neat h1

@[simp] theorem State.endHeld_neat (h : s.Neat) (ctx inc : Nat) (name : Word) (gone : List HeldEnt) : (s.endHeld ctx inc name gone).Neat :=
  State.freeOvfl_neat h ..

theorem execLandingAckAtHome_neat (h : s.Neat) (m : SlotMsg) : outcomeNeat (execLandingAckAtHome m s) := by
  dsimp only [execLandingAckAtHome]
  exact outcomeNeat_ite (by simp [h]) (outcomeNeat_ite (by simp [h])
    (State.endHeld_neat ((State.setHome_spares ..).neat ((State.reportDelivered_spares ..).neat h)) ..))

end Sys2Proof.Machine
end

section
/-! PROOFS. Canonical memories are kept by events of tiles, schedulers, saves, links and the host. -/

namespace Sys2Proof.Machine

variable {s t : State}

theorem execDivertedCopyAtHome_neat (h : s.Neat) (m : SlotMsg) (g : Seg) : outcomeNeat (execDivertedCopyAtHome m g s) := by
  have hr (a b c : Nat) := State.roomFor_neat h a b c
  dsimp only [execDivertedCopyAtHome]
  refine outcomeNeat_ite (by simp [h]) (outcomeNeat_ite (by simp [h]) (outcomeNeat_ite h ?_))
  split
  · exact (State.setHome_spares ..).neat (State.Neat.ite h (hr ..))
  · generalize hp : s.roomFor _ _ _ = p
    have h1 : p.1.Neat := hp ▸ hr ..
    refine outcomeNeat_ite h1 (outcomeNeat_ite ((State.setHome_spares ..).neat h1) ?_)
    have h2 : (if spaceOf m.name = 0xF0 then (p.1, Spill.full) else p.1.spillGo m.ctx m.inc (p.1.homeWalker m.ctx m.name) m.name [g]).1.Neat := by
      split
      · exact h1
      · exact State.spillGo_neat h1 ..
    split
    case h_1 e => exact (State.setHome_spares ..).neat (h2.fst e)
    case h_2 e => exact State.Neat.ite ((State.setHome_spares ..).neat (h2.fst e)) ((State.setHome_spares ..).neat (h2.fst e))
    case h_3 s2 e =>
      have h3 (n : HomeName) : (s2.setHome n).Neat := (State.setHome_spares ..).neat (h2.fst e)
      have h4 (n : HomeName) (l : List HeldEnt) :
    (((s2.setHome n).endHeld m.ctx m.inc m.name l).nameRecord m.ctx m.inc .ovflfull m.name m.sub).Neat :=
        (State.nameRecord_spares ..).neat (State.endHeld_neat (h3 _) ..)
      exact State.Neat.ite (State.Neat.ite (h3 _) (h4 ..)) ((State.stallCtx_spares ..).neat (State.Neat.ite (h3 _) (h4 ..)))

@[simp] theorem State.forgetSub_neat (h : s.Neat) (m : SubMsg) : (s.forgetSub m).Neat := by
  dsimp only [State.forgetSub]
  split
  · simp [h]
  · simp [h]
  · refine State.Neat.ite ((State.setHome_spares ..).neat h) (State.Neat.ite ((State.setHome_spares ..).neat h) ?_)
    exact State.endHeld_neat ((State.setHome_spares ..).neat ((State.reportDelivered_spares ..).neat h)) ..

theorem execNholdAtHome_neat (h : s.Neat) (ctx inc : Nat) (name : Word) (who : Asker) : outcomeNeat (execNholdAtHome ctx inc name who s) := by
  have hr (a b c : Nat) := State.roomFor_neat h a b c
  dsimp only [execNholdAtHome]
  refine outcomeNeat_ite (by simp [h]) (outcomeNeat_ite (by simp [h]) ?_)
  split
  · simp [h]
  · refine outcomeNeat_ite (by simp [h]) (outcomeNeat_ite (by simp [h]) ?_)
    exact outcomeNeat_ite ((State.retry_spares ..).neat (State.Neat.fst_ite h (hr ..)))
      ((State.nameReply_spares ..).neat ((State.setHome_spares ..).neat (State.Neat.fst_ite h (hr ..))))

theorem execLingerExpire_neat (h : s.Neat) (ctx : Nat) (name : Word) (seq : Nat) : outcomeNeat (execLingerExpire ctx name seq s) := by
  dsimp only [execLingerExpire]
  split
  · exact h
  · split
    · exact h
    · exact outcomeNeat_ite (State.freeOvfl_neat ((State.setHome_spares ..).neat h) ..) h

theorem execWithdrawal_neat (h : s.Neat) (site : Nat) (port : Port) (m : SubMsg) : outcomeNeat (execWithdrawal site port m s) := by
  dsimp only [execWithdrawal]
  refine outcomeNeat_ite (by simp [h]) ?_
  have h1 {p : Prop} [Decidable p] (m' : SubMsg) : (if p then (s.matchAdd site m.ctx m.inc m.name port (-1), m') else (s, m)).1.Neat :=
    State.Neat.fst_ite ((State.matchAdd_spares ..).neat h) h
  exact outcomeNeat_ite (outcomeNeat_ite ((State.send_spares ..).neat (h1 _)) (State.forgetSub_neat (h1 _) ..)) ((State.send_spares ..).neat (h1 _))

@[simp] theorem State.landBytes_neat (h : s.Neat) (site slot p : Nat) (bs : List Byte) : (s.landBytes site slot p bs).Neat :=
  (State.setSlotAt_spares ..).neat (State.scratchWrite_neat h ..)

@[simp] theorem State.landSeg_neat (h : s.Neat) (site slot n : Nat) (g : Seg) (r : Receiving) : (s.landSeg site slot n g r).Neat := by
  have hl (p q : Nat) (bs : List Byte) (g' : Seg) : ((s.landBytes site slot p bs).landPoison site slot q g').Neat :=
    (State.landPoison_spares ..).neat (State.landBytes_neat h ..)
  dsimp only [State.landSeg]
  refine State.Neat.ite h ?_
  split
  · exact (State.failSub_spares ..).neat ((State.setSub_spares ..).neat (hl ..))
  · exact State.Neat.ite ((State.send_spares ..).neat ((State.setSub_spares ..).neat (hl ..))) ((State.setSub_spares ..).neat (hl ..))

@[simp] theorem State.copyAtSub_neat (h : s.Neat) (site slot n : Nat) (g : Seg) : (s.copyAtSub site slot n g).Neat := by
  dsimp only [State.copyAtSub]
  split
  · split
    · exact State.Neat.ite h (State.Neat.ite ((State.divert_spares ..).neat h) (State.landSeg_neat h ..))
    · exact State.Neat.ite h (State.Neat.ite (State.Neat.ite ((State.failSub_spares ..).neat h) (State.landSeg_neat h ..))
        ((State.divert_spares ..).neat ((State.setSub_spares ..).neat h)))
  · split
    · exact State.Neat.ite ((State.freeAreas_spares ..).neat ((State.divert_spares ..).neat ((State.setSub_spares ..).neat h))) h
    · exact h
  · exact h

theorem execCopyAtTilePort_neat (h : s.Neat) (site : Nat) (target : Option (Nat × Nat)) (g : Seg) :
    outcomeNeat (execCopyAtTilePort site target g s) := by
  dsimp only [execCopyAtTilePort]
  refine outcomeNeat_ite (by simp [h]) ?_
  split
  · exact outcomeNeat_ite (State.copyAtSub_neat h ..) h
  · exact State.foldl_neat (fun t i ht => State.Neat.ite (State.copyAtSub_neat ht ..) ht) _ h

theorem execLoadDone_neat (h : s.Neat) (uid : Nat) : outcomeNeat (execLoadDone uid s) := by
  dsimp only [execLoadDone]
  split
  · exact h
  · split
    · exact h
    · refine outcomeNeat_ite h ?_
      generalize hp : (if (s.slotAt _ _).codeOf == _ then _ else _ : State × SysRes) = p
      have h1 : p.1.Neat := hp ▸ State.Neat.fst_ite h ((State.sysRead_spares ..).neat h)
      generalize hq : p.1.sysRead _ _ _ _ _ = q
      have h2 : q.1.Neat := hq ▸ (State.sysRead_spares ..).neat h1
      split
      · exact (State.sendAt_spares ..).neat h1
      · exact (State.faultSlot_spares ..).neat h1
      · exact (State.sendAt_spares ..).neat h2
      · exact (State.faultSlot_spares ..).neat h2
      · exact (State.templatesDone_spares ..).neat ((State.setSlotAt_spares ..).neat ((State.installTemplates_spares ..).neat
          (State.scratchWrite_neat (State.Neat.ite h2 (State.scratchWrite_neat h2 ..)) ..)))

theorem execParkComplete_neat (h : s.Neat) (site slot : Nat) : outcomeNeat (execParkComplete site slot s) := by
  dsimp only [execParkComplete]
  exact outcomeNeat_ite ((State.stopIssue_spares ..).neat (State.scratchWrite_neat ((State.setSlotAt_spares ..).neat h) ..)) h

theorem execRecordAppend_neat (h : s.Neat) (ctx inc q : Nat) (w : List Word) (src : RecSrc) :
    outcomeNeat (execRecordAppend ctx inc q w src s) := by
  dsimp only [execRecordAppend]
  refine outcomeNeat_ite (by simp [h]) (outcomeNeat_ite (by simp [h]) (outcomeNeat_ite (by simp [h]) ?_))
  split
  · simp [h]
  · generalize hp : s.sysWrite _ _ _ _ _ = p
    have h1 : p.1.Neat := hp ▸ State.sysWrite_neat h ..
    split
    · exact (State.retry_spares ..).neat h1
    · exact (State.recordReply_spares ..).neat ((State.discardRecord_spares ..).neat ((State.setQueue_spares ..).neat h1))
    · exact (State.headUp_spares ..).neat ((State.recordReply_spares ..).neat ((State.setQueue_spares ..).neat h1))

@[simp] theorem State.completeGroup_neat (h : s.Neat) (ctx inc g : Nat) : (s.completeGroup ctx inc g).Neat := by
  dsimp only [State.completeGroup]
  refine State.Neat.ite ?_ ((State.finishGroup_spares ..).neat h)
  have hp (va : Nat) (bs : List Byte) := State.sysWrite_neat h (schedOf ctx g) ctx inc va bs (fun _ => false) true
  split
  case h_1 e => exact (State.setGroup_spares ..).neat ((hp ..).fst e)
  case h_2 e => exact (State.finishGroup_spares ..).neat ((State.cutEvent_spares ..).neat ((State.setGroup_spares ..).neat ((hp ..).fst e)))

@[simp] theorem State.checkLive_neat (h : s.Neat) (ctx inc g : Nat) : (s.checkLive ctx inc g).Neat :=
  State.Neat.ite (State.completeGroup_neat h ..) h

theorem execMemberTerminalUpdate_neat (h : s.Neat) (ctx inc g how cause : Nat) : outcomeNeat (execMemberTerminalUpdate ctx inc g how cause s) := by
  dsimp only [execMemberTerminalUpdate]
  exact outcomeNeat_ite (by simp [h]) (State.checkLive_neat ((State.setGroup_spares ..).neat h) ..)

theorem State.leaveRecord_neat (h : s.Neat) (ctx g uid sub : Nat) (n : HomeName) (r : SubRec) (c : ChanRec) :
    (s.leaveRecord ctx g uid sub n r c).Neat := by
  dsimp only [State.leaveRecord]
  split
  · exact (State.setGroup_spares ..).neat ((State.setHome_spares ..).neat (State.roomFor_neat h ..))
  · exact (State.setGroup_spares ..).neat h

theorem State.dropRecord_neat (h : s.Neat) (ctx : Nat) (n : HomeName) (r : SubRec) (seq : Nat) : (s.dropRecord ctx n r seq).Neat :=
  State.endHeld_neat ((State.setHome_spares ..).neat h) ..

theorem State.cutRecord_neat (h : s.Neat) {ctx g uid sub : Nat} {n : HomeName} {r : SubRec} {c : ChanRec}
    (e : s.cutRecord ctx g uid sub n r c = some t) : t.Neat := by
  have hr := (State.readAll_spares ctx n.inc (s.homeWalker ctx n.name) c.spilled c.segs s).neat h
  dsimp only [State.cutRecord] at e
  split at e
  · cases e
  case h_2 s0 segs e0 =>
    have h0 : s0.Neat := hr.fst e0
    split at e
    · cases e
      exact State.leaveRecord_neat h0 ..
    · have hw (va : Nat) (bs : List Byte) (bad : Nat → Bool) := State.sysWrite_neat h0 (s.homeWalker ctx n.name) ctx n.inc va bs bad true
      split at e
      · cases e
      case h_2 e1 =>
        cases e
        exact State.leaveRecord_neat ((hw ..).fst e1) ..
      case h_3 e1 =>
        cases e
        exact (State.setGroup_spares ..).neat (State.dropRecord_neat ((hw ..).fst e1) ..)

theorem State.cutRecords_neat (ctx g uid sub : Nat) (n : HomeName) (r : SubRec) (l : List ChanRec) {s : State} (h : s.Neat) :
    (s.cutRecords ctx g uid sub n r l).1.Neat := by
  induction l generalizing s with
  | nil => exact h
  | cons c l ih =>
    dsimp only [State.cutRecords]
    rw [fst_ite]
    refine State.Neat.ite h ?_
    split
    case h_1 e => exact ih (State.cutRecord_neat h e)
    case h_2 => exact h

theorem execCutRecordWrite_neat (h : s.Neat) (o : CtxInc) (c : CutRef) (name : Word) (uid sub : Nat) :
    outcomeNeat (execCutRecordWrite o c name uid sub s) := by
  dsimp only [execCutRecordWrite]
  refine outcomeNeat_ite (by simp [h]) (outcomeNeat_ite h (State.Neat.ite ((State.setGroup_spares ..).neat ?_) ((State.retry_spares ..).neat ?_)))
  all_goals
    split
    · exact State.cutRecords_neat _ _ _ _ _ _ _ ((State.setHome_spares ..).neat h)
    · exact h

theorem execCutComplete_neat (h : s.Neat) (ctx g : Nat) : outcomeNeat (execCutComplete ctx g s) := by
  dsimp only [execCutComplete]
  refine outcomeNeat_ite h (outcomeNeat_ite (State.completeGroup_neat h ..) (outcomeNeat_ite ?_ ?_))
  · exact State.foldl_neat (fun t u ht => (State.send_spares ..).neat ht) _ ((State.setGroup_spares ..).neat h)
  · have hw (va : Nat) (bs : List Byte) :=
    State.sysWrite_neat h (schedOf ctx g) ctx (s.incAt (agSched (schedOf ctx g)) ctx) va bs (fun _ => false) true
    split
    case h_1 e => exact (State.setGroup_spares ..).neat ((hw ..).fst e)
    case h_2 s1 _ _ e =>
      have h2 (x : Group) (l : Nat) : ((s1.setGroup ctx g x).cutEvent ctx (s.incAt (agSched (schedOf ctx g)) ctx) g l).Neat :=
        (State.cutEvent_spares ..).neat ((State.setGroup_spares ..).neat ((hw ..).fst e))
      exact State.Neat.ite ((State.cancelGroup_spares ..).neat ((State.setGroup_spares ..).neat (h2 ..))) (h2 ..)

theorem execGroupRequestAtScheduler_neat (h : s.Neat) (ctx inc g : Nat) (op : GOp) (who : Asker) (midx : Nat) :
    outcomeNeat (execGroupRequestAtScheduler ctx inc g op who midx s) := by
  dsimp only [execGroupRequestAtScheduler]
  refine outcomeNeat_ite (by simp [h]) ?_
  cases op with
  | leave =>
    exact outcomeNeat_ite ((State.groupReply_spares ..).neat (State.checkLive_neat ((State.setMember_spares ..).neat ((State.setGroup_spares ..).neat h)) ..))
      ((State.groupReply_spares ..).neat h)
  | restore base size =>
    refine outcomeNeat_ite ((State.groupReply_spares ..).neat h) ?_
    split
    · exact (State.retry_spares ..).neat h
    case h_2 e => exact (State.groupReply_spares ..).neat ((State.restoreGroup_spares e).neat h)
  | join => exact outcomeNeat_ite (by simp [h]) (by simp [h])
  | cut base size => exact outcomeNeat_ite (by simp [h]) (by simp [h])
  | wait sub land => exact outcomeNeat_ite (by simp [h]) (by simp [h])
  | unwait use => exact outcomeNeat_ite (by simp [h]) (by simp [h])
  | cancel => simp [h]
  | prio lvl => simp [h]
  | cap c => simp [h]
  | query => simp [h]

theorem execReinstallAtHome_neat (h : s.Neat) (m : SubMsg) : outcomeNeat (execReinstallAtHome m s) := by
  dsimp only [execReinstallAtHome]
  refine outcomeNeat_ite (by simp [h]) (outcomeNeat_ite (by simp [h]) ?_)
  generalize hp : (if (List.find? _ _).isSome = true then _ else _ : State × Room) = p
  have h1 : p.1.Neat := hp ▸ State.Neat.fst_ite h (State.roomFor_neat h ..)
  refine outcomeNeat_ite ((State.retry_spares ..).neat h1) ?_
  generalize hs : State.send _ _ _ = s1
  have h2 : s1.Neat := hs ▸ (State.send_spares ..).neat ((State.setHome_spares ..).neat ((State.reportDelivered_spares ..).neat h1))
  have h3 (n : HomeName) : (s1.setHome n).Neat := (State.setHome_spares ..).neat h2
  refine outcomeNeat_ite ((State.serveNext_spares ..).neat h2) ?_
  split
  · exact (State.serveHeld_spares ..).neat (State.Neat.ite h2 (h3 _))
  · exact State.Neat.ite ((State.serve_spares ..).neat (h3 _)) ((State.setHome_spares ..).neat (h3 _))
  · exact State.Neat.ite h2 (State.Neat.ite ((State.fallThrough_spares ..).neat h2) ((State.moveFailed_spares ..).neat h2))

theorem execBinitAtHome_neat (h : s.Neat) (r : BarReq) (n : Nat) : outcomeNeat (execBinitAtHome r n s) := by
  have hr := State.roomFor_neat h (s.barHome r.ctx r.id) 0 1
  dsimp only [execBinitAtHome]
  refine outcomeNeat_ite (by simp [h]) (outcomeNeat_ite (by simp [h]) ?_)
  split
  · exact outcomeNeat_ite ((State.retry_spares ..).neat hr) ((State.barReply_spares ..).neat ((State.setBar_spares ..).neat hr))
  · exact outcomeNeat_ite (by simp [h]) ((State.barReply_spares ..).neat ((State.completeBar_spares ..).neat ((State.setBar_spares ..).neat h)))

/-! The functions below are unfolded as a whole (`f_def`), over an unknown function in the place of the one
that reaches memory: else the kernel compares addresses with `2 ^ 56` by counting. -/

theorem exists_sysWrite : ∃ f, @State.sysWrite = f ∧
    ∀ {s : State}, s.Neat → ∀ agent ctx inc va bs bad toll, (f s agent ctx inc va bs bad toll).1.Neat :=
  ⟨_, rfl, State.sysWrite_neat⟩

theorem State.writeParts_neat (walker c inc base : Nat) (l : List (Nat × List Byte)) {s : State} (h : s.Neat) :
    (s.writeParts walker c inc base l).1.Neat := by
  induction l generalizing s with
  | nil => exact h
  | cons e l ih =>
    obtain ⟨off, bs⟩ := e
    have hw := State.sysWrite_neat h walker c inc (base + off) bs (fun _ => false) false
    dsimp only [State.writeParts]
    split
    · exact ih hw
    · exact hw

theorem State.stopMuls_neat (h : s.Neat) (site slot : Nat) : (s.stopMuls site slot).Neat := by
  dsimp only [State.stopMuls]
  refine State.foldl_neat (fun t o ht => ?_) _ ((State.setTileAt_spares ..).neat (State.Neat.ite ((State.stopMmag_spares ..).neat h) h))
  exact State.Neat.ite ((State.stopMul_spares ..).neat ht) (State.Neat.ite ht (State.mPerform_neat ht ..))

theorem State.stopForSave_neat (h : s.Neat) (site slot : Nat) : (s.stopForSave site slot).Neat :=
  (State.setSlotAt_spares ..).neat ((State.leaveSlew_spares ..).neat (State.stopMuls_neat h ..))

theorem State.fillWindows_neat (h : s.Neat) (site slot : Nat) (x : Slot) (ways : List Nat) (part : Nat → List Byte) :
    (s.fillWindows site slot x ways part).Neat :=
  State.foldl_neat (fun _ _ ht => State.scratchWrite_neat ht ..) _ (State.scratchWrite_neat (State.scratchWrite_neat h ..) ..)

theorem exists_writeParts : ∃ f, @State.writeParts = f ∧ ∀ walker c inc base l {s : State}, s.Neat → (f s walker c inc base l).1.Neat :=
  ⟨_, rfl, State.writeParts_neat⟩

theorem execEvictionComplete_def : @execEvictionComplete = delta% @execEvictionComplete := Eq.refl (delta% @execEvictionComplete)

theorem execEvictionComplete_neat (h : s.Neat) (uid : Nat) : outcomeNeat (execEvictionComplete uid s) := by
  obtain ⟨f, hf, hw⟩ := exists_writeParts
  rw [execEvictionComplete_def, hf]
  dsimp only
  split
  · exact h
  · split
    · exact h
    case h_2 i _ _ site slot _ =>
      split
      · exact h
      · refine outcomeNeat_ite h ?_
        have h0 := (State.takeRec_spares (fieldOf site) i).neat h
        split
        · exact (State.recLater_spares ..).neat h0
        · exact (State.saveFailed_spares ..).neat h0
        · exact (State.saveFailed_spares ..).neat ((State.saveFault_spares ..).neat h0)
        · have h2 := State.stopForSave_neat h0 site slot
          have h3 (base : Nat) (l : List (Nat × List Byte)) := hw (fieldOf site) i.ctx i.inc base l h2
          split
          · exact (State.recLater_spares ..).neat h0
          · split
            · exact (State.saveFailed_spares ..).neat ((State.saveFault_spares ..).neat ((State.setInst_spares ..).neat (h3 ..)))
            · exact (State.finishEvicts_spares ..).neat ((State.evicted_spares ..).neat ((State.resumeIn_spares ..).neat ((State.moveSubs_spares ..).neat
                ((State.saveFault_spares ..).neat ((State.setInst_spares ..).neat (h3 ..))))))
          · exact (State.saved_spares ..).neat ((State.moveSubs_spares ..).neat (h3 ..))

theorem exists_readRecord : ∃ f, @State.readRecord = f ∧ ∀ walker c inc base l acc (s : State), s.Spares (f s walker c inc base l acc).1 :=
  ⟨_, rfl, State.readRecord_spares⟩

theorem execRestore_def : @execRestore = delta% @execRestore := Eq.refl (delta% @execRestore)

theorem execRestore_neat (h : s.Neat) (uid site slot : Nat) : outcomeNeat (execRestore uid site slot s) := by
  obtain ⟨f, hf, hw⟩ := exists_readRecord
  rw [execRestore_def, hf]
  dsimp only
  split
  · exact h
  · split
    · refine outcomeNeat_ite h ?_
      generalize hp : f _ _ _ _ _ _ _ = p
      have h1 : p.1.Neat := hp ▸ (hw ..).neat h
      split
      · exact (State.recLater_spares ..).neat h1
      · exact (State.restoreFail_spares ..).neat h1
      · exact (State.resumeIn_spares ..).neat ((State.setInst_spares ..).neat (State.fillWindows_neat ((State.lendWays_spares ..).neat h1) ..))
    · exact h

theorem State.writeBlock_def : @State.writeBlock = delta% @State.writeBlock := Eq.refl (delta% @State.writeBlock)

theorem State.writeBlock_neat (h : s.Neat) (site slot n b : Nat) : (s.writeBlock site slot n b).1.Neat := by
  obtain ⟨f, hf, hw⟩ := exists_sysWrite
  rw [State.writeBlock_def, hf]
  dsimp only
  split
  · exact (State.setSlotAt_spares ..).neat (hw h ..)
  · exact hw h ..

theorem exists_writeBlock : ∃ f, @State.writeBlock = f ∧ ∀ {s : State}, s.Neat → ∀ site slot n b, (f s site slot n b).1.Neat :=
  ⟨_, rfl, State.writeBlock_neat⟩
theorem execBackgroundWrite_def : execBackgroundWrite = delta% execBackgroundWrite := Eq.refl (delta% execBackgroundWrite)

theorem execBackgroundWrite_neat (h : s.Neat) (site slot : Nat) : outcomeNeat (execBackgroundWrite site slot s) := by
  obtain ⟨f, hf, hw⟩ := exists_writeBlock
  rw [execBackgroundWrite_def, hf]
  dsimp only
  refine outcomeNeat_ite h ?_
  split
  case h_1 u i b _ _ _ =>
    have h0 := (State.takeRec_spares (fieldOf site) i).neat h
    split
    · exact (State.recLater_spares ..).neat h0
    · exact h0
    · exact (State.setSlotAt_spares ..).neat ((State.saveFault_spares ..).neat h0)
    · have h2 (j : Inst) (n : Nat) := hw ((State.setInst_spares u j).neat h0) site slot n b
      split
      · exact (State.setSlotAt_spares ..).neat ((State.saveFault_spares ..).neat (h2 ..))
      · exact (State.recLater_spares ..).neat (h2 ..)
      · exact h2 ..
  · exact h

theorem State.chkpGo_def : @State.chkpGo = delta% @State.chkpGo := Eq.refl (delta% @State.chkpGo)

theorem State.chkpGo_neat (h : s.Neat) (site slot : Nat) : (s.chkpGo site slot).Neat := by
  obtain ⟨f, hf, hw⟩ := exists_writeBlock
  rw [State.chkpGo_def, hf]
  dsimp only
  split
  case h_1 u i _ _ _ =>
    have h0 := (State.takeRec_spares (fieldOf site) i).neat h
    split
    · exact (State.recLater_spares ..).neat h0
    · exact (State.chkpEnd_spares ..).neat h0
    · exact (State.chkpEnd_spares ..).neat ((State.saveFault_spares ..).neat h0)
    · split
      · exact (State.chkpEnd_spares ..).neat ((State.setInst_spares ..).neat h0)
      case h_2 b _ _ =>
        have h2 (j : Inst) (n : Nat) := hw ((State.setInst_spares u j).neat h0) site slot n b
        split
        · exact (State.setSlotAt_spares ..).neat (h2 ..)
        · exact (State.recLater_spares ..).neat (h2 ..)
        · exact (State.chkpEnd_spares ..).neat ((State.saveFault_spares ..).neat (h2 ..))
  · exact h

theorem execRemoteRequest_neat (h : s.Neat) (l : Nat) (f : Flit) : outcomeNeat (execRemoteRequest l f s) := by
  dsimp only [execRemoteRequest]
  generalize hp : s.takeIn _ f.age = p
  have h1 : p.1.Neat := hp ▸ (State.takeIn_spares ..).neat h
  split
  · exact h1
  · refine outcomeNeat_ite (State.countDropped_spares.neat h1) (outcomeNeat_ite ((State.putBack_spares ..).neat (State.performHalf_neat h1 ..)) ?_)
    have h2 (r : MemReq) := State.performAt_neat h1 r
    split
    case h_1 e => exact (State.egress_spares e).neat (h2 _)
    case h_2 => exact h2 _

theorem execHostWrite_neat (h : s.Neat) (port : Nat) (w : HostAt) (bytes : List Byte) : outcomeNeat (execHostWrite port w bytes s) := by
  have hp (a n : Nat) (bs : List Byte) : ((s.hostMerge port a n).memPut a bs).Neat := State.memPut_neat ((State.hostMerge_spares ..).neat h) ..
  dsimp only [execHostWrite]
  exact outcomeNeat_ite h (outcomeNeat_ite (by simp [h]) (outcomeNeat_ite (hp ..)
    (outcomeNeat_ite ((State.hostRest_spares ..).neat (hp ..)) ((State.hostRest_spares ..).neat (hp ..)))))

end Sys2Proof.Machine
end

section
/-! PROOFS. Every step keeps canonical memories (O58). -/

namespace Sys2Proof.Machine

variable {s t : State}

/-! A step. -/

theorem asStep_neat {hd : Hdr} {eff : State → Act} (h : s.Neat) (he : (eff s).Neat) : outcomeNeat (asStep hd eff s) := by
  dsimp only [asStep]
  refine outcomeNeat_ite ?_ h
  cases hr : eff s with
  | ok t => exact (hr ▸ he : (Act.ok t).Neat)
  | trap k => exact (takeTrap_spares k).neat h

theorem asStepW_neat {hd : Hdr} {wait : State → Option Hold} {eff : State → Act} (h : s.Neat) (hw : holdSpares (wait s)) (he : (eff s).Neat) :
    outcomeNeat (asStepW hd wait eff s) := by
  dsimp only [asStepW]
  refine outcomeNeat_ite ?_ h
  cases hr : wait s with
  | none => exact asStep_neat h he
  | some w => exact (holdBundle_spares w.count (hr ▸ hw : holdSpares (some w))).neat h

theorem effOf_neat (h : s.Neat) (i : Instr) : (effOf i s).Neat := by
  cases i with
  | mmag hd f => exact effMmag_neat h f
  | _ =>
    delta effOf
    dsimp only
    exact Act.Spares.neat (by simp) h

theorem State.runSyls_neat (l : List Item) {s : State} (h : s.Neat) : (State.runSyls l s).Neat := by
  induction l generalizing s with
  | nil => exact h
  | cons it l ih =>
    have he := effOf_neat ((State.at_spares it).neat h) it.i
    dsimp only [State.runSyls]
    split
    · trivial
    · cases hr : effOf it.i (s.at_ it) with
      | ok t => exact ih (hr ▸ he : (Act.ok t).Neat)
      | trap k => trivial

theorem findSome?_spares {w : Item → State → Option Hold} (hw : ∀ it t, holdSpares (w it t)) (l : List Item) (s : State) :
    holdSpares (l.findSome? (fun it => (w it (s.at_ it)).map (fun h => ⟨h.count, fun t => h.act (t.at_ it)⟩))) := by
  induction l with
  | nil => trivial
  | cons it l ih =>
    rw [List.findSome?_cons]
    have hi := hw it (s.at_ it)
    cases hr : w it (s.at_ it) with
    | none => exact ih
    | some k => exact fun t => (State.at_spares it).trans ((hr ▸ hi : holdSpares (some k)) _)

theorem State.bundleHold_spares (on : List Item) : holdSpares (s.bundleHold on) := by
  dsimp only [State.bundleHold]
  split
  · exact findSome?_spares (fun it t => waitOf_spares it.i) on s
  · exact fun t => ⟨rfl, rfl⟩

theorem holdBundle_neat {o : Option Hold} {w : Hold} (ho : holdSpares o) (e : o = some w) (h : s.Neat) : (holdBundle w.count w.act s).Neat := by
  subst e
  exact (holdBundle_spares w.count ho).neat h

theorem State.runOn_neat (h : s.Neat) (on : List Item) : (s.runOn on).Neat := by
  dsimp only [State.runOn]
  split
  case h_1 e => exact holdBundle_neat (State.bundleHold_spares on) e h
  case h_2 =>
    cases hr : State.runSyls on s with
    | trap k => exact (takeTrap_spares k).neat h
    | ok s1 =>
      dsimp only
      split
      case h_1 e => exact holdBundle_neat (findSome?_spares (fun it t => lateWaitOf_spares it.i) on s) e h
      case h_2 => exact (hr ▸ State.runSyls_neat on h : (Act.ok s1).Neat)

theorem State.runBundle_neat (h : s.Neat) (its : List Item) : (s.runBundle its).Neat :=
  State.Neat.ite (State.runOn_neat (State.landFirst_spares.neat h) _) (State.runOn_neat h _)

theorem endBundle_neat (h : s.Neat) : (endBundle s).Neat := by
  have h1 (i : Iss) (c n : Nat) : (applyGlobal i.site c n i.gwr (applyStores i.site i.slot i.wr s)).Neat :=
    (applyGlobal_spares ..).neat (applyStores_neat h ..)
  have h2 (i : Iss) (c n : Nat) (t : Tile) :
      (((applyGlobal i.site c n i.gwr (applyStores i.site i.slot i.wr s)).setTileAt i.site t).markBusy i.site).Neat :=
    (State.markBusy_spares ..).neat ((State.setTileAt_spares ..).neat (h1 ..))
  dsimp only [endBundle]
  refine State.Neat.ite h ?_
  refine State.Spares.neat (s := State.exitTemplates _ s.iss.site s.iss.slot) ⟨rfl, rfl⟩ ((State.exitTemplates_spares ..).neat ?_)
  split
  · exact State.Neat.ite ((enterTrap_spares ..).neat ((State.setSlotAt_spares ..).neat (h2 ..))) ((State.setSlotAt_spares ..).neat (h2 ..))
  · exact (State.setSlotAt_spares ..).neat (h2 ..)

theorem State.tryBundle_neat (h : s.Neat) (site slot : Nat) : (s.tryBundle site slot).Neat := by
  have h1 : (s.begin_ site slot).Neat := (State.begin_spares ..).neat h
  have hh (c : Bool) : (holdBundle c id (s.begin_ site slot)).Neat := (holdBundle_spares c (fun t => ⟨rfl, rfl⟩)).neat h1
  dsimp only [State.tryBundle]
  refine State.Neat.ite (hh _) ?_
  split
  · exact State.Neat.ite ((enterTrap_spares ..).neat ((State.setCur_spares ..).neat h1)) (hh _)
  · split
    · exact (takeTrap_spares _).neat h1
    · split
      · exact (takeTrap_spares _).neat h1
      · exact State.runBundle_neat ((State.setIss_spares ..).neat h1) _

theorem execBundleIssue_neat (h : s.Neat) (site slot : Nat) : outcomeNeat (execBundleIssue site slot s) :=
  outcomeNeat_ite (endBundle_neat (State.tryBundle_neat h site slot)) h

theorem execModuleReset_neat : outcomeNeat (execModuleReset s) := ⟨Memory.wf_nil, Memory.wf_nil⟩

theorem exec_neat (h : s.Neat) (i : Instr) : outcomeNeat (exec i s) := by
  have he := effOf_neat h i
  have hw := waitOf_spares i (s := s)
  cases i with
  | add hd f | sub hd f | mul hd f | mulh hd f | mulhn hd f | div hd f | divn hd f | remS hd f | remn hd f | andS hd f | orS hd f | xorS hd f
  | andn hd f | shl hd f | shr hd f | sar hd f | rotr hd f | min hd f | max hd f | minn hd f | maxn hd f | clz hd f | popc hd f | bfx hd f
  | bfxs hd f | bfi hd f | sel hd f | mov hd f | li hd f | lea hd f | sxt hd f | zxt hd f | bswap hd f | crcs hd f | nmake hd f | cmp hd f
  | pand hd f | por hd f | pxor hd f | pnot hd f | pset hd f | pget hd f | nop hd f | br hd f | bri hd f | callS hd f | callInd hd f | ret hd f
  | loopS hd f | idle hd f | brk hd f | sysr hd f | syswPgroot hd f | syswBackbase hd f | vadd hd f | vsub hd f | vmul hd f | vfma hd f | vfms hd f
  | vmax hd f | vmin hd f | vabs hd f | vneg hd f | vcmp hd f | vsel hd f | vand hd f | vor hd f | vxor hd f | vshl hd f | vshr hd f | vsar hd f
  | vmov hd f | vsplat hd f | vext hd f | vins hd f | vperm hd f | vrot hd f | vredadd hd f | vredmax hd f | vredmin hd f | vscan hd f | vpack hd f
  | vunpk hd f | vexp2 hd f | vlog2 hd f | vrcpa hd f | vrsqa hd f | vsqrt hd f | vdiv hd f | vclass hd f | vscale hd f | vrint hd f | vimul hd f
  | vimulh hd f | vrand hd f | vmcnt hd f | vjoin hd f | mshape hd f | ld hd f | st hd f | vld hd f | vst hd f | vgath hd f | vscat hd f | atoms hd f
  | waymask hd f | waygate hd f | chkv hd f | scfg hd f | sgo hd f | sstop hd f | sparm hd f | unsub hd f | nhold hd f | nrels hd f | npoll hd f
  | npollAck hd f | npollInj hd f | exitS hd f | yieldSlot hd f | yieldWp hd f | yieldAny hd f | yieldTime hd f | launch hd f | qpost hd f
  | qctlCreate hd f | qctlDrain hd f | qctlClose hd f | qctlLevel hd f | qctlQuery hd f | gjoin hd f | gleave hd f | gctlCancel hd f | gctlPrio hd f
  | gctlCap hd f | gctlCut hd f | gctlRestore hd f | gctlQuery hd f | gwait hd f | binit hd f | barv hd f | stepo hd f | stepc hd f | slack hd f
  | trapS hd f | ctxk hd f | reclm hd f | ctxrStart hd f | ctxrFree hd f | evict hd f | evictUnbind hd f | chkpNow hd f | chkpBgon hd f
  | chkpBgoff hd f =>
    exact asStep_neat h he
  | sysw hd f | vcvt hd f | mzero hd f | mma hd f | mmat hd f | mcb hd f | macld hd f | macst hd f | macadd hd f | mwait hd f | ldg hd f
  | stg hd f | vldg hd f | vstg hd f | atomg hd f | pref hd f | clean hd f | inval hd f | discard hd f | llock hd f | lunlk hd f | fence hd f
  | xfence hd f | sfence hd f | waitwp hd f | subscribe hd f | pub hd f | pubr hd f | lsend hd f | rft hd f =>
    exact asStepW_neat h hw he
  | mmag hd f => exact asStepW_neat h (waitMmag_spares f) he
  | bwait hd f => exact asStepW_neat h (waitBwait_spares f) he
  | channelDataArrive site slot ch ctx inc seq r => exact execChannelDataArrive_neat h site slot ch ctx inc seq r
  | subAtHome m => exact execSubAtHome_neat h m
  | withdrawal site port m => exact execWithdrawal_neat h site port m
  | segmentAtHome port g => exact execSegmentAtHome_neat h port g
  | contributionAtHome g => exact execContributionAtHome_neat h g
  | copyAtTilePort site target g => exact execCopyAtTilePort_neat h site target g
  | landingAckAtHome m => exact execLandingAckAtHome_neat h m
  | divertedCopyAtHome m g => exact execDivertedCopyAtHome_neat h m g
  | nholdAtHome ctx inc name who => exact execNholdAtHome_neat h ctx inc name who
  | reinstallAtHome m => exact execReinstallAtHome_neat h m
  | recordAppend ctx inc q rec_ src => exact execRecordAppend_neat h ctx inc q rec_ src
  | loadDone uid => exact execLoadDone_neat h uid
  | memberTerminalUpdate ctx inc g how cause => exact execMemberTerminalUpdate_neat h ctx inc g how cause
  | cutRecordWrite o c name uid sub => exact execCutRecordWrite_neat h o c name uid sub
  | binitAtHome r n => exact execBinitAtHome_neat h r n
  | memoryRequestAtHome r => exact execMemoryRequestAtHome_neat h r
  | groupRequestAtScheduler ctx inc g op who midx => exact execGroupRequestAtScheduler_neat h ctx inc g op who midx
  | spillReadBack ctx name seq => exact execSpillReadBack_neat h ctx name seq
  | hostWrite port w bytes => exact execHostWrite_neat h port w bytes
  | bundleIssue site slot => exact execBundleIssue_neat h site slot
  | matrixComplete site => exact execMatrixComplete_neat h site
  | channelBeat site slot ch => exact execChannelBeat_neat h site slot ch
  | lingerExpire ctx name seq => exact execLingerExpire_neat h ctx name seq
  | parkComplete site slot => exact execParkComplete_neat h site slot
  | cutComplete ctx g => exact execCutComplete_neat h ctx g
  | evictionComplete uid => exact execEvictionComplete_neat h uid
  | restore uid site slot => exact execRestore_neat h uid site slot
  | backgroundWrite site slot => exact execBackgroundWrite_neat h site slot
  | remoteRequest l f => exact execRemoteRequest_neat h l f
  | moduleReset => exact execModuleReset_neat
  | _ =>
    delta exec
    dsimp only
    exact State.SparedBy.neat (by simp) h

theorem Cand.run_neat (h : s.Neat) (c : Cand) : outcomeNeat (c.run s) := by
  cases c with
  | sent i =>
    dsimp only [Cand.run]
    split
    · refine exec_neat ?_ _
      exact h
    · exact h
  | chkp site slot => exact State.chkpGo_neat h site slot
  | bundleIssue site slot => exact execBundleIssue_neat h site slot
  | matrixComplete site => exact execMatrixComplete_neat h site
  | channelBeat site slot ch => exact execChannelBeat_neat h site slot ch
  | lingerExpire ctx name seq => exact execLingerExpire_neat h ctx name seq
  | parkComplete site slot => exact execParkComplete_neat h site slot
  | cutComplete ctx g => exact execCutComplete_neat h ctx g
  | evictionComplete uid => exact execEvictionComplete_neat h uid
  | restore uid site slot => exact execRestore_neat h uid site slot
  | backgroundWrite site slot => exact execBackgroundWrite_neat h site slot
  | remoteRequest l f => exact execRemoteRequest_neat h l f
  | _ =>
    delta Cand.run
    dsimp only
    exact State.SparedBy.neat (by simp) h

theorem ended_neat {o : Host.Outcome State Fault Refusal} (h : outcomeNeat o) : outcomeNeat (ended o) := by
  cases o with
  | next t => exact h
  | fault f => trivial
  | refused r => trivial

theorem State.rest_neat (h : s.Neat) : outcomeNeat s.rest :=
  outcomeNeat_ite trivial h

theorem step_neat (h : s.Neat) : outcomeNeat (step s) := by
  dsimp only [step]
  split
  · exact ended_neat (Cand.run_neat h _)
  · exact State.rest_neat h

/-- Settles O58: every event either leaves both memories as they are or writes them byte by byte, and a byte
written keeps a canonical memory canonical. -/
theorem stepKeepsCanonical : Obligations.StepKeepsCanonical := by
  intro s t h e
  exact (e ▸ step_neat (State.canonical_iff_neat.1 h) : outcomeNeat (.next t))

end Sys2Proof.Machine
end

section
/-! PROOFS. TRAP and RFT, entering a handler or faulting, and the return from it (O7). -/

namespace Sys2Proof.Machine

variable {s t u : State} {x y : Slot} {site slot : Nat}

/-! ### The syllables (R346, R347) -/

theorem exec_rft_handler {h : Hdr} {g : RRR} (hg : s.guard h = true) (hi : s.cur.sys.intrap = true) (hp : s.cur.pend = []) :
    exec (.rft h g) s = .next (s.setIss { s.iss with rft := true, gap := s.iss.gap + 3 }) := by
  refine asStepW_ok (wait := waitRft g) (eff := effRft g) hg ?_ (if_pos hi)
  simp [waitRft, hp]

theorem exec_rft_outside {h : Hdr} {g : RRR} (hg : s.guard h = true) (hi : s.cur.sys.intrap = false) :
    exec (.rft h g) s = .next (takeTrap ⟨.trapins, 0, s.iss.word⟩ s) := by
  refine asStepW_trap (wait := waitRft g) (eff := effRft g) hg ?_ (if_neg (by simp [hi]))
  simp [waitRft, hi]

/-! ### Results that land, but for what the slew guard counts (R51, R292) -/

theorem landGo_slewApart (due : InFlight → Bool) (es kept : List InFlight) (x : Slot) :
    (landGo due es kept x).slewApart = landGo due es kept x.slewApart := by
  induction es generalizing kept x with
  | nil => rfl
  | cons e es ih =>
    rw [landGo, landGo]
    split
    · exact ih _ (x.land e)
    · exact ih _ x

theorem Slot.drain_slewApart (x : Slot) : x.drain.slewApart = x.slewApart.drain := landGo_slewApart ..

theorem Slot.drain_slewApart_congr (h : x.slewApart = y.slewApart) : x.drain.slewApart = y.drain.slewApart := by
  rw [Slot.drain_slewApart, h, ← Slot.drain_slewApart]

/-- Results that land leave the latch, the subscription slots and the channels as they are. -/
theorem landGo_rest (due : InFlight → Bool) (es kept : List InFlight) (x : Slot) :
    (landGo due es kept x).latch = x.latch ∧ (landGo due es kept x).sub = x.sub ∧ (landGo due es kept x).ch = x.ch := by
  induction es generalizing kept x with
  | nil => exact ⟨rfl, rfl, rfl⟩
  | cons e es ih =>
    rw [landGo]
    split
    · exact ih _ (x.land e)
    · exact ih _ x

/-- Slots that are the same but for what the slew guard counts have the same system registers but SLEWHOLD. -/
theorem Slot.sys_of_slewApart (h : x.slewApart = y.slewApart) : x.sys = { y.sys with slewhold := x.sys.slewhold } :=
  (congrArg (fun z : Slot => ({ z.sys with slewhold := x.sys.slewhold } : SysRegs)) h :)

/-! ### SLEWHOLD where the bundle has not waited away from issue (R293) -/

theorem State.slotAt_congr_key {a b : Nat} (h : slotKey a b = slotKey site slot) : s.slotAt a b = s.slotAt site slot := by
  rw [State.slotAt, h, State.slotAt]

theorem State.slotAt_countAway_of_none (h : (s.slotAt site slot).slewAway = none) (a b : Nat) (still : Bool) :
    (s.countAway a b still).slotAt site slot = s.slotAt site slot := by
  by_cases hk : slotKey a b = slotKey site slot
  · rw [State.countAway, State.slotAt_congr_key hk, h]
  · rw [State.countAway]
    split
    · exact (State.slotAt_setSlotAt_other _ _ _ _ _ _ (Ne.symm hk)).trans (State.slotAt_setSlotAt_other _ _ _ _ _ _ (Ne.symm hk))
    · rfl

theorem State.slewhold_giveQuantum_of_none (h : (s.slotAt site slot).slewAway = none) (dom : Nat) :
    ((s.giveQuantum dom).slotAt site slot).sys.slewhold = (s.slotAt site slot).sys.slewhold := by
  rw [State.giveQuantum]
  split
  case h_1 a b _ _ =>
    have hc := State.slotAt_countAway_of_none h a b false
    by_cases hk : slotKey a b = slotKey site slot
    · rw [← State.slotAt_congr_key hk, State.slotAt_setSlotAt_same, ← hc]
      exact congrArg (·.sys.slewhold) (State.slotAt_congr_key hk)
    · rw [State.slotAt_setSlotAt_other _ _ _ _ _ _ (Ne.symm hk), hc]
  case h_2 => split <;> rfl

theorem State.slewhold_leaveSlew_of_none (h : (s.slotAt site slot).slewAway = none) :
    ((s.leaveSlew site slot).slotAt site slot).sys.slewhold = (s.slotAt site slot).sys.slewhold := by
  have hc := State.slotAt_countAway_of_none h site slot false
  rw [State.leaveSlew]
  generalize s.countAway site slot false = t at hc ⊢
  rw [← hc] at h ⊢
  have hs : (t.setSlotAt site slot { t.slotAt site slot with slewWait := false, slewGrant := false }).slotAt site slot =
      { t.slotAt site slot with slewWait := false, slewGrant := false } := State.slotAt_setSlotAt_same ..
  dsimp only
  split
  · rfl
  · split
    · exact (State.slewhold_giveQuantum_of_none ((congrArg Slot.slewAway hs).trans h) _).trans (congrArg (·.sys.slewhold) hs)
    · exact congrArg (·.sys.slewhold) hs

/-! ### The slot that a trap leaves (R342) -/

/-- The state that a trap finds once the bundle has left the slew guard and forgotten its struck word. -/
def State.trapped (s : State) : State := (s.clearEcc s.iss.site s.iss.slot).leaveSlew s.iss.site s.iss.slot

theorem State.slewOnly_trapped (s : State) : s.SlewOnly s.trapped := (s.slewOnly_clearEcc ..).trans (State.slewOnly_leaveSlew ..)

theorem State.cur_trapped_drain (s : State) : s.trapped.cur.drain.slewApart = s.cur.drain.slewApart :=
  Slot.drain_slewApart_congr s.slewOnly_trapped.cur

theorem State.slewhold_trapped (h : s.cur.slewAway = none) : s.trapped.cur.sys.slewhold = s.cur.sys.slewhold := by
  have he : (s.clearEcc s.iss.site s.iss.slot).slotAt s.iss.site s.iss.slot = s.cur := State.slotAt_congr (State.clearEcc_slots ..) ..
  rw [State.cur, s.slewOnly_trapped.1, State.trapped, State.slewhold_leaveSlew_of_none ((congrArg Slot.slewAway he).trans h), he]

theorem State.record_iss (s : State) (w : RecWho) (b : RecBody) : (s.record w b).iss = s.iss := by
  rw [State.record]
  split <;> rfl

theorem State.record_cur (s : State) (w : RecWho) (b : RecBody) : (s.record w b).cur = s.cur := by
  rw [State.cur, State.record_iss]
  exact State.slotAt_congr (State.record_slots ..) ..

section
variable {k : TrapInfo} {epc bundle : Word} (hm : s.cur.mmag = none)
include hm

theorem enterTrap_cur_handler (hi : s.cur.sys.intrap = false) (hb : s.cur.sys.trapbase.getLsbD 63 = true) :
    (enterTrap k epc s bundle).cur = s.trapped.forgetY { s.trapped.cur.drain with
      walks := [], fenced := [], bw := none, waited := 0, pc := addrField s.trapped.cur.drain.sys.trapbase, held := false
      sys := { s.trapped.cur.drain.sys with epc := epcOf epc, cause := BitVec.ofNat 64 (FKind.cause k.kind k.origin), eval := k.eval,
                                            intrap := true, cycle := s.trapped.cur.drain.sys.cycle + 4 } } 900 := by
  have hd := s.cur_trapped_drain
  have hi' : s.trapped.cur.drain.sys.intrap = false := (congrArg (·.sys.intrap) hd).trans ((congrArg (·.intrap) s.cur.drain_sys).trans hi)
  have hb' : s.trapped.cur.drain.sys.trapbase.getLsbD 63 = true :=
    (congrArg (·.sys.trapbase.getLsbD 63) hd).trans ((congrArg (·.trapbase.getLsbD 63) s.cur.drain_sys).trans hb)
  rw [enterTrap, hm]
  simp only [Option.isSome_none, Bool.false_eq_true, if_false]
  rw [← State.trapped, hi', hb']
  exact State.cur_trapped ..

theorem enterTrap_cur_fatal (h : s.cur.sys.intrap = true ∨ s.cur.sys.trapbase.getLsbD 63 = false) :
    (enterTrap k epc s bundle).cur = { s.trapped.cur.drain with
      walks := [], fenced := [], bw := none, waited := 0, st := .faulted, held := false, fatal := FKind.cause k.kind k.origin } := by
  have hd := s.cur_trapped_drain
  have hc : (s.trapped.cur.drain.sys.intrap || !s.trapped.cur.drain.sys.trapbase.getLsbD 63) = true := by
    rw [Bool.or_eq_true, Bool.not_eq_true']
    refine h.imp (fun hi => ?_) (fun hb => ?_)
    · exact (congrArg (·.sys.intrap) hd).trans ((congrArg (·.intrap) s.cur.drain_sys).trans hi)
    · exact (congrArg (·.sys.trapbase.getLsbD 63) hd).trans ((congrArg (·.trapbase.getLsbD 63) s.cur.drain_sys).trans hb)
  rw [enterTrap, hm]
  simp only [Option.isSome_none, Bool.false_eq_true, if_false]
  rw [← State.trapped, if_pos hc]
  exact (State.setIss_cur _ _ rfl rfl).trans ((State.record_cur ..).trans ((State.detect_cur ..).trans (State.cur_setCur ..)))

end

/-! ### What keeps the system registers, the program counters and YLD -/

/-- From `s` to `t` every slot has the same system registers, program counter and YLD. -/
structure State.KeepsSys (s t : State) : Prop where
  sys : ∀ a b, (t.slotAt a b).sys = (s.slotAt a b).sys
  pc : ∀ a b, (t.slotAt a b).pc = (s.slotAt a b).pc
  yld : ∀ a b, (t.slotAt a b).yld = (s.slotAt a b).yld

theorem State.KeepsSys.refl (s : State) : s.KeepsSys s := ⟨fun _ _ => rfl, fun _ _ => rfl, fun _ _ => rfl⟩

theorem State.KeepsSys.trans (h : s.KeepsSys t) (k : t.KeepsSys u) : s.KeepsSys u :=
  ⟨fun a b => (k.sys a b).trans (h.sys a b), fun a b => (k.pc a b).trans (h.pc a b), fun a b => (k.yld a b).trans (h.yld a b)⟩

theorem State.KeepsSys.of_slots (h : t.slots = s.slots) : s.KeepsSys t :=
  ⟨fun a b => congrArg Slot.sys (State.slotAt_congr h a b), fun a b => congrArg Slot.pc (State.slotAt_congr h a b),
    fun a b => congrArg Slot.yld (State.slotAt_congr h a b)⟩

theorem State.AcksOnly.keepsSys (h : s.AcksOnly t) : s.KeepsSys t :=
  ⟨fun a b => (congrArg Slot.sys (h.2 a b) :), fun a b => (congrArg Slot.pc (h.2 a b) :), fun a b => (congrArg Slot.yld (h.2 a b) :)⟩

theorem State.KeepsSys.foldl {α : Type} {f : State → α → State} (hf : ∀ (t : State) a, t.KeepsSys (f t a)) (l : List α) (s : State) :
    s.KeepsSys (l.foldl f s) :=
  List.foldlRecOn l f (.refl s) (fun t h a _ => h.trans (hf t a))

theorem State.keepsSys_setSlotAt (hx : x.sys = (s.slotAt site slot).sys) (hp : x.pc = (s.slotAt site slot).pc)
    (hy : x.yld = (s.slotAt site slot).yld) : s.KeepsSys (s.setSlotAt site slot x) := by
  have h {α : Type} (g : Slot → α) (hg : g x = g (s.slotAt site slot)) (a b) : g ((s.setSlotAt site slot x).slotAt a b) = g (s.slotAt a b) := by
    by_cases hk : slotKey a b = slotKey site slot
    · rw [State.slotAt_congr_key hk, State.slotAt_congr_key hk, State.slotAt_setSlotAt_same, hg]
    · rw [State.slotAt_setSlotAt_other _ _ _ _ _ _ hk]
  exact ⟨h _ hx, h _ hp, h _ hy⟩

theorem State.keepsSys_noteStore (s : State) (site slot p : Nat) (bs : List Byte) (unit : Option Nat) :
    s.KeepsSys (s.noteStore site slot p bs unit) := by
  rw [State.noteStore]
  split
  · exact .refl s
  · exact State.keepsSys_setSlotAt rfl rfl rfl

theorem State.keepsSys_scratchPut (s : State) (site slot p : Nat) (b : Byte) : s.KeepsSys (s.scratchPut site slot p b) := by
  rw [State.scratchPut]
  split
  · have hs : s.KeepsSys (s.setSlotAt site slot ((s.slotAt site slot).touch p)) := by
      refine State.keepsSys_setSlotAt ?_ ?_ ?_ <;> rw [Slot.touch] <;> split <;> rfl
    split
    · exact .of_slots rfl
    · exact hs.trans (.of_slots rfl)
  · exact .refl s

theorem State.keepsSys_scratchPutAll (site slot p : Nat) (bs : List Byte) (s : State) : s.KeepsSys (s.scratchPutAll site slot p bs) := by
  induction bs generalizing s p with
  | nil => exact .refl s
  | cons b bs ih => exact (s.keepsSys_scratchPut site slot p b).trans (ih ..)

theorem State.keepsSys_scratchWrite (s : State) (site slot p : Nat) (bs : List Byte) (unit : Option Nat) :
    s.KeepsSys (s.scratchWrite site slot p bs unit) :=
  ((State.KeepsSys.of_slots (State.noteWrites_slots ..)).trans (State.keepsSys_scratchPutAll ..)).trans (.of_slots (State.clearUE_slots ..))

theorem keepsSys_applyStores (site slot : Nat) (l : List (Nat × List Byte × Bool)) (s : State) : s.KeepsSys (applyStores site slot l s) := by
  induction l generalizing s with
  | nil => exact .refl s
  | cons e l ih =>
    obtain ⟨p, bs, atomic⟩ := e
    refine State.KeepsSys.trans ?_ (ih _)
    rw [State.storeS]
    split <;> exact (s.keepsSys_noteStore ..).trans (State.keepsSys_scratchWrite ..)

theorem State.keepsSys_setIss (s : State) (i : Iss) : s.KeepsSys (s.setIss i) := .of_slots rfl

theorem State.keepsSys_touchLine (s : State) (site : Nat) (l : Line) : s.KeepsSys (s.touchLine site l) := .of_slots rfl

theorem State.keepsSys_storeC (s : State) (site ctx inc va pa : Nat) (bs : List Byte) (through : Bool) :
    s.KeepsSys (s.storeC site ctx inc va pa bs through) := by
  have hn (vl p : Nat) : s.KeepsSys (s.needLine site ctx inc vl p) := by
    rw [State.needLine]
    split
    · exact .refl s
    · exact .of_slots rfl
  rw [State.storeC]
  dsimp only
  split
  · exact hn ..
  · split
    · exact ((hn ..).trans (State.keepsSys_touchLine ..)).trans (State.acksOnly_writeBack ..).keepsSys
    · exact (hn ..).trans (State.keepsSys_touchLine ..)

theorem keepsSys_applyGlobal (site ctx inc : Nat) (l : List (Nat × Nat × List Byte × Bool)) (s : State) :
    s.KeepsSys (applyGlobal site ctx inc l s) := by
  induction l generalizing s with
  | nil => exact .refl s
  | cons e l ih =>
    obtain ⟨va, pa, bs, th⟩ := e
    exact (s.keepsSys_storeC ..).trans (ih _)

theorem State.keepsSys_enqueue (s : State) (q : Queued) (remote : Bool) : s.KeepsSys (s.enqueue q remote) := by
  rw [State.enqueue]
  split
  · refine .trans ?_ (State.acksOnly_beginRelease ..).keepsSys
    exact State.keepsSys_setSlotAt rfl rfl rfl
  · exact State.keepsSys_setSlotAt rfl rfl rfl

theorem State.keepsSys_exitEnter (s : State) (site slot : Nat) : s.KeepsSys (s.exitEnter site slot) := by
  rw [State.exitEnter]
  dsimp only
  split
  · split
    · split
      · split
        · generalize ht : State.enqueue _ _ _ = t
          have hk : s.KeepsSys t := ht ▸ (State.keepsSys_setIss ..).trans (State.keepsSys_enqueue ..)
          refine .trans (.trans hk ?_) (State.keepsSys_setIss ..)
          exact State.keepsSys_setSlotAt rfl rfl rfl
        · exact State.keepsSys_setSlotAt rfl rfl rfl
      · exact State.keepsSys_setSlotAt rfl rfl rfl
    · exact .refl s
  · exact .refl s

theorem State.keepsSys_exitTemplates (s : State) (site slot : Nat) : s.KeepsSys (s.exitTemplates site slot) := by
  rw [State.exitTemplates]
  split
  · exact .foldl (fun t _ => t.keepsSys_exitEnter ..) _ s
  · exact .refl s

/-! ### The return (R347) -/

/-- The end of a bundle that returns: the slot is the one that the return has left, but for the templates of an EXIT. -/
theorem endBundle_rft (hd : s.iss.done = false) (hr : s.iss.rft = true) (ha : s.iss.after = none) :
    ((endBundle s).slotAt s.iss.site s.iss.slot).sys.intrap = false ∧
    ((endBundle s).slotAt s.iss.site s.iss.slot).pc = addrField s.cur.sys.epc := by
  have hs : s.KeepsSys (applyGlobal s.iss.site s.cur.sys.ctxid s.cur.sys.incarn s.iss.gwr (applyStores s.iss.site s.iss.slot s.iss.wr s)) :=
    (keepsSys_applyStores ..).trans (keepsSys_applyGlobal ..)
  rw [endBundle, hd]
  simp only [Bool.false_eq_true, if_false, hr, if_true, ha]
  generalize applyGlobal _ _ _ _ _ = s1 at hs ⊢
  generalize ht : State.markBusy _ _ = s2
  have h2 : s.KeepsSys s2 := by
    subst ht
    exact hs.trans (.of_slots (State.markBusy_slots ..))
  have hk {x : Slot} (he : x.sys.epc = (s2.slotAt s.iss.site s.iss.slot).sys.epc) :
      (((s2.setSlotAt s.iss.site s.iss.slot (leaveTrap x.drain s2)).exitTemplates s.iss.site s.iss.slot).slotAt s.iss.site s.iss.slot).sys.intrap = false ∧
      (((s2.setSlotAt s.iss.site s.iss.slot (leaveTrap x.drain s2)).exitTemplates s.iss.site s.iss.slot).slotAt s.iss.site s.iss.slot).pc =
        addrField s.cur.sys.epc := by
    have ht := State.keepsSys_exitTemplates (s2.setSlotAt s.iss.site s.iss.slot (leaveTrap x.drain s2)) s.iss.site s.iss.slot
    rw [ht.sys, ht.pc, State.slotAt_setSlotAt_same]
    refine ⟨rfl, congrArg addrField ?_⟩
    exact (congrArg SysRegs.epc x.drain_sys :).trans (he.trans (congrArg SysRegs.epc (h2.sys ..)))
  exact hk rfl

/-- Settles O7: a trap finds the slot drained and the same but for what the slew guard counts, and the bundle that returns leaves its slot what
`leaveTrap` made of it. -/
theorem trapAndReturn : Obligations.TrapAndReturn := by
  unfold Obligations.TrapAndReturn
  intro h f g s
  refine ⟨fun hg => ⟨asStep_ok (eff := effTrapS f) hg rfl, exec_rft_handler hg, exec_rft_outside hg⟩, fun k epc hm => ?_, endBundle_rft⟩
  have hd := s.cur_trapped_drain
  have hsys := Slot.sys_of_slewApart hd
  obtain ⟨hlatch, hsub, hch⟩ := landGo_rest (fun _ => true) s.cur.infl [] s.cur
  refine ⟨fun hi hb => ?handler, fun hf => ?fatal, fun ha => ?slewhold⟩
  case handler =>
    obtain ⟨hmem, hscratch⟩ := enterTrap_spares (s := s) k epc epc
    have htrapbase : s.trapped.cur.drain.sys.trapbase = s.cur.sys.trapbase := (congrArg (·.sys.trapbase) hd).trans (congrArg (·.trapbase) s.cur.drain_sys)
    rw [enterTrap_cur_handler hm hi hb]
    refine ⟨congrArg addrField htrapbase, ?sys, ?files, (congrArg Slot.latch hd).trans hlatch, (congrArg Slot.sub hd).trans hsub,
      (congrArg Slot.ch hd).trans hch, hmem, hscratch⟩
    case sys =>
      exact (congrArg (fun r : SysRegs => { r with
        epc := epcOf epc, cause := BitVec.ofNat 64 (FKind.cause k.kind k.origin), eval := k.eval, intrap := true, cycle := r.cycle + 4 }) hsys :)
    case files =>
      exact (congrArg (fun v : Files => { v with
        y := (s.trapped.forgetY s.cur 900).f.y, yv := (s.trapped.forgetY s.cur 900).f.yv }) (congrArg Slot.f hd) :)
  case fatal =>
    rw [enterTrap_cur_fatal hm hf]
    exact ⟨rfl, rfl, hsys⟩
  case slewhold =>
    have hkept : s.trapped.cur.drain.sys.slewhold = s.cur.drain.sys.slewhold :=
      (congrArg (·.slewhold) s.trapped.cur.drain_sys).trans ((s.slewhold_trapped ha).trans (congrArg (·.slewhold) s.cur.drain_sys).symm)
    by_cases hf : s.cur.sys.intrap = true ∨ s.cur.sys.trapbase.getLsbD 63 = false
    · rw [enterTrap_cur_fatal hm hf]
      exact hkept
    · obtain ⟨hi, hb⟩ := not_or.1 hf
      rw [enterTrap_cur_handler hm (Bool.eq_false_iff.2 hi) (Bool.not_eq_false _ ▸ hb)]
      exact hkept

end Sys2Proof.Machine
end

section
/-! PROOFS. Barriers at their homes (O40). -/

namespace Sys2Proof.Machine

variable {s : State} {r : BarReq} {b : Bar}

/-! ### The class of a phase (R270) -/

theorem phaseClass_eq {p q d : Nat} (hd : (p + 2 ^ 32 - q) % 2 ^ 32 = d) :
    phaseClass p q = if d = 0 then .current else if d = 1 then .next else if 2 ^ 31 ≤ d then .past else .far := by
  subst hd
  rfl

theorem phaseClass_current {p q : Nat} (hd : (p + 2 ^ 32 - q) % 2 ^ 32 = 0) : phaseClass p q = .current := phaseClass_eq hd

theorem phaseClass_next {p q : Nat} (hd : (p + 2 ^ 32 - q) % 2 ^ 32 = 1) : phaseClass p q = .next := phaseClass_eq hd

theorem phaseClass_past {p q d : Nat} (hd : (p + 2 ^ 32 - q) % 2 ^ 32 = d) (h : 2 ^ 31 ≤ d) : phaseClass p q = .past := by
  rw [phaseClass_eq hd, if_neg (by omega), if_neg (by omega), if_pos h]

theorem phaseClass_far {p q d : Nat} (hd : (p + 2 ^ 32 - q) % 2 ^ 32 = d) (h : 2 ≤ d) (hl : d < 2 ^ 31) : phaseClass p q = .far := by
  rw [phaseClass_eq hd, if_neg (by omega), if_neg (by omega), if_neg (by omega)]

/-! ### What a barrier reads -/

theorem State.bar_inc {ctx inc id : Nat} (hb : s.bar ctx inc id = some b) : b.inc = inc := by
  obtain ⟨c, -, hc⟩ := Option.bind_eq_some_iff.1 hb
  split at hc
  · cases hc
    assumption
  · cases hc

theorem State.bar_setBar {ctx inc id : Nat} (h : b.inc = inc) : (s.setBar ctx id b).bar ctx inc id = some b := by
  simp [State.bar, State.setBar, h]

theorem State.bar_barReply {ctx inc id v : Nat} {k : Reply} : (s.barReply r v k).bar ctx inc id = s.bar ctx inc id := rfl

/-! ### Completion of a phase (R271) -/

/-- The barrier of which a phase has completed. -/
def Bar.completed (b : Bar) : Bar := { b with phase := (b.phase + 1) % 2 ^ 32, arr := b.ahead, ahead := 0, w0 := b.w1, w1 := 0 }

theorem State.completeBar_short {ctx inc id n : Nat} (hb : s.bar ctx inc id = some b) (h : b.arr < b.count) :
    s.completeBar ctx inc id (n + 1) = (s, false) := by
  simp only [State.completeBar, hb, if_pos h]

theorem State.completeBar_full {ctx inc id n : Nat} (hb : s.bar ctx inc id = some b) (h : b.count ≤ b.arr) :
    ∃ t : State, s.completeBar ctx inc id (n + 1) = (((t.setBar ctx id b.completed).completeBar ctx inc id n).1, true) := by
  simp only [State.completeBar, hb, if_neg (Nat.not_lt.2 h)]
  exact ⟨_, rfl⟩

/-- A phase that completes is followed by one that is short of arrivals. -/
theorem State.completeBar_once {ctx inc id : Nat} (hb : s.bar ctx inc id = some b) (h : b.count ≤ b.arr) (ha : b.ahead < b.count) :
    (s.completeBar ctx inc id 2).2 = true ∧ (s.completeBar ctx inc id 2).1.bar ctx inc id = some b.completed := by
  obtain ⟨t, ht⟩ := State.completeBar_full (n := 1) hb h
  have hi : b.inc = inc := State.bar_inc hb
  have hc : (t.setBar ctx id b.completed).bar ctx inc id = some b.completed :=
    State.bar_setBar (b := b.completed) hi
  rw [ht, State.completeBar_short (n := 0) hc ha]
  exact ⟨rfl, hc⟩

/-! ### Events of a barrier's home (R270)

`phaseClass` is unknown to the kernel in these proofs: it would count down its 2 ^ 32. -/

section
variable (hs : s.staleHome r.ctx r.inc (barName r.id 0) = false) (hf : s.failedRicks.contains (s.barHome r.ctx r.id) = false)
include hs hf

theorem exec_binitAtHome_new (n : Nat) (hb : s.bar r.ctx r.inc r.id = none) (hr : (s.roomFor (s.barHome r.ctx r.id) 0 1).2.ok = true) :
    ∃ u, exec (.binitAtHome r n) s = .next u ∧ u.bar r.ctx r.inc r.id = some ⟨r.inc, n, 0, 0, 0, 0, 0⟩ := by
  have he : exec (.binitAtHome r n) s = .next (((s.roomFor (s.barHome r.ctx r.id) 0 1).1.setBar r.ctx r.id ⟨r.inc, n, 0, 0, 0, 0, 0⟩).barReply r
      (barStatus (((s.roomFor (s.barHome r.ctx r.id) 0 1).1.setBar r.ctx r.id ⟨r.inc, n, 0, 0, 0, 0, 0⟩).bar r.ctx r.inc r.id) none false false) .plain) := by
    show execBinitAtHome r n s = _
    simp only [execBinitAtHome, hs, hf, hb, hr, Bool.not_true, Bool.false_eq_true, if_false]
  exact ⟨_, he, State.bar_barReply.trans (State.bar_setBar rfl)⟩

theorem exec_binitAtHome_refused {n : Nat} (hb : s.bar r.ctx r.inc r.id = some b) (hn : n < b.ahead) :
    exec (.binitAtHome r n) s = .next (s.barReply r (barStatus (some b) (some .barcount) false false) .plain) := by
  show execBinitAtHome r n s = _
  simp only [execBinitAtHome, hs, hf, hb, hn, Bool.false_eq_true, if_false, if_true]

theorem exec_binitAtHome_count {n : Nat} (hb : s.bar r.ctx r.inc r.id = some b) (hn : b.ahead ≤ n) :
    let u := (s.setBar r.ctx r.id { b with count := n }).completeBar r.ctx r.inc r.id 2
    exec (.binitAtHome r n) s = .next (u.1.barReply r (barStatus (u.1.bar r.ctx r.inc r.id) none u.2 false) .plain) := by
  show execBinitAtHome r n s = _
  simp only [execBinitAtHome, hs, hf, hb, Nat.not_lt.2 hn, Bool.false_eq_true, if_false]

theorem exec_arrivalAtHome_none (hb : s.bar r.ctx r.inc r.id = none) :
    exec (.arrivalAtHome r) s = .next (s.refuseArrival r none .barcount) := by
  show execArrivalAtHome r s = _
  simp only [execArrivalAtHome, hs, hf, hb, Bool.false_eq_true, if_false]

theorem exec_arrivalAtHome_current (hb : s.bar r.ctx r.inc r.id = some b) (hc : phaseClass r.phase b.phase = .current) :
    let u := (s.setBar r.ctx r.id { b with arr := b.arr + 1 }).completeBar r.ctx r.inc r.id 2
    exec (.arrivalAtHome r) s = .next (u.1.barReply r (barStatus (u.1.bar r.ctx r.inc r.id) none u.2 false) .plain) := by
  show execArrivalAtHome r s = _
  unfold execArrivalAtHome
  obtain ⟨pc, hpc⟩ := exists_eq (a' := phaseClass)
  rw [← hpc] at hc ⊢
  simp only [hs, hf, hb, hc, Bool.false_eq_true, if_false]

theorem exec_arrivalAtHome_next (hb : s.bar r.ctx r.inc r.id = some b) (hc : phaseClass r.phase b.phase = .next) :
    exec (.arrivalAtHome r) s = if b.ahead = b.count then .next (s.refuseArrival r (some b) .barcount)
      else .next ((s.setBar r.ctx r.id { b with ahead := b.ahead + 1 }).barReply r (barStatus (some b) none false true) .plain) := by
  show execArrivalAtHome r s = _
  unfold execArrivalAtHome
  obtain ⟨pc, hpc⟩ := exists_eq (a' := phaseClass)
  rw [← hpc] at hc ⊢
  simp only [hs, hf, hb, hc, Bool.false_eq_true, if_false]

theorem exec_arrivalAtHome_refused (hb : s.bar r.ctx r.inc r.id = some b) (hc : phaseClass r.phase b.phase = .past ∨ phaseClass r.phase b.phase = .far) :
    exec (.arrivalAtHome r) s = .next (s.refuseArrival r (some b) .barphase) := by
  show execArrivalAtHome r s = _
  unfold execArrivalAtHome
  obtain ⟨pc, hpc⟩ := exists_eq (a' := phaseClass)
  rw [← hpc] at hc ⊢
  obtain hc | hc := hc <;> simp only [hs, hf, hb, hc, Bool.false_eq_true, if_false]

variable {sub : Nat} {land : Word} (hd : r.who.dst ≠ Reg.dead)
include hd

theorem exec_bwaitAtHome_none (hb : s.bar r.ctx r.inc r.id = none) :
    exec (.bwaitAtHome r sub land) s = .next (s.barReply r (barStatus none (some .barcount) false false)
      (.bwait r.id sub land r.phase (some .barcount) false r.orig)) := by
  show execBwaitAtHome r sub land s = _
  simp only [execBwaitAtHome, hs, hf, hb, hd, decide_false, Bool.false_eq_true, if_false]

theorem exec_bwaitAtHome_some (hb : s.bar r.ctx r.inc r.id = some b) :
    exec (.bwaitAtHome r sub land) s = .next (match phaseClass r.phase b.phase with
      | .current => (s.setBar r.ctx r.id { b with w0 := b.w0 + 1 }).barReply r (barStatus (some b) none false false) (.bwait r.id sub land r.phase none false r.orig)
      | .next => (s.setBar r.ctx r.id { b with w1 := b.w1 + 1 }).barReply r (barStatus (some b) none false false) (.bwait r.id sub land r.phase none false r.orig)
      | .past => s.barReply r (barStatus (some b) none true false) (.bwait r.id sub land r.phase none true r.orig)
      | .far => s.barReply r (barStatus (some b) (some .barphase) false false) (.bwait r.id sub land r.phase (some .barphase) false r.orig)) := by
  show execBwaitAtHome r sub land s = _
  unfold execBwaitAtHome
  obtain ⟨pc, hpc⟩ := exists_eq (a' := phaseClass)
  rw [← hpc]
  simp only [hs, hf, hb, hd, decide_false, Bool.false_eq_true, if_false]
  cases pc r.phase b.phase <;> rfl

end

/-- Settles O40, by the state of the barrier and the class of the phase that the request names. -/
theorem barrierEvents : Obligations.BarrierEvents := by
  unfold Obligations.BarrierEvents
  intro s r hs hf _ bar put waits
  refine ⟨fun hb => ⟨fun n hr => exec_binitAtHome_new hs hf n hb hr, exec_arrivalAtHome_none hs hf hb,
    fun sub land hd => exec_bwaitAtHome_none hs hf hd hb⟩, fun b hb _ => ?_⟩
  have hi : b.inc = r.inc := State.bar_inc hb
  refine ⟨fun n hn => exec_binitAtHome_refused hs hf hb hn, fun n hn => exec_binitAtHome_count hs hf hb hn, fun n _ hn => ?counted,
    fun hd => ⟨exec_arrivalAtHome_current hs hf hb (phaseClass_current hd), fun hn => ?short, fun hn ha => ?full⟩, fun hd hn => ?ahead,
    fun hd hn => ?refused, fun hd => ?phase, fun sub land hdst => ⟨fun hd => ?_, fun hd => ?_, fun hd => ?_, fun hd hl => ?_⟩⟩
  case counted =>
    have hc : (s.setBar r.ctx r.id { b with count := n }).bar r.ctx r.inc r.id = some { b with count := n } := State.bar_setBar hi
    rw [show put _ = _ from State.completeBar_short hc hn]
    exact hc
  case short =>
    have hc : (s.setBar r.ctx r.id { b with arr := b.arr + 1 }).bar r.ctx r.inc r.id = some { b with arr := b.arr + 1 } := State.bar_setBar hi
    rw [show put _ = _ from State.completeBar_short hc hn]
    exact ⟨hc, rfl⟩
  case full =>
    have hc : (s.setBar r.ctx r.id { b with arr := b.arr + 1 }).bar r.ctx r.inc r.id = some { b with arr := b.arr + 1 } := State.bar_setBar hi
    exact State.completeBar_once (b := { b with arr := b.arr + 1 }) hc hn.ge ha
  case ahead => rw [exec_arrivalAtHome_next hs hf hb (phaseClass_next hd), if_neg hn]
  case refused => rw [exec_arrivalAtHome_next hs hf hb (phaseClass_next hd), if_pos hn]
  case phase =>
    refine exec_arrivalAtHome_refused hs hf hb ?_
    obtain hl | hl := Nat.lt_or_ge ((r.phase + 2 ^ 32 - b.phase) % 2 ^ 32) (2 ^ 31)
    · exact .inr (phaseClass_far rfl hd hl)
    · exact .inl (phaseClass_past rfl hl)
  all_goals rw [exec_bwaitAtHome_some hs hf hdst hb]
  · rw [phaseClass_current hd]
  · rw [phaseClass_next hd]
  · rw [phaseClass_past rfl hd]
  · rw [phaseClass_far rfl hd hl]

end Sys2Proof.Machine
end

section
/-! PROOFS. Syllables of barriers (O31) and of steps (O32). -/

namespace Sys2Proof.Machine

variable {s t : State} {h : Hdr} {f : RRR}

/-! ### BINIT and BARV (R273 to R275) -/

/-- A request to a barrier's home goes last into the agenda, over the tile's port. -/
theorem State.sendBar_getLast (s : State) (r : BarReq) (ev : Instr) (rel : Option RelWait) : (s.sendBar r ev rel).agenda.getLast? =
    some ⟨s.time, barChan s.iss.site s.iss.slot r.ctx r.id, ev, rel, [⟨s.iss.site, r.ctx, 64, 1⟩], [], []⟩ := List.getLast?_concat

theorem effBinit_ok (ha : (s.readS 32 f.a).toNat < 4096) (hb : s.readS 24 f.b ≠ 0) (hn : (s.readS 24 f.b).toNat ≤ 16777215) :
    effBinit f s = .ok ((s.setCur (s.cur.await (dstS f.d))).sendBar (s.barReq (dstS f.d) (s.readS 32 f.a))
      (.binitAtHome (s.barReq (dstS f.d) (s.readS 32 f.a)) (s.readS 24 f.b).toNat) none) :=
  (if_neg (Nat.not_le.mpr ha)).trans (if_neg (not_or.mpr ⟨hb, Nat.not_lt.mpr hn⟩))

theorem effBinit_barcount (ha : (s.readS 32 f.a).toNat < 4096) (hb : s.readS 24 f.b = 0 ∨ 16777215 < (s.readS 24 f.b).toNat) :
    effBinit f s = .trap ⟨.barcount, 0, s.readS 24 f.b⟩ :=
  (if_neg (Nat.not_le.mpr ha)).trans (if_pos hb)

theorem barCheck_eq_true {a : Word} (ha : a &&& 0xFFFFF000 = 0) : barCheck a = true := decide_eq_true ha

theorem barCheck_eq_false {a : Word} (ha : a &&& 0xFFFFF000 ≠ 0) : barCheck a = false := decide_eq_false ha

theorem effBarv_rsvfield (ha : s.readS 32 f.a &&& 0xFFFFF000 ≠ 0) : effBarv f s = .trap ⟨.rsvfield, 0, s.readS 32 f.a⟩ :=
  if_pos (by rw [barCheck_eq_false ha]; rfl)

/-- The state from which a BARV sends: its register is pending, and with REL its release part has begun (R275). -/
def State.barReleased (s : State) (d : Reg) (rel : Bool) : State :=
  if rel then (s.setCur (s.cur.await d)).beginRelease .wafer else s.setCur (s.cur.await d)

theorem State.acksOnly_barReleased (s : State) (d : Reg) (rel : Bool) : (s.setCur (s.cur.await d)).AcksOnly (s.barReleased d rel) := by
  rw [State.barReleased]
  split
  · exact State.acksOnly_beginRelease ..
  · exact .refl _

theorem State.barReleased_time (s : State) (d : Reg) (rel : Bool) : (s.barReleased d rel).time = s.time := by
  rw [State.barReleased]
  split
  · exact State.beginRelease_time ..
  · rfl

theorem effBarv_ok (ha : s.readS 32 f.a &&& 0xFFFFF000 = 0) : effBarv f s =
    .ok ((s.barReleased (dstS f.d) (f.c.getLsbD 0)).sendBar (s.barReq (dstS f.d) (s.readS 32 f.a))
      (.arrivalAtHome (s.barReq (dstS f.d) (s.readS 32 f.a))) ((s.barReleased (dstS f.d) (f.c.getLsbD 0)).relWait (f.c.getLsbD 0) false)) :=
  if_neg (by rw [barCheck_eq_true ha]; decide)

/-- A BARV's arrival goes last into the agenda, after what its release part has written back, and its register is pending. -/
theorem State.barReleased_sends (s : State) (d : Reg) (rel : Bool) (r : BarReq) (ev : Instr) (w : Option RelWait) :
    (((s.barReleased d rel).sendBar r ev w).agenda.getLast? =
      some ⟨s.time, barChan s.iss.site s.iss.slot r.ctx r.id, ev, w, [⟨s.iss.site, r.ctx, 64, 1⟩], [], []⟩) ∧
    (d ≠ .a 0 → d ∈ ((s.barReleased d rel).sendBar r ev w).cur.pend) := by
  have hacks := s.acksOnly_barReleased d rel
  refine ⟨?sent, fun hd => ?pending⟩
  case sent =>
    rw [State.sendBar_getLast, State.barReleased_time, hacks.1]
    rfl
  case pending =>
    have hcur := congrArg Slot.pend hacks.cur
    rw [State.cur_setCur] at hcur
    exact hcur ▸ s.cur.mem_await_pend hd

/-! ### BWAIT (R276) -/

theorem bwaitCheck_rsvfield (ha : s.readS 32 f.a &&& 0xFFFFF000 ≠ 0) : bwaitCheck f s = some ⟨.rsvfield, 0, s.readS 32 f.a⟩ :=
  if_pos (by rw [barCheck_eq_false ha]; rfl)

theorem waitBwait_of_trap {k : TrapInfo} (hc : bwaitCheck f s = some k) : waitBwait f s = none := by
  rw [waitBwait, waitBwaitReply, hc]

theorem waitBwait_of_answer {w : Word × Option FKind × Bool} (hc : bwaitCheck f s = none) (hw : s.cur.bw = some w) : waitBwait f s = none := by
  rw [waitBwait, waitBwaitReply, hc, hw]

theorem effBwait_trap {k : TrapInfo} (hc : bwaitCheck f s = some k) : effBwait f s = .trap k := by
  rw [effBwait, hc]

/-- What the first issue of a BWAIT does: unless its register is pending already, it leaves it pending and asks its home (R276). -/
def askBwait (f : RRR) (r : BarReq) (s : State) : State :=
  if s.cur.pend.contains (dstS f.d) then s
  else (s.setCur (s.cur.await (dstS f.d))).sendBar r (.bwaitAtHome r (f.c.toNat % 16) (s.readS 24 f.b)) none

theorem waitBwait_asks (hc : bwaitCheck f s = none) (hw : s.cur.bw = none) :
    waitBwait f s = some ⟨false, askBwait f (s.barReq (dstS f.d) (s.readS 32 f.a))⟩ := by
  rw [waitBwait, waitBwaitReply, hc, hw]
  rfl

theorem askBwait_setCur {y : Slot} {r : BarReq} (hf : y.f = s.cur.f) (hp : y.pend.contains (dstS f.d) = false) :
    (askBwait f r (s.setCur y)).agenda = s.agenda ++ [⟨s.time, barChan s.iss.site s.iss.slot r.ctx r.id,
      .bwaitAtHome r (f.c.toNat % 16) (s.readS 24 f.b), none, [⟨s.iss.site, r.ctx, 64, 1⟩], [], []⟩] := by
  rw [askBwait, State.cur_setCur, if_neg (Bool.eq_false_iff.mp hp), State.readS_setCur hf]
  rfl

/-- A bundle that is held acts on the state that it finds. -/
theorem holdBundle_eq_const (count : Bool) (act : State → State) (s : State) :
    holdBundle count act s = holdBundle count (fun _ => act (s.setCur { s.cur with wpWait := none })) s := rfl

theorem exec_bwait_asks (hg : s.guard h = true) (hc : bwaitCheck f s = none) (hw : s.cur.bw = none) :
    ∃ s1, exec (.bwait h f) s = .next (holdBundle false (fun _ => s1) s) ∧ (s.cur.pend.contains (dstS f.d) = false → s1.agenda = s.agenda ++
      [⟨s.time, barChan s.iss.site s.iss.slot s.cur.sys.ctxid ((s.readS 32 f.a).toNat % 4096),
        .bwaitAtHome (s.barReq (dstS f.d) (s.readS 32 f.a)) (f.c.toNat % 16) (s.readS 24 f.b), none, [⟨s.iss.site, s.cur.sys.ctxid, 64, 1⟩], [], []⟩]) := by
  have he : exec (.bwait h f) s = .next (holdBundle false (askBwait f (s.barReq (dstS f.d) (s.readS 32 f.a))) s) := by
    show asStepW h (waitBwait f) (effBwait f) s = _
    rw [asStepW, if_pos hg, waitBwait_asks hc hw]
  exact ⟨_, he.trans (congrArg _ (holdBundle_eq_const ..)), askBwait_setCur (y := { s.cur with wpWait := none }) rfl⟩

theorem effBwait_refused {v : Word} {k : FKind} {done : Bool} (hc : bwaitCheck f s = none) (hw : s.cur.bw = some (v, some k, done)) :
    effBwait f s = .trap ⟨k, 0, s.readS 32 f.a⟩ := by
  rw [effBwait, hc, hw]

theorem effBwait_completed {v : Word} (hc : bwaitCheck f s = none) (hw : s.cur.bw = some (v, none, true)) :
    effBwait f s = .ok ((s.setCur { s.cur with bw := none }).selfReply (dstS f.d) (v.zeroExtend 1024) .plain) := by
  rw [effBwait, hc, hw]
  rfl

/-! ### The wait for a completion copy (R276) -/

theorem State.keepsSys_setSub (s : State) (site slot n : Nat) (u : SubSlot) : s.KeepsSys (s.setSub site slot n u) :=
  State.keepsSys_setSlotAt rfl rfl rfl

theorem State.keepsSys_sendPort (s : State) (site ctx chan : Nat) (ev : Instr) : s.KeepsSys (s.sendPort site ctx chan ev) := .of_slots rfl

theorem State.keepsSys_freeAreas (s : State) (site slot : Nat) : s.KeepsSys (s.freeAreas site slot) := by
  refine .foldl (fun t n => ?_) _ s
  dsimp only
  split
  · exact (t.keepsSys_setSub ..).trans (State.keepsSys_sendPort ..)
  · exact .refl t

theorem State.keepsSys_rejoinFrom (s : State) (site slot : Nat) (x : Slot) : s.KeepsSys (s.rejoinFrom site slot x) := by
  rw [State.rejoinFrom]
  split
  · rw [State.rejoin]
    refine .trans ?_ (.of_slots (State.markBusy_slots ..))
    exact .trans (.of_slots (State.setTileAt_slots ..)) (State.keepsSys_setSlotAt rfl rfl rfl)
  · exact .refl s

theorem State.keepsSys_endSub (s : State) (site slot n : Nat) (withdraw : Bool) : s.KeepsSys (s.endSub site slot n withdraw) := by
  have hw : s.KeepsSys (if withdraw then s.withdraw site slot n false else s) := .of_slots (State.slots_ite (State.withdraw_slots ..) rfl)
  rw [State.endSub]
  refine .trans ?_ (((State.keepsSys_setSub ..).trans (State.keepsSys_freeAreas ..)).trans (State.keepsSys_rejoinFrom ..))
  split
  · exact hw.trans (.of_slots (State.scratchForget_slots ..))
  · exact hw

/-- The waiter that a BWAIT or a GWAIT leaves: its slot is ARMED for the completion copy, its registers are the same. -/
theorem State.subscribeWaiter_cur {site slot n : Nat} (hsite : s.iss.site = site) (hslot : s.iss.slot = slot) (hn : n < 16) (name land : Word) :
    (s.subscribeWaiter site slot n name land).cur.subAt n =
      { SubSlot.idle with st := .armed, name := name, land := land.toNat, bytes := 64, waiter := true } ∧
    (s.subscribeWaiter site slot n name land).cur.sys = s.cur.sys ∧ (s.subscribeWaiter site slot n name land).cur.yld = s.cur.yld := by
  subst hsite hslot
  rw [State.subscribeWaiter]
  generalize ht : (if ((s.slotAt s.iss.site s.iss.slot).subAt n).st == .idle then s else _ : State) = t
  have hk : s.KeepsSys t ∧ t.iss = s.iss := by
    subst ht
    split
    · exact ⟨.refl s, rfl⟩
    · exact ⟨s.keepsSys_endSub .., (s.stays_endSub ..).iss⟩
  obtain ⟨hk, hi⟩ := hk
  have hcur (x : Slot) : (t.setSlotAt s.iss.site s.iss.slot x).cur = x := by
    rw [State.cur, State.setSlotAt_iss, hi, State.slotAt_setSlotAt_same]
  refine ⟨?_, ?_, ?_⟩
  · exact (congrArg (·.subAt n) (hcur _)).trans (Slot.subAt_setSub_same _ _ hn)
  · exact (congrArg Slot.sys (hcur _)).trans (hk.sys ..)
  · exact (congrArg Slot.yld (hcur _)).trans (hk.yld ..)

@[simp] theorem Slot.await_yld (x : Slot) (r : Reg) : (x.await r).yld = x.yld := by
  rw [Slot.await]
  split <;> rfl

theorem State.selfReply_setCur_cur (s : State) (y : Slot) (d : Reg) (v : VReg) (k : Reply) : ((s.setCur y).selfReply d v k).cur = y.await d :=
  (State.cur_setCur ..).trans (congrArg (fun x : Slot => x.await d) (State.cur_setCur ..))

/-- A BWAIT whose phase has not completed: it subscribes, and parks or waits. -/
theorem effBwait_waits {v : Word} (hc : bwaitCheck f s = none) (hw : s.cur.bw = some (v, none, false))
    (hh : s.cur.nameHeld (f.c.toNat % 16) (barName ((s.readS 32 f.a).toNat % 4096) ((s.readS 32 f.a).toNat / 2 ^ 32)) = false) :
    ∃ t, effBwait f s = .ok t ∧ (t.cur.subAt (f.c.toNat % 16)).st = .armed ∧
      (t.cur.subAt (f.c.toNat % 16)).name = barName ((s.readS 32 f.a).toNat % 4096) ((s.readS 32 f.a).toNat / 2 ^ 32) ∧
      (if s.cur.yld = true ∧ s.cur.sys.intrap = false then t.cur.park = some (.slot (f.c.toNat % 16)) else t.cur.wait = .bwait (f.c.toNat % 16)) := by
  have hlt : f.c.toNat % 16 < 16 := Nat.mod_lt _ (by decide)
  generalize hname : barName ((s.readS 32 f.a).toNat % 4096) ((s.readS 32 f.a).toNat / 2 ^ 32) = name at hh ⊢
  obtain ⟨harmed, hsys, hyld⟩ := State.subscribeWaiter_cur (s := (s.setCur { s.cur with bw := none }).selfReply (dstS f.d) (v.zeroExtend 1024) .plain)
    (site := s.iss.site) (slot := s.iss.slot) rfl rfl hlt name (s.readS 24 f.b)
  have he : effBwait f s = .ok (
      let s1 := ((s.setCur { s.cur with bw := none }).selfReply (dstS f.d) (v.zeroExtend 1024) .plain).subscribeWaiter s.iss.site s.iss.slot
        (f.c.toNat % 16) name (s.readS 24 f.b)
      s1.setCur (if s1.cur.yld && !s1.cur.sys.intrap then { s1.cur with park := some (.slot (f.c.toNat % 16)) }
        else { s1.cur with wait := .bwait (f.c.toNat % 16) })) := by
    rw [effBwait, hc, hw]
    dsimp only
    rw [hname, hh]
    rfl
  refine ⟨_, he, ?_⟩
  dsimp only
  have hcur : ((s.setCur { s.cur with bw := none }).selfReply (dstS f.d) (v.zeroExtend 1024) .plain).cur =
      ({ s.cur with bw := none } : Slot).await (dstS f.d) := State.selfReply_setCur_cur ..
  replace hsys := hsys.trans ((congrArg Slot.sys hcur).trans (Slot.await_sys ..))
  replace hyld := hyld.trans ((congrArg Slot.yld hcur).trans (Slot.await_yld ..))
  generalize State.subscribeWaiter _ s.iss.site s.iss.slot _ _ _ = s1 at harmed hsys hyld ⊢
  have hst := congrArg SubSlot.st harmed
  have hnm := congrArg SubSlot.name harmed
  rw [State.cur_setCur, hsys, hyld]
  by_cases hy : s.cur.yld = true ∧ s.cur.sys.intrap = false
  · rw [if_pos hy, if_pos (by simp [hy])]
    exact ⟨hst, hnm, rfl⟩
  · rw [if_neg hy, if_neg (by simpa using hy)]
    exact ⟨hst, hnm, rfl⟩

/-- Settles O31, syllable by syllable: operands that hold and operands that do not, and for BWAIT whether its home has answered, and how. -/
theorem barrierSyllables : Obligations.BarrierSyllables := by
  unfold Obligations.BarrierSyllables
  intro h f s hg
  refine ⟨fun ha hb hn => ⟨_, _, asStep_ok (eff := effBinit f) hg (effBinit_ok ha hb hn), State.sendBar_getLast .., rfl, fun hd => ?pending⟩,
    fun ha hb => asStep_trap (eff := effBinit f) hg (effBinit_barcount ha hb), fun ha => ?barv, fun ha i hi => ?rsvfield,
    fun hc => ⟨exec_bwait_asks hg hc,
      fun v k done hw => asStepW_trap (wait := waitBwait f) hg (waitBwait_of_answer hc hw) (effBwait_refused hc hw),
      fun v hw => asStepW_ok (wait := waitBwait f) hg (waitBwait_of_answer hc hw) (effBwait_completed hc hw), fun v hw hh => ?waits⟩⟩
  case pending =>
    have hcur : (s.setCur (s.cur.await (dstS f.d))).cur = s.cur.await (dstS f.d) := State.cur_setCur ..
    exact (congrArg Slot.pend hcur).symm ▸ s.cur.mem_await_pend hd
  case barv =>
    obtain ⟨hsent, hpend⟩ := s.barReleased_sends (dstS f.d) (f.c.getLsbD 0) (s.barReq (dstS f.d) (s.readS 32 f.a))
      (.arrivalAtHome (s.barReq (dstS f.d) (s.readS 32 f.a))) ((s.barReleased (dstS f.d) (f.c.getLsbD 0)).relWait (f.c.getLsbD 0) false)
    exact ⟨_, _, asStep_ok (eff := effBarv f) hg (effBarv_ok ha), hsent, State.relWait_isSome .., hpend⟩
  case rsvfield =>
    simp only [List.mem_cons, List.not_mem_nil, or_false] at hi
    rcases hi with rfl | rfl
    · exact asStep_trap (eff := effBarv f) hg (effBarv_rsvfield ha)
    · exact asStepW_trap (wait := waitBwait f) hg (waitBwait_of_trap (bwaitCheck_rsvfield ha)) (effBwait_trap (bwaitCheck_rsvfield ha))
  case waits =>
    obtain ⟨t, he, ht⟩ := effBwait_waits hc hw hh
    exact ⟨t, asStepW_ok (wait := waitBwait f) hg (waitBwait_of_answer hc hw) he, ht⟩

/-! ### STEPO, STEPC and SLACK (R294 to R297) -/

/-- Settles O32: each syllable is `askGovernor` of its operation where its operands hold. -/
theorem stepSyllables : Obligations.StepSyllables := by
  intro h f s hg a b asks
  refine ⟨fun ha hb hl => ?opens, fun ha => asStep_trap (eff := effStepo f) hg (if_pos ha), fun ha hb => ?time,
    asStep_ok (eff := effStepc f) hg rfl, asStep_ok (eff := effSlack f) hg rfl⟩
  case opens =>
    exact asStep_ok (eff := effStepo f) hg ((if_neg (Nat.not_le.mpr ha)).trans (if_neg (not_or.mpr ⟨hb, Nat.not_le.mpr hl⟩)))
  case time => exact asStep_trap (eff := effStepo f) hg ((if_neg (Nat.not_le.mpr ha)).trans (if_pos hb))

end Sys2Proof.Machine
end

section
/-! PROOFS. What reset leaves (O59). -/

namespace Sys2Proof.Machine

/-- Settles O59: every map of the reset state is empty, and what is not in a map reads as its default. -/
theorem resetState : Obligations.ResetState :=
  ⟨⟨Memory.wf_nil, Memory.wf_nil⟩, rfl, rfl, rfl, rfl, fun _ => rfl, fun _ => ⟨rfl, rfl⟩, fun _ => rfl, fun _ => rfl, fun _ _ => rfl⟩

end Sys2Proof.Machine
end

section
/-! PROOFS. Events of steps and of the governor (O41). -/

namespace Sys2Proof.Machine

/-! ### Lookups in maps that are listed or mapped -/

/-- A map listed from a partial function has the function's value at each key it was listed over. -/
theorem KMap.get?_filterMap {α : Type} (F : Nat → Option α) (l : List Nat) (k : Nat) :
    KMap.get? (l.filterMap (fun d => (F d).map (d, ·))) k = if k ∈ l then F k else none := by
  induction l with
  | nil => rfl
  | cons j l ih =>
    cases hF : F j with
    | none =>
      simp only [List.filterMap_cons, hF, Option.map_none, ih, List.mem_cons]
      grind
    | some x =>
      simp only [List.filterMap_cons, hF, Option.map_some, KMap.get?, ih, List.mem_cons]
      grind

theorem KMap.get?_map_val {α β : Type} (f : α → β) (m : KMap α) (k : Nat) :
    KMap.get? (m.map (fun p => (p.1, f p.2))) k = (KMap.get? m k).map f := by
  induction m with
  | nil => rfl
  | cons p m ih =>
    simp only [List.map_cons, KMap.get?, ih]
    split <;> rfl

theorem KMap.mem_of_get? {α : Type} {m : KMap α} {k : Nat} {x : α} (h : KMap.get? m k = some x) : (k, x) ∈ m := by
  induction m with
  | nil => exact nomatch h
  | cons p m ih =>
    simp only [KMap.get?] at h
    split at h
    next hk => exact List.mem_cons.mpr (.inl (Prod.ext hk.symm (Option.some.inj h).symm))
    next => exact List.mem_cons_of_mem p (ih h)

variable {s : State} {ctx inc id g stamp t0 dl seq : Nat} {who : Asker} {e : StepEnt}

/-! ### The entries of steps under the updates of an event -/

theorem State.inc_of_stepAt (h : s.stepAt ctx inc id = some e) : e.inc = inc := by
  obtain ⟨x, _, hx⟩ := Option.bind_eq_some_iff.mp h
  split at hx
  next hi => exact Option.some.inj hx ▸ hi
  next => exact nomatch hx

theorem State.stepAt_of_get? (h : KMap.get? s.steps (stepKey ctx id) = some e) (hi : e.inc = inc) : s.stepAt ctx inc id = some e := by
  rw [State.stepAt, h]
  exact if_pos hi

theorem State.stepAt_setStep_same (hi : e.inc = inc) : (s.setStep ctx id e).stepAt ctx inc id = some e :=
  State.stepAt_of_get? (KMap.get?_set_same ..) hi

theorem State.stepAt_setStep_other {j : Nat} (h : j ≠ id) : (s.setStep ctx id e).stepAt ctx inc j = s.stepAt ctx inc j := by
  unfold State.stepAt State.setStep
  rw [KMap.get?_set_other _ _ _ _ (by unfold stepKey; omega)]

theorem State.get?_stepEvent (s : State) (ctx inc id : Nat) (e : StepEnt) (kind : Nat) :
    KMap.get? (s.stepEvent ctx inc id e kind).steps (stepKey ctx id) = some { e with copies := e.copies + 1 } := KMap.get?_set_same ..

theorem State.stepAt_stepEvent_other {j kind : Nat} (h : j ≠ id) : (s.stepEvent ctx inc id e kind).stepAt ctx inc j = s.stepAt ctx inc j :=
  State.stepAt_setStep_other h

theorem State.steps_warnMembers (s : State) (ctx g why : Nat) : (s.warnMembers ctx g why).steps = s.steps := by
  unfold State.warnMembers
  generalize s.members ctx g = l
  induction l generalizing s with
  | nil => rfl
  | cons m l ih =>
    refine (ih _).trans ?_
    dsimp only
    split
    · split <;> rfl
    · rfl

theorem State.steps_record (s : State) (w : RecWho) (b : RecBody) : (s.record w b).steps = s.steps := by
  unfold State.record
  split <;> rfl

/-! ### Requests (R295 to R297) -/

section
variable (hs : s.stale agGov ctx inc = false)
include hs

theorem stepRequest_open (hf : (List.range 16).find? (fun id => (s.stepAt ctx inc id).isNone) = some id) :
    execStepRequestAtGovernor ctx inc (.open_ g t0 dl) who s =
      .next (((s.setCtx ctx { s.ctx ctx with nseq := ((s.ctx ctx).nseq + 1) % 2 ^ 28 }).setStep ctx id
        { inc := inc, open_ := true, seq := (s.ctx ctx).nseq, group := g, dl := dl, t0 := t0, outcome := .pending, done := 0, risked := false,
          copies := 0, slack := none, why := 0, dom := 0 }).nameReply who ctx inc (stepHandle id (s.ctx ctx).nseq)) := by
  rw [execStepRequestAtGovernor, hs]
  simp only [hf]
  rfl

theorem stepRequest_open_full (hf : ∀ id < 16, (s.stepAt ctx inc id).isSome = true) :
    execStepRequestAtGovernor ctx inc (.open_ g t0 dl) who s = .next (s.nameReply who ctx inc 352) := by
  have hnone : (List.range 16).find? (fun id => (s.stepAt ctx inc id).isNone) = none :=
    List.find?_eq_none.mpr fun id hid => by simp [Option.isSome_iff_ne_none.mp (hf id (List.mem_range.mp hid))]
  rw [execStepRequestAtGovernor, hs]
  simp only [hnone]
  rfl

theorem stepRequest_close_none (ho : s.openStep ctx inc id seq = none) :
    execStepRequestAtGovernor ctx inc (.close id seq) who s = .next (s.nameReply who ctx inc 352) := by
  rw [execStepRequestAtGovernor, hs]
  simp only [ho]
  rfl

theorem stepRequest_close (ho : s.openStep ctx inc id seq = some e) : execStepRequestAtGovernor ctx inc (.close id seq) who s =
    .next ((s.stepEvent ctx inc id { e with open_ := false } 4).nameReply who ctx inc (stepHandle id seq + e.outcome.ctorIdx * 2 ^ 10)) := by
  rw [execStepRequestAtGovernor, hs]
  simp only [ho]
  rfl

theorem stepRequest_slack_none (ho : s.openStep ctx inc id seq = none) :
    execStepRequestAtGovernor ctx inc (.slack id seq) who s = .next (s.nameReply who ctx inc (2 ^ 63)) := by
  rw [execStepRequestAtGovernor, hs]
  simp only [ho]
  rfl

theorem stepRequest_slack (ho : s.openStep ctx inc id seq = some e) : execStepRequestAtGovernor ctx inc (.slack id seq) who s =
    .next (s.nameReply who ctx inc (BitVec.ofInt 64 (e.report s.time)).toNat) := by
  rw [execStepRequestAtGovernor, hs]
  simp only [ho]
  rfl

end

/-! ### Completion notices (R282, R284) -/

/-- What a completion of a group, stamped `stamp`, does to the step `id` of its context. -/
def State.noteDone (ctx inc g stamp : Nat) (s : State) (id : Nat) : State :=
  match s.stepAt ctx inc id with
  | some e =>
    if e.open_ ∧ e.group = g ∧ e.t0 < stamp ∧ e.done = 0 then
      if e.outcome = .pending ∧ stamp ≤ e.dl then s.stepEvent ctx inc id { e with done := stamp, outcome := .met } 2
      else s.setStep ctx id { e with done := stamp }
    else s
  | none => s

theorem execCompletionNotice_current (hs : s.stale agGov ctx inc = false) :
    execCompletionNotice ctx inc g stamp s = .next ((List.range 16).foldl (State.noteDone ctx inc g stamp) s) := by
  rw [execCompletionNotice, hs]
  rfl

theorem State.stepAt_noteDone_other {j : Nat} (h : j ≠ id) : (s.noteDone ctx inc g stamp id).stepAt ctx inc j = s.stepAt ctx inc j := by
  unfold State.noteDone
  split
  · split
    · split
      · exact State.stepAt_stepEvent_other h
      · exact State.stepAt_setStep_other h
    · rfl
  · rfl

/-- The step that a completion decides: its time of completion, and MET where it is by DL and the step was PENDING. -/
theorem State.stepAt_noteDone_same (he : s.stepAt ctx inc id = some e) (ho : e.open_ = true) (hg : e.group = g) (ht : e.t0 < stamp)
    (hd : e.done = 0) : ∃ e', (s.noteDone ctx inc g stamp id).stepAt ctx inc id = some e' ∧ e'.done = stamp ∧
      e'.outcome = if e.outcome = .pending ∧ stamp ≤ e.dl then .met else e.outcome := by
  have hi := State.inc_of_stepAt he
  unfold State.noteDone
  simp only [he]
  rw [if_pos ⟨ho, hg, ht, hd⟩]
  by_cases hm : e.outcome = .pending ∧ stamp ≤ e.dl
  · rw [if_pos hm, if_pos hm]
    exact ⟨_, State.stepAt_of_get? (State.get?_stepEvent ..) hi, rfl, rfl⟩
  · rw [if_neg hm, if_neg hm]
    exact ⟨_, State.stepAt_setStep_same hi, rfl, rfl⟩

theorem State.stepAt_foldl_noteDone_of_notMem {l : List Nat} (h : id ∉ l) (s : State) :
    (l.foldl (State.noteDone ctx inc g stamp) s).stepAt ctx inc id = s.stepAt ctx inc id := by
  induction l generalizing s with
  | nil => rfl
  | cons j l ih =>
    obtain ⟨hj, hl⟩ := not_or.mp (mt List.mem_cons.mpr h)
    exact (ih hl _).trans (State.stepAt_noteDone_other hj)

theorem State.stepAt_foldl_noteDone {l : List Nat} (hl : l.Nodup) (hid : id ∈ l) (s : State) (he : s.stepAt ctx inc id = some e)
    (ho : e.open_ = true) (hg : e.group = g) (ht : e.t0 < stamp) (hd : e.done = 0) :
    ∃ e', (l.foldl (State.noteDone ctx inc g stamp) s).stepAt ctx inc id = some e' ∧ e'.done = stamp ∧
      e'.outcome = if e.outcome = .pending ∧ stamp ≤ e.dl then .met else e.outcome := by
  induction l generalizing s with
  | nil => exact nomatch hid
  | cons j l ih =>
    obtain ⟨hj, hl⟩ := List.nodup_cons.mp hl
    by_cases h : id = j
    · subst h
      rw [List.foldl_cons, State.stepAt_foldl_noteDone_of_notMem hj]
      exact State.stepAt_noteDone_same he ho hg ht hd
    · exact ih hl ((List.mem_cons.mp hid).resolve_left h) _ ((State.stepAt_noteDone_other h).trans he)

/-! ### Delivered copies and the deadline check (R284 to R286) -/

theorem copyDelivered_kept {name : Word} (hs : s.stale agGov ctx inc = false) (he : s.stepAt ctx inc (name.extractLsb' 48 4).toNat = some e)
    (hq : e.seq = (name.extractLsb' 20 28).toNat) (hc : e.open_ = true ∨ 1 < e.copies) : execCopyDeliveredReport ctx inc name s =
      .next (s.setStep ctx (name.extractLsb' 48 4).toNat { e with copies := e.copies - 1 }) := by
  rw [execCopyDeliveredReport, hs]
  simp only [he]
  refine (if_neg (not_not_intro hq)).trans (if_neg fun hn => ?_)
  obtain ⟨ho, hle⟩ := hn
  grind

theorem copyDelivered_last {name : Word} (hs : s.stale agGov ctx inc = false) (he : s.stepAt ctx inc (name.extractLsb' 48 4).toNat = some e)
    (hq : e.seq = (name.extractLsb' 20 28).toNat) (ho : e.open_ = false) (hc : e.copies ≤ 1) : execCopyDeliveredReport ctx inc name s =
      .next { s with steps := KMap.del s.steps (stepKey ctx (name.extractLsb' 48 4).toNat) } := by
  rw [execCopyDeliveredReport, hs]
  simp only [he]
  exact (if_neg (not_not_intro hq)).trans (if_pos ⟨by rw [ho]; rfl, hc⟩)

/-- A deadline check that finds every notice in leaves its step MISSED. -/
theorem deadlineCheck_missed {b : Nat} (hdue : s.deadlineDue ctx id b = true) (he : s.stepAt ctx (s.ctx ctx).inc id = some e)
    (hn : s.noticesIn ctx (s.ctx ctx).inc e = true) :
    ∃ u, execDeadlineCheck ctx id b s = .next u ∧ ∃ e', KMap.get? u.steps (stepKey ctx id) = some e' ∧ e'.outcome = .missed := by
  have hearly : s.agenda.filterMap (fun p => match p.ev with
      | .completionNotice c i g t => if c = ctx ∧ i = (s.ctx ctx).inc ∧ g = e.group ∧ t ≤ e.dl then some t else none
      | _ => none) = [] := by
    refine List.filterMap_eq_nil_iff.mpr fun p hp => ?_
    have hnp := List.any_eq_false.mp (Bool.not_eq_true' _ |>.mp hn) p hp
    split
    next c i g t hev =>
      refine if_neg fun hx => hnp ?_
      obtain ⟨hc, hi, hg, ht⟩ := hx
      simp [hev, hc, hi, hg, ht]
    next => rfl
  have hex : execDeadlineCheck ctx id b s =
      .next (((s.stepEvent ctx (s.ctx ctx).inc id { e with outcome := .missed } 3).warnMembers ctx e.group e.why).record
        ⟨ctx, (s.ctx ctx).inc, none⟩ { kind := .deadline, origin := 0, eval := BitVec.ofNat 64 (stepHandle id e.seq), group := some e.group }) := by
    rw [execDeadlineCheck, hdue]
    simp only [he, Bool.not_true, Bool.false_eq_true, if_false]
    split
    next heq => exact nomatch hearly.symm.trans heq
    next => rfl
  refine ⟨_, hex, { e with outcome := .missed, copies := e.copies + 1 }, ?_, rfl⟩
  rw [State.steps_record, State.steps_warnMembers]
  exact State.get?_stepEvent ..


/-! ### The points that the steps need (R280, R287) -/

/-- The point of each load of each step at boundary `b`, with the load's domain. -/
def duePoints (tab : List StepLoad) (b : Nat) : List (Nat × Nat) :=
  tab.flatMap (fun l => (l.loads.filter (fun p => decide (p.2.num ≠ 0))).map (fun p =>
    (domainOf p.1, (pointFor (bigL tab l.ent.dl p.1) ((l.ent.dl : Int) - b)).1)))

theorem mem_duePoints {tab : List StepLoad} {b d m : Nat} : (d, m) ∈ duePoints tab b ↔
    ∃ l ∈ tab, ∃ p ∈ l.loads, p.2.num ≠ 0 ∧ domainOf p.1 = d ∧ m = (pointFor (bigL tab l.ent.dl p.1) ((l.ent.dl : Int) - b)).1 := by
  simp only [duePoints, List.mem_flatMap, List.mem_map, List.mem_filter, decide_eq_true_eq, Prod.mk.injEq]
  grind

/-- Raises the point of a domain to one that a load of it needs. -/
def raisePoint (pts : KMap Nat) (p : Nat × Nat) : KMap Nat := KMap.set pts p.1 (max (KMap.getD pts p.1 0) p.2)

/-- The points of the decision are the due points, each raised in turn. -/
theorem fst_deadlinePoints (tab : List StepLoad) (b : Nat) : (deadlinePoints tab b).1 = (duePoints tab b).foldl raisePoint [] := by
  unfold deadlinePoints duePoints
  rw [List.foldl_flatMap]
  refine (List.foldl_hom Prod.fst fun acc l => ?_).symm
  rw [List.foldl_map, List.foldl_filter]
  refine List.foldl_hom Prod.fst fun acc p => ?_
  by_cases h : p.2.num = 0
  · simp [h]
  · simp [h, raisePoint]

theorem get?_raisePoint_same (pts : KMap Nat) (d m : Nat) : KMap.get? (raisePoint pts (d, m)) d = some (max (KMap.getD pts d 0) m) :=
  KMap.get?_set_same ..

theorem get?_raisePoint_other (pts : KMap Nat) {d : Nat} {p : Nat × Nat} (h : d ≠ p.1) : KMap.get? (raisePoint pts p) d = KMap.get? pts d :=
  KMap.get?_set_other _ _ _ _ h

/-- After raising, a domain has the largest of its points; one without any has no entry. -/
theorem get?_foldl_raisePoint (l : List (Nat × Nat)) (d : Nat) :
    (KMap.get? (l.foldl raisePoint []) d = none → ∀ m, (d, m) ∉ l) ∧
    ∀ p, KMap.get? (l.foldl raisePoint []) d = some p → (d, p) ∈ l ∧ ∀ m, (d, m) ∈ l → m ≤ p := by
  induction l using List.reverseRecOn with
  | nil => exact ⟨fun _ _ => List.not_mem_nil, nofun⟩
  | append_singleton l x ih =>
    obtain ⟨hnone, hsome⟩ := ih
    obtain ⟨j, n⟩ := x
    rw [List.foldl_concat]
    by_cases hd : d = j
    · subst hd
      rw [get?_raisePoint_same]
      refine ⟨nofun, fun p hp => ?_⟩
      obtain rfl := Option.some.inj hp
      simp only [KMap.getD, List.mem_append, List.mem_singleton, Prod.mk.injEq, true_and]
      cases hg : KMap.get? (l.foldl raisePoint []) d with
      | none =>
        have hnot := hnone hg
        grind
      | some q =>
        have hmax := hsome q hg
        grind
    · rw [get?_raisePoint_other _ hd]
      simp only [List.mem_append, List.mem_singleton, Prod.mk.injEq, hd, false_and, or_false]
      exact ⟨hnone, hsome⟩

theorem State.getD_needPoints (s : State) (pts : KMap Nat) {d : Nat} (h : d < 128) : (s.needPoints pts).getD d 0 =
    (KMap.get? pts d).getD (if (s.busy ++ s.candidateDomains).contains d then s.mgmt.defop else 0) := by
  unfold State.needPoints
  simp only [List.getD_eq_getElem?_getD, List.getElem?_map, List.getElem?_range h, Option.map_some, Option.getD_some]
  cases KMap.get? pts d <;> rfl

/-- A domain where a step has load needs the largest of the points of its loads. -/
theorem State.needPoints_due {tab : List StepLoad} {b d : Nat} (hd : d < 128) (h : ∃ m, (d, m) ∈ duePoints tab b) :
    (d, (s.needPoints (deadlinePoints tab b).1).getD d 0) ∈ duePoints tab b ∧
      ∀ m, (d, m) ∈ duePoints tab b → m ≤ (s.needPoints (deadlinePoints tab b).1).getD d 0 := by
  obtain ⟨hnone, hsome⟩ := get?_foldl_raisePoint (duePoints tab b) d
  obtain ⟨m, hm⟩ := h
  rw [s.getD_needPoints _ hd, fst_deadlinePoints]
  cases hg : KMap.get? ((duePoints tab b).foldl raisePoint []) d with
  | none => exact absurd hm (hnone hg m)
  | some p => exact hsome p hg

/-- A domain without load needs DEFOP where it has work, else OP0. -/
theorem State.needPoints_not_due {tab : List StepLoad} {b d : Nat} (hd : d < 128) (h : ¬∃ m, (d, m) ∈ duePoints tab b) :
    (s.needPoints (deadlinePoints tab b).1).getD d 0 = if (s.busy ++ s.candidateDomains).contains d then s.mgmt.defop else 0 := by
  obtain ⟨_, hsome⟩ := get?_foldl_raisePoint (duePoints tab b) d
  rw [s.getD_needPoints _ hd, fst_deadlinePoints]
  cases hg : KMap.get? ((duePoints tab b).foldl raisePoint []) d with
  | none => rfl
  | some p => exact absurd ⟨p, (hsome p hg).1⟩ h

/-! ### The decision (R279, R284, R290, R291) -/

/-- The state at a boundary, with the cap and the default point that hold from it on. -/
def State.atBoundary (s : State) : State := { s with mgmt := { s.mgmt with modcap := s.mgmt.modcapNext, defop := s.mgmt.defopNext } }

/-- The points that the steps need at the boundary. -/
def State.need (s : State) : List Nat := s.atBoundary.needPoints (deadlinePoints s.atBoundary.stepLoads s.boundary).1

/-- The points that the cap leaves, a held domain at OP0 (R390). -/
def State.points (s : State) : List Nat :=
  ((s.atBoundary.capPoints s.atBoundary.stepLoads s.boundary s.need).2.zip (List.range 128)).map
    (fun (m, d) => if s.mgmt.held.contains d then 0 else m)

/-- The state once every step is decided. -/
def State.decided (s : State) : State :=
  s.atBoundary.stepLoads.foldl (fun u l => u.decideStep s.atBoundary.stepLoads s.boundary s.need s.points
      (deadlinePoints s.atBoundary.stepLoads s.boundary).2 l)
    ((s.atBoundary.capPoints s.atBoundary.stepLoads s.boundary s.need).1.releaseCaps s.need)

/-- The warning of a step that is no longer open and PENDING ends. -/
def StepEnt.settle (e : StepEnt) : StepEnt := if e.open_ ∧ e.outcome ≠ .pending then { e with risked := false } else e

/-- The points that differ from those in force. -/
def State.requests (s : State) : KMap Nat :=
  (List.range 128).filterMap (fun d => if s.points.getD d 0 = s.opOf d then none else some (d, s.points.getD d 0))

/-- The state after the decision. -/
def State.afterDecision (s : State) : State := { s.decided with
  steps := s.decided.steps.map (fun p => (p.1, p.2.settle)), opReq := s.requests, boundary := s.boundary + 8000, busy := s.candidateDomains
  slewHeld := [] }

theorem execGovernorDecision_due (h : s.boundary ≤ s.time) : execGovernorDecision s.boundary s = .next s.afterDecision :=
  if_neg (not_or.mpr ⟨not_not_intro rfl, Nat.not_lt.mpr h⟩)

theorem State.opReq_afterDecision (s : State) : s.afterDecision.opReq = s.requests := by rw [State.afterDecision]

theorem State.steps_afterDecision (s : State) : s.afterDecision.steps = s.decided.steps.map (fun p => (p.1, p.2.settle)) := rfl

theorem State.get?_requests (s : State) (d : Nat) : KMap.get? s.requests d =
    if d < 128 ∧ s.points.getD d 0 ≠ s.opOf d then some (s.points.getD d 0) else none := by
  have hF : (fun d => if s.points.getD d 0 = s.opOf d then none else some (d, s.points.getD d 0)) =
      fun d => (if s.points.getD d 0 = s.opOf d then none else some (s.points.getD d 0)).map (d, ·) := by
    funext d
    split <;> rfl
  rw [State.requests, hF, KMap.get?_filterMap]
  grind

theorem State.capPoints_under {tab : List StepLoad} {b : Nat} {need : List Nat} (h : underCap (s.predict need) 0 s.mgmt.modcap = true) :
    s.capPoints tab b need = (s, need) := if_pos h

section
variable (hu : underCap (s.atBoundary.predict s.need) 0 s.mgmt.modcapNext = true)
include hu

theorem State.points_under : s.points = (s.need.zip (List.range 128)).map (fun (m, d) => if s.mgmt.held.contains d then 0 else m) := by
  rw [State.points, s.atBoundary.capPoints_under hu]

theorem State.getD_points_under {d : Nat} (hd : d < 128) : s.points.getD d 0 = if s.mgmt.held.contains d then 0 else s.need.getD d 0 := by
  have hlen : d < s.need.length := by
    rw [State.need, State.needPoints, List.length_map, List.length_range]
    exact hd
  rw [s.points_under hu]
  simp [List.getD_eq_getElem?_getD, hlen, hd]

/-- Within the cap, what a domain is asked for is what it needs, OP0 where it is held; nothing where that is its point. -/
theorem State.get?_requests_under {d : Nat} (hd : d < 128) : KMap.get? s.requests d =
    if (if s.mgmt.held.contains d then 0 else s.need.getD d 0) = s.opOf d then none
    else some (if s.mgmt.held.contains d then 0 else s.need.getD d 0) := by
  rw [s.get?_requests, s.getD_points_under hu hd]
  simp only [hd, true_and, ne_eq, ite_not]

end

theorem State.steps_releaseCaps (s : State) (need : List Nat) : (s.releaseCaps need).steps = s.steps := by
  unfold State.releaseCaps
  dsimp only
  split
  · split <;> rfl
  · rfl

/-- The decision on a step leaves it its slack, at risk exactly where that is below 0, and neither closes nor ends it. -/
theorem State.get?_decideStep (s : State) (tab : List StepLoad) (b : Nat) (need op late : List Nat) (l : StepLoad) :
    ∃ e, KMap.get? (s.decideStep tab b need op late l).steps l.key = some e ∧ e.slack = some (slackOf tab op b l) ∧
      e.risked = decide (slackOf tab op b l < 0) ∧ e.open_ = l.ent.open_ ∧ e.outcome = l.ent.outcome := by
  have hset (t : State) (e : StepEnt) : KMap.get? (t.setStep (l.key / 16) (l.key % 16) e).steps l.key = some e := by
    have hk : stepKey (l.key / 16) (l.key % 16) = l.key := Nat.div_add_mod ..
    unfold State.setStep
    rw [hk]
    exact KMap.get?_set_same ..
  unfold State.decideStep
  dsimp only
  by_cases hs : 0 ≤ slackOf tab op b l
  · rw [if_pos hs]
    exact ⟨_, hset .., rfl, (decide_eq_false (Int.not_lt.mpr hs)).symm, rfl, rfl⟩
  · have hneg := (decide_eq_true (Int.not_le.mp hs)).symm
    rw [if_neg hs]
    by_cases hr : l.ent.risked = true
    · rw [if_pos hr]
      exact ⟨_, hset .., rfl, hr.trans hneg, rfl, rfl⟩
    · rw [if_neg hr, State.steps_warnMembers]
      split
      · exact ⟨_, hset .., rfl, hneg, rfl, rfl⟩
      · exact ⟨_, hset .., rfl, hneg, rfl, rfl⟩

/-- The decision on the only step. -/
theorem State.get?_decided_single {k : Nat} (hk : s.steps = [(k, e)]) (ho : e.open_ = true) (hp : e.outcome = .pending) :
    ∃ e', KMap.get? (s.decided.steps.map (fun p => (p.1, p.2.settle))) k = some e' ∧
      e'.slack = some (slackOf s.atBoundary.stepLoads s.points s.boundary (s.atBoundary.loadOf k e)) ∧
      e'.risked = decide (slackOf s.atBoundary.stepLoads s.points s.boundary (s.atBoundary.loadOf k e) < 0) := by
  have htab : s.atBoundary.stepLoads = [s.atBoundary.loadOf k e] := by
    have hsteps : s.atBoundary.steps = [(k, e)] := hk
    rw [State.stepLoads, hsteps]
    simp [ho, hp]
  obtain ⟨e', hget, hslack, hrisk, hopen, hout⟩ := State.get?_decideStep
    ((s.atBoundary.capPoints s.atBoundary.stepLoads s.boundary s.need).1.releaseCaps s.need) s.atBoundary.stepLoads s.boundary s.need s.points
    (deadlinePoints s.atBoundary.stepLoads s.boundary).2 (s.atBoundary.loadOf k e)
  have hdec : s.decided = ((s.atBoundary.capPoints s.atBoundary.stepLoads s.boundary s.need).1.releaseCaps s.need).decideStep
      s.atBoundary.stepLoads s.boundary s.need s.points (deadlinePoints s.atBoundary.stepLoads s.boundary).2 (s.atBoundary.loadOf k e) := by
    rw [State.decided]
    exact congrArg (List.foldl _ _) htab
  have hsettle : e'.settle = e' := if_neg fun h => h.2 (hout.trans hp)
  refine ⟨e', ?_, hslack, hrisk⟩
  rw [KMap.get?_map_val, hdec]
  exact (congrArg (Option.map StepEnt.settle) hget).trans (congrArg some hsettle)

/-! ### The point of a load, and the change of a point (R278, R279) -/

theorem pointFor_fits {l : Frac} {t : Int} {m : Nat} (hm : m < 16) (hf : fits l m 95 t = true) (hn : ∀ n < m, fits l n 95 t = false) :
    pointFor l t = (m, false) := by
  have hfind : (List.range 16).find? (fun m => fits l m 95 t) = some m :=
    List.find?_range_eq_some.mpr ⟨hf, List.mem_range.mpr hm, fun n h => by rw [hn n h]; rfl⟩
  simp only [pointFor, hfind]

theorem pointFor_none {l : Frac} {t : Int} (hn : ∀ n < 16, fits l n 95 t = false) : pointFor l t = (15, !(fits l 15 100 t)) := by
  have hfind : (List.range 16).find? (fun m => fits l m 95 t) = none :=
    List.find?_eq_none.mpr fun n h => Bool.eq_false_iff.mp (hn n (List.mem_range.mp h))
  simp only [pointFor, hfind]

theorem State.countAway_points (s : State) (site slot : Nat) (still : Bool) :
    (s.countAway site slot still).ops = s.ops ∧ (s.countAway site slot still).opReq = s.opReq := by
  unfold State.countAway
  split <;> exact ⟨rfl, rfl⟩

theorem State.foldl_countAway_points (l : List (Nat × Nat)) (s : State) :
    (l.foldl (fun s p => s.countAway p.1 p.2 true) s).ops = s.ops ∧ (l.foldl (fun s p => s.countAway p.1 p.2 true) s).opReq = s.opReq := by
  induction l generalizing s with
  | nil => exact ⟨rfl, rfl⟩
  | cons p l ih =>
    obtain ⟨hops, hreq⟩ := s.countAway_points p.1 p.2 true
    obtain ⟨iops, ireq⟩ := ih (s.countAway p.1 p.2 true)
    exact ⟨iops.trans hops, ireq.trans hreq⟩

/-- Where no slot counts a wait for a quantum, there is nothing to count. -/
theorem State.countAway_eq_self (h : ∀ p ∈ s.slots, p.2.slewAway = none) (site slot : Nat) (still : Bool) : s.countAway site slot still = s := by
  have haway : (s.slotAt site slot).slewAway = none := by
    unfold State.slotAt KMap.getD
    cases hg : KMap.get? s.slots (slotKey site slot) with
    | none => rfl
    | some x => exact h _ (KMap.mem_of_get? hg)
  simp only [State.countAway, haway]

theorem State.foldl_countAway_eq_self (h : ∀ p ∈ s.slots, p.2.slewAway = none) (l : List (Nat × Nat)) :
    l.foldl (fun s p => s.countAway p.1 p.2 true) s = s := by
  induction l with
  | nil => rfl
  | cons p l ih => rwa [List.foldl_cons, State.countAway_eq_self h]

theorem opChangeComplete_next {dom m : Nat} (h : KMap.get? s.opReq dom = some m) : ∃ u, execOpChangeComplete dom s = .next u ∧
    u.ops = KMap.set s.ops dom m ∧ u.opReq = KMap.del s.opReq dom ∧
    ((∀ p ∈ s.slots, p.2.slewAway = none) →
      u.slots = s.slots.map (fun p => (p.1, if domainOf (p.1 / 4) = dom then s.countCycles (p.1 / 4) p.2 else p.2))) := by
  obtain ⟨hops, hreq⟩ := State.foldl_countAway_points (s.slewWaiters dom) s
  unfold execOpChangeComplete
  simp only [h]
  refine ⟨_, rfl, congrArg (KMap.set · dom m) hops, congrArg (KMap.del · dom) hreq, fun ha => ?_⟩
  dsimp only
  rw [State.foldl_countAway_eq_self ha]

/-- Settles O41, clause by clause; the decision by its state at the boundary and the points raised load by load. -/
theorem stepEvents : Obligations.StepEvents := by
  unfold Obligations.StepEvents
  intro s ctx inc hs
  refine ⟨fun who g t0 dl id => stepRequest_open hs, fun who g t0 dl => stepRequest_open_full hs, fun who id seq => stepRequest_close_none hs,
    fun who id seq e => stepRequest_close hs, fun who id seq e => stepRequest_slack hs, fun who id seq => stepRequest_slack_none hs,
    fun g stamp => ⟨_, execCompletionNotice_current hs, fun id hid e he => State.stepAt_foldl_noteDone List.nodup_range (List.mem_range.mpr hid) s he⟩,
    fun name e => copyDelivered_kept hs, fun name e => copyDelivered_last hs, fun id b e => deadlineCheck_missed, fun hb => ?_,
    fun l t m hm => ⟨pointFor_fits hm, pointFor_none⟩, fun dom m => opChangeComplete_next⟩
  refine ⟨s.afterDecision, execGovernorDecision_due hb, rfl, fun d m hm => ?_, fun k e hk ho hp hcap => ?_,
    fun d hd => ⟨fun hm => ?_, fun hm => ?_, fun hcap => ?_⟩⟩
  · rw [s.opReq_afterDecision, s.get?_requests] at hm
    grind
  · have hget := State.get?_decided_single hk ho hp
    rw [← s.steps_afterDecision, s.points_under hcap] at hget
    exact hget
  · simp only [← mem_duePoints] at hm ⊢
    exact State.needPoints_due hd hm
  · simp only [← mem_duePoints] at hm
    exact State.needPoints_not_due hd hm
  · rw [s.opReq_afterDecision]
    exact State.get?_requests_under hcap hd

end Sys2Proof.Machine
end

section
/-! PROOFS. Syllables of contexts (O42). -/

namespace Sys2Proof.Machine

variable {s t : State} {h : Hdr} {f : RRR}

/-! ### The operand, and who asks (R318, R319) -/

theorem ctxOperand_ok (ha : (s.readS 32 f.a).toNat < 256) (k : Nat → Reg → State → State) :
    ctxOperand f s k = .ok (k (s.readS 32 f.a).toNat (dstS f.d) (s.setCur (s.cur.await (dstS f.d)))) :=
  if_neg (Nat.not_le.mpr ha)

theorem ctxOperand_rsvfield (ha : 256 ≤ (s.readS 32 f.a).toNat) (k : Nat → Reg → State → State) :
    ctxOperand f s k = .trap ⟨.rsvfield, 0, s.readS 32 f.a⟩ :=
  if_pos ha

theorem State.ctxid_await (s : State) (d : Reg) : (s.setCur (s.cur.await d)).cur.sys.ctxid = s.cur.sys.ctxid := by
  rw [State.cur_setCur, Slot.await_sys]

theorem Word.toNat_low12 (b : Word) : (b.extractLsb' 0 12).toNat = b.toNat % 4096 := by
  rw [BitVec.extractLsb'_toNat, Nat.shiftRight_zero]

/-! ### What a kill leaves of its context (R312, R320) -/

theorem State.ctx_killCtx (s : State) (c : Nat) (w : Asker × Nat × Nat) : (s.killCtx c w).ctx c =
    { s.ctx c with st := .killed, inc := ((s.ctx c).inc + 1) % 4096, told := [], swept := [], drops := 0, fence := s.time, fenceOk := false
                   killWho := some w, inval := [], couldWrite := s.canWrite c } := by
  refine ((State.Sends.foldl (fun (t : State) _ => t.sends_sendAt ..) _ _).ctx c).trans ?_
  exact State.ctx_setCtx_same _ c _

/-! ### The message of a start (R298, R322) -/

theorem State.ctxs_writeBack (s : State) (site : Nat) (l : Line) : (s.writeBack site l).ctxs = s.ctxs := by
  rw [State.writeBack]
  dsimp only
  split <;> rfl

theorem State.ctxs_beginRelease (s : State) (x : Scope) : (s.beginRelease x).ctxs = s.ctxs := by
  refine List.foldlRecOn (motive := fun t : State => t.ctxs = s.ctxs) _ _ rfl (fun t ht l _ => ?_)
  split
  · exact (t.ctxs_writeBack ..).trans ht
  · exact ht

/-- The context CREATING, its release part begun. -/
def State.creating (s : State) (c : Nat) : State :=
  (s.setCtx c { s.ctx c with st := .creating, prev := (s.ctx c).st, startWho := none }).beginRelease .system

/-- The read of the descriptor sent too. -/
def State.startCtx (s : State) (c : Nat) (w : Asker × Nat × Nat) (va : Nat) : State :=
  (s.creating c).sendRel 0 (.descriptorReadDone c w.1 w.2.1 w.2.2 va)
    (((s.creating c).relWait true true).map (fun (r : RelWait) => { r with wps := [] }))

theorem State.ctx_startCtx (s : State) (c : Nat) (w : Asker × Nat × Nat) (va : Nat) :
    (s.startCtx c w va).ctx c = { s.ctx c with st := .creating, prev := (s.ctx c).st, startWho := none } :=
  (State.ctx_congr (State.ctxs_beginRelease _ .system) c).trans (State.ctx_setCtx_same _ c _)

theorem State.startCtx_getLast (s : State) (c : Nat) (w : Asker × Nat × Nat) (va : Nat) : ∃ rel, (s.startCtx c w va).agenda.getLast? =
    some ⟨s.time, 0, .descriptorReadDone c w.1 w.2.1 w.2.2 va, some rel, [], [], []⟩ := by
  have htime : (s.creating c).time = s.time := State.beginRelease_time ..
  have hlast : (s.startCtx c w va).agenda.getLast? = some ⟨(s.creating c).time, 0, .descriptorReadDone c w.1 w.2.1 w.2.2 va,
      ((s.creating c).relWait true true).map (fun (r : RelWait) => { r with wps := [] }), [], [], []⟩ := List.getLast?_concat
  rw [htime] at hlast
  exact ⟨_, hlast⟩

/-! ### EVICT (R323) -/

/-- `t` has the contexts of `s`, and every message of `s` is still under way. -/
structure State.KeepsPosts (s t : State) : Prop where
  ctxs : t.ctxs = s.ctxs
  agenda : s.agenda ⊆ t.agenda

theorem State.KeepsPosts.trans {u : State} (h : s.KeepsPosts t) (k : t.KeepsPosts u) : s.KeepsPosts u :=
  ⟨k.ctxs.trans h.ctxs, List.Subset.trans h.agenda k.agenda⟩

theorem State.KeepsPosts.of_eq (hc : t.ctxs = s.ctxs) (ha : t.agenda = s.agenda) : s.KeepsPosts t := ⟨hc, fun _ h => ha ▸ h⟩

theorem State.Sends.keepsPosts (h : s.Sends t) : s.KeepsPosts t := by
  refine ⟨?_, fun _ hp => h.mem_agenda hp⟩
  obtain ⟨l, rfl⟩ := h
  rfl

theorem State.KeepsPosts.foldl {α : Type} {g : State → α → State} (hg : ∀ (s : State) a, s.KeepsPosts (g s a)) (l : List α) (s : State) :
    s.KeepsPosts (l.foldl g s) :=
  List.foldlRecOn l g (.of_eq rfl rfl) (fun t h a _ => h.trans (hg t a))

theorem State.keepsPosts_unbind (s : State) (site slot : Nat) : s.KeepsPosts (s.unbind site slot) := .of_eq rfl rfl

theorem State.keepsPosts_finishEvicts (s : State) : s.KeepsPosts s.finishEvicts := by
  refine .foldl (fun t e => ?_) _ s
  have herase : t.KeepsPosts { t with evicts := t.evicts.erase e } := .of_eq rfl rfl
  dsimp only
  refine State.KeepsPosts.trans ?_ ((State.sends_sendAt ..).trans (State.sends_sendAt ..)).keepsPosts
  split
  · exact herase.trans (.foldl (fun u (p : Nat × Nat) => u.keepsPosts_unbind p.1 p.2) _ _)
  · exact herase

/-- Every one of some instances is sent its order to save. -/
theorem State.mem_agenda_saveOrders {p : Nat × Nat} {l : List (Nat × Nat)} (hp : p ∈ l) (s : State) :
    ∃ e ∈ (l.foldl (fun (s : State) (q : Nat × Nat) => s.send (tileChan q.2) (.saveOrderAtTile q.1 .evict)) s).agenda,
      e.ev = .saveOrderAtTile p.1 .evict := by
  induction l generalizing s with
  | nil => exact nomatch hp
  | cons q l ih =>
    rcases List.mem_cons.mp hp with rfl | hp
    · obtain ⟨e, he, hev⟩ := s.mem_agenda_send (tileChan p.2) (.saveOrderAtTile p.1 .evict)
      exact ⟨e, (State.Sends.foldl (fun (t : State) _ => t.sends_sendAt ..) l _).mem_agenda he, hev⟩
    · exact ih hp _

/-- The orders that an EVICT sends, its account `op` being open. -/
def State.orderSaves (s : State) (op : EvictOp) (us : List (Nat × Nat)) : State :=
  (us.foldl (fun (s : State) (q : Nat × Nat) => s.send (tileChan q.2) (.saveOrderAtTile q.1 .evict))
    { s with evicts := s.evicts ++ [op] }).finishEvicts

theorem State.ctxs_orderSaves (s : State) (op : EvictOp) (us : List (Nat × Nat)) : (s.orderSaves op us).ctxs = s.ctxs :=
  (State.keepsPosts_finishEvicts _).ctxs.trans
    (State.Sends.foldl (fun (t : State) _ => t.sends_sendAt ..) us { s with evicts := s.evicts ++ [op] }).keepsPosts.ctxs

theorem State.mem_agenda_orderSaves (s : State) (op : EvictOp) {us : List (Nat × Nat)} {p : Nat × Nat} (hp : p ∈ us) :
    ∃ e ∈ (s.orderSaves op us).agenda, e.ev = .saveOrderAtTile p.1 .evict := by
  obtain ⟨e, he, hev⟩ := State.mem_agenda_saveOrders hp { s with evicts := s.evicts ++ [op] }
  exact ⟨e, (State.keepsPosts_finishEvicts _).agenda he, hev⟩

theorem evictAct_active (unbind : Bool) (ha : (s.readS 32 f.a).toNat < 256)
    (hx : ((s.setCur (s.cur.await (dstS f.d))).ctx (s.readS 32 f.a).toNat).st = .active) : ∃ op : EvictOp, evictAct f unbind s =
      .ok ((s.setCur (s.cur.await (dstS f.d))).orderSaves op
        ((s.setCur (s.cur.await (dstS f.d))).placedIn (s.readS 32 f.a).toNat (s.readS 24 f.b))) := by
  simp only [evictAct, ctxOperand_ok ha]
  exact ⟨_, congrArg Act.ok (if_neg (not_not_intro hx))⟩

/-- Settles O42: each syllable on the branch that the statement names. -/
theorem contextSyllables : Obligations.ContextSyllables := by
  unfold Obligations.ContextSyllables
  intro h f s hg a b d c s1 w x wrong
  have hid : s1.cur.sys.ctxid = s.cur.sys.ctxid := s.ctxid_await d
  refine ⟨?operand, fun ha => ?calls, ?_, ?_, ?_⟩
  case operand =>
    intro ha i hi
    have htrap : ∀ k, ctxOperand f s k = .trap ⟨.rsvfield, 0, a⟩ := ctxOperand_rsvfield ha
    simp only [List.mem_cons, List.not_mem_nil, or_false] at hi
    rcases hi with rfl | rfl | rfl | rfl | rfl | rfl
    · exact asStep_trap hg (by simp only [effCtxk, htrap])
    · exact asStep_trap hg (by simp only [effReclm, htrap])
    · exact asStep_trap hg (by simp only [effCtxrStart, htrap])
    · exact asStep_trap hg (by simp only [effCtxrFree, htrap])
    · exact asStep_trap hg (by simp only [effEvict, evictAct, htrap])
    · exact asStep_trap hg (by simp only [effEvictUnbind, evictAct, htrap])
  case calls =>
    have hok : ∀ k, ctxOperand f s k = .ok (k c d s1) := ctxOperand_ok ha
    have hlow : (b.extractLsb' 0 12).toNat = b.toNat % 4096 := Word.toNat_low12 b
    refine ⟨fun hx => ?_, fun hc hx hb hi => ?_, fun hc hx hb => ⟨?_, ?_, ?_, ?_⟩, fun hk hr => ?_, fun hx => ?_, fun hx => ?_, fun hf hr => ?_,
      fun hx => ?_, fun hx => ?_, fun hx => ?_, fun hx i hi => ?_, fun hx i hi => ?_⟩
    · refine asStep_ok hg ?_
      simp only [effCtxk, hok]
      exact congrArg Act.ok (if_pos (hid ▸ hx))
    · refine asStep_ok hg ?_
      simp only [effCtxk, hok]
      exact congrArg Act.ok ((if_neg (hid ▸ not_or.mpr ⟨hc, not_not_intro hx⟩)).trans (if_pos ⟨hb, hlow ▸ hi⟩))
    · refine asStep_ok hg ?_
      simp only [effCtxk, hok]
      refine congrArg Act.ok ((if_neg (hid ▸ not_or.mpr ⟨hc, not_not_intro hx⟩)).trans (if_neg fun hn => ?_))
      obtain ⟨hbit, hinc⟩ := hn
      exact hb.elim (fun h0 => Bool.noConfusion (h0.symm.trans hbit)) fun heq => hinc (hlow.trans heq)
    · exact congrArg Ctx.st (s1.ctx_killCtx c w)
    · exact congrArg Ctx.inc (s1.ctx_killCtx c w)
    · exact congrArg Ctx.killWho (s1.ctx_killCtx c w)
    · refine asStep_ok hg ((hok _).trans (congrArg Act.ok ?_))
      dsimp only
      split
      next hst => exact absurd hst hk
      next hst => exact absurd hst hr
      next => rfl
    · refine asStep_ok hg ((hok _).trans (congrArg Act.ok ?_))
      dsimp only
      split
      next => rfl
      next hst => exact nomatch hx.symm.trans hst
      next hk _ => exact absurd hx hk
    · refine asStep_ok hg ((hok _).trans (congrArg Act.ok ?_))
      dsimp only
      split
      next hst => exact nomatch hx.symm.trans hst
      next => rfl
      next _ hr => exact absurd hx hr
    · refine asStep_ok hg ?_
      simp only [effCtxrStart, hok]
      exact congrArg Act.ok (if_pos ⟨hf, hr⟩)
    · have hex : exec (.ctxrStart h f) s = .next (s1.startCtx c w b.toNat) := by
        refine asStep_ok hg ?_
        simp only [effCtxrStart, hok]
        exact congrArg Act.ok (if_neg fun hn => hx.elim hn.1 hn.2)
      obtain ⟨rel, hlast⟩ := s1.startCtx_getLast c w b.toNat
      exact ⟨_, rel, hex, congrArg Ctx.st (s1.ctx_startCtx ..), congrArg Ctx.prev (s1.ctx_startCtx ..), hlast⟩
    · exact asStep_ok hg ((hok _).trans (congrArg Act.ok (if_pos hx)))
    · exact asStep_ok hg ((hok _).trans (congrArg Act.ok (if_neg (not_not_intro hx))))
    · have hev : ∀ u, evictAct f u s = .ok (s1.send 0
          (.interlockedResultLand w.1.site w.1.slot w.2.1 w.2.2 w.1.dst (BitVec.ofNat 1024 causeCtxstate) .plain)) := by
        intro u
        simp only [evictAct, hok]
        exact congrArg Act.ok (if_pos hx)
      simp only [List.mem_cons, List.not_mem_nil, or_false] at hi
      rcases hi with rfl | rfl
      · exact asStep_ok hg (hev false)
      · exact asStep_ok hg (hev true)
    · simp only [List.mem_cons, List.not_mem_nil, or_false] at hi
      have hpost : ∀ op : EvictOp, (s1.orderSaves op (s1.placedIn c b)).ctxs = s.ctxs ∧
          ∀ p ∈ s1.placedIn c b, ∃ e ∈ (s1.orderSaves op (s1.placedIn c b)).agenda, e.ev = .saveOrderAtTile p.1 .evict :=
        fun op => ⟨s1.ctxs_orderSaves op _, fun p hp => s1.mem_agenda_orderSaves op hp⟩
      rcases hi with rfl | rfl
      · obtain ⟨op, hev⟩ := evictAct_active false ha hx
        exact ⟨_, asStep_ok hg hev, hpost op⟩
      · obtain ⟨op, hev⟩ := evictAct_active true ha hx
        exact ⟨_, asStep_ok hg hev, hpost op⟩
  · have hchkp : (s.cur.await d).chkp = s.cur.chkp := by
      unfold Slot.await
      split <;> rfl
    rw [← hchkp]
    exact asStep_ok (eff := effChkpNow f) hg rfl
  · exact asStep_ok (eff := effChkpBgon f) hg rfl
  · exact asStep_ok (eff := effChkpBgoff f) hg rfl

end Sys2Proof.Machine
end

section
/-! PROOFS. The states of a link (O45). -/

namespace Sys2Proof.Machine

variable {s t : State} {l : Nat} {y : Link}

/-! ### What leaves the links alone -/

theorem State.links_record (s : State) (w : RecWho) (b : RecBody) : (s.record w b).links = s.links := by
  unfold State.record
  split <;> rfl

theorem State.links_endLsend (s : State) (id : Nat) (k : Option FKind) : (s.endLsend id k).links = s.links := by
  unfold State.endLsend
  split
  · rfl
  · dsimp only
    split
    · rw [State.links_record]
      split <;> rfl
    · split <;> rfl

theorem State.links_answer (s : State) (ctx inc : Nat) (who : Requester) (r : MemReply) : (s.answer ctx inc who r).links = s.links := by
  cases who
  case ft hedge b =>
    unfold State.answer
    dsimp only
    split <;> rfl
  all_goals rfl

theorem State.links_remoteRecord (s : State) (r : MemReq) (k : FKind) : (s.remoteRecord r k).links = s.links := by
  unfold State.remoteRecord
  split
  · rfl
  · split
    · rfl
    · rfl
    · split <;> exact State.links_record ..
    · split <;> exact State.links_record ..
    · split
      · exact State.links_record ..
      · rfl

theorem State.links_remoteFail (s : State) (r : MemReq) (k : FKind) : (s.remoteFail r k).links = s.links := by
  unfold State.remoteFail
  dsimp only
  split
  · exact State.links_answer ..
  · exact (State.links_answer ..).trans (State.links_remoteRecord ..)

theorem State.links_flitLost (s : State) (f : Flit) : (s.flitLost f).links = s.links := by
  unfold State.flitLost
  split
  · split
    · exact State.links_endLsend ..
    · rfl
  · rfl
  · split
    · split
      · exact State.links_remoteFail ..
      · rfl
    · rfl

theorem State.links_resendFrame (s : State) (id seq : Nat) : (s.resendFrame id seq).links = s.links := by
  unfold State.resendFrame
  split
  · rfl
  · split
    · rfl
    · split
      · exact State.links_endLsend ..
      · split <;> rfl

theorem State.links_drop (s : State) (c : Nat) : (s.drop c).links = s.links := rfl

theorem State.links_foldl {α : Type} {g : State → α → State} (hg : ∀ (t : State) a, (g t a).links = t.links) (as : List α) (s : State) :
    (as.foldl g s).links = s.links :=
  List.foldlRecOn (motive := fun t : State => t.links = s.links) as g rfl (fun t h a _ => (hg t a).trans h)

theorem State.link_congr (h : t.links = s.links) (l : Nat) : t.link l = s.link l := congrArg (KMap.getD · l Link.reset) h

theorem State.link_setLink_same (s : State) (l : Nat) (y : Link) : (s.setLink l y).link l = y := KMap.getD_set_same ..

theorem State.link_setLink_other {j : Nat} (h : j ≠ l) : (s.setLink l y).link j = s.link j := KMap.getD_set_other _ _ _ _ _ h

theorem State.links_bringUp (s : State) : s.bringUp.links = s.links := by
  unfold State.bringUp
  split <;> rfl

/-! ### What leaves the states of the links alone -/

theorem st_pumpGo (fs : List Flit) (x : Link) : (pumpGo fs x).st = x.st := by
  induction fs generalizing x with
  | nil => rfl
  | cons f fs ih =>
    unfold pumpGo
    split
    · exact ih _
    · rfl

/-- Flits that go first on a link leave its state, and the other links. -/
theorem State.st_link_pushFirst (s : State) (j : Nat) (fs : List Flit) (l : Nat) :
    ((s.setLink j ((s.link j).pushFirst fs)).link l).st = (s.link l).st := by
  by_cases h : l = j
  · subst h
    rw [State.link_setLink_same]
    exact st_pumpGo ..
  · rw [State.link_setLink_other h]

/-- A link that is put in another state has it, whatever its flits do (R371). -/
theorem State.st_link_relink (s : State) (l : Nat) (y : Link) : ((s.relink l y).link l).st = y.st := by
  have hset : ((s.setLink l { y with retry := [], txq := [] }).link l).st = y.st := by rw [State.link_setLink_same]
  unfold State.relink
  dsimp only
  split
  · split
    · refine (congrArg Link.st (State.link_congr (State.links_foldl (fun t p => State.links_foldl (fun u f => u.links_resendFrame ..) _ t) _ _) l)).trans
        hset
    · refine (congrArg Link.st (State.link_congr (State.links_foldl (fun t f => t.links_flitLost f) _ _) l)).trans ?_
      refine List.foldlRecOn (motive := fun t : State => (t.link l).st = y.st) _ _ hset (fun t ht j _ => ?_)
      split
      · exact ht
      · rw [State.st_link_pushFirst]
        exact (congrArg Link.st (State.link_congr (State.links_foldl (fun u (f : Flit) => u.links_drop f.ctx) _ t) l)).trans ht
  · rw [State.link_setLink_same]

/-! ### Changes of state (R370) -/

theorem State.st_link_linkTo (hl : s.hasLink l = true) (y : Link) : ((s.linkTo l y).link l).st = y.st := by
  unfold State.linkTo
  rw [hl]
  simp only [Bool.not_true, Bool.false_eq_true, if_false]
  split
  · rw [State.link_setLink_same]
  · rw [State.link_congr (State.links_bringUp _) l]
    exact s.st_link_relink l y

/-- A link that carries nothing only changes its state, and the controller says so. -/
theorem State.linkTo_of_not_usable (hl : s.hasLink l = true) (hu : (s.link l).usable = false) (hy : y.st ≠ (s.link l).st) :
    s.linkTo l y = State.bringUp { s.setLink l y with outbox := s.outbox ++ [.linkState l y.st] } := by
  have hre : s.relink l y = s.setLink l y := if_neg (by rw [hu]; simp)
  unfold State.linkTo
  rw [hl, hre]
  exact (if_neg (by decide)).trans (if_neg hy)

theorem Link.not_usable {x : Link} (hu : x.st ≠ .up) (hd : x.st ≠ .degraded) : x.usable = false := by simp [Link.usable, hu, hd]

/-- The fourth training within 1 s puts a link in quarantine. -/
theorem Link.st_train (x : Link) (now : Nat) : (x.train now).st =
    if 3 ≤ (x.trainings.filter (fun t => decide (now < t + 1000000000))).length then .quarantined else .training := by
  have hlen : ∀ n : Nat, (4 ≤ n + 1) = (3 ≤ n) := fun n => propext (by omega)
  simp only [Link.train, List.length_append, List.length_singleton, hlen]

theorem State.trains (hl : s.hasLink l = true) {i : Instr} (hi : exec i s = .next (s.linkTo l ((s.link l).train s.time))) :
    ∃ u, exec i s = .next u ∧ (u.link l).st =
      if 3 ≤ ((s.link l).trainings.filter (fun t => decide (s.time < t + 1000000000))).length then .quarantined else .training :=
  ⟨_, hi, (State.st_link_linkTo hl _).trans (Link.st_train ..)⟩

/-- Settles O45: each event puts the link in the state that the statement names. -/
theorem linkStates : Obligations.LinkStates := by
  unfold Obligations.LinkStates
  intro s l hl x recent goes trains
  have hgo : ∀ {i : Instr} {y : Link}, exec i s = .next (s.linkTo l y) → x.usable = false → y.st ≠ x.st → goes i y :=
    fun hi hu hy => hi.trans (congrArg Host.Outcome.next (State.linkTo_of_not_usable hl hu hy))
  have htrain : ∀ {i : Instr}, exec i s = .next (s.linkTo l (x.train s.time)) → trains i := State.trains hl
  refine ⟨fun hx => htrain (congrArg Host.Outcome.next (if_pos hx)), ⟨_, rfl, State.st_link_linkTo hl _⟩, fun hx => ?_, fun hx => ?_,
    fun t hx ht hle => ?_, fun t hx ht hle => ?_, fun hx => htrain (congrArg Host.Outcome.next (if_pos hx)), fun hx => ?_, fun k m => ?_,
    fun k m => congrArg Host.Outcome.next (if_pos rfl)⟩
  · exact hgo (congrArg Host.Outcome.next (if_pos hx)) (Link.not_usable (by rw [hx]; decide) (by rw [hx]; decide)) (by rw [hx]; nofun)
  · have hu : x.usable = false := Link.not_usable (by rw [hx]; decide) (by rw [hx]; decide)
    have htr : ∀ st, x.trained st = { x with st := st, txSeq := 0, rxSeq := 4095 } := fun st => if_pos hx
    exact ⟨hgo (congrArg (fun y => Host.Outcome.next (s.linkTo l y)) (htr .up)) hu (by rw [hx]; nofun),
      hgo (congrArg (fun y => Host.Outcome.next (s.linkTo l y)) (htr .degraded)) hu (by rw [hx]; nofun)⟩
  · have hover : x.trainOver s.time = true := by simp [Link.trainOver, hx, ht, hle]
    exact hgo (congrArg Host.Outcome.next (if_pos hover)) (Link.not_usable (by rw [hx]; decide) (by rw [hx]; decide)) (by rw [hx]; nofun)
  · have hdue : x.retryDue s.time = true := by simp [Link.retryDue, hx, ht, hle]
    exact htrain (congrArg Host.Outcome.next (if_pos hdue))
  · exact ⟨_, congrArg Host.Outcome.next (if_neg hx), State.st_link_linkTo hl _⟩
  · by_cases hc : s.swDown.contains (k, m) = true
    · exact ⟨s, congrArg Host.Outcome.next ((if_neg (by decide)).trans (if_pos hc)), hc⟩
    · exact ⟨_, congrArg Host.Outcome.next ((if_neg (by decide)).trans (if_neg hc)), by simp⟩

end Sys2Proof.Machine
end

section
/-! PROOFS. What links carry: flits, remote requests and responses, and LSEND (O46). -/

namespace Sys2Proof.Machine

variable {s t : State} {l : Nat} {f : Flit}

/-! ### Flits that are pushed (R374) -/

theorem rxSeq_pumpGo (fs : List Flit) (x : Link) : (pumpGo fs x).rxSeq = x.rxSeq := by
  induction fs generalizing x with
  | nil => rfl
  | cons f fs ih =>
    unfold pumpGo
    split
    · exact ih _
    · rfl

theorem mem_retry_pumpGo {g : Flit} (fs : List Flit) (x : Link) (h : g ∈ x.retry) : g ∈ (pumpGo fs x).retry := by
  induction fs generalizing x with
  | nil => exact h
  | cons f fs ih =>
    unfold pumpGo
    split
    · exact ih _ (List.mem_append_left _ h)
    · exact h

theorem wire_pumpGo (fs : List Flit) (x : Link) : ∃ more, (pumpGo fs x).wire = x.wire ++ more := by
  induction fs generalizing x with
  | nil => exact ⟨[], (List.append_nil _).symm⟩
  | cons f fs ih =>
    unfold pumpGo
    split
    · obtain ⟨more, hm⟩ := ih { x with
        retry := x.retry ++ [Flit.send f x.txSeq x.rxSeq], wire := x.wire ++ [Flit.send f x.txSeq x.rxSeq], txSeq := (x.txSeq + 1) % 4096 }
      exact ⟨Flit.send f x.txSeq x.rxSeq :: more, by rw [hm, List.append_assoc]; rfl⟩
    · exact ⟨[], (List.append_nil _).symm⟩

/-! ### FLIT_RECEIVE (R373, R374) -/

/-- What an accepted flit does to its link before what waits there goes on: its sequence, what it acknowledges, and a replay. -/
def Link.accept (x : Link) (now : Nat) (f : Flit) : Link :=
  let x1 := { x with rxSeq := f.seq, retry := x.retry.filter (fun g => !(ackCovers f.ack g.seq))
                     replays := if f.ty = 7 ∧ f.nak then x.replays.filter (fun t => decide (now < t + 1000000)) ++ [now] else x.replays }
  if f.ty = 7 ∧ f.nak then x1.replay f.tag else x1

theorem Link.rxSeq_accept (x : Link) (now : Nat) (f : Flit) : (x.accept now f).rxSeq = f.seq := by
  unfold Link.accept
  dsimp only
  split <;> rfl

theorem Link.retry_accept (x : Link) (now : Nat) (f : Flit) : (x.accept now f).retry = x.retry.filter (fun g => !(ackCovers f.ack g.seq)) := by
  unfold Link.accept
  dsimp only
  split <;> rfl

theorem Link.wire_accept (x : Link) (now : Nat) (hn : f.ty = 7 ∧ f.nak = true) : (x.accept now f).wire =
    x.wire ++ (x.retry.filter (fun g => !(ackCovers f.ack g.seq))).dropWhile (fun g => decide (g.seq ≠ f.tag % 4096)) :=
  congrArg Link.wire (if_pos hn)

section
variable (h2 : 2 ≤ l) (h66 : l < 66) (hu : (s.link l).usable = true)
include h2 h66 hu

theorem flitReceive_refused (hf : f.lcrc ≠ Flit.linkCheck f ∨ f.seq ≠ ((s.link l).rxSeq + 1) % 4096) :
    execFlitReceive l f s = .next (s.setLink l ((s.link l).push (nakFlit s (((s.link l).rxSeq + 1) % 4096)))) := by
  have hport : ¬(l < 2 ∨ 66 ≤ l ∨ (!(s.link l).usable) = true) := by
    rw [hu]
    simp only [Bool.not_true, Bool.false_eq_true, or_false]
    omega
  exact (if_neg hport).trans (if_pos hf)

/-- An accepted flit leaves its link as it does, with what waits there sent on, and joins the input queue unless it is of link control or reserved. -/
theorem flitReceive_accepted (hc : f.lcrc = Flit.linkCheck f) (hq : f.seq = ((s.link l).rxSeq + 1) % 4096) : ∃ u, execFlitReceive l f s = .next u ∧
    u.link l = ((s.link l).accept s.time f).pushFirst [] ∧
    u.inq = if f.ty < 7 then s.inq ++ [(l, s.time, if f.ty < 3 then { f with reply := none } else f)] else s.inq := by
  have hport : ¬(l < 2 ∨ 66 ≤ l ∨ (!(s.link l).usable) = true) := by
    rw [hu]
    simp only [Bool.not_true, Bool.false_eq_true, or_false]
    omega
  have hgood : ¬(f.lcrc ≠ Flit.linkCheck f ∨ f.seq ≠ ((s.link l).rxSeq + 1) % 4096) := not_or.mpr ⟨not_not_intro hc, not_not_intro hq⟩
  refine ⟨_, (if_neg hport).trans (if_neg hgood), ?_, ?_⟩
  · refine Eq.trans ?_ (s.link_setLink_same l _)
    split
    · rfl
    · split <;> rfl
  · split
    next h8 => exact (if_neg (by omega)).symm
    next h8 =>
      split
      next h7 => exact (if_neg (by omega)).symm
      next h7 => exact (if_pos (by omega)).symm

end

/-! ### Flits that leave the input queue (R375) -/

/-- Taking a flit in changes nothing but the input queue. -/
theorem State.takeIn_fst (s : State) (p : Nat → Flit → Bool) (age : Nat) : ∃ q, (s.takeIn p age).1 = { s with inq := q } := by
  unfold State.takeIn
  split
  · exact ⟨_, rfl⟩
  · exact ⟨s.inq, rfl⟩

theorem State.takeIn_found {p : Nat → Flit → Bool} {e : Nat × Nat × Flit} (h : s.inq.find? (fun e => p e.1 e.2.2) = some e) (age : Nat) :
    s.takeIn p age = ({ s with inq := s.inq.erase e }, s.ageOf e.2.1 e.2.2, some e.2.2) := by
  simp only [State.takeIn, h]

theorem ageout_response (hf : f.ty = 3 ∨ f.ty = 4) : execAgeout f s = .next ((s.takeIn (fun _ g => g == f) 0).1.record ⟨f.ctx, f.inc, none⟩
    { kind := .ageout, origin := 2, eval := s.freeW 760 }) := by
  unfold execAgeout
  rcases hf with h | h <;> simp only [h]

theorem ageout_request (hf : f.ty < 3) : execAgeout f s = .next (s.takeIn (fun _ g => g == f) 0).1.countDropped := by
  have hty : f.ty = 0 ∨ f.ty = 1 ∨ f.ty = 2 := by omega
  unfold execAgeout
  rcases hty with h | h | h <;> simp only [h]

/-! ### Remote requests and responses (R376, R378) -/

theorem State.mem_egress {k d : Nat} {own : Bool} (h : s.egress k d f own = some t) : t.mem = s.mem := (State.keeps_egress h).mem

section
variable {e : Nat × Nat × Flit} {r : MemReq} (he : s.inq.find? (fun e => e.1 == l && e.2.2 == f) = some e) (hr : f.req = some r)
include he hr

theorem remoteRequest_old (ha : 31250 ≤ s.ageOf e.2.1 e.2.2) :
    execRemoteRequest l f s = .next (State.countDropped { s with inq := s.inq.erase e }) := by
  unfold execRemoteRequest
  rw [State.takeIn_found (p := fun k g => k == l && g == f) he, hr]
  exact if_pos ha

theorem remoteRequest_part (ha : s.ageOf e.2.1 e.2.2 < 31250) (hw : MemOp.whole r.op = false) : ∃ u, execRemoteRequest l f s = .next u ∧
    u.mem = (State.performAt { s with inq := s.inq.erase e } { r with ctx := 256 }).1.mem := by
  unfold execRemoteRequest
  rw [State.takeIn_found (p := fun k g => k == l && g == f) he, hr]
  dsimp only
  rw [if_neg (Nat.not_le.mpr ha), if_neg (by rw [hw]; decide)]
  split
  next hs => exact ⟨_, rfl, State.mem_egress hs⟩
  next => exact ⟨_, rfl, rfl⟩

theorem remoteRequest_whole (ha : s.ageOf e.2.1 e.2.2 < 31250) (hw : MemOp.whole r.op = true) : ∃ u b, execRemoteRequest l f s = .next u ∧
    u.mem = (State.performHalf { s with inq := s.inq.erase e } { r with ctx := 256 } b).1.mem ∧
    u.inq.head?.map (fun e => (e.1, e.2.2.req)) =
      some (l, some { (State.performHalf { s with inq := s.inq.erase e } { r with ctx := 256 } b).2 with ctx := r.ctx }) := by
  unfold execRemoteRequest
  rw [State.takeIn_found (p := fun k g => k == l && g == f) he, hr]
  dsimp only
  rw [if_neg (Nat.not_le.mpr ha), if_pos hw]
  exact ⟨_, _, rfl, rfl, rfl⟩

end

theorem remoteResponse_awaited {tag t : Nat} {q : MemReq} (r : MemReply) (h : KMap.get? s.out tag = some (t, q)) :
    ∃ s1 : State, s1.out = s.out ∧ s1.mem = s.mem ∧ s1.slots = s.slots ∧ execRemoteResponse tag r s =
      .next (State.answer (State.remoteBads { s1 with out := KMap.del s.out tag } q r) q.ctx q.inc q.who r) := by
  obtain ⟨i, hi⟩ := s.takeIn_fst (fun _ g => decide (g.tag = tag) && (decide (g.ty = 3) || decide (g.ty = 4))) 0
  refine ⟨{ s with inq := i }, rfl, rfl, rfl, ?_⟩
  unfold execRemoteResponse
  dsimp only
  rw [hi]
  simp only [h]

theorem remotetmo_over {tag t : Nat} {q : MemReq} (h : KMap.get? s.out tag = some (t, q)) (ht : t + 2000000 ≤ s.time) :
    execRemotetmo tag s = .next (State.remoteFail { s with out := KMap.del s.out tag } q .remotetmo) := by
  simp only [execRemotetmo, h]
  rw [if_pos ht]

/-! ### Segments of an LSEND at the receiver (R380, R381, R388) -/

/-- The partial payload of a new LSEND. -/
def frameOpened (g : LFrame) (inc : Nat) : LSendIn :=
  { srcDomain := g.srcDomain, srcModule := g.srcModule, id := g.id, dctx := g.dstCtx, inc := inc, name := g.name, linger := g.linger
    size := g.size, segs := [] }

/-- Is a partial payload that of a frame's LSEND? -/
def framePartOf (g : LFrame) (e : LSendIn) : Bool := decide (e.srcDomain = g.srcDomain ∧ e.srcModule = g.srcModule ∧ e.id = g.id)

/-- The age of a frame that has come in by Ethernet. -/
def State.frameAge (s : State) (g : LFrame) : Nat := (s.timeBase / 32 + 65536 - g.age % 65536) % 65536

/-- A partial payload with a frame's bytes in their place. -/
def addSegment (e : LSendIn) (g : LFrame) : List (Nat × List Byte) :=
  (e.segs ++ [(64 * g.idx + g.part, g.bytes)]).mergeSort (fun a b => decide (a.1 ≤ b.1))

/-- What the receiver does with a segment that it has heard, its age being `age` and its rim `rim`. -/
def State.judge (s : State) (g : LFrame) (age : Nat) (rim : Option Nat) : Host.Outcome State Fault Refusal :=
  let e := (s.lsendIn.find? (framePartOf g)).getD (frameOpened g (s.ctx g.dstCtx).inc)
  let u : State := { s with lsendIn := s.lsendIn.filter (fun e => !(framePartOf g e)) }
  if !(s.admits g) ∨ e.inc ≠ (s.ctx g.dstCtx).inc then .next (u.sendVerdict g age false)
  else if ((addSegment e g).flatMap (fun p => p.2)).length < e.size then
    .next (State.sendVerdict { u with lsendIn := u.lsendIn ++ [{ e with segs := addSegment e g }] } g age true)
  else .next ((u.hedgePublish e.dctx (s.ctx g.dstCtx).inc e.name e.linger (((addSegment e g).flatMap (fun p => p.2)).take e.size) 0 rim).sendVerdict
    g age true)

theorem State.judge_refused {g : LFrame} (age : Nat) (rim : Option Nat) (ha : s.admits g = false) : s.judge g age rim =
    .next (State.sendVerdict { s with lsendIn := s.lsendIn.filter (fun e => !(framePartOf g e)) } g age false) :=
  if_pos (.inl (by rw [ha]; rfl))

section
variable {g : LFrame} {e : LSendIn} (ha : s.admits g = true)
  (he : s.lsendIn.find? (framePartOf g) = some e ∧ e.inc = (s.ctx g.dstCtx).inc ∨
    s.lsendIn.find? (framePartOf g) = none ∧ e = frameOpened g (s.ctx g.dstCtx).inc)
include he

/-- The partial payload that a segment joins, of the incarnation in force. -/
theorem State.partial_of_found : (s.lsendIn.find? (framePartOf g)).getD (frameOpened g (s.ctx g.dstCtx).inc) = e ∧ e.inc = (s.ctx g.dstCtx).inc := by
  rcases he with ⟨hf, hi⟩ | ⟨hf, rfl⟩
  · exact ⟨by rw [hf]; rfl, hi⟩
  · exact ⟨by rw [hf]; rfl, rfl⟩

include ha

theorem State.judge_part (age : Nat) (rim : Option Nat) (hd : ((addSegment e g).flatMap (fun p => p.2)).length < e.size) : s.judge g age rim =
    .next (State.sendVerdict { s with lsendIn := s.lsendIn.filter (fun e => !(framePartOf g e)) ++ [{ e with segs := addSegment e g }] } g age true) := by
  obtain ⟨hget, hinc⟩ := State.partial_of_found he
  unfold State.judge
  dsimp only
  rw [hget, ha]
  exact (if_neg (by simp [hinc])).trans (if_pos hd)

theorem State.judge_last (age : Nat) (rim : Option Nat) (hd : e.size ≤ ((addSegment e g).flatMap (fun p => p.2)).length) : s.judge g age rim =
    .next ((State.hedgePublish { s with lsendIn := s.lsendIn.filter (fun e => !(framePartOf g e)) } e.dctx (s.ctx g.dstCtx).inc e.name e.linger
      (((addSegment e g).flatMap (fun p => p.2)).take e.size) 0 rim).sendVerdict g age true) := by
  obtain ⟨hget, hinc⟩ := State.partial_of_found he
  unfold State.judge
  dsimp only
  rw [hget, ha]
  exact (if_neg (by simp [hinc])).trans (if_neg (Nat.not_lt.mpr hd))

end

/-- A sound frame that is young enough and new is heard: the receiver judges it in a state that differs only in its input queue and in the frames seen. -/
theorem lsendSegmentReceive_heard {g : LFrame} (hp : g.srcDomain = s.domainNum ∨ ((∃ i < 8, (s.link (66 + i)).usable = true) ∧ s.frameAge g < 31250))
    (hc : LFrame.sound g = true) (hs : ∀ e ∈ s.seen, e.1 = frameKey g → e.2 + 3000000 ≤ s.time) : ∃ i n, execLsendSegmentReceive g s =
      State.judge { s with inq := i, seen := n } g (s.takeIn (fun _ h => decide (h.ty = 5) && h.seg == some g) g.age).2.1 (s.frameRim g) := by
  obtain ⟨i, hi⟩ := s.takeIn_fst (fun _ h => decide (h.ty = 5) && h.seg == some g) g.age
  have hport : ¬((!decide (g.srcDomain = s.domainNum)) = true ∧ (!(List.range 8).any (fun i => (s.link (66 + i)).usable)) = true) := by
    rintro ⟨hd, hl⟩
    obtain ⟨⟨j, hj, hu⟩, _⟩ := hp.resolve_left (by simpa using hd)
    exact absurd (List.any_eq_true.mpr ⟨j, List.mem_range.mpr hj, hu⟩) (by simpa using hl)
  have hage : ¬((!decide (g.srcDomain = s.domainNum)) = true ∧ 31250 ≤ s.frameAge g) := by
    rintro ⟨hd, hl⟩
    obtain ⟨_, hy⟩ := hp.resolve_left (by simpa using hd)
    omega
  have hnew : ¬((!(LFrame.sound g)) = true ∨
      s.seen.any (fun (e : (Nat × Nat) × Nat) => decide (e.1 = frameKey g) && decide (s.time < e.2 + 3000000)) = true) := by
    rintro (hn | hn)
    · rw [hc] at hn
      exact nomatch hn
    · obtain ⟨e, hm, hk⟩ := List.any_eq_true.mp hn
      simp only [Bool.and_eq_true, decide_eq_true_eq] at hk
      have hle := hs e hm hk.1
      omega
  refine ⟨i, s.seen.filter (fun (e : (Nat × Nat) × Nat) => decide (s.time < e.2 + 3000000)) ++ [(frameKey g, s.time)], ?_⟩
  unfold execLsendSegmentReceive
  dsimp only
  rw [hi]
  refine (if_neg hport).trans ((if_neg hage).trans (if_neg hnew))

theorem lsendSegmentReceive_old {g : LFrame} (hd : g.srcDomain ≠ s.domainNum) (hp : ∃ i < 8, (s.link (66 + i)).usable = true)
    (ha : 31250 ≤ s.frameAge g) : execLsendSegmentReceive g s =
      .next (s.takeIn (fun _ h => decide (h.ty = 5) && h.seg == some g) 0).1.countDropped := by
  have hsame : (s.takeIn (fun _ h => decide (h.ty = 5) && h.seg == some g) g.age).1 =
      (s.takeIn (fun _ h => decide (h.ty = 5) && h.seg == some g) 0).1 := by
    unfold State.takeIn
    split <;> rfl
  have hother : (!decide (g.srcDomain = s.domainNum)) = true := by simpa using hd
  obtain ⟨j, hj, hu⟩ := hp
  have hany : (List.range 8).any (fun i => (s.link (66 + i)).usable) = true := List.any_eq_true.mpr ⟨j, List.mem_range.mpr hj, hu⟩
  unfold execLsendSegmentReceive
  dsimp only
  rw [hsame]
  exact (if_neg (by rw [hany]; simp)).trans (if_pos ⟨hother, ha⟩)

/-! ### Verdicts, time limits and frames sent again (R380, R388) -/

section
variable {id n : Nat} {accept : Bool} {e : LSendOut}
  (h : (s.takeIn (fun _ g => decide (g.ty = 6) && decide (g.tag = id) && g.accept == accept) 0).1.lsends.find?
    (fun p => p.2.frames.any (fun f => decide (f.1 = id))) = some (n, e))
include h

theorem lsendVerdict_rejected (ha : accept = false) : execLsendVerdict id accept s =
    .next ((s.takeIn (fun _ g => decide (g.ty = 6) && decide (g.tag = id) && g.accept == accept) 0).1.endLsend n (some .sendrej)) := by
  unfold execLsendVerdict
  simp only [h]
  exact if_pos (by rw [ha]; rfl)

theorem lsendVerdict_last (ha : accept = true) (hp : e.accepted + 1 = e.pieces s.domainNum) : execLsendVerdict id accept s =
    .next ((s.takeIn (fun _ g => decide (g.ty = 6) && decide (g.tag = id) && g.accept == accept) 0).1.endLsend n none) := by
  unfold execLsendVerdict
  simp only [h]
  exact (if_neg (by rw [ha]; decide)).trans (if_pos hp)

theorem lsendVerdict_more (ha : accept = true) (hp : e.accepted + 1 ≠ e.pieces s.domainNum) : execLsendVerdict id accept s =
    .next { (s.takeIn (fun _ g => decide (g.ty = 6) && decide (g.tag = id) && g.accept == accept) 0).1 with
      lsends := KMap.set (s.takeIn (fun _ g => decide (g.ty = 6) && decide (g.tag = id) && g.accept == accept) 0).1.lsends n
        { e with frames := e.frames.filter (fun f => decide (f.1 ≠ id)), accepted := e.accepted + 1 } } := by
  unfold execLsendVerdict
  simp only [h]
  exact (if_neg (by rw [ha]; decide)).trans (if_neg hp)

end

theorem lsendVerdictTimeout_over {id : Nat} {e : LSendOut} (h : KMap.get? s.lsends id = some e) (hf : e.frames ≠ []) (ht : e.t0 + 1000000 ≤ s.time) :
    execLsendVerdictTimeout id s = .next (s.endLsend id (some .linkdown)) := by
  simp only [execLsendVerdictTimeout, h]
  rw [if_pos (by simp [LSendOut.over, hf, ht])]

theorem frameResend_due {port id n : Nat} (h : s.resendsDue.find? (fun e => decide (e.1 = port) && decide (e.2.1 = id)) = some (port, id, n)) :
    execFrameResend port id s = .next (s.resendFrame n id) := by
  simp only [execFrameResend, h]

/-! ### Time messages (R380) -/

/-- The offset of the time base that makes it `base` at a time. -/
theorem timeBase_offset {base time : Nat} (h : base < 2 ^ 64) : ((base + 2 ^ 64 - time % 2 ^ 64) % 2 ^ 64 + time) % 2 ^ 64 = base := by omega

theorem ptpMessage_next {port : Nat} (msg : List Byte) (hu : (s.link (66 + port)).usable = true) : ∃ b slave out, execPtpMessage port msg s =
    .next { s with mgmt := { s.mgmt with ptpSlave := slave, sysTime := b }, outbox := s.outbox ++ out } ∧ (∀ p, slave = some p → p < 8) ∧
    (slave ≠ some port → (b + s.time) % 2 ^ 64 = s.timeBase) ∧ (slave = some port → out = []) := by
  refine ⟨_, _, _, if_neg (by rw [hu]; decide), fun p hp => ?_, fun hn => ?_, fun hy => if_pos hy⟩
  · obtain ⟨_, h8⟩ := Option.filter_eq_some_iff.mp hp
    exact of_decide_eq_true h8
  · rw [if_neg hn]
    exact timeBase_offset (Nat.mod_lt _ (by decide))

/-- Settles O46, event by event. -/
theorem linkEvents : Obligations.LinkEvents := by
  unfold Obligations.LinkEvents
  intro s l f x gone old
  refine ⟨fun h2 h66 hu => ⟨flitReceive_refused h2 h66 hu, fun hc hq => ?_⟩, ageout_response, ageout_request, fun e r he hr => ?_,
    fun tag r t q => remoteResponse_awaited r, fun tag t q => remotetmo_over, fun g hp hc hs => ?_, fun g => lsendSegmentReceive_old,
    fun id accept n e => ?_, fun id e => lsendVerdictTimeout_over,
    fun port id n => frameResend_due, fun port msg => ptpMessage_next msg⟩
  · obtain ⟨u, hex, hlink, hinq⟩ := flitReceive_accepted h2 h66 hu hc hq
    refine ⟨u, hex, ?_, hinq, fun g hg ha => ?_, fun h7 hn => ?_⟩
    · rw [hlink]
      exact (rxSeq_pumpGo ..).trans (Link.rxSeq_accept ..)
    · rw [hlink]
      refine mem_retry_pumpGo _ _ ?_
      rw [Link.retry_accept]
      exact List.mem_filter.mpr ⟨hg, by rw [ha]; rfl⟩
    · obtain ⟨more, hm⟩ := wire_pumpGo (byClass ([] ++ (x.accept s.time f).txq)) (x.accept s.time f)
      refine ⟨more, ?_⟩
      rw [hlink, ← Link.wire_accept x s.time ⟨h7, hn⟩]
      exact hm
  · exact ⟨remoteRequest_old he hr, remoteRequest_part he hr, remoteRequest_whole he hr⟩
  · intro is inc age rest new
    obtain ⟨i, n, hex⟩ := lsendSegmentReceive_heard hp hc hs
    refine ⟨fun ha => ?_, fun e ha he => ⟨fun hd => ?_, fun hd => ?_⟩⟩
    · exact ⟨{ s with inq := i, seen := n, lsendIn := rest }, rfl, rfl, rfl, hex.trans (State.judge_refused _ _ ha)⟩
    · exact ⟨{ s with inq := i, seen := n, lsendIn := rest ++ [{ e with segs := addSegment e g }] }, rfl, rfl, rfl,
        hex.trans (State.judge_part (s := { s with inq := i, seen := n }) ha he _ _ hd)⟩
    · exact ⟨{ s with inq := i, seen := n, lsendIn := rest }, rfl, rfl, rfl,
        hex.trans (State.judge_last (s := { s with inq := i, seen := n }) ha he _ _ hd)⟩
  · exact fun h => ⟨lsendVerdict_rejected h, lsendVerdict_last h, lsendVerdict_more h⟩

end Sys2Proof.Machine
end

section
/-! PROOFS. The management controller: registers, boot, reports, supply and temperature (O48). -/

namespace Sys2Proof.Machine

variable {s : State} {v : Word}

/-! ### Sets of sites -/

theorem contains_insert {l : List Nat} {i : Nat} :
    (if l.contains i then l else l ++ [i]).contains i = true ∧ ∀ j, j ≠ i → (if l.contains i then l else l ++ [i]).contains j = l.contains j := by
  by_cases h : l.contains i = true
  · rw [if_pos h]
    exact ⟨h, fun _ _ => rfl⟩
  · rw [if_neg h]
    exact ⟨by simp, fun j hj => by simp [hj]⟩

theorem contains_remove {l : List Nat} {i : Nat} : (l.filter (fun j => decide (j ≠ i))).contains i = false ∧
    ∀ j, j ≠ i → (l.filter (fun j => decide (j ≠ i))).contains j = l.contains j :=
  ⟨by simp, fun j hj => by simp [List.contains_eq_mem, hj]⟩

/-- A write of 64 bits of a register of one bit per site sets the bits of its sites, and leaves the others. -/
theorem contains_withBits (l : List Nat) {base off : Nat} (v : Word) (hb : base % 8 = 0) (ho : off % 8 = 0) (hle : base ≤ off) (i : Nat) :
    (withBits l (siteBits base off v)).contains i =
      if 8 * (off - base) ≤ i ∧ i < 8 * (off - base) + 64 then v.getLsbD (i % 64) else l.contains i := by
  have hfirst : (off - base) / 8 * 64 = 8 * (off - base) := by omega
  have hany : ((siteBits base off v).any (fun b => decide (b.1 = i)) = true) ↔ 8 * (off - base) ≤ i ∧ i < 8 * (off - base) + 64 := by
    simp only [siteBits, hfirst, List.any_map, List.any_eq_true, List.mem_range, Function.comp_apply, decide_eq_true_eq]
    constructor
    · rintro ⟨j, hj, rfl⟩
      omega
    · intro h
      exact ⟨i - 8 * (off - base), by omega, by omega⟩
  have hset : i ∈ ((siteBits base off v).filter (·.2)).map (·.1) ↔
      (8 * (off - base) ≤ i ∧ i < 8 * (off - base) + 64) ∧ v.getLsbD (i % 64) = true := by
    simp only [siteBits, hfirst, List.mem_map, List.mem_filter, List.mem_range]
    constructor
    · rintro ⟨_, ⟨⟨j, hj, rfl⟩, hv⟩, rfl⟩
      have hmod : (8 * (off - base) + j) % 64 = j := by omega
      exact ⟨by omega, by rwa [hmod]⟩
    · rintro ⟨h, hv⟩
      have hmod : i % 64 = i - 8 * (off - base) := by omega
      have hbit : (8 * (off - base) + (i - 8 * (off - base)), v.getLsbD (i - 8 * (off - base))) = (i, v.getLsbD (i % 64)) := by
        rw [Nat.add_sub_cancel' h.1, hmod]
      exact ⟨_, ⟨⟨i - 8 * (off - base), by omega, hbit⟩, hv⟩, rfl⟩
  rw [Bool.eq_iff_iff, List.contains_iff_mem, withBits, List.mem_append, hset, List.mem_filter, Bool.not_eq_true', ← Bool.not_eq_true, hany]
  split
  next h => simp [h]
  next h => simp [h]

/-! ### Defective sites (R391) -/

theorem State.defective_flagDefective {site : Nat} (h : site < 6144) : (s.flagDefective site).mgmt.defective =
    if s.mgmt.defective.contains site then s.mgmt.defective else s.mgmt.defective ++ [site] := by
  unfold State.flagDefective
  by_cases hc : s.mgmt.defective.contains site = true
  · rw [if_pos (.inl hc), if_pos hc]
  · rw [if_neg (not_or.mpr ⟨hc, Nat.not_le.mpr h⟩), if_neg hc]

theorem defective_flagged {site : Nat} (h : site < 6144) : (s.flagDefective site).mgmt.defective.contains site = true ∧
    ∀ j, j ≠ site → (s.flagDefective site).mgmt.defective.contains j = s.mgmt.defective.contains j := by
  rw [State.defective_flagDefective h]
  exact contains_insert

/-! ### The bits that reach a tile (R113, R353, R397) -/

/-- The debug bit reaches a slot. -/
def State.takeDbg (site : Nat) (d : Bool) (s : State) (k : Nat) : State :=
  if (s.slotAt site k).sys.dbgen = d then s
  else s.setSlotAt site k { s.slotAt site k with sys := { (s.slotAt site k).sys with dbgen := d } }

theorem State.takeBits_eq (s : State) (site : Nat) : s.takeBits site = (List.range 4).foldl (State.takeDbg site (s.mgmt.dbg.contains site))
    (s.setTileAt site { s.tileAt site with freezeOn := s.mgmt.freeze.contains site, dbgOn := s.mgmt.dbg.contains site }) := rfl

theorem State.dbgen_takeDbg_same (site : Nat) (d : Bool) (s : State) (k : Nat) : ((s.takeDbg site d k).slotAt site k).sys.dbgen = d := by
  unfold State.takeDbg
  split
  next h => exact h
  next => rw [State.slotAt_setSlotAt_same]

theorem State.dbgen_takeDbg_kept {site j : Nat} {d : Bool} (h : (s.slotAt site j).sys.dbgen = d) (k : Nat) :
    ((s.takeDbg site d k).slotAt site j).sys.dbgen = d := by
  by_cases hk : slotKey site j = slotKey site k
  · have hslot : ∀ t : State, t.slotAt site j = t.slotAt site k := fun t => State.slotAt_congr_key hk
    rw [hslot]
    exact State.dbgen_takeDbg_same site d s k
  · unfold State.takeDbg
    split
    · exact h
    · rw [State.slotAt_setSlotAt_other _ _ _ _ _ _ hk]
      exact h

theorem State.dbgen_foldl_takeDbg_kept {site j : Nat} {d : Bool} (ks : List Nat) (s : State) (h : (s.slotAt site j).sys.dbgen = d) :
    ((ks.foldl (State.takeDbg site d) s).slotAt site j).sys.dbgen = d :=
  List.foldlRecOn (motive := fun t : State => (t.slotAt site j).sys.dbgen = d) ks _ h (fun _ ht k _ => State.dbgen_takeDbg_kept ht k)

theorem State.dbgen_foldl_takeDbg {site j : Nat} (d : Bool) {ks : List Nat} (hj : j ∈ ks) (s : State) :
    ((ks.foldl (State.takeDbg site d) s).slotAt site j).sys.dbgen = d := by
  induction ks generalizing s with
  | nil => exact nomatch hj
  | cons k ks ih =>
    rcases List.mem_cons.mp hj with rfl | hj
    · exact State.dbgen_foldl_takeDbg_kept ks _ (State.dbgen_takeDbg_same site d s j)
    · exact ih hj _

theorem State.tileAt_foldl_takeDbg (site : Nat) (d : Bool) (ks : List Nat) (s : State) :
    (ks.foldl (State.takeDbg site d) s).tileAt site = s.tileAt site := by
  refine List.foldlRecOn (motive := fun t : State => t.tileAt site = s.tileAt site) ks _ rfl (fun t ht k _ => ?_)
  unfold State.takeDbg
  split
  · exact ht
  · exact ht

theorem State.takeBits_tile (s : State) (site : Nat) : ((s.takeBits site).tileAt site).freezeOn = s.mgmt.freeze.contains site ∧
    ∀ k < 4, ((s.takeBits site).slotAt site k).sys.dbgen = s.mgmt.dbg.contains site := by
  rw [s.takeBits_eq]
  refine ⟨?_, fun k hk => State.dbgen_foldl_takeDbg _ (List.mem_range.mpr hk) _⟩
  rw [State.tileAt_foldl_takeDbg, State.tileAt_setTileAt_same]

/-! ### Registers (R396, R397) -/

theorem modcapWrite_kept (hv : v.toNat % 65536 < 4000 ∨ 32000 < v.toNat % 65536) : execModcapWrite v s = .next s := if_pos hv

theorem modcapWrite_next (hl : 4000 ≤ v.toNat % 65536) (hu : v.toNat % 65536 ≤ 32000) (hlow : s.mgmt.low = none) :
    execModcapWrite v s = .next { s with mgmt := { s.mgmt with modcapNext := v.toNat % 65536 } } := by
  unfold execModcapWrite
  dsimp only
  rw [if_neg (by omega), hlow]
  rfl

theorem modnumWrite_next (h : ∀ k < 64, (s.link (2 + k)).st = .down ∨ (s.link (2 + k)).st = .quarantined) : execModnumWrite v s =
    .next { s with modnum := v.toNat % 1024, domainNum := v.toNat / 1024 % 128
                   mgmt := { s.mgmt with modValid := true, config := some (v.toNat % 131072) } } := by
  refine if_neg (Bool.eq_false_iff.mp (List.any_eq_false.mpr fun k hk => ?_))
  rcases h k (List.mem_range.mp hk) with hd | hq
  · simp [hd]
  · simp [hq]

theorem modnumWrite_ignored (h : ∃ k < 64, (s.link (2 + k)).st ≠ .down ∧ (s.link (2 + k)).st ≠ .quarantined) : execModnumWrite v s = .next s := by
  obtain ⟨k, hk, hd, hq⟩ := h
  exact if_pos (List.any_eq_true.mpr ⟨k, List.mem_range.mpr hk, by simp [hd, hq]⟩)

theorem tilemapRead_next {port : Nat} (h : s.hostOk port = true) : execTilemapRead port s = .next { s with
    mgmt := { s.mgmt with tileIdx := (s.mgmt.tileIdx + 1) % 384 }
    outbox := s.outbox ++ [.completion port (bytesOf 8 (s.tilemap s.mgmt.tileIdx)) false] } :=
  congrArg Host.Outcome.next (if_neg (by rw [h]; decide))

theorem mgmtRegisterWrite_tilecmd : execMgmtRegisterWrite 0x30 v s = execTilecmd v s := rfl

theorem mgmtRegisterWrite_tileidx : execMgmtRegisterWrite 0x28 v s =
    .next (if 383 < v.toNat then s else { s with mgmt := { s.mgmt with tileIdx := v.toNat } }) := rfl

theorem tilecmd_zero (h : (v.extractLsb' 13 3).toNat = 0) : execTilecmd v s = execTilecmdClear (v.extractLsb' 0 13).toNat s := by
  simp only [execTilecmd, h]

theorem tilecmd_one (h : (v.extractLsb' 13 3).toNat = 1) : execTilecmd v s = execTilecmdSet (v.extractLsb' 0 13).toNat s := by
  simp only [execTilecmd, h]

theorem tilecmd_other (h : 1 < (v.extractLsb' 13 3).toNat) : execTilecmd v s = .next s := by
  unfold execTilecmd
  dsimp only
  split
  next h0 => omega
  next h1 => omega
  next => rfl

/-! ### Boot (R392, R393) -/

/-- A firmware slot that is being written holds the image once the write has ended, and nothing before; the other keeps what it holds. -/
theorem Mgmt.settle_flashing {m : Mgmt} {slot t : Nat} {image : List Byte} (now : Nat) (h : m.flashing = some (slot, t, image)) :
    (if slot = 0 then (m.settle now).flashA else (m.settle now).flashB) = (if t ≤ now then image else []) ∧
      if slot = 0 then (m.settle now).flashB = m.flashB else (m.settle now).flashA = m.flashA := by
  simp only [Mgmt.settle, h]
  by_cases h0 : slot = 0 <;> simp [h0]

theorem Mgmt.rollback_settle (m : Mgmt) (now : Nat) : (m.settle now).rollback = m.rollback := by
  unfold Mgmt.settle
  split <;> rfl

theorem isSome_bootSlot (m : Mgmt) : (bootSlot m).isSome = true ↔ bootCode m m.flashA = 0 ∨ bootCode m m.flashB = 0 := by
  unfold bootSlot
  split
  next h => simp [h]
  next h =>
    split
    next h' => simp [h']
    next h' => simp [h, h']

theorem moduleReset_next : let n := s.mgmt.settle s.time
    ∃ u, execModuleReset s = .next u ∧ u.mem = [] ∧ u.ctxs = [] ∧ u.time = 0 ∧ u.disabled = s.disabled ∧ u.mgmt.flashA = n.flashA ∧
    u.mgmt.flashB = n.flashB ∧ u.mgmt.rollback = s.mgmt.rollback ∧ u.mgmt.ready = false ∧
    (u.powered = true ↔ bootCode n n.flashA = 0 ∨ bootCode n n.flashB = 0) ∧ (u.mgmt.recovery = true ↔ u.powered = false) := by
  intro n
  have hslot := isSome_bootSlot n
  refine ⟨_, rfl, rfl, rfl, rfl, rfl, rfl, rfl, s.mgmt.rollback_settle s.time, rfl, ?_, ?_⟩
  · rw [← hslot]
    exact Bool.eq_iff_iff.mp (Bool.not_not _)
  · exact Iff.of_eq (Bool.not_eq_false' _).symm

theorem firmwareWrite_next (image : List Byte) (hr : s.mgmt.recovery = false) (hf : s.mgmt.flashing = none) : ∃ t, s.time ≤ t ∧
    execFirmwareWrite image s = .next { s with mgmt := { s.mgmt with flashing := some (1 - s.mgmt.running, t, image) } } := by
  have hset : s.mgmt.settle s.time = s.mgmt := by simp only [Mgmt.settle, hf]
  refine ⟨s.time + Config.pick s.tick 771, Nat.le_add_right .., ?_⟩
  unfold execFirmwareWrite
  dsimp only
  rw [hset, hr]
  rfl

/-! ### Temperature (R390) -/

theorem hotDomainHold_next (dom : Nat) : ∃ u, execHotDomainHold dom s = .next u ∧ u.mgmt.held.contains dom = true ∧
    KMap.get? u.opReq dom = if s.opOf dom = 0 then none else some 0 := by
  refine ⟨_, rfl, contains_insert.1, ?_⟩
  dsimp only
  split
  · exact KMap.get?_del_same ..
  · exact KMap.get?_set_same ..

theorem hotTile_next (site : Nat) : ∃ u, execHotTile site s = .next u ∧ u.mgmt.hot.contains site = true := by
  by_cases h : s.mgmt.hot.contains site = true
  · exact ⟨s, congrArg Host.Outcome.next (if_pos h), h⟩
  · exact ⟨_, congrArg Host.Outcome.next (if_neg h), by simp⟩

/-- Settles O48, event by event. -/
theorem managementEvents : Obligations.ManagementEvents := by
  unfold Obligations.ManagementEvents
  intro s m next
  refine ⟨fun v => modcapWrite_next, fun v => modcapWrite_kept, fun v => rfl, fun v h => ⟨_, modnumWrite_next h, rfl, rfl, rfl, rfl, rfl⟩,
    fun v => modnumWrite_ignored, fun port => tilemapRead_next, fun site => ⟨_, rfl, contains_remove⟩, fun site hs i hi hc => ?flag,
    fun site h => congrArg Host.Outcome.next (if_neg (by simp [State.errorsDue, h])), fun v => ?_, fun off v hl hu ho => ?_,
    fun off v hl hu ho => ?_, s.takeBits_tile, fun v h => ?_, fun nonce h => congrArg Host.Outcome.next (if_neg (not_not_intro h)),
    fun hr => congrArg Host.Outcome.next (if_neg (by rw [show s.mgmt.recovery = false from hr]; decide)), fun image => firmwareWrite_next image,
    fun i d sm sc c hi => ⟨if_neg (Nat.not_le.mpr hi), if_neg (Nat.not_le.mpr hi)⟩, moduleReset_next, fun slot t image => Mgmt.settle_flashing s.time,
    fun h => ?_, fun n h => ?_, fun site i hi => ?rails, hotTile_next, fun site => ⟨_, rfl, contains_remove.1⟩, hotDomainHold_next,
    fun dom => ⟨_, rfl, contains_remove.1⟩⟩
  case flag =>
    simp only [List.mem_cons, List.not_mem_nil, or_false] at hi
    rcases hi with rfl | rfl
    · exact ⟨_, rfl, defective_flagged hs⟩
    · have hdue : s.errorsDue site = true := decide_eq_true (hc.resolve_left nofun)
      exact ⟨_, congrArg Host.Outcome.next (if_pos hdue), defective_flagged (s := { s with ueTimes := KMap.del s.ueTimes site }) hs⟩
  case rails =>
    simp only [List.mem_cons, List.not_mem_nil, or_false] at hi
    rcases hi with rfl | rfl
    · exact ⟨_, rfl, rfl, rfl, rfl, rfl, rfl⟩
    · exact ⟨_, rfl, rfl, rfl, rfl, rfl, rfl⟩
  · exact ⟨mgmtRegisterWrite_tilecmd.trans ∘ tilecmd_zero, mgmtRegisterWrite_tilecmd.trans ∘ tilecmd_one,
      mgmtRegisterWrite_tilecmd.trans ∘ tilecmd_other⟩
  · exact ⟨_, if_neg (by omega), contains_withBits _ v rfl ho hl⟩
  · exact ⟨_, if_neg (by omega), contains_withBits _ v rfl ho hl⟩
  · exact mgmtRegisterWrite_tileidx.trans (congrArg Host.Outcome.next (if_neg (Nat.not_lt.mpr h)))
  · exact congrArg Host.Outcome.next (if_neg (by rw [show s.mgmt.low = none from h]; decide))
  · have hlow : s.mgmt.low = some n := h
    show execInputRestored s = _
    simp only [execInputRestored, hlow]
    rfl

end Sys2Proof.Machine
end
